-- ==== Sys2Proof/Word.lean ====
section
/-! DEFINITION. The word and byte types of the block: registers are 32 bits (R6, 00_scope.md), memory is bytes. -/

namespace Sys2Proof

/-- A register word as it crosses the bus (R6). -/
abbrev Word := BitVec 32

/-- One byte of memory. -/
abbrev Byte := BitVec 8

end Sys2Proof
end

