-- ==== Sys2Proof/Config.lean ====
section
/-! DEFINITION. What an implementation or an outside party fixes: the free values the spec leaves open and the
functions of standards that the spec names but does not contain. None has a body, so no proof can see a value. -/

namespace Sys2Proof.Config

/-- FREE VALUE. The n-th value the spec leaves open in a run: `State.fresh` numbers the uses (DESIGN CHOICE, log entry 4). -/
opaque freeValue : Nat → Nat

/-- ML-DSA-87 verification with an empty context string: public key, message and signature. The algorithm is another
standard's; the spec names only its outcome (DEDUCED, log entry 9). -/
opaque mldsaVerify : List Byte → List Byte → List Byte → Bool

/-- ML-DSA-87 signature with the device's key over a message; only its place in the report is the spec's. (DEDUCED, log entry 9.) -/
opaque mldsaSign : List Byte → List Byte

/-- AES-256-GCM decryption under the patch key in fuses (R539): nonce, additional data, ciphertext and tag (DEDUCED, log entry 9). -/
opaque gcmOpen : List Byte → List Byte → List Byte → List Byte → Option (List Byte)

/-- The Krytmin root public key in the boot ROM (R531), whose bytes the spec does not give. (DEDUCED, log entry 8.) -/
opaque rootKey : List Byte

/-- Word `j` of the device serial in fuses (Table 15-16). (DEDUCED, log entry 8.) -/
opaque serialWord : Nat → Nat

/-- The device certificate in the MRAM security area (R533), 7267 bytes. (DEDUCED, log entry 8.) -/
opaque deviceCert : List Byte

/-- V_set in mV, from the device's fuses (R549). (DEDUCED, log entry 8.) -/
opaque fusedVset : Nat

/-- The version of the base microcode of a type in ROM (Table 15-17). (DEDUCED, log entry 8.) -/
opaque ucodeBase : Nat → Nat

/-- The words of a type's microstore and nanostore before a patch is loaded: the base words come from ROM, and what the patch area holds then
is not stated (R537, R540; DESIGN CHOICE, log entry 82). A microword has 24 bits; a nanoword is its eight fields as one number. -/
opaque microRom : Nat → Nat → Nat
opaque nanoRom : Nat → Nat → Nat

/-- The stored parity bit of a microword makes the number of ones odd, as that of a nanoword's field does, or else even (R537 says which for
nanowords only; DESIGN CHOICE, log entry 82). -/
opaque microOdd : Bool

/-- What the SEQ field of a nanoword selects: 0 the incrementer, 1 a branch, 2 a call, 3 a return, 4 a dispatch; with PAGE and the yield mark. The
places of its bits are not stated (R537; DESIGN CHOICE, log entry 82). -/
opaque seqControl : Nat → Nat × Bool × Bool

/-- The longest span between yield points of the base microcode of a type, per standard (R93, R545). (DEDUCED, log entry 8.) -/
opaque ucodeSpan : Nat → Nat → Nat

/-- FREE VALUE. How a tap of a built-in bank that is no integer rounds: bank, phase, tap; odd is up (R301, DESIGN CHOICE, log entry 32). -/
opaque coefUp : Nat → Nat → Nat → Nat

/-- FREE VALUE. The 16 bytes of motion data of a concealed 8 × 8 block, in the spindle's own format (R165): of an intra block, or of one
with a zero vector and reference index 0 (DESIGN CHOICE, log entry 73). -/
opaque motionByte : Bool → Nat → Byte

/-- The silicon step (R562). (DEDUCED, log entry 8.) -/
opaque siliconStep : Nat

/-- SHA-3-512 of FIPS 202, a standard the spec names and does not contain (DEDUCED, log entry 9). -/
opaque sha3 : List Byte → List Byte

/-- FREE VALUE. The vertical scaling pass runs before the horizontal one: R300 does not say (DESIGN CHOICE, log entry 31). -/
opaque plyVertFirst : Bool

/-- FREE VALUE. How many fraction bits the 16 bits carried between scaling passes have, by sample depth (R300, DESIGN CHOICE, log entry
31). -/
opaque plyCarryShift : Nat → Nat

/-- FREE VALUE. The 16 bits carried between scaling passes are signed (R300, DESIGN CHOICE, log entry 31). -/
opaque plyCarrySigned : Bool

/-- FREE VALUE. λ times the bits of a vector: standard, quantiser, predicted vectors and the vector (R241 and R242 name λ and the cost and
give neither; DESIGN CHOICE, log entry 81). -/
opaque vecCost : Nat → Int → List (Int × Int) → Int × Int → Nat

/-- FREE VALUE. The samples of a block at a level of the search, subsampled by 2^n, from those at full resolution: no filter is given
(R241, R268; DESIGN CHOICE, log entry 81). -/
opaque subsampled : Nat → List Nat → List Nat

/-- FREE VALUE. A chroma sample of a 4:2:0 source on a row that 4:2:2 adds, between the samples above and below (R226, R233; DESIGN
CHOICE, log entry 81). -/
opaque chromaBetween : Nat → Nat → Nat

/-- FREE VALUE. A source sample of another depth than 8 or 10 at the coded depth: source depth, coded depth, sample (R233 states 8 and 10;
DESIGN CHOICE, log entry 81). -/
opaque depthConv : Nat → Nat → Nat → Nat

/-- FREE VALUE. What a carding record holds where R267 to R269 state no value, of the samples alone, so that a repeated job finds the same:
0 ρ, 1 a choice among equal scores, 2 an offset, 3 RATIO, 4 a rounding (DESIGN CHOICE, log entry 22). -/
opaque cardValue : Nat → List Nat → List Nat → Nat

end Sys2Proof.Config
end

