-- ==== Sys2Proof/Syntax/Bus.lean ====
section
/-! DEFINITION. The operand records of the commands that carry bus traffic: fabric requests, pool operations,
faults. They are data that a command brings with it, so they stand beside the commands and not in the machine. -/

namespace Sys2Proof

/-- What a fabric request asks for ("The fabric", 01_architecture.md). -/
inductive FabKind where
  /-- read `len` bytes -/
  | read (len : Nat)
  /-- write the bytes -/
  | write (data : List Byte)
  /-- atomic read and write of one 8-byte word (R397) -/
  | atomic (data : List Byte)
  deriving DecidableEq, Repr

/-- A fabric request: master ID, 48-bit fabric address and tag (R14, R15, 01_architecture.md; its traffic class is its master's), the access
type a fault would capture (Table 13-3) and whether microcode controls it (Table 13-8). -/
structure FabReq where
  master : Nat := 0
  addr : Nat := 0
  tag : Nat := 0
  kind : FabKind := .read 4
  access : Nat := 0
  ucode : Bool := false
  /-- its requester was fenced or cut since: the response is discarded (R39, R45) -/
  dead : Bool := false
  deriving DecidableEq, Repr

/-- What a register write brings: the word, and the bits of it whose flags hardware sets in the same CK_FAB cycle (R9). -/
structure RegData where
  word : Word := 0
  hw : Word := 0
  deriving DecidableEq, Repr

/-- What the host programs in configuration space beside Bus Master Enable: D3hot, the Max_Payload_Size and Max_Read_Request_Size in
bytes (R414), and the completion timeout in ns (R415). -/
structure PcieCfg where
  d3 : Bool := false
  mps : Nat := 128
  mrrs : Nat := 512
  cplTimeout : Nat := 10000000
  deriving DecidableEq, Repr

/-- An acknowledgement of a fault class, and whether a waiting fault of it is taken in the same cycle (R9, R474). -/
structure FaultAckOp where
  cls : Fin 24
  same : Bool := false
  deriving DecidableEq, Repr

/-- A fabric response (R15, Table 1-3): the requester matches it by tag (R14). -/
structure FabResp where
  master : Nat := 0
  tag : Nat := 0
  code : Nat := 0
  data : List Byte := []
  deriving DecidableEq, Repr

/-- Who asked for a pool operation, so that its answer finds its way: a bus master by tag (R389), a host slot (R390),
a spindle's picture or grain bobbin, ingest for a packet of a merge point, a STREAM channel, an encode session, or a unit that needs no answer. -/
inductive AllocFor where
  | bus (tag : Nat)
  | slot (s : Nat)
  | spdPic (k : Nat)
  | spdGrain (k : Nat)
  | ingest (flow : Nat) (pkt : Nat)
  | stream (c : Nat)
  | encRecon (s : Nat)
  | encOut (s : Nat)
  | unit
  deriving DecidableEq, Repr

/-- The operands of a pool operation (Table 9-7, R375, 09_bobbin_pool.md); `op` is its code. -/
structure PoolReq where
  master : Nat := 0
  op : Nat := 0
  pool : Nat := 0
  addr : Nat := 0
  add : Nat := 0
  genChk : Bool := false
  gen : Nat := 0
  wait : Bool := false
  timeoutUs : Nat := 0
  prov : Bool := false
  newTag : Nat := 0
  clrProv : Bool := false
  forWhom : AllocFor := .unit
  deriving DecidableEq, Repr

/-- A pool operation's answer (Table 9-8): result code, address and metadata word. -/
structure PoolRes where
  forWhom : AllocFor := .unit
  master : Nat := 0
  op : Nat := 0
  code : Nat := 0
  addr : Nat := 0
  word : Nat := 0
  deriving DecidableEq, Repr

/-- What leaves the device at its pins and links: the model's record of its outputs, newest first. -/
inductive Output where
  /-- an MSI-X message of a vector, with its address and data (R461) -/
  | msix (vector addr data : Nat)
  /-- a posted write to host memory, and whether it carries No Snoop (R414, R422, R434) -/
  | hostWrite (addr : Nat) (data : List Byte) (ns : Bool)
  /-- a read request to host memory, its length, and whether it carries No Snoop (R414, R422, R434) -/
  | hostAsk (addr len : Nat) (ns : Bool)
  /-- the answer to a host BAR access (R418, R419) -/
  | hostRead (data : List Byte) (ok : Bool)
  /-- an Ethernet frame sent on a logical port -/
  | frame (lp : Nat) (bytes : List Byte)
  /-- columns sent down the data lanes of a Brodys port (R321–R324): for each the control symbol of its block (0: data)
  and the bytes it carries, lane by lane -/
  | brodys (port : Nat) (cols : List (Nat × List Byte))
  /-- what a Brodys port drives changes: CL, and L0–L3 or electrical idle (R338, R340, R342) -/
  | brodysDrive (port : Nat) (clock lanes : Bool)
  /-- 128 UI of alternating ones and zeros on L0–L3 (R341) -/
  | brodysBurst (port : Nat)
  /-- a PRBS pattern runs raw on the lanes of a mask, 16 for RL, 32 for a loop inside the port (R365) -/
  | brodysTest (port pattern lanes us : Nat)
  /-- a transmitted bit of a Brodys lane is inverted (R367) -/
  | bitError (port lane : Nat)
  /-- a pin changes level -/
  | pin (name : String) (level : Bool)
  /-- bits shifted out of TDO -/
  | tdo (value width : Nat)
  /-- the balls of the boundary chain take the levels of the cells, or high impedance (R562) -/
  | balls (levels : Option (List Bool))
  /-- the boot ROM reads SFDP in 1S-1S-1S at 25 MHz (R559) -/
  | flashSfdp
  /-- a read of the boot flash: 8D-8D-8D or 1S-1S-1S, MHz, dummy cycles, offset and length (R559) -/
  | flashRead (octal : Bool) (mhz dummy at_ len : Nat)
  /-- a transaction on AVSBus or I2C -/
  | serial (bus : String) (data : List Nat)
  deriving DecidableEq, Repr

end Sys2Proof
end

