-- ==== Sys2Proof/Syntax/Stream.lean ====
section
/-! DEFINITION. What a coded stream brings to a decode spindle, as a parser of its standard meets it: the units of an access unit,
the tools that Tables 4-3 to 4-6 name, parameter sets, entry points, the motion-constrained regions of Table 4-16, and what a
block of samples is predicted from. The syntax of the coding standards is theirs; what follows from each element is the machine's. -/

namespace Sys2Proof

/-- A rectangle in samples or lamps. -/
structure Rect where
  x : Nat := 0
  y : Nat := 0
  w : Nat := 0
  h : Nat := 0
  deriving DecidableEq, Repr

/-- The items of Tables 4-3 to 4-6 (R160). -/
inductive Tool where
  /-- AVC: Constrained Baseline, Baseline, Main, High, High 10, High 4:2:2 and their Intra variants -/
  | avcProfile
  /-- AVC: Extended, High 4:4:4 Predictive, CAVLC 4:4:4 Intra -/
  | avcOtherProfile
  /-- AVC: frame_mbs_only_flag 0 -/
  | avcFields
  /-- AVC: num_slice_groups_minus1 above 0 -/
  | avcSliceGroups
  /-- AVC: arbitrary slice order -/
  | avcSliceOrder
  /-- AVC: redundant coded slices -/
  | avcRedundant
  /-- AVC: SP and SI slices, data partitioning -/
  | avcSpSiPartition
  /-- AVC: CAVLC, CABAC, 8 × 8 transform, scaling matrices, weighted prediction, long-term references, MMCO, 4:0:0 -/
  | avcCoding
  /-- AVC: qpprime_y_zero_transform_bypass_flag 1, separate_colour_plane_flag 1 -/
  | avcBypass
  /-- AVC: NAL unit types 14, 15 and 20 -/
  | avcLayers
  /-- HEVC: Main, Main 10, Main Still Picture, either tier, tiles, wavefronts, dependent slice segments -/
  | hevcMain
  /-- HEVC: general_profile_idc 4 at a bit depth -/
  | hevcRext (depth : Nat)
  /-- HEVC: extended_precision_processing_flag 1, cabac_bypass_alignment_enabled_flag 1 -/
  | hevcPrecision
  /-- HEVC: screen content coding and high-throughput profiles -/
  | hevcOtherProfile
  /-- HEVC: transform-skip extensions, RDPCM, cross-component prediction, chroma QP offset lists, persistent Rice adaptation -/
  | hevcRextTools
  /-- HEVC: nuh_layer_id above 0 -/
  | hevcLayers
  /-- HEVC, VVC: field_seq_flag 1 -/
  | fieldSeq
  /-- VVC: Main 10, Main 10 4:4:4, their Still Picture and Multilayer variants, and all their coding tools -/
  | vvcMain
  /-- VVC: the other profiles -/
  | vvcOtherProfile
  /-- VVC: NAL units of a layer that is not the lowest -/
  | vvcLayers
  /-- AV1: seq_profile, with its bit depth, and whether it is 4:2:2 -/
  | av1Profile (profile depth : Nat) (c422 : Bool)
  /-- AV1: superres, intra block copy, palette, switch frames, frame size change with refs, film grain -/
  | av1Coding
  /-- AV1: spatial layers above 0 -/
  | av1Layers
  /-- AV1: tile list OBUs -/
  | av1TileList
  deriving DecidableEq, Repr

/-- What a sequence parameter set or sequence header signals (R160–R162, R170). -/
structure SeqFacts where
  /-- 0 4:0:0, 1 4:2:0, 2 4:2:2, 3 4:4:4 -/
  chroma : Nat := 1
  depth : Nat := 8
  maxW : Nat := 0
  maxH : Nat := 0
  /-- items of Tables 4-3 to 4-6 that the sequence needs -/
  tools : List Tool := []
  /-- DPB pictures or reference slots asked for -/
  dpb : Nat := 1
  /-- AVC: max_num_reorder_frames of the VUI; HEVC and VVC: the reorder depth of the highest sub-layer -/
  reorderSent : Option Nat := some 0
  /-- AVC: pic_order_cnt_type -/
  pocType : Nat := 0
  /-- AVC: max_num_ref_frames -/
  refFrames : Nat := 1
  /-- the latency count of R170, when the stream bounds it -/
  latency : Option Nat := none
  deriving DecidableEq, Repr

/-- A parameter set or AV1 sequence header: its kind (1 is the SPS or sequence header) and id, whether it passes the checks of
Table 5-1, which of all possible contents it has, and what an SPS signals. -/
structure ParamSet where
  kind : Nat := 1
  id : Nat := 0
  ok : Bool := true
  body : Nat := 0
  seq : SeqFacts := {}
  deriving DecidableEq, Repr

/-- A slice, slice segment, tile group or frame header with the units that follow it: whether its elements pass the checks of Table
5-1, the parameter sets it refers to by kind and id, which picture of the access unit it belongs to, and the units it covers. -/
structure SliceFacts where
  ok : Bool := true
  needs : List (Nat × Nat) := []
  picture : Nat := 0
  first : Nat := 0
  count : Nat := 0
  deriving DecidableEq, Repr

/-- A NAL unit or OBU of an access unit, in order (Table 5-1). -/
inductive AuItem where
  /-- its header breaks Table 5-1; `vcl`: a VCL NAL unit or a tile group OBU -/
  | badUnit (vcl : Bool)
  /-- a reserved type -/
  | reserved
  /-- a NAL unit or syntax element that Tables 4-3 to 4-6 name -/
  | named (t : Tool)
  | set (p : ParamSet)
  | slice (h : SliceFacts)
  deriving DecidableEq, Repr

/-- The kinds of entry point (R197, Table 4-15). -/
inductive EntryKind where
  | slice
  | dependent
  | tile
  | subpicture
  | row
  deriving DecidableEq, Repr

/-- An entry point: the unit, in decode order, at which parsing can begin afresh. -/
structure Entry where
  start : Nat := 0
  kind : EntryKind := .slice
  deriving DecidableEq, Repr

/-- The temporal motion-constrained tile sets SEI message (Table 4-16). -/
structure MctsSei where
  eachTile : Bool := true
  sets : List Rect := []
  allExact : Bool := true
  setExact : List Bool := []
  deriving DecidableEq, Repr

/-- A VVC subpicture: its rectangle, sps_subpic_treated_as_pic_flag and sps_loop_filter_across_subpic_enabled_flag. -/
structure SubPic where
  rect : Rect := {}
  treated : Bool := true
  loopAcross : Bool := false
  deriving DecidableEq, Repr

/-- Prediction of a block from a reference picture: the reference, the vector in units of 2^-`frac` samples, and the standard's
interpolation as taps (displacement and weight), rounding and shift. -/
structure Pred where
  ref : Int := 0
  mvx : Int := 0
  mvy : Int := 0
  frac : Nat := 0
  taps : List (Int × Int × Int) := [(0, 0, 1)]
  shift : Nat := 0
  deriving DecidableEq, Repr

/-- A block of reconstructed samples of plane 0 (luma), 1 (Cb) or 2 (Cr): its corner and width, what each sample is predicted as
(from inside the picture, or from references), and the coefficients of its residual with the standard's inverse transform as a
matrix, rounding and shift. -/
structure SampleBlock where
  plane : Nat := 0
  x : Nat := 0
  y : Nat := 0
  w : Nat := 1
  base : List Int := []
  preds : List Pred := []
  coefs : List Int := []
  basis : List (List Int) := []
  shift : Nat := 0
  deriving DecidableEq, Repr

/-- One prediction of a part by the encoder: the source number of the reference and the vectors predicted from the neighbouring blocks, in
units of the standard's finest precision. -/
structure MvUse where
  ref : Nat := 0
  near : List (Int × Int) := []
  deriving DecidableEq, Repr

/-- An inter partition of a coded block, by its rectangle. -/
structure EncPart where
  rect : Rect := {}
  uses : List MvUse := []
  deriving DecidableEq, Repr

/-- A candidate of mode decision (R243): its inter partitions, or an intra mode with what it predicts each sample as; its transform sizes;
its full rate-distortion cost, with rate-distortion optimised quantisation where the preset has it; and, for luma and then chroma, the
residual that its coding leaves with what the in-loop filters change (Table 6-7). -/
structure EncCand where
  parts : List EncPart := []
  intra : Option Nat := none
  tus : List Nat := []
  rd : Nat := 0
  luma : SampleBlock := {}
  cb : SampleBlock := {}
  cr : SampleBlock := {}
  deriving DecidableEq, Repr

/-- A block of a coded picture: the coding unit that it lies in, its luma rectangle, its candidates, and what floor mode codes it as
(R254): the vector of merge index 0 or NEARESTMV with its reference, or what DC predicts in each plane. -/
structure EncBlock where
  unit : Nat := 0
  rect : Rect := {}
  cands : List EncCand := []
  skip : Option (Nat × (Int × Int)) := none
  dc : List Int := []
  deriving DecidableEq, Repr

/-- The kind of a spindle's write, which says the area of Table 4-9 it is meant for (R214). -/
inductive WriteKind where
  | sample
  | motion
  | record
  deriving DecidableEq, Repr

/-- A write of the reconstruction pipeline into the picture bobbin: its kind, its offset from the bobbin's base and the
bytes (R195, R214), or the block of samples it stores; `odd`: D(2k+1) of a pair issues it. -/
structure PicWrite where
  kind : WriteKind := .sample
  off : Int := 0
  data : List Byte := []
  block : Option SampleBlock := none
  odd : Bool := false
  deriving DecidableEq, Repr

end Sys2Proof
end

