-- ==== Sys2Proof/Syntax/Events.lean ====
section
/-! DEFINITION. The operand records of the events: what the outside world (a coded stream, a camera, a link partner)
brings with a command. A coded stream's syntax is other standards' matter, so what a parser finds in it arrives as facts;
the checks, limits and consequences of those facts are the machine's. -/

namespace Sys2Proof

/-- What the scheduler needs to know of an access unit's picture (R73, R189): the regions in which Table 4-16 lets it be
decoded apart (none where it does not), its luma samples and its crop offsets. -/
structure PicShape where
  regions : List Rect := []
  samples : Nat := 0
  cropL : Nat := 0
  cropT : Nat := 0
  deriving DecidableEq, Repr

/-- Film grain, colour and light metadata of a picture, as the record carries them (Table 4-10). -/
structure PicMeta where
  primaries : Nat := 2
  transfer : Nat := 2
  matrix : Nat := 2
  fullRange : Nat := 0
  sarW : Nat := 0
  sarH : Nat := 0
  mdcv : List Byte := []
  maxCll : Nat := 0
  maxFall : Nat := 0
  deriving DecidableEq, Repr

/-- What the headers of an access unit hold, as a parser of the standard meets it. -/
structure PicFacts where
  /-- the access unit holds a picture to decode -/
  hasPicture : Bool := true
  /-- its NAL units or OBUs in order -/
  items : List AuItem := [.slice {}]
  /-- bytes of the chain up to the end of the headers that parsing begins with -/
  headEnd : Nat := 0
  /-- the id of the SPS that the picture activates; AV1: 0 -/
  spsId : Nat := 0
  /-- items of Tables 4-3 to 4-6 that the picture or its PPS needs -/
  tools : List Tool := []
  /-- slices (or segments) of the picture (Table 4-7) -/
  slices : Nat := 1
  /-- widths of the tile columns and heights of the tile rows in luma samples (none: one tile) -/
  tileW : List Nat := []
  tileH : List Nat := []
  /-- its place in Table 5-3: 0 none, 1 an IDR, IRAP or shown key frame, 2 a key frame with show_frame 0, 3 a picture
  with a recovery point or a GDR picture -/
  point : Nat := 0
  /-- NoRaslOutputFlag or NoOutputBeforeRecoveryFlag of a picture of Table 5-3 -/
  noRasl : Bool := false
  /-- a CRA picture -/
  cra : Bool := false
  /-- the order of the picture at which the gradual refresh that begins here completes -/
  recovery : Option Int := none
  /-- a RASL picture that refers before its CRA (R206, R209) -/
  rasl : Bool := false
  /-- no_output_of_prior_pics_flag (R178) -/
  dropPrior : Bool := false
  /-- the picture's identity: its picture order count, or the AV1 frame -/
  order : Int := 0
  /-- AV1 reference slots the frame refreshes -/
  refresh : List Nat := []
  /-- pic_output_flag, or show_frame -/
  shown : Bool := true
  /-- AV1 show_existing_frame: the slot shown -/
  showSlot : Option Nat := none
  /-- identities (or AV1 slots) of the references the picture names: its RPS or RPL entries -/
  refs : List Int := []
  /-- those of them that the picture reads -/
  reads : List Int := []
  /-- entry 0 of list 0, or the LAST_FRAME slot (Table 5-2) -/
  list0 : Option Int := none
  /-- AVC: the references that MMCO commands end, and those they make long-term; none: the sliding window -/
  mmco : Option (List Int × List Int) := none
  /-- the picture itself is marked as a reference -/
  isRef : Bool := true
  width : Nat := 0
  height : Nat := 0
  cropL : Nat := 0
  cropR : Nat := 0
  cropT : Nat := 0
  cropB : Nat := 0
  chroma : Nat := 1
  depth : Nat := 8
  grain : Bool := false
  /-- the edge of a unit (macroblock, CTU, superblock) in luma samples -/
  unitSize : Nat := 64
  /-- raster index of the units in decode order; none: raster order -/
  scan : List Nat := []
  /-- entry points in decode order -/
  entries : List Entry := []
  /-- HEVC: the MCTS SEI message of the access unit, and loop_filter_across_tiles_enabled_flag of the PPS -/
  mcts : Option MctsSei := none
  ppsLoop : Bool := false
  /-- VVC: the subpictures -/
  subs : List SubPic := []
  /-- AV1: use_ref_frame_mvs, and the payloads of the metadata OBUs of type 24 (Table 4-17) -/
  refMvs : Bool := false
  meta24 : List (List Byte) := []
  info : PicMeta := {}
  deriving DecidableEq, Repr

/-- What the end of parsing finds (R197). -/
structure ParseFacts where
  /-- coded bits consumed (R192) -/
  bits : Nat := 0
  /-- units, in decode order, at which entropy-coded data or a decoded value breaks Table 5-1 -/
  damage : List Nat := []
  /-- the unit being parsed when each bobbin of the chain is read (R200) -/
  reading : List Nat := []
  deriving DecidableEq, Repr

/-- What the reconstruction ends with. -/
structure ReconFacts where
  /-- spindle cycles spent on the picture, summed over a pair -/
  cycles : Nat := 0
  /-- a read or write received an ERROR response (R200) -/
  memError : Bool := false
  /-- the remaining writes of the picture -/
  writes : List PicWrite := []
  deriving DecidableEq, Repr

/-- What a sequencer tells at a yield point: its master ID, the bytes of the chain that it needs to go on (R154), and how many coding
units it has completed since the last one (R183). -/
structure YieldOp where
  m : Fin 20
  need : Nat := 0
  done : Nat := 0
  deriving DecidableEq, Repr

/-- What a start finds outside the device: whether AVSBus answers (R549); the highest rate of 8D-8D-8D reads in MHz that the flash's SFDP declares, with
its dummy cycles; and whether the switch to them succeeds (R559). -/
structure BootOp where
  avs : Bool
  mhz : Nat := 200
  dummy : Nat := 0
  octal : Bool := true
  deriving DecidableEq, Repr

/-- What coding a picture brings, as the tools of the standard find it: the bits of its headers, the bits of each coding
unit by row at the quantisers of R253, the bits the units in floor mode take together, trailing bits, the access unit's
bytes, the bytes of the repeat picture that would replace it, the blocks in coding order, and the motion data of its reconstruction. -/
structure CodedFacts where
  header : Nat := 0
  rows : List (List Nat) := []
  floor : Nat := 0
  trailing : Nat := 0
  data : List Byte := []
  repeatData : List Byte := []
  blocks : List EncBlock := []
  recon : List PicWrite := []
  deriving DecidableEq, Repr

end Sys2Proof
end

