-- ==== Sys2Proof/Syntax.lean ====
section
/-! DEFINITION. The commands of the block: one constructor per row of spec/opcode_table.json, in its order. -/

namespace Sys2Proof

/-- The commands and events of the block. The docstring of each gives the table's mnemonic, its rule and what it is. -/
inductive Instr where
  /-- REGISTER_WRITE (R8): A write to a register field that has no row of its own takes effect according to its access type. -/
  | registerWrite (svc : Bool) (off : Word) (w : RegData)
  /-- FABRIC_REQUEST (R15): A fabric request reaches its target and receives exactly one response code. -/
  | fabricRequest (r : FabReq)
  /-- RETRY (R16): After a RETRY response, the master issues the request again once 32 CK_FAB cycles have elapsed. -/
  | retry
  /-- PWR_REQ_ON (R29): A PWR_CTL GO with TARGET ON requests that an island be brought to ON. -/
  | pwrReqOn (i : Fin 32) (force : Bool)
  /-- PWR_REQ_RETENTION (R33): A PWR_CTL GO with TARGET RETENTION starts the drain of an island towards RETENTION. -/
  | pwrReqRetention (i : Fin 32) (force : Bool)
  /-- PWR_REQ_OFF (R33): A PWR_CTL GO with TARGET OFF starts the drain of an island towards OFF. -/
  | pwrReqOff (i : Fin 32) (force : Bool)
  /-- ISLAND_ON_COMPLETE (R28): An island that is powering up reports ON once the switch, microstore reload, PLL lock or HBM training has finished. -/
  | islandOnComplete
  /-- DRAIN_COMPLETE (R36): With nothing outstanding and every unit idle, the draining island enters its requested state and DONE sets. -/
  | drainComplete
  /-- DRAIN_LIMIT_EXPIRY (R38): When the drain limit expires, the request is abandoned if FORCE is 0, or the island is cut to OFF if FORCE is 1. -/
  | drainLimitExpiry
  /-- UNIT_RESET (R43): A PWR_UNIT_RST GO fences the unit named by MASTER and begins its reset. -/
  | unitReset (m : Fin 256)
  /-- FENCE_HELD_START (R44): A fence that a UNIT-level fault reaction held begins once the unit's island is ON with no power request in progress. -/
  | fenceHeldStart (m : Fin 256)
  /-- FENCE_REPLIES_DONE (R45): Every response owed to the fenced unit has arrived and been discarded, so the unit's reset is asserted. -/
  | fenceRepliesDone (m : Fin 256)
  /-- FENCE_WAIT_TIMEOUT (R45): The fence stops waiting for owed responses after 65536 CK_FAB cycles and asserts the reset. -/
  | fenceWaitTimeout (m : Fin 256)
  /-- FENCE_RESET_END (R45): After the reset has been held for 64 cycles, the owner sweep runs and the fence lifts. -/
  | fenceResetEnd (m : Fin 256)
  /-- CTX_NOP (R53): Context command NOP, which has no effect. -/
  | ctxNop (n : Fin 128) (w : Word)
  /-- CTX_OPEN (R52): Context command OPEN validates the declaration and binds the flow or channel and the pools. -/
  | ctxOpen (n : Fin 128) (w : Word)
  /-- CTX_START (R69): Context command START runs admission and moves the context to RUNNING or records the failure. -/
  | ctxStart (n : Fin 128) (w : Word)
  /-- CTX_PAUSE (R55): Context command PAUSE cancels the pending work and keeps the admitted load. -/
  | ctxPause (n : Fin 128) (w : Word)
  /-- CTX_RESUME (R56): Context command RESUME returns to RUNNING and waits for a random-access point. -/
  | ctxResume (n : Fin 128) (w : Word)
  /-- CTX_STOP (R57): Context command STOP enters DRAINING until the job in progress is ready. -/
  | ctxStop (n : Fin 128) (w : Word)
  /-- CTX_CLOSE (R60): Context command CLOSE releases the context's bobbins and unbinds its flow or channel. -/
  | ctxClose (n : Fin 128) (w : Word)
  /-- CTX_FLUSH (R56): Context command FLUSH cancels the pending jobs and discards access units up to the next random-access point. -/
  | ctxFlush (n : Fin 128) (w : Word)
  /-- CTX_RECOVER (R59): Context command RECOVER moves the context from FAULTED to OPEN once FAULT is clear. -/
  | ctxRecover (n : Fin 128) (w : Word)
  /-- JOB_POST (R74): A completed access unit is posted to its context as a job with release time r and a deadline. -/
  | jobPost (n : Fin 128) (shape : PicShape)
  /-- PLAYOUT_DUE (R128): For a non-LIVE class, device time reaches the playout time of an access unit and its job is posted. -/
  | playoutDue (n : Fin 128) (shape : PicShape)
  /-- YIELD_POINT_REACHED (R94): A sequencer reaches a yield point and acts on a pending preemption, drain or cancel. -/
  | yieldPointReached (y : YieldOp)
  /-- RX_FRAME (R109): An Ethernet frame is received, checked in order, matched to a flow and merged into an access unit, or dropped. -/
  | rxFrame (lp : Fin 8) (fec : Bool) (frame : List Byte)
  /-- AU_CLOSE_TIMEOUT (R125): When device time reaches t_e + W with numbers still missing, the access unit is closed with LOSS. -/
  | auCloseTimeout (f : Fin 256)
  /-- ING_ALLOC_DONE (R126): Ingest receive gets the result of a bobbin allocation, and the packet is placed or dropped with reason POOL. -/
  | ingAllocDone (f : Fin 256)
  /-- ETH_LINK_CHANGE (R106): The link state of a logical port changes, and LINK_CHG sets. -/
  | ethLinkChange (lp : Fin 8) (link pcs fec : Bool)
  /-- PATH_TIMEOUT (R134): No packet has matched a flow entry for 50 ms, so PATH_UP clears and PATH_DOWN sets. -/
  | pathTimeout (f : Fin 256)
  /-- STATE_CHANGE_REPORT (R137): A randomly timed state-change membership report falls due and is sent. -/
  | stateChangeReport (lp : Fin 8)
  /-- CURRENT_STATE_REPORT (R138): The delay after a membership query expires and the current-state report is sent. -/
  | currentStateReport (lp : Fin 8)
  /-- ANNOUNCE_TIMEOUT (R145): The announce receipt timeout of the selected PTP master expires, and the servo moves to HOLDOVER or selects another master. -/
  | announceTimeout
  /-- HOLDOVER_EXPIRY (R145): HOLDOVER has lasted longer than PTP_HOLDOVER.S, and the state becomes HOLDOVER_EXPIRED. -/
  | holdoverExpiry
  /-- PTP_SET (R147): A write to PTP_SET_HI loads device time, unless the servo is enabled. -/
  | ptpSet (hi : Word)
  /-- PTP_TIME_READ (R146): A read of PTP_TIME_LO latches the matching PTP_TIME_HI. -/
  | ptpTimeRead
  /-- EGRESS_PACKET_DUE (R151): The next paced RTP packet of an access unit is due and is sent. -/
  | egressPacketDue (e : Fin 8)
  /-- EGRESS_DISABLE (R152): Clearing EN of an egress channel releases its queued access units unsent. -/
  | egressDisable (e : Fin 8)
  /-- JOB_START (R168): A dispatched decode job reaches its spindle, which reads the chain and parses the headers. -/
  | jobStart (k : Fin 16) (f : PicFacts)
  /-- PIC_ALLOC_DONE (R168): The spindle's WAIT-mode picture-bobbin allocation is granted, and reconstruction begins. -/
  | picAllocDone (k : Fin 16) (ws : List PicWrite)
  /-- PIC_ALLOC_TIMEOUT (R168): The picture-bobbin allocation times out, and the job ends DROPPED. -/
  | picAllocTimeout (k : Fin 16)
  /-- DATA_ARRIVED (R154): Host-fed data that a spindle waits for in WAIT_DATA has been copied, and the spindle resumes. -/
  | dataArrived (k : Fin 16)
  /-- DATA_TIMEOUT (R211): The WAIT_DATA limit is exceeded, so the bytes not yet copied are treated as absent and LOSS_AU is recorded. -/
  | dataTimeout (k : Fin 16) (f : PicFacts)
  /-- PARSE_END (R168): The spindle finishes parsing and releases the access-unit chain. -/
  | parseEnd (k : Fin 16) (p : ParseFacts)
  /-- PICTURE_READY (R168): All writes of a picture have been answered, so the record is written, the bobbin is shared, and the picture becomes ready. -/
  | pictureReady (k : Fin 16) (rf : ReconFacts)
  /-- GRAIN_ALLOC_DONE (R174): The grain output allocation completes or times out, and the list entry names the output bobbin or the decoded one. -/
  | grainAllocDone (k : Fin 16) (ws : List PicWrite)
  /-- PIC_HOLD (R176): A write to STC_PIC_HOLD requests a hold on a list entry's picture, which is evaluated within 1 µs. -/
  | picHold (n : Fin 128) (seq : Word)
  /-- BUDGET_EXHAUSTED (R193): The cycle count exceeds the allowance, so the picture is completed with its remaining units concealed. -/
  | budgetExhausted (k : Fin 16) (cycles bits : Nat) (units : List (Nat × Nat)) (remaining : Nat)
  /-- WATCHDOG_TRIP (R210): The decode watchdog trips on a long yield span or a missing response, aborting the job and fencing the spindle. -/
  | watchdogTrip (k : Fin 16) (span us : Word)
  /-- ENC_NOP (R227): Session command NOP, which has no effect. -/
  | encNop (e : Fin 16) (w : Word)
  /-- ENC_OPEN (R226): Session command OPEN validates the configuration and binds the source. -/
  | encOpen (e : Fin 16) (w : Word)
  /-- ENC_START (R251): Session command START runs admission and the cap checks and enters RUNNING. -/
  | encStart (e : Fin 16) (w : Word) (hdr rep : Nat)
  /-- ENC_STOP (R228): Session command STOP finishes the picture in progress, then returns to OPEN. -/
  | encStop (e : Fin 16) (w : Word)
  /-- ENC_CLOSE (R224): Session command CLOSE releases the reconstruction bobbins and unbinds the source. -/
  | encClose (e : Fin 16) (w : Word)
  /-- FORCE_INTRA (R224): Session command FORCE_INTRA makes the next anchor not yet begun an intra picture. -/
  | forceIntra (e : Fin 16) (w : Word)
  /-- ENC_RECOVER (R227): Session command RECOVER moves the session from FAULTED to OPEN once FAULT is clear. -/
  | encRecover (e : Fin 16) (w : Word)
  /-- ENC_SRC_SUBMIT (R235): A write to ENC_SRC_HI submits a host source picture and takes a reference on it. -/
  | encSrcSubmit (e : Fin 16) (hi : Word)
  /-- ENC_ALLOC_DONE (R258): A WAIT-mode allocation for a reconstruction or output bobbin is granted. -/
  | encAllocDone (k : Fin 4)
  /-- ENC_ALLOC_TIMEOUT (R261): An output allocation times out and the coded picture is lost. -/
  | encAllocTimeout (k : Fin 4)
  /-- ENC_PIC_DONE (R259): A coded picture completes, its chain is shared and delivered, and the bucket is updated. -/
  | encPicDone (k : Fin 4) (c : CodedFacts)
  /-- ENC_WATCHDOG (R262): The encode watchdog trips, raising ENC_WATCHDOG and fencing the spindle. -/
  | encWatchdog (k : Fin 4) (span us : Word)
  /-- CARD_SUBMIT (R263): A write to SPE_CARD_SUBMIT_HI queues a carding descriptor, or sets SUBMIT_LOST when the queue is full. -/
  | cardSubmit (hi : Word)
  /-- CARD_STRIPE_DONE (R272): A carding stripe completes, and the job writes its RESULT after its last stripe. -/
  | cardStripeDone (k : Fin 4)
  /-- PLY_COMMIT (R276): A write of an engine's bit in PLY_COMMIT requests validation of the shadow tables. -/
  | plyCommit (w : Word)
  /-- COMMIT_VALIDATED (R277): Validation of the shadow tables ends in success, pending the next frame start, or in rejection. -/
  | commitValidated (e : Fin 2)
  /-- PLY_RUN (R315): A write of PLY_CTL.RUN starts or quiesces an engine's frames. -/
  | plyRun (e : Fin 2) (v : Bool)
  /-- CANVAS_ENABLE (R284): A write of PLY_CANVAS_CTL.EN starts canvas timing, or sets BAD_RATE when the rate is out of range. -/
  | canvasEnable (w : Word)
  /-- CANVAS_FRAME_START (R285): Device time reaches t_k and a canvas frame starts, latching windows, pictures, commits and gains. -/
  | canvasFrameStart
  /-- WSYNC_EDGE (R287): A rising edge of WSYNC_IN starts a frame, or is ignored as early. -/
  | wsyncEdge
  /-- WSYNC_FLYWHEEL (R287): No WSYNC_IN edge arrives within 1.5 × T_c, so the generator starts a frame itself. -/
  | wsyncFlywheel
  /-- WSYNC_OUT_END (R288): WSYNC_OUT falls 1.0 µs after it rose. -/
  | wsyncOutEnd
  /-- FRAME_SYNC_DUE (R331): At c_k + DELAY, every port of the engine sends the SYNC packet of the frame. -/
  | frameSyncDue (e : Fin 2)
  /-- PLY_ROW_BUILT (R314): An engine finishes a lamp row and hands it to its port. -/
  | plyRowBuilt (e : Fin 2) (sl : Fin 8)
  /-- ROW_SEND (R344): A port sends a ready ROW packet once any management packet has ended. -/
  | rowSend (p : Fin 16)
  /-- ROW_DEADLINE (R314): At c_{k+1} + DELAY, the unsent rows of frame k are discarded and LATE sets. -/
  | rowDeadline (e : Fin 2)
  /-- TALLY_MINUTE (R312): Once a minute the service controller adds the tally increments to MRAM and re-evaluates the aging gains. -/
  | tallyMinute
  /-- AGE_TARGET_WRITE (R311): A write to PLY_AGE_TARGET, its B word or PLY_AGE_MAX re-evaluates the aging gains. -/
  | ageTargetWrite (which : Fin 3) (w : Word)
  /-- CANVAS_FRAME_READ (R283): A read of PLY_CANVAS_FRAME_LO or TSTART_LO latches its HI word. -/
  | canvasFrameRead (start : Bool)
  /-- TALLY_READ (R312): A read of a tally accumulator LO word latches its HI word. -/
  | tallyRead (e : Fin 2) (t : Fin 512) (c : Fin 3)
  /-- PORT_ENABLE (R338): A write of BLK_CTL.EN to 1 starts CL and the bring-up of the port. -/
  | portEnable (p : Fin 16) (w : Word)
  /-- PORT_DISABLE (R342): A write of BLK_CTL.EN to 0 takes the port to OFF at the next column boundary. -/
  | portDisable (p : Fin 16) (w : Word)
  /-- TRAIN_START (R338): 50 µs after CL starts, the port sends TRAIN columns. -/
  | trainStart (p : Fin 16)
  /-- RL_CHECK (R338): TRAIN_US after training starts, the port checks RL lock and enters NO_CHAIN or proceeds to enumeration. -/
  | rlCheck (p : Fin 16)
  /-- BLK_NOP (R363): Port command NOP, which has no effect. -/
  | blkNop (p : Fin 16)
  /-- RETRAIN (R342): Port command RETRAIN returns the port to TRAIN, keeping the tile addresses. -/
  | retrain (p : Fin 16)
  /-- ENUMERATE (R351): Port command ENUMERATE clears addresses, assigns them by ENUM, pings and reads each tile. -/
  | enumerate (p : Fin 16)
  /-- REAUTH (R359): Port command REAUTH authenticates every present tile again. -/
  | reauth (p : Fin 16)
  /-- TEST_START (R365): Port command TEST_START runs a PRBS lane test in mode FAR, NEAR or RL. -/
  | testStart (p : Fin 16)
  /-- TEST_STOP (R363): Port command TEST_STOP ends a test at once, then retrains the port. -/
  | testStop (p : Fin 16) (rl : Option Word)
  /-- TEST_END (R365): DURATION_US expires, so the test ends and the port retrains and sets TEST_DONE. -/
  | testEnd (p : Fin 16) (rl : Option Word)
  /-- MRSP_RECEIVED (R343): An intact management response arrives on RL and ends the outstanding transaction. -/
  | mrspReceived (p : Fin 16) (seq : Fin 256) (status : Fin 256) (payload : List Byte)
  /-- MGMT_TIMEOUT (R345): No response arrives within TO_US, so the request is retried or the transaction fails. -/
  | mgmtTimeout (p : Fin 16)
  /-- RL_LOSS (R342): RL symbol lock has been lost for 10 ms with AUTO_ENUM set, and the port retrains. -/
  | rlLoss (p : Fin 16)
  /-- POLL_DUE (R349): The STATUS polling interval elapses, and the next tile is polled. -/
  | pollDue (p : Fin 16)
  /-- ATTN_SET (R349): ATTN in the RL idle sets becomes 1, and a full STATUS round starts. -/
  | attnSet (p : Fin 16) (v : Bool)
  /-- AUTH_VERIFY_DONE (R357): The security block completes a certificate or signature verification for a tile. -/
  | authVerifyDone (p : Fin 16)
  /-- AUTH_POLL (R357): 1 ms after a BUSY answer, the port reads the challenge signature again, or fails after 50 ms. -/
  | authPoll (p : Fin 16)
  /-- HOST_MGMT (R364): BLK_HM_CTL.GO sends a host management transaction, or refuses it. -/
  | hostMgmt (p : Fin 16) (w : Word)
  /-- TXCFG_WRITE (R342): A change of BLK_TXCFG returns the port to training. -/
  | txcfgWrite (p : Fin 16) (w : Word)
  /-- INJECT_ERROR (R367): BLK_INJECT inverts one transmitted bit on the chosen lane, once or every PERIOD UI. -/
  | injectError (p : Fin 16) (w : Option Word)
  /-- INJECT_MGMT_CRC (R367): A write of MGMT_CRC corrupts the CRC of the next MREQ. -/
  | injectMgmtCrc (p : Fin 16)
  /-- TALLY_WRITEBACK (R362): Every 60 minutes the tallies are written back into each tile's life record. -/
  | tallyWriteback
  /-- TOPO_HASH_READ (R363): A read of BLK_TOPO_HASH_LO latches its HI word. -/
  | topoHashRead (p : Fin 16)
  /-- POOL_NOP (R371): Pool command NOP, which has no effect. -/
  | poolNop (p : Fin 64) (log2 : Fin 32)
  /-- POOL_ENABLE (R373): Pool command ENABLE checks the configuration and enters INIT. -/
  | poolEnable (p : Fin 64) (log2 : Fin 32)
  /-- POOL_DISABLE (R374): Pool command DISABLE returns an idle or BROKEN pool to OFF. -/
  | poolDisable (p : Fin 64) (log2 : Fin 32)
  /-- POOL_INIT_DONE (R373): INIT has written the metadata and free list, and the pool enters READY. -/
  | poolInitDone (p : Fin 64)
  /-- ALLOC (R375): Pool operation ALLOC takes a free bobbin, or answers EMPTY, parks, or answers LEDGER_FULL. -/
  | alloc (r : PoolReq) (tag : Nat)
  /-- SHARE (R376): Pool operation SHARE makes a bobbin shared and adds references. -/
  | share (r : PoolReq) (tag : Nat)
  /-- RELEASE (R378): Pool operation RELEASE drops a reference and frees or hands on the bobbin at 0. -/
  | release (r : PoolReq) (tag : Nat)
  /-- SET_OWNER (R376): Pool operation SET_OWNER changes the owner of an exclusive bobbin. -/
  | setOwner (r : PoolReq) (tag : Nat)
  /-- QUERY (R375): Pool operation QUERY returns a bobbin's metadata word. -/
  | query (r : PoolReq) (tag : Nat)
  /-- PARK_TIMEOUT (R381): A parked ALLOC reaches its timeout and is answered TIMEOUT. -/
  | parkTimeout (p : Fin 64)
  /-- MEM_REQUEST (R393): A memory request leaves the crossing queue and enters its pseudo-channel's queues. -/
  | memRequest (k : Fin 2)
  /-- MEM_ISSUE (R395): The pseudo-channel scheduler performs a queued request chosen by urgency and rotation. -/
  | memIssue (p : Fin 64) (f : Fin 4)
  /-- REFRESH_DUE (R400): The refresh interval elapses and a per-bank refresh is issued or postponed. -/
  | refreshDue (p : Fin 64) (b : Fin 48)
  /-- RETRAIN_DUE (R404): A pseudo-channel's retraining interval or temperature step is reached. -/
  | retrainDue (p : Fin 64)
  /-- RETRAIN_NOW (R404): A write of MEM_RETRAIN.NOW retrains every pseudo-channel once. -/
  | retrainNow
  /-- RETRAIN_PAUSE (R405): A retraining pause begins once the pseudo-channel's commands complete, or after a deferral. -/
  | retrainPause (p : Fin 64)
  /-- RETRAIN_DONE (R406): A retraining pause ends, and on failure the old values are kept and MEM_TRAIN is raised. -/
  | retrainDone (p : Fin 64) (ok : Bool)
  /-- SCRUB_DUE (R409): The scrubber reads its next atom and writes back corrected words. -/
  | scrubDue (k : Fin 2) (f : Fin 4)
  /-- MEM_MODE_WRITE (R399): A write of MEM_MODE.MODE changes the controller mode, or is rejected. -/
  | memModeWrite (svc : Bool) (m : Fin 4)
  /-- MEM_TEST_GO (R410): MEM_TEST_CTL.GO runs a test operation over a range, or is rejected. -/
  | memTestGo (op : Fin 4) (pattern : Fin 4)
  /-- MEM_TEST_DONE (R410): A test operation ends, and DONE sets. -/
  | memTestDone
  /-- MEM_INJECT_ARM (R411): ARM arms an ECC error injection on the next write to the word. -/
  | memInjectArm (w : Word)
  /-- BAR0_ACCESS (R418): A host access through BAR0 is performed as one or two word accesses. -/
  | bar0Access (word : Fin 16777216) (two : Bool) (data : Option (Word × Word)) (be : Fin 256)
  /-- BAR2_ACCESS (R419): A host access through BAR2 is mapped through its aperture to a bobbin address. -/
  | bar2Access (x : BitVec 36) (write : Option (List Byte)) (len tag : Nat)
  /-- HIF_AP_WRITE (R419): A write to HIF_AP changes an aperture mapping, or is rejected. -/
  | hifApWrite (i : Fin 16) (w : Word)
  /-- HOST_WINDOW_ACCESS (R422): A unit's access to the host window is translated to a host bus address, or fails with HOST_XLAT. -/
  | hostWindowAccess (r : FabReq) (data : List Byte)
  /-- COMPLETION_TIMEOUT (R415): A PCIe read times out and completes as TARGET_ERROR. -/
  | completionTimeout (r : FabReq)
  /-- FLR (R417): A Function Level Reset resets the endpoint, apertures, outbound table, DMA channels and host targets. -/
  | flr
  /-- PERST_N_ASSERT (R417): An assertion of PERST_N resets the endpoint state as an FLR does. -/
  | perstNAssert
  /-- PCIE_LINK_CHANGE (R413): The PCIe link trains or changes speed or width, and LINK_CHG sets. -/
  | pcieLinkChange (speed : Fin 6) (width : Fin 17)
  /-- BUS_MASTER_ENABLE (R416): A change of Bus Master Enable or the D3hot state stalls or resumes outbound traffic. -/
  | busMasterEnable (bme : Bool) (d3 : PcieCfg)
  /-- DMA_NOP (R427): Channel command NOP, which has no effect. -/
  | dmaNop (c : Fin 64) (w : Word)
  /-- DMA_ENABLE (R427): Channel command ENABLE moves from IDLE to RUNNING with HEAD and TAIL at 0. -/
  | dmaEnable (c : Fin 64) (w : Word)
  /-- DMA_STOP (R443): Channel command STOP lets started descriptors finish, then enters IDLE. -/
  | dmaStop (c : Fin 64) (w : Word)
  /-- DMA_RESUME (R441): Channel command RESUME continues a HALTED channel from HEAD. -/
  | dmaResume (c : Fin 64) (w : Word)
  /-- DMA_TAIL_WRITE (R429): A write of DMA_TAIL is the doorbell that gives descriptors to the device. -/
  | dmaTailWrite (c : Fin 64) (w : Word)
  /-- DESC_FETCHED (R432): Fetched descriptors arrive and start, or end BAD_DESC. -/
  | descFetched (c : Fin 64) (err : Bool) (descs : List (List Byte))
  /-- DESC_COMPLETE (R433): A descriptor's transfer completes, and it is written back in ring order. -/
  | descComplete (c : Fin 64) (idx : Fin 65536) (data : List Byte) (err : Bool)
  /-- SOURCE_LEVEL_CHANGE (R446): An interrupt source level, asserted or withdrawn, reaches the controller. -/
  | sourceLevelChange (n : Fin 320)
  /-- INT_SGI (R448): A write to INT_SGI sets a software interrupt pending, or is rejected. -/
  | intSgi (host : Bool) (t : Fin 32) (k : Fin 4)
  /-- TIMER_ARM (R449): A write to INT_TGT_TIMER_HI arms a target's timer. -/
  | timerArm (t : Fin 17) (hi : Word)
  /-- TIMER_FIRE (R449): Device time reaches the compare value, so TIMER becomes pending and the timer disarms. -/
  | timerFire (t : Fin 17)
  /-- INT_CLAIM (R454): A read of INT_CLAIM claims the candidate and pushes it on the stack, or returns 0x3FF. -/
  | intClaim (t : Fin 17)
  /-- INT_EOI (R455): A write to INT_EOI pops the stack, or sets BAD_EOI. -/
  | intEoi (t : Fin 17) (n : Fin 1024)
  /-- INT_SRC_WRITE (R452): A write to INT_SRC changes TARGET or EN under the host rules and ends a redirect. -/
  | intSrcWrite (host : Bool) (n : Fin 320) (w : Word)
  /-- TARGET_PARK (R457): Setting PARKED stops messages for a target and starts its park time. -/
  | targetPark (t : Fin 17)
  /-- TARGET_UNPARK (R459): Clearing PARKED ends the redirect and re-evaluates the target. -/
  | targetUnpark (t : Fin 17)
  /-- PARK_REDIRECT (R458): The park time exceeds TIMEOUT_US, so the shared sources are redirected to ALT. -/
  | parkRedirect (t : Fin 16)
  /-- MSIX_UNMASK (R462): A mask, enable, BME or D3 condition ends, and a held message is sent or dropped. -/
  | msixUnmask (what : Fin 515)
  /-- HOST_DIS_WRITE (R464): A write of INT_GCTL.HOST_DIS disables or re-enables the host targets. -/
  | hostDisWrite (v : Bool)
  /-- FAULT_TAKE (R469): The collector takes a fault, raises or escalates its class, captures, logs and reacts. -/
  | faultTake (c : Fin 24)
  /-- FAULT_ACK (R474): A write of 1 to FLT_CLASS.RAISED clears the class and frees its capture. -/
  | faultAck (c : FaultAckOp)
  /-- FAULT_INJECT (R478): FLT_INJECT.GO raises a fault of the chosen class and level. -/
  | faultInject (c : Fin 32) (l : Fin 8)
  /-- COUNTER_CLEAR (R481): CNT_GCTL.CLEAR sets every counter to 0 in one cycle. -/
  | counterClear
  /-- COUNTER_READ (R484): A read of CNT_VAL_LO latches the HI word and, for a chained pair, the other half. -/
  | counterRead (i : Fin 32)
  /-- REWEAVE_GO (R506): WRP_CTL.GO starts a reweave: hold, read, validation and power-up. -/
  | reweaveGo
  /-- REWEAVE_LOAD (R506): After power-up and fences, the reweave writes its fields, lifts the fences and sets DONE. -/
  | reweaveLoad
  /-- AUTO_WRITE (R501): Autonomous program entry WRITE writes VALUE to OFFSET. -/
  | autoWrite
  /-- AUTO_WAIT (R501): Autonomous program entry WAIT polls OFFSET until the masked word equals VALUE. -/
  | autoWait
  /-- AUTO_WAIT_TIMEOUT (R502): A WAIT entry times out, so the program stops with AUTO_FAIL. -/
  | autoWaitTimeout
  /-- AUTO_DELAY (R501): Autonomous program entry DELAY waits VALUE µs before the next entry. -/
  | autoDelay
  /-- START_EVENT (R514): A start begins: the start count increments and the ROM, firmware, patch and warp phases run. -/
  | startEvent (avs : BootOp) (hbm : Bool)
  /-- START_READY (R514): Bring-up completes, records are read, MEM_MODE becomes NORMAL, BAR0 opens and READY sets. -/
  | startReady (quick : Bool)
  /-- START_FAIL (R519): A start fails, its reason is recorded and the failure counters move. -/
  | startFail (r : Fin 9)
  /-- RESTART_TIMER (R521): 100 ms after a failed start, the power controller begins a new start or a recovery boot. -/
  | restartTimer (avs : BootOp) (hbm : Bool)
  /-- SVC_WDOG_EXPIRY (R522): The service controller's watchdog expires, raising SVC_WDOG and scheduling a cold start. -/
  | svcWdogExpiry
  /-- RESET_ASSERT (R556): RESET_N is driven low long enough, and every domain except CK_AON is held in reset. -/
  | resetAssert (ns : Word)
  /-- MAILBOX_SEND (R535): A write of SEC_MB_OUT word 0 sends a mailbox message, or sets LOST. -/
  | mailboxSend (t : Fin 16) (w : Word)
  /-- MAILBOX_RELEASE (R535): Writing 1 to IN_VALID releases the mailbox reply. -/
  | mailboxRelease (t : Fin 16)
  /-- SHUTDOWN (R525): Mailbox command SHUTDOWN quiesces, writes tallies and the warm-start record, and halts. -/
  | shutdown
  /-- RESTART (R535): Mailbox command RESTART begins an AUTO, COLD or RECOVERY start. -/
  | restart
  /-- ATTEST (R534): Mailbox command ATTEST writes a signed attestation report. -/
  | attest
  /-- DEVCERT (R535): Mailbox command DEVCERT writes the device certificate. -/
  | devcert
  /-- ADVANCE (R532): Mailbox command ADVANCE raises the selected monotonic counters. -/
  | advance
  /-- OWNER_PROGRAM (R535): Mailbox command OWNER_PROGRAM programs an owner key slot's fuses. -/
  | ownerProgram
  /-- OWNER_REVOKE (R535): Mailbox command OWNER_REVOKE sets an owner slot's revoke bit. -/
  | ownerRevoke
  /-- TALLY_FLUSH (R535): Mailbox command TALLY_FLUSH writes the tallies to MRAM and the tiles without stopping output. -/
  | tallyFlush
  /-- REC_PROGRAM (R527): SEC_REC_CTL.GO with MODE PROGRAM verifies the recovery image, writes flash and starts cold. -/
  | recProgram (flashOk : Bool) (avs : BootOp)
  /-- REC_RUN (R527): SEC_REC_CTL.GO with MODE RUN verifies the recovery image and starts cold from HBM. -/
  | recRun (avs : BootOp)
  /-- START_CNT_READ (R544): A read of SEC_START_CNT_LO latches its HI word. -/
  | startCntRead
  /-- UCODE_PARITY_ERROR (R538): A sequencer detects a microword or nanoword parity error, stops, raises UCODE_PARITY and is fenced and reloaded. -/
  | ucodeParityError (q : Fin 24) (addr : Fin 16384)
  /-- AON_POWER_ON (R550): VDD_AON comes into range, and the crystal, AON epoch and I2C target start. -/
  | aonPowerOn
  /-- AON_BROWNOUT (R552): VDD_AON falls below 0.68 V, and every domain is held in reset. -/
  | aonBrownout
  /-- TEMP_SAMPLE (R553): Every 1 ms the die temperature is read from the highest of 24 sensors. -/
  | tempSample (l : List (BitVec 8)) (h0 h1 : BitVec 8)
  /-- MONITOR_TRIP (R553): A monitor passes its shutdown threshold, and the ENV condition holds. -/
  | monitorTrip (m : Fin 11) (v : Fin 4096)
  /-- MONITOR_RETURN (R553): A monitor lies inside its return limit for 1 ms and comes back. -/
  | monitorReturn (m : Fin 11) (v : Fin 4096)
  /-- THERMTRIP (R554): The die exceeds 125 °C, THERMTRIP_N asserts and every domain is held in reset. -/
  | thermtrip (t : BitVec 8)
  /-- AVS_STEP_DONE (R549): The regulator reports an AVSBus voltage step complete, and the next step may be issued. -/
  | avsStepDone (meas : Fin 4096) (next : Option (Fin 4096))
  /-- I2C_SHUTDOWN (R561): A write of 0xA5 to I2C offset 0x10 queues a SHUTDOWN mailbox command while READY. -/
  | i2cShutdown (v : Byte)
  /-- BYPASS (R562): JTAG instruction BYPASS. -/
  | bypass (bits : List Bool)
  /-- IDCODE (R562): JTAG instruction IDCODE returns the device identification code. -/
  | idcode
  /-- SAMPLE_PRELOAD (R562): JTAG instruction SAMPLE/PRELOAD. -/
  | samplePreload (pins cells : List Bool)
  /-- EXTEST (R562): JTAG instruction EXTEST. -/
  | extest (pins cells : List Bool)
  /-- CLAMP (R562): JTAG instruction CLAMP. -/
  | clamp
  /-- HIGHZ (R562): JTAG instruction HIGHZ. -/
  | highz
  /-- FAULT_LO_READ (R478): A read of a fault-register _LO word, such as FLT_LOG_SEQ_LO, FLT_FIRST_ADDR_LO or FLT_FIRST_TIME_LO, latches its _HI word. -/
  | faultLoRead (w : Fin 49)
  /-- FLR_COMPLETE (R417): A Function Level Reset completes, within 100 ms of its start, and HIF_STATUS.FLR sets, asserting its interrupt source. -/
  | flrComplete
  /-- RL_SYMBOL_LOCK_CHANGE (R342): The port's RL receiver loses or regains symbol lock, which sets BLK_STATUS.RL_LOSS on loss and starts or stops the 10 ms count that leads to a retrain. -/
  | rlSymbolLockChange (p : Fin 16) (lock : Bool) (errs : Word)
  /-- FAST_EXIT_BURST (R341): A port in electrical idle starts its 128 UI fast-exit burst early enough that the next SYNC still leaves at its instant. -/
  | fastExitBurst (p : Fin 16)
  deriving DecidableEq, Repr

end Sys2Proof
end

