-- ==== Sys2Proof/Machine/Store.lean ====
section
/-! DEFINITION. The sparse store that holds registers, memories and per-instance records, the shape of a register
field, and the bit-field and byte-order helpers. -/

namespace Sys2Proof.Machine

/-- A sparse store: (key, value) pairs, keys strictly rising, no value equal to the default an absent key reads as. -/
abbrev SMap (α : Type) := List (Nat × α)

/-- Read a key; an absent key reads as `d`. -/
def smGet {α : Type} (d : α) : SMap α → Nat → α
  | [], _ => d
  | (k, v) :: r, i => if k = i then v else smGet d r i

/-- Remove a key. -/
def smErase {α : Type} : SMap α → Nat → SMap α
  | [], _ => []
  | (k, v) :: r, i => if k = i then smErase r i else (k, v) :: smErase r i

/-- Insert a key that is absent, keeping the keys rising. -/
def smInsert {α : Type} (i : Nat) (x : α) : SMap α → SMap α
  | [] => [(i, x)]
  | (k, v) :: r => if i < k then (i, x) :: (k, v) :: r else (k, v) :: smInsert i x r

/-- Write a key; writing the default removes the entry, so equal stores are equal lists. -/
def smSet {α : Type} [DecidableEq α] (d : α) (m : SMap α) (i : Nat) (x : α) : SMap α :=
  if x = d then smErase m i else smInsert i x (smErase m i)

/-- Every key of the list lies above `lo`, the keys rise, and no value is the default. -/
def smWfFrom {α : Type} [DecidableEq α] (d : α) : Option Nat → SMap α → Bool
  | _, [] => true
  | none, (k, v) :: r => decide (v ≠ d) && smWfFrom d (some k) r
  | some lo, (k, v) :: r => decide (lo < k) && decide (v ≠ d) && smWfFrom d (some k) r

/-- The canonical form of a store. -/
def smWf {α : Type} [DecidableEq α] (d : α) (m : SMap α) : Bool := smWfFrom d none m

/-- Access types of register fields (Table 0-5, R8, 00_scope.md). -/
inductive Acc where
  /-- read only -/
  | ro
  /-- read/write -/
  | rw
  /-- write only -/
  | wo
  /-- write 1 to clear -/
  | w1c
  /-- write 1 to set -/
  | w1s
  /-- cleared on read -/
  | rc
  /-- writable until warp lock -/
  | rwl
  deriving DecidableEq, Repr

/-- A register field: the BAR0 offset of its word, its low bit, its width and its reset value. -/
structure Fld where
  off : Nat
  lo : Nat
  width : Nat
  reset : Nat
  deriving DecidableEq, Repr

/-- The key of a field in the register store: no two fields share a word and a low bit. -/
def Fld.key (F : Fld) : Nat := F.off * 32 + F.lo

/-- Bits [lo + w − 1 : lo] of a number. -/
def bitsOf (v lo w : Nat) : Nat := v / 2 ^ lo % 2 ^ w

/-- Bit `i` of a number, as 0 or 1. -/
def bitOf (v i : Nat) : Nat := v / 2 ^ i % 2

/-- Whether bit `i` of a number is 1. -/
def bitSet (v i : Nat) : Bool := bitOf v i == 1

/-- Set bit `i`. -/
def withBit (v i : Nat) : Nat := if bitSet v i then v else v + 2 ^ i

/-- Clear bit `i`. -/
def withoutBit (v i : Nat) : Nat := if bitSet v i then v - 2 ^ i else v

/-- The number a Bool reads as in a register. -/
def b2n (b : Bool) : Nat := if b then 1 else 0

/-- A two's-complement field of width `w` as an integer. -/
def signOf (w v : Nat) : Int := if v < 2 ^ (w - 1) then (v : Int) else (v : Int) - 2 ^ w

/-- An integer narrowed to a two's-complement field of width `w`. -/
def ofSign (w : Nat) (v : Int) : Nat := (v % (2 ^ w : Int)).toNat

/-- Little-endian bytes as a number (R6). -/
def leNat : List Byte → Nat
  | [] => 0
  | b :: r => b.toNat + 256 * leNat r

/-- A number as `n` little-endian bytes (R6). -/
def natLe : Nat → Nat → List Byte
  | 0, _ => []
  | n + 1, v => BitVec.ofNat 8 v :: natLe n (v / 256)

/-- The quotient rounded up. -/
def cdiv (a b : Nat) : Nat := if b = 0 then 0 else (a + b - 1) / b

/-- Replace the element at an index. -/
def setAt {α : Type} : List α → Nat → α → List α
  | [], _, _ => []
  | _ :: r, 0, x => x :: r
  | a :: r, n + 1, x => a :: setAt r n x

/-- The first element of a list with the least key, ties going to the earliest. -/
def minBy {α : Type} (key : α → Nat) : List α → Option α
  | [] => none
  | a :: r =>
    match minBy key r with
    | none => some a
    | some b => if key b < key a then some b else some a

/-- The largest r with r^k at most n, by bits from `b` down. -/
def rootFrom (k n : Nat) : Nat → Nat → Nat
  | 0, r => if (r + 1) ^ k ≤ n then r + 1 else r
  | b + 1, r => rootFrom k n b (if (r + 2 ^ (b + 1)) ^ k ≤ n then r + 2 ^ (b + 1) else r)

end Sys2Proof.Machine
end

