-- ==== Sys2Proof/Machine/RegsCore.lean ====
section
/-! DEFINITION. The register fields of the fabric-domain blocks: power, faults, counters, interrupts, pool, memory, host, DMA, warp loader, security, microcode.
One definition per field of the register tables of spec/, in the order of the tables; each names its address
within BAR0, its place in the word and its reset value, and each block ends with the list of its fields with their
access types (Table 0-5, R8). Written from the tables of the spec by a script of this model's own. -/

namespace Sys2Proof.Machine.R

/-- `GLB_CAPS_BLG`, Table 1-2 (R13, 01_architecture.md). -/
def GLB_CAPS_BLG : Fld := ⟨0x00000004, 26, 4, 0⟩
/-- `GLB_CAPS_ETH`, Table 1-2 (R13, 01_architecture.md). -/
def GLB_CAPS_ETH : Fld := ⟨0x00000004, 24, 2, 0⟩
/-- `GLB_CAPS_HBM`, Table 1-2 (R13, 01_architecture.md). -/
def GLB_CAPS_HBM : Fld := ⟨0x00000004, 22, 2, 0⟩
/-- `GLB_CAPS_PLY`, Table 1-2 (R13, 01_architecture.md). -/
def GLB_CAPS_PLY : Fld := ⟨0x00000004, 20, 2, 0⟩
/-- `GLB_CAPS_ENC`, Table 1-2 (R13, 01_architecture.md). -/
def GLB_CAPS_ENC : Fld := ⟨0x00000004, 16, 4, 0⟩
/-- `GLB_CAPS_DEC`, Table 1-2 (R13, 01_architecture.md). -/
def GLB_CAPS_DEC : Fld := ⟨0x00000004, 0, 16, 0⟩
/-- `GLB_TEMP_TJ`, Table 16-7 (R555, 16_electrical_and_package.md). -/
def GLB_TEMP_TJ : Fld := ⟨0x100, 0, 8, 0⟩
/-- `GLB_TEMP_PEAK`, Table 16-7 (R555, 16_electrical_and_package.md). -/
def GLB_TEMP_PEAK : Fld := ⟨0x100, 8, 8, 0⟩
/-- `GLB_VCORE_SET_MV`, Table 16-7 (R555, 16_electrical_and_package.md). -/
def GLB_VCORE_SET_MV : Fld := ⟨0x104, 0, 12, 750⟩
/-- `GLB_VCORE_MEAS_MV`, Table 16-7 (R555, 16_electrical_and_package.md). -/
def GLB_VCORE_MEAS_MV : Fld := ⟨0x104, 16, 12, 0⟩
/-- `GLB_VCORE_AVS_FAIL`, Table 16-7 (R555, 16_electrical_and_package.md). -/
def GLB_VCORE_AVS_FAIL : Fld := ⟨0x104, 31, 1, 0⟩
/-- `GLB_ENV`, Table 16-7 (R555, 16_electrical_and_package.md). -/
def GLB_ENV : Fld := ⟨0x108, 0, 11, 0⟩

/-- The fields of block `glb` with their access types. -/
def regsGlb : List (Acc × Fld) :=
  [(Acc.ro, GLB_CAPS_BLG),
   (Acc.ro, GLB_CAPS_ETH),
   (Acc.ro, GLB_CAPS_HBM),
   (Acc.ro, GLB_CAPS_PLY),
   (Acc.ro, GLB_CAPS_ENC),
   (Acc.ro, GLB_CAPS_DEC),
   (Acc.ro, GLB_TEMP_TJ),
   (Acc.ro, GLB_TEMP_PEAK),
   (Acc.ro, GLB_VCORE_SET_MV),
   (Acc.ro, GLB_VCORE_MEAS_MV),
   (Acc.ro, GLB_VCORE_AVS_FAIL),
   (Acc.ro, GLB_ENV)]

/-- `PWR_CTL_GO`, Table 1-8 (R30, 01_architecture.md). -/
def PWR_CTL_GO : Fld := ⟨0x01200000, 31, 1, 0⟩
/-- `PWR_CTL_FORCE`, Table 1-8 (R30, 01_architecture.md). -/
def PWR_CTL_FORCE : Fld := ⟨0x01200000, 8, 1, 0⟩
/-- `PWR_CTL_TARGET`, Table 1-8 (R30, 01_architecture.md). -/
def PWR_CTL_TARGET : Fld := ⟨0x01200000, 5, 2, 0⟩
/-- `PWR_CTL_ISLAND`, Table 1-8 (R30, 01_architecture.md). -/
def PWR_CTL_ISLAND : Fld := ⟨0x01200000, 0, 5, 0⟩
/-- `PWR_DRAIN_LIMIT_LIMIT`, Table 1-9 (R30, 01_architecture.md). -/
def PWR_DRAIN_LIMIT_LIMIT : Fld := ⟨0x01200000 + 0x4, 0, 24, 25000⟩
/-- `PWR_STATUS_LAST_ISLAND`, Table 1-10 (R30, 01_architecture.md). -/
def PWR_STATUS_LAST_ISLAND : Fld := ⟨0x01200000 + 0x8, 8, 5, 0⟩
/-- `PWR_STATUS_REJECTED`, Table 1-10 (R30, 01_architecture.md). -/
def PWR_STATUS_REJECTED : Fld := ⟨0x01200000 + 0x8, 4, 1, 0⟩
/-- `PWR_STATUS_FORCED`, Table 1-10 (R30, 01_architecture.md). -/
def PWR_STATUS_FORCED : Fld := ⟨0x01200000 + 0x8, 3, 1, 0⟩
/-- `PWR_STATUS_ABANDONED`, Table 1-10 (R30, 01_architecture.md). -/
def PWR_STATUS_ABANDONED : Fld := ⟨0x01200000 + 0x8, 2, 1, 0⟩
/-- `PWR_STATUS_DONE`, Table 1-10 (R30, 01_architecture.md). -/
def PWR_STATUS_DONE : Fld := ⟨0x01200000 + 0x8, 1, 1, 0⟩
/-- `PWR_STATUS_BUSY`, Table 1-10 (R30, 01_architecture.md). -/
def PWR_STATUS_BUSY : Fld := ⟨0x01200000 + 0x8, 0, 1, 0⟩
/-- `PWR_UNIT_RST_GO`, Table 1-13 (R43, 01_architecture.md). -/
def PWR_UNIT_RST_GO : Fld := ⟨0x01200000 + 0xC, 31, 1, 0⟩
/-- `PWR_UNIT_RST_MASTER`, Table 1-13 (R43, 01_architecture.md). -/
def PWR_UNIT_RST_MASTER : Fld := ⟨0x01200000 + 0xC, 0, 8, 0⟩

/-- The fields of block `pwr` with their access types. -/
def regsPwr : List (Acc × Fld) :=
  [(Acc.w1s, PWR_CTL_GO),
   (Acc.rw, PWR_CTL_FORCE),
   (Acc.rw, PWR_CTL_TARGET),
   (Acc.rw, PWR_CTL_ISLAND),
   (Acc.rw, PWR_DRAIN_LIMIT_LIMIT),
   (Acc.ro, PWR_STATUS_LAST_ISLAND),
   (Acc.w1c, PWR_STATUS_REJECTED),
   (Acc.w1c, PWR_STATUS_FORCED),
   (Acc.w1c, PWR_STATUS_ABANDONED),
   (Acc.w1c, PWR_STATUS_DONE),
   (Acc.ro, PWR_STATUS_BUSY),
   (Acc.w1s, PWR_UNIT_RST_GO)] ++
  [(Acc.rw, PWR_UNIT_RST_MASTER)]

/-- `PWR_ISL_STATE_OUTSTANDING`, Table 1-11 (R30, 01_architecture.md). -/
def PWR_ISL_STATE_OUTSTANDING (i : Nat) : Fld := ⟨0x01200100 + 4 * i, 8, 8, 0⟩
/-- `PWR_ISL_STATE_ABSENT`, Table 1-11 (R30, 01_architecture.md). -/
def PWR_ISL_STATE_ABSENT (i : Nat) : Fld := ⟨0x01200100 + 4 * i, 3, 1, 0⟩
/-- `PWR_ISL_STATE_SWITCHABLE`, Table 1-11 (R30, 01_architecture.md). -/
def PWR_ISL_STATE_SWITCHABLE (i : Nat) : Fld := ⟨0x01200100 + 4 * i, 2, 1, 0⟩
/-- `PWR_ISL_STATE_STATE`, Table 1-11 (R30, 01_architecture.md). -/
def PWR_ISL_STATE_STATE (i : Nat) : Fld := ⟨0x01200100 + 4 * i, 0, 2, 3⟩

/-- The fields of block `pwrIsl` with their access types. -/
def regsPwrIsl (i : Nat) : List (Acc × Fld) :=
  [(Acc.ro, PWR_ISL_STATE_OUTSTANDING i),
   (Acc.ro, PWR_ISL_STATE_ABSENT i),
   (Acc.rwl, PWR_ISL_STATE_SWITCHABLE i),
   (Acc.ro, PWR_ISL_STATE_STATE i)]

/-- `FLT_SUMMARY`, Table 13-4 (R478, 13_faults_and_counters.md). -/
def FLT_SUMMARY : Fld := ⟨0x01000000, 0, 24, 0⟩
/-- `FLT_STATE_HIGHEST`, Table 13-4 (R478, 13_faults_and_counters.md). -/
def FLT_STATE_HIGHEST : Fld := ⟨0x01000000 + 0x004, 0, 3, 0⟩
/-- `FLT_STATE_ANY`, Table 13-4 (R478, 13_faults_and_counters.md). -/
def FLT_STATE_ANY : Fld := ⟨0x01000000 + 0x004, 3, 1, 0⟩
/-- `FLT_STATE_DEVICE`, Table 13-4 (R478, 13_faults_and_counters.md). -/
def FLT_STATE_DEVICE : Fld := ⟨0x01000000 + 0x004, 4, 1, 0⟩
/-- `FLT_INJECT_CLASS`, Table 13-4 (R478, 13_faults_and_counters.md). -/
def FLT_INJECT_CLASS : Fld := ⟨0x01000000 + 0x008, 0, 5, 0⟩
/-- `FLT_INJECT_LEVEL`, Table 13-4 (R478, 13_faults_and_counters.md). -/
def FLT_INJECT_LEVEL : Fld := ⟨0x01000000 + 0x008, 8, 3, 0⟩
/-- `FLT_INJECT_GO`, Table 13-4 (R478, 13_faults_and_counters.md). -/
def FLT_INJECT_GO : Fld := ⟨0x01000000 + 0x008, 31, 1, 0⟩
/-- `FLT_LOG_SEQ_LO`, Table 13-4 (R478, 13_faults_and_counters.md). -/
def FLT_LOG_SEQ_LO : Fld := ⟨0x01000000 + 0x010, 0, 32, 0⟩
/-- `FLT_LOG_SEQ_HI`, Table 13-4 (R478, 13_faults_and_counters.md). -/
def FLT_LOG_SEQ_HI : Fld := ⟨0x01000000 + 0x014, 0, 32, 0⟩
/-- `FLT_LOG_DROP`, Table 13-4 (R478, 13_faults_and_counters.md). -/
def FLT_LOG_DROP : Fld := ⟨0x01000000 + 0x018, 0, 32, 0⟩
/-- `FLT_LOST`, Table 13-4 (R478, 13_faults_and_counters.md). -/
def FLT_LOST : Fld := ⟨0x01000000 + 0x01C, 0, 32, 0⟩

/-- The fields of block `flt` with their access types. -/
def regsFlt : List (Acc × Fld) :=
  [(Acc.ro, FLT_SUMMARY),
   (Acc.ro, FLT_STATE_HIGHEST),
   (Acc.ro, FLT_STATE_ANY),
   (Acc.ro, FLT_STATE_DEVICE),
   (Acc.wo, FLT_INJECT_CLASS),
   (Acc.wo, FLT_INJECT_LEVEL),
   (Acc.wo, FLT_INJECT_GO),
   (Acc.ro, FLT_LOG_SEQ_LO),
   (Acc.ro, FLT_LOG_SEQ_HI),
   (Acc.ro, FLT_LOG_DROP),
   (Acc.ro, FLT_LOST)]

/-- The reset value of `FLT_CLASS[n].CEIL` (Table 13-1, R466): the column "CEIL reset". -/
def ceilReset (n : Nat) : Nat :=
  ([3, 1, 1, 3, 3, 3, 3, 3, 3, 3, 4, 2, 1, 1, 2, 1, 1, 4, 0, 0, 1, 1, 4, 4] : List Nat).getD n 0

/-- `FLT_CLASS_RAISED`, Table 13-4 (R478, 13_faults_and_counters.md). -/
def FLT_CLASS_RAISED (n : Nat) : Fld := ⟨0x01000100 + 0x20 * n, 0, 1, 0⟩
/-- `FLT_CLASS_LEVEL`, Table 13-4 (R478, 13_faults_and_counters.md). -/
def FLT_CLASS_LEVEL (n : Nat) : Fld := ⟨0x01000100 + 0x20 * n, 4, 3, 0⟩
/-- `FLT_CLASS_CEIL`, Table 13-4 (R478, 13_faults_and_counters.md). -/
def FLT_CLASS_CEIL (n : Nat) : Fld := ⟨0x01000100 + 0x20 * n, 8, 3, (ceilReset n)⟩
/-- `FLT_CLASS_CAUSE`, Table 13-4 (R478, 13_faults_and_counters.md). -/
def FLT_CLASS_CAUSE (n : Nat) : Fld := ⟨0x01000100 + 0x20 * n, 12, 1, 0⟩
/-- `FLT_COUNT`, Table 13-4 (R478, 13_faults_and_counters.md). -/
def FLT_COUNT (n : Nat) : Fld := ⟨0x01000100 + 0x20 * n + 0x04, 0, 32, 0⟩
/-- `FLT_FIRST_ADDR_LO`, Table 13-4 (R478, 13_faults_and_counters.md). -/
def FLT_FIRST_ADDR_LO (n : Nat) : Fld := ⟨0x01000100 + 0x20 * n + 0x08, 0, 32, 0⟩
/-- `FLT_FIRST_ADDR_HI`, Table 13-4 (R478, 13_faults_and_counters.md). -/
def FLT_FIRST_ADDR_HI (n : Nat) : Fld := ⟨0x01000100 + 0x20 * n + 0x0C, 0, 16, 0⟩
/-- `FLT_FIRST_INFO_MASTER`, Table 13-4 (R478, 13_faults_and_counters.md). -/
def FLT_FIRST_INFO_MASTER (n : Nat) : Fld := ⟨0x01000100 + 0x20 * n + 0x10, 0, 8, 0⟩
/-- `FLT_FIRST_INFO_ACCESS`, Table 13-4 (R478, 13_faults_and_counters.md). -/
def FLT_FIRST_INFO_ACCESS (n : Nat) : Fld := ⟨0x01000100 + 0x20 * n + 0x10, 8, 3, 0⟩
/-- `FLT_FIRST_INFO_CTX`, Table 13-4 (R478, 13_faults_and_counters.md). -/
def FLT_FIRST_INFO_CTX (n : Nat) : Fld := ⟨0x01000100 + 0x20 * n + 0x10, 16, 8, 255⟩
/-- `FLT_FIRST_INFO_LEVEL`, Table 13-4 (R478, 13_faults_and_counters.md). -/
def FLT_FIRST_INFO_LEVEL (n : Nat) : Fld := ⟨0x01000100 + 0x20 * n + 0x10, 24, 3, 0⟩
/-- `FLT_FIRST_INFO_VALID`, Table 13-4 (R478, 13_faults_and_counters.md). -/
def FLT_FIRST_INFO_VALID (n : Nat) : Fld := ⟨0x01000100 + 0x20 * n + 0x10, 31, 1, 0⟩
/-- `FLT_FIRST_TIME_LO`, Table 13-4 (R478, 13_faults_and_counters.md). -/
def FLT_FIRST_TIME_LO (n : Nat) : Fld := ⟨0x01000100 + 0x20 * n + 0x14, 0, 32, 0⟩
/-- `FLT_FIRST_TIME_HI`, Table 13-4 (R478, 13_faults_and_counters.md). -/
def FLT_FIRST_TIME_HI (n : Nat) : Fld := ⟨0x01000100 + 0x20 * n + 0x18, 0, 32, 0⟩

/-- The fields of block `fltClass` with their access types. -/
def regsFltClass (n : Nat) : List (Acc × Fld) :=
  [(Acc.w1c, FLT_CLASS_RAISED n),
   (Acc.ro, FLT_CLASS_LEVEL n),
   (Acc.rw, FLT_CLASS_CEIL n),
   (Acc.ro, FLT_CLASS_CAUSE n),
   (Acc.ro, FLT_COUNT n),
   (Acc.ro, FLT_FIRST_ADDR_LO n),
   (Acc.ro, FLT_FIRST_ADDR_HI n),
   (Acc.ro, FLT_FIRST_INFO_MASTER n),
   (Acc.ro, FLT_FIRST_INFO_ACCESS n),
   (Acc.ro, FLT_FIRST_INFO_CTX n),
   (Acc.ro, FLT_FIRST_INFO_LEVEL n),
   (Acc.ro, FLT_FIRST_INFO_VALID n)] ++
  [(Acc.ro, FLT_FIRST_TIME_LO n),
   (Acc.ro, FLT_FIRST_TIME_HI n)]

/-- `CNT_SEL_EVENT`, Table 13-6 (R481, 13_faults_and_counters.md). -/
def CNT_SEL_EVENT (i : Nat) : Fld := ⟨0x01100000 + 0x20 * i, 0, 10, 0⟩
/-- `CNT_CTL_EN`, Table 13-6 (R481, 13_faults_and_counters.md). -/
def CNT_CTL_EN (i : Nat) : Fld := ⟨0x01100000 + 0x20 * i + 0x04, 0, 1, 0⟩
/-- `CNT_CTL_CHAIN`, Table 13-6 (R481, 13_faults_and_counters.md). -/
def CNT_CTL_CHAIN (i : Nat) : Fld := ⟨0x01100000 + 0x20 * i + 0x04, 1, 1, 0⟩
/-- `CNT_CTL_OVF_INT`, Table 13-6 (R481, 13_faults_and_counters.md). -/
def CNT_CTL_OVF_INT (i : Nat) : Fld := ⟨0x01100000 + 0x20 * i + 0x04, 2, 1, 0⟩
/-- `CNT_CTL_PRIV`, Table 13-6 (R481, 13_faults_and_counters.md). -/
def CNT_CTL_PRIV (i : Nat) : Fld := ⟨0x01100000 + 0x20 * i + 0x04, 4, 4, 15⟩
/-- `CNT_CTL_MASTER_EN`, Table 13-6 (R481, 13_faults_and_counters.md). -/
def CNT_CTL_MASTER_EN (i : Nat) : Fld := ⟨0x01100000 + 0x20 * i + 0x04, 8, 1, 0⟩
/-- `CNT_CTL_MASTER`, Table 13-6 (R481, 13_faults_and_counters.md). -/
def CNT_CTL_MASTER (i : Nat) : Fld := ⟨0x01100000 + 0x20 * i + 0x04, 16, 8, 0⟩
/-- `CNT_CTL_TC`, Table 13-6 (R481, 13_faults_and_counters.md). -/
def CNT_CTL_TC (i : Nat) : Fld := ⟨0x01100000 + 0x20 * i + 0x04, 24, 8, 255⟩
/-- `CNT_BASE_LO`, Table 13-6 (R481, 13_faults_and_counters.md). -/
def CNT_BASE_LO (i : Nat) : Fld := ⟨0x01100000 + 0x20 * i + 0x08, 6, 26, 0⟩
/-- `CNT_BASE_HI`, Table 13-6 (R481, 13_faults_and_counters.md). -/
def CNT_BASE_HI (i : Nat) : Fld := ⟨0x01100000 + 0x20 * i + 0x0C, 0, 16, 0⟩
/-- `CNT_BASE_HI_RANGE_EN`, Table 13-6 (R481, 13_faults_and_counters.md). -/
def CNT_BASE_HI_RANGE_EN (i : Nat) : Fld := ⟨0x01100000 + 0x20 * i + 0x0C, 31, 1, 0⟩
/-- `CNT_LIMIT_LO`, Table 13-6 (R481, 13_faults_and_counters.md). -/
def CNT_LIMIT_LO (i : Nat) : Fld := ⟨0x01100000 + 0x20 * i + 0x10, 6, 26, 0⟩
/-- `CNT_LIMIT_HI`, Table 13-6 (R481, 13_faults_and_counters.md). -/
def CNT_LIMIT_HI (i : Nat) : Fld := ⟨0x01100000 + 0x20 * i + 0x14, 0, 16, 0⟩
/-- `CNT_VAL_LO`, Table 13-6 (R481, 13_faults_and_counters.md). -/
def CNT_VAL_LO (i : Nat) : Fld := ⟨0x01100000 + 0x20 * i + 0x18, 0, 32, 0⟩
/-- `CNT_VAL_HI`, Table 13-6 (R481, 13_faults_and_counters.md). -/
def CNT_VAL_HI (i : Nat) : Fld := ⟨0x01100000 + 0x20 * i + 0x1C, 0, 16, 0⟩

/-- The fields of block `cnt` with their access types. -/
def regsCnt (i : Nat) : List (Acc × Fld) :=
  [(Acc.rwl, CNT_SEL_EVENT i),
   (Acc.rw, CNT_CTL_EN i),
   (Acc.rw, CNT_CTL_CHAIN i),
   (Acc.rw, CNT_CTL_OVF_INT i),
   (Acc.rw, CNT_CTL_PRIV i),
   (Acc.rw, CNT_CTL_MASTER_EN i),
   (Acc.rw, CNT_CTL_MASTER i),
   (Acc.rw, CNT_CTL_TC i),
   (Acc.rw, CNT_BASE_LO i),
   (Acc.rw, CNT_BASE_HI i),
   (Acc.rw, CNT_BASE_HI_RANGE_EN i),
   (Acc.rw, CNT_LIMIT_LO i)] ++
  [(Acc.rw, CNT_LIMIT_HI i),
   (Acc.ro, CNT_VAL_LO i),
   (Acc.ro, CNT_VAL_HI i)]

/-- `CNT_GCTL_CLEAR`, Table 13-6 (R481, 13_faults_and_counters.md). -/
def CNT_GCTL_CLEAR : Fld := ⟨0x01100400, 0, 1, 0⟩
/-- `CNT_STATUS_OVF`, Table 13-6 (R481, 13_faults_and_counters.md). -/
def CNT_STATUS_OVF : Fld := ⟨0x01100400 + 0x4, 0, 32, 0⟩

/-- The fields of block `cntG` with their access types. -/
def regsCntG : List (Acc × Fld) :=
  [(Acc.w1s, CNT_GCTL_CLEAR),
   (Acc.w1c, CNT_STATUS_OVF)]

/-- `INT_GCTL_HOST_DIS`, Table 12-5 (R465, 12_interrupt_controller.md). -/
def INT_GCTL_HOST_DIS : Fld := ⟨0x00F00000, 0, 1, 0⟩
/-- `INT_STATUS_TGT_REJECT`, Table 12-5 (R465, 12_interrupt_controller.md). -/
def INT_STATUS_TGT_REJECT : Fld := ⟨0x00F00000 + 0x004, 0, 1, 0⟩
/-- `INT_SGI_TARGET`, Table 12-5 (R465, 12_interrupt_controller.md). -/
def INT_SGI_TARGET : Fld := ⟨0x00F00000 + 0x008, 16, 5, 0⟩
/-- `INT_SGI_K`, Table 12-5 (R465, 12_interrupt_controller.md). -/
def INT_SGI_K : Fld := ⟨0x00F00000 + 0x008, 0, 2, 0⟩

/-- The fields of block `intG` with their access types. -/
def regsIntG : List (Acc × Fld) :=
  [(Acc.rw, INT_GCTL_HOST_DIS),
   (Acc.w1c, INT_STATUS_TGT_REJECT),
   (Acc.wo, INT_SGI_TARGET),
   (Acc.wo, INT_SGI_K)]

/-- `INT_SRC_PENDING`, Table 12-2 (R450, 12_interrupt_controller.md). -/
def INT_SRC_PENDING (n : Nat) : Fld := ⟨0x00F01000 + 4 * n, 31, 1, 0⟩
/-- `INT_SRC_ACTIVE`, Table 12-2 (R450, 12_interrupt_controller.md). -/
def INT_SRC_ACTIVE (n : Nat) : Fld := ⟨0x00F01000 + 4 * n, 30, 1, 0⟩
/-- `INT_SRC_LEVEL`, Table 12-2 (R450, 12_interrupt_controller.md). -/
def INT_SRC_LEVEL (n : Nat) : Fld := ⟨0x00F01000 + 4 * n, 29, 1, 0⟩
/-- `INT_SRC_REDIR`, Table 12-2 (R450, 12_interrupt_controller.md). -/
def INT_SRC_REDIR (n : Nat) : Fld := ⟨0x00F01000 + 4 * n, 28, 1, 0⟩
/-- `INT_SRC_LATCHED`, Table 12-2 (R450, 12_interrupt_controller.md). -/
def INT_SRC_LATCHED (n : Nat) : Fld := ⟨0x00F01000 + 4 * n, 27, 1, (if n < 136 ∧ (n % 8 < 4 ∨ n % 8 = 6 ∨ n % 8 = 7) then 1 else 0)⟩
/-- `INT_SRC_TARGET`, Table 12-2 (R450, 12_interrupt_controller.md). -/
def INT_SRC_TARGET (n : Nat) : Fld := ⟨0x00F01000 + 4 * n, 16, 5, (if n < 136 then n / 8 else 0)⟩
/-- `INT_SRC_PRIORITY`, Table 12-2 (R450, 12_interrupt_controller.md). -/
def INT_SRC_PRIORITY (n : Nat) : Fld := ⟨0x00F01000 + 4 * n, 8, 4, 0⟩
/-- `INT_SRC_EN`, Table 12-2 (R450, 12_interrupt_controller.md). -/
def INT_SRC_EN (n : Nat) : Fld := ⟨0x00F01000 + 4 * n, 0, 1, 0⟩

/-- The fields of block `intSrc` with their access types. -/
def regsIntSrc (n : Nat) : List (Acc × Fld) :=
  [(Acc.ro, INT_SRC_PENDING n),
   (Acc.ro, INT_SRC_ACTIVE n),
   (Acc.ro, INT_SRC_LEVEL n),
   (Acc.ro, INT_SRC_REDIR n),
   (Acc.ro, INT_SRC_LATCHED n),
   (Acc.rw, INT_SRC_TARGET n),
   (Acc.rwl, INT_SRC_PRIORITY n),
   (Acc.rw, INT_SRC_EN n)]

/-- `INT_TGT_CTL_EN`, Table 12-3 (R453, 12_interrupt_controller.md). -/
def INT_TGT_CTL_EN (t : Nat) : Fld := ⟨0x00F02000 + 0x40 * t, 0, 1, 0⟩
/-- `INT_TGT_CTL_PARKED`, Table 12-3 (R453, 12_interrupt_controller.md). -/
def INT_TGT_CTL_PARKED (t : Nat) : Fld := ⟨0x00F02000 + 0x40 * t, 1, 1, 0⟩
/-- `INT_CLAIM_SOURCE`, Table 12-3 (R453, 12_interrupt_controller.md). -/
def INT_CLAIM_SOURCE (t : Nat) : Fld := ⟨0x00F02000 + 0x40 * t + 0x04, 0, 10, 1023⟩
/-- `INT_CLAIM_PRIORITY`, Table 12-3 (R453, 12_interrupt_controller.md). -/
def INT_CLAIM_PRIORITY (t : Nat) : Fld := ⟨0x00F02000 + 0x40 * t + 0x04, 16, 4, 0⟩
/-- `INT_EOI_SOURCE`, Table 12-3 (R453, 12_interrupt_controller.md). -/
def INT_EOI_SOURCE (t : Nat) : Fld := ⟨0x00F02000 + 0x40 * t + 0x08, 0, 10, 0⟩
/-- `INT_RUNPRI_RUNNING`, Table 12-3 (R453, 12_interrupt_controller.md). -/
def INT_RUNPRI_RUNNING (t : Nat) : Fld := ⟨0x00F02000 + 0x40 * t + 0x0C, 0, 5, 16⟩
/-- `INT_RUNPRI_DEPTH`, Table 12-3 (R453, 12_interrupt_controller.md). -/
def INT_RUNPRI_DEPTH (t : Nat) : Fld := ⟨0x00F02000 + 0x40 * t + 0x0C, 8, 5, 0⟩
/-- `INT_RUNPRI_TOP`, Table 12-3 (R453, 12_interrupt_controller.md). -/
def INT_RUNPRI_TOP (t : Nat) : Fld := ⟨0x00F02000 + 0x40 * t + 0x0C, 16, 10, 1023⟩
/-- `INT_HIPEND_SOURCE`, Table 12-3 (R453, 12_interrupt_controller.md). -/
def INT_HIPEND_SOURCE (t : Nat) : Fld := ⟨0x00F02000 + 0x40 * t + 0x10, 0, 10, 1023⟩
/-- `INT_HIPEND_PRIORITY`, Table 12-3 (R453, 12_interrupt_controller.md). -/
def INT_HIPEND_PRIORITY (t : Nat) : Fld := ⟨0x00F02000 + 0x40 * t + 0x10, 16, 4, 0⟩
/-- `INT_TGT_WAKE_ALT`, Table 12-3 (R453, 12_interrupt_controller.md). -/
def INT_TGT_WAKE_ALT (t : Nat) : Fld := ⟨0x00F02000 + 0x40 * t + 0x14, 0, 5, 0⟩
/-- `INT_TGT_WAKE_EN`, Table 12-3 (R453, 12_interrupt_controller.md). -/
def INT_TGT_WAKE_EN (t : Nat) : Fld := ⟨0x00F02000 + 0x40 * t + 0x14, 7, 1, 0⟩
/-- `INT_TGT_WAKE_TIMEOUT_US`, Table 12-3 (R453, 12_interrupt_controller.md). -/
def INT_TGT_WAKE_TIMEOUT_US (t : Nat) : Fld := ⟨0x00F02000 + 0x40 * t + 0x14, 16, 16, 0⟩
/-- `INT_TGT_STATUS_BAD_EOI`, Table 12-3 (R453, 12_interrupt_controller.md). -/
def INT_TGT_STATUS_BAD_EOI (t : Nat) : Fld := ⟨0x00F02000 + 0x40 * t + 0x18, 0, 1, 0⟩
/-- `INT_TGT_STATUS_REDIRECTED`, Table 12-3 (R453, 12_interrupt_controller.md). -/
def INT_TGT_STATUS_REDIRECTED (t : Nat) : Fld := ⟨0x00F02000 + 0x40 * t + 0x18, 1, 1, 0⟩
/-- `INT_TGT_STATUS_MSG_HELD`, Table 12-3 (R453, 12_interrupt_controller.md). -/
def INT_TGT_STATUS_MSG_HELD (t : Nat) : Fld := ⟨0x00F02000 + 0x40 * t + 0x18, 2, 1, 0⟩
/-- `INT_TGT_TIMER_LO`, Table 12-3 (R453, 12_interrupt_controller.md). -/
def INT_TGT_TIMER_LO (t : Nat) : Fld := ⟨0x00F02000 + 0x40 * t + 0x1C, 0, 32, 0⟩
/-- `INT_TGT_TIMER_HI`, Table 12-3 (R453, 12_interrupt_controller.md). -/
def INT_TGT_TIMER_HI (t : Nat) : Fld := ⟨0x00F02000 + 0x40 * t + 0x20, 0, 32, 0⟩

/-- The fields of block `intTgt` with their access types. -/
def regsIntTgt (t : Nat) : List (Acc × Fld) :=
  [(Acc.rw, INT_TGT_CTL_EN t),
   (Acc.rw, INT_TGT_CTL_PARKED t),
   (Acc.ro, INT_CLAIM_SOURCE t),
   (Acc.ro, INT_CLAIM_PRIORITY t),
   (Acc.wo, INT_EOI_SOURCE t),
   (Acc.ro, INT_RUNPRI_RUNNING t),
   (Acc.ro, INT_RUNPRI_DEPTH t),
   (Acc.ro, INT_RUNPRI_TOP t),
   (Acc.ro, INT_HIPEND_SOURCE t),
   (Acc.ro, INT_HIPEND_PRIORITY t),
   (Acc.rw, INT_TGT_WAKE_ALT t),
   (Acc.rw, INT_TGT_WAKE_EN t)] ++
  [(Acc.rw, INT_TGT_WAKE_TIMEOUT_US t),
   (Acc.w1c, INT_TGT_STATUS_BAD_EOI t),
   (Acc.ro, INT_TGT_STATUS_REDIRECTED t),
   (Acc.ro, INT_TGT_STATUS_MSG_HELD t),
   (Acc.rw, INT_TGT_TIMER_LO t),
   (Acc.rw, INT_TGT_TIMER_HI t)]

/-- `INT_SUM_CTX`, Table 12-6 (R465, 12_interrupt_controller.md). -/
def INT_SUM_CTX (j : Nat) : Fld := ⟨0x00F03000 + 0x00 + 4 * j, 0, 32, 0⟩
/-- `INT_SUM_FLOW`, Table 12-6 (R465, 12_interrupt_controller.md). -/
def INT_SUM_FLOW (j : Nat) : Fld := ⟨0x00F03000 + 0x10 + 4 * j, 0, 32, 0⟩
/-- `INT_SUM_POOL`, Table 12-6 (R465, 12_interrupt_controller.md). -/
def INT_SUM_POOL (j : Nat) : Fld := ⟨0x00F03000 + 0x30 + 4 * j, 0, 32, 0⟩

/-- The fields of block `intSum` with their access types. -/
def regsIntSum : List (Acc × Fld) :=
  (List.range 4).map (fun j => (Acc.ro, INT_SUM_CTX j)) ++
  (List.range 8).map (fun j => (Acc.ro, INT_SUM_FLOW j)) ++
  (List.range 2).map (fun j => (Acc.ro, INT_SUM_POOL j))

/-- `MSIX_ADDR_LO` (R465, 12_interrupt_controller.md). -/
def MSIX_ADDR_LO (v : Nat) : Fld := ⟨0x00F80000 + 0x10 * v, 0, 32, 0⟩
/-- `MSIX_ADDR_HI` (R465, 12_interrupt_controller.md). -/
def MSIX_ADDR_HI (v : Nat) : Fld := ⟨0x00F80000 + 0x10 * v + 0x4, 0, 32, 0⟩
/-- `MSIX_DATA` (R465, 12_interrupt_controller.md). -/
def MSIX_DATA (v : Nat) : Fld := ⟨0x00F80000 + 0x10 * v + 0x8, 0, 32, 0⟩
/-- `MSIX_CTRL_MASK` (R465, 12_interrupt_controller.md). -/
def MSIX_CTRL_MASK (v : Nat) : Fld := ⟨0x00F80000 + 0x10 * v + 0xC, 0, 1, 1⟩

/-- The fields of block `msix` with their access types. -/
def regsMsix (v : Nat) : List (Acc × Fld) :=
  [(Acc.rw, MSIX_ADDR_LO v),
   (Acc.rw, MSIX_ADDR_HI v),
   (Acc.rw, MSIX_DATA v),
   (Acc.rw, MSIX_CTRL_MASK v)]

/-- `MSIX_PBA` (R465, 12_interrupt_controller.md). -/
def MSIX_PBA (j : Nat) : Fld := ⟨0x00F82000 + 4 * j, 0, 32, 0⟩

/-- The fields of block `pba` with their access types. -/
def regsPba : List (Acc × Fld) :=
  (List.range 16).map (fun j => (Acc.ro, MSIX_PBA j))

/-- `POOL_CTL_CMD`, Table 9-4 (R371, 09_bobbin_pool.md). -/
def POOL_CTL_CMD (p : Nat) : Fld := ⟨0x00C00000 + 0x40 * p, 28, 4, 0⟩
/-- `POOL_CTL_LOG2`, Table 9-4 (R371, 09_bobbin_pool.md). -/
def POOL_CTL_LOG2 (p : Nat) : Fld := ⟨0x00C00000 + 0x40 * p, 16, 5, 0⟩
/-- `POOL_CTL_STATE`, Table 9-4 (R371, 09_bobbin_pool.md). -/
def POOL_CTL_STATE (p : Nat) : Fld := ⟨0x00C00000 + 0x40 * p, 0, 3, 0⟩
/-- `POOL_BASE_LO`, Table 9-4 (R371, 09_bobbin_pool.md). -/
def POOL_BASE_LO (p : Nat) : Fld := ⟨0x00C00000 + 0x40 * p + 0x04, 0, 32, 0⟩
/-- `POOL_BASE_HI`, Table 9-4 (R371, 09_bobbin_pool.md). -/
def POOL_BASE_HI (p : Nat) : Fld := ⟨0x00C00000 + 0x40 * p + 0x08, 0, 9, 0⟩
/-- `POOL_COUNT`, Table 9-4 (R371, 09_bobbin_pool.md). -/
def POOL_COUNT (p : Nat) : Fld := ⟨0x00C00000 + 0x40 * p + 0x0C, 0, 25, 0⟩
/-- `POOL_META_LO`, Table 9-4 (R371, 09_bobbin_pool.md). -/
def POOL_META_LO (p : Nat) : Fld := ⟨0x00C00000 + 0x40 * p + 0x10, 0, 32, 0⟩
/-- `POOL_META_HI`, Table 9-4 (R371, 09_bobbin_pool.md). -/
def POOL_META_HI (p : Nat) : Fld := ⟨0x00C00000 + 0x40 * p + 0x14, 0, 9, 0⟩
/-- `POOL_FREE`, Table 9-4 (R371, 09_bobbin_pool.md). -/
def POOL_FREE (p : Nat) : Fld := ⟨0x00C00000 + 0x40 * p + 0x18, 0, 25, 0⟩
/-- `POOL_LOW`, Table 9-4 (R371, 09_bobbin_pool.md). -/
def POOL_LOW (p : Nat) : Fld := ⟨0x00C00000 + 0x40 * p + 0x1C, 0, 25, 0⟩
/-- `POOL_HIGH`, Table 9-4 (R371, 09_bobbin_pool.md). -/
def POOL_HIGH (p : Nat) : Fld := ⟨0x00C00000 + 0x40 * p + 0x20, 0, 25, 0⟩
/-- `POOL_STATUS_LOW`, Table 9-4 (R371, 09_bobbin_pool.md). -/
def POOL_STATUS_LOW (p : Nat) : Fld := ⟨0x00C00000 + 0x40 * p + 0x24, 0, 1, 0⟩
/-- `POOL_STATUS_HIGH`, Table 9-4 (R371, 09_bobbin_pool.md). -/
def POOL_STATUS_HIGH (p : Nat) : Fld := ⟨0x00C00000 + 0x40 * p + 0x24, 1, 1, 0⟩
/-- `POOL_STATUS_EMPTY`, Table 9-4 (R371, 09_bobbin_pool.md). -/
def POOL_STATUS_EMPTY (p : Nat) : Fld := ⟨0x00C00000 + 0x40 * p + 0x24, 2, 1, 0⟩
/-- `POOL_STATUS_READY`, Table 9-4 (R371, 09_bobbin_pool.md). -/
def POOL_STATUS_READY (p : Nat) : Fld := ⟨0x00C00000 + 0x40 * p + 0x24, 3, 1, 0⟩
/-- `POOL_STATUS_BROKEN`, Table 9-4 (R371, 09_bobbin_pool.md). -/
def POOL_STATUS_BROKEN (p : Nat) : Fld := ⟨0x00C00000 + 0x40 * p + 0x24, 4, 1, 0⟩
/-- `POOL_STATUS_MISUSE`, Table 9-4 (R371, 09_bobbin_pool.md). -/
def POOL_STATUS_MISUSE (p : Nat) : Fld := ⟨0x00C00000 + 0x40 * p + 0x24, 5, 1, 0⟩
/-- `POOL_STATUS_CMD_REJECT`, Table 9-4 (R371, 09_bobbin_pool.md). -/
def POOL_STATUS_CMD_REJECT (p : Nat) : Fld := ⟨0x00C00000 + 0x40 * p + 0x24, 6, 1, 0⟩
/-- `POOL_STATUS_WHY`, Table 9-4 (R371, 09_bobbin_pool.md). -/
def POOL_STATUS_WHY (p : Nat) : Fld := ⟨0x00C00000 + 0x40 * p + 0x24, 8, 4, 0⟩
/-- `POOL_PROV`, Table 9-4 (R371, 09_bobbin_pool.md). -/
def POOL_PROV (p : Nat) : Fld := ⟨0x00C00000 + 0x40 * p + 0x28, 0, 25, 0⟩
/-- `POOL_PARKED`, Table 9-4 (R371, 09_bobbin_pool.md). -/
def POOL_PARKED (p : Nat) : Fld := ⟨0x00C00000 + 0x40 * p + 0x2C, 0, 9, 0⟩
/-- `POOL_ALLOC_CNT`, Table 9-4 (R371, 09_bobbin_pool.md). -/
def POOL_ALLOC_CNT (p : Nat) : Fld := ⟨0x00C00000 + 0x40 * p + 0x30, 0, 32, 0⟩
/-- `POOL_EMPTY_CNT`, Table 9-4 (R371, 09_bobbin_pool.md). -/
def POOL_EMPTY_CNT (p : Nat) : Fld := ⟨0x00C00000 + 0x40 * p + 0x34, 0, 32, 0⟩
/-- `POOL_TIMEOUT_CNT`, Table 9-4 (R371, 09_bobbin_pool.md). -/
def POOL_TIMEOUT_CNT (p : Nat) : Fld := ⟨0x00C00000 + 0x40 * p + 0x38, 0, 32, 0⟩
/-- `POOL_MISUSE_CNT`, Table 9-4 (R371, 09_bobbin_pool.md). -/
def POOL_MISUSE_CNT (p : Nat) : Fld := ⟨0x00C00000 + 0x40 * p + 0x3C, 0, 32, 0⟩

/-- The fields of block `pool` with their access types. -/
def regsPool (p : Nat) : List (Acc × Fld) :=
  [(Acc.wo, POOL_CTL_CMD p),
   (Acc.rw, POOL_CTL_LOG2 p),
   (Acc.ro, POOL_CTL_STATE p),
   (Acc.rw, POOL_BASE_LO p),
   (Acc.rw, POOL_BASE_HI p),
   (Acc.rw, POOL_COUNT p),
   (Acc.rw, POOL_META_LO p),
   (Acc.rw, POOL_META_HI p),
   (Acc.ro, POOL_FREE p),
   (Acc.rw, POOL_LOW p),
   (Acc.rw, POOL_HIGH p),
   (Acc.w1c, POOL_STATUS_LOW p)] ++
  [(Acc.w1c, POOL_STATUS_HIGH p),
   (Acc.w1c, POOL_STATUS_EMPTY p),
   (Acc.w1c, POOL_STATUS_READY p),
   (Acc.w1c, POOL_STATUS_BROKEN p),
   (Acc.w1c, POOL_STATUS_MISUSE p),
   (Acc.w1c, POOL_STATUS_CMD_REJECT p),
   (Acc.ro, POOL_STATUS_WHY p),
   (Acc.ro, POOL_PROV p),
   (Acc.ro, POOL_PARKED p),
   (Acc.ro, POOL_ALLOC_CNT p),
   (Acc.ro, POOL_EMPTY_CNT p),
   (Acc.ro, POOL_TIMEOUT_CNT p)] ++
  [(Acc.ro, POOL_MISUSE_CNT p)]

/-- `POOL_HOP_ADDR_LO`, Table 9-10 (R390, 09_bobbin_pool.md). -/
def POOL_HOP_ADDR_LO (s : Nat) : Fld := ⟨0x00C01000 + 0x40 * s, 0, 32, 0⟩
/-- `POOL_HOP_ADDR_HI`, Table 9-10 (R390, 09_bobbin_pool.md). -/
def POOL_HOP_ADDR_HI (s : Nat) : Fld := ⟨0x00C01000 + 0x40 * s + 0x04, 0, 9, 0⟩
/-- `POOL_HOP_ARG_POOL`, Table 9-10 (R390, 09_bobbin_pool.md). -/
def POOL_HOP_ARG_POOL (s : Nat) : Fld := ⟨0x00C01000 + 0x40 * s + 0x08, 0, 6, 0⟩
/-- `POOL_HOP_ARG_TAG`, Table 9-10 (R390, 09_bobbin_pool.md). -/
def POOL_HOP_ARG_TAG (s : Nat) : Fld := ⟨0x00C01000 + 0x40 * s + 0x08, 8, 8, 0⟩
/-- `POOL_HOP_ARG_ADD`, Table 9-10 (R390, 09_bobbin_pool.md). -/
def POOL_HOP_ARG_ADD (s : Nat) : Fld := ⟨0x00C01000 + 0x40 * s + 0x08, 16, 4, 0⟩
/-- `POOL_HOP_ARG_GEN_CHK`, Table 9-10 (R390, 09_bobbin_pool.md). -/
def POOL_HOP_ARG_GEN_CHK (s : Nat) : Fld := ⟨0x00C01000 + 0x40 * s + 0x08, 20, 1, 0⟩
/-- `POOL_HOP_ARG_CLR_PROV`, Table 9-10 (R390, 09_bobbin_pool.md). -/
def POOL_HOP_ARG_CLR_PROV (s : Nat) : Fld := ⟨0x00C01000 + 0x40 * s + 0x08, 22, 1, 0⟩
/-- `POOL_HOP_GEN`, Table 9-10 (R390, 09_bobbin_pool.md). -/
def POOL_HOP_GEN (s : Nat) : Fld := ⟨0x00C01000 + 0x40 * s + 0x0C, 0, 32, 0⟩
/-- `POOL_HOP_CMD`, Table 9-10 (R390, 09_bobbin_pool.md). -/
def POOL_HOP_CMD (s : Nat) : Fld := ⟨0x00C01000 + 0x40 * s + 0x10, 0, 4, 0⟩
/-- `POOL_HOP_RES_RESULT`, Table 9-10 (R390, 09_bobbin_pool.md). -/
def POOL_HOP_RES_RESULT (s : Nat) : Fld := ⟨0x00C01000 + 0x40 * s + 0x14, 0, 4, 0⟩
/-- `POOL_HOP_RES_DONE`, Table 9-10 (R390, 09_bobbin_pool.md). -/
def POOL_HOP_RES_DONE (s : Nat) : Fld := ⟨0x00C01000 + 0x40 * s + 0x14, 31, 1, 1⟩
/-- `POOL_HOP_RADDR_LO`, Table 9-10 (R390, 09_bobbin_pool.md). -/
def POOL_HOP_RADDR_LO (s : Nat) : Fld := ⟨0x00C01000 + 0x40 * s + 0x18, 0, 32, 0⟩
/-- `POOL_HOP_RADDR_HI`, Table 9-10 (R390, 09_bobbin_pool.md). -/
def POOL_HOP_RADDR_HI (s : Nat) : Fld := ⟨0x00C01000 + 0x40 * s + 0x1C, 0, 9, 0⟩
/-- `POOL_HOP_RMETA_LO`, Table 9-10 (R390, 09_bobbin_pool.md). -/
def POOL_HOP_RMETA_LO (s : Nat) : Fld := ⟨0x00C01000 + 0x40 * s + 0x20, 0, 32, 0⟩
/-- `POOL_HOP_RMETA_HI`, Table 9-10 (R390, 09_bobbin_pool.md). -/
def POOL_HOP_RMETA_HI (s : Nat) : Fld := ⟨0x00C01000 + 0x40 * s + 0x24, 0, 32, 0⟩

/-- The fields of block `hop` with their access types. -/
def regsHop (s : Nat) : List (Acc × Fld) :=
  [(Acc.rw, POOL_HOP_ADDR_LO s),
   (Acc.rw, POOL_HOP_ADDR_HI s),
   (Acc.rw, POOL_HOP_ARG_POOL s),
   (Acc.rw, POOL_HOP_ARG_TAG s),
   (Acc.rw, POOL_HOP_ARG_ADD s),
   (Acc.rw, POOL_HOP_ARG_GEN_CHK s),
   (Acc.rw, POOL_HOP_ARG_CLR_PROV s),
   (Acc.rw, POOL_HOP_GEN s),
   (Acc.wo, POOL_HOP_CMD s),
   (Acc.ro, POOL_HOP_RES_RESULT s),
   (Acc.ro, POOL_HOP_RES_DONE s),
   (Acc.ro, POOL_HOP_RADDR_LO s)] ++
  [(Acc.ro, POOL_HOP_RADDR_HI s),
   (Acc.ro, POOL_HOP_RMETA_LO s),
   (Acc.ro, POOL_HOP_RMETA_HI s)]

/-- `MEM_CTL_GRAIN`, Table 10-3 (R412, 10_memory_controller.md). -/
def MEM_CTL_GRAIN : Fld := ⟨0x00D00000, 0, 4, 0⟩
/-- `MEM_MODE_MODE`, Table 10-3 (R412, 10_memory_controller.md). -/
def MEM_MODE_MODE : Fld := ⟨0x00D00000 + 0x004, 0, 2, 1⟩
/-- `MEM_STATUS_TRAINED`, Table 10-3 (R412, 10_memory_controller.md). -/
def MEM_STATUS_TRAINED (s : Nat) : Fld := ⟨0x00D00000 + 0x008, s, 1, 0⟩
/-- `MEM_STATUS_HOT`, Table 10-3 (R412, 10_memory_controller.md). -/
def MEM_STATUS_HOT (s : Nat) : Fld := ⟨0x00D00000 + 0x008, 2 + s, 1, 0⟩
/-- `MEM_STATUS_MODE_REJECT`, Table 10-3 (R412, 10_memory_controller.md). -/
def MEM_STATUS_MODE_REJECT : Fld := ⟨0x00D00000 + 0x008, 4, 1, 0⟩
/-- `MEM_STATUS_RETRAIN_FAIL`, Table 10-3 (R412, 10_memory_controller.md). -/
def MEM_STATUS_RETRAIN_FAIL : Fld := ⟨0x00D00000 + 0x008, 5, 1, 0⟩
/-- `MEM_STATUS_CE`, Table 10-3 (R412, 10_memory_controller.md). -/
def MEM_STATUS_CE : Fld := ⟨0x00D00000 + 0x008, 6, 1, 0⟩
/-- `MEM_STATUS_UE`, Table 10-3 (R412, 10_memory_controller.md). -/
def MEM_STATUS_UE : Fld := ⟨0x00D00000 + 0x008, 7, 1, 0⟩
/-- `MEM_RETRAIN_INTERVAL_MS`, Table 10-3 (R412, 10_memory_controller.md). -/
def MEM_RETRAIN_INTERVAL_MS : Fld := ⟨0x00D00000 + 0x020, 0, 16, 100⟩
/-- `MEM_RETRAIN_TEMP_STEP`, Table 10-3 (R412, 10_memory_controller.md). -/
def MEM_RETRAIN_TEMP_STEP : Fld := ⟨0x00D00000 + 0x020, 16, 8, 10⟩
/-- `MEM_RETRAIN_NOW`, Table 10-3 (R412, 10_memory_controller.md). -/
def MEM_RETRAIN_NOW : Fld := ⟨0x00D00000 + 0x020, 31, 1, 0⟩
/-- `MEM_SCRUB_HOURS`, Table 10-3 (R412, 10_memory_controller.md). -/
def MEM_SCRUB_HOURS : Fld := ⟨0x00D00000 + 0x024, 0, 16, 24⟩
/-- `MEM_INJECT_LO`, Table 10-3 (R412, 10_memory_controller.md). -/
def MEM_INJECT_LO : Fld := ⟨0x00D00000 + 0x028, 0, 32, 0⟩
/-- `MEM_INJECT_HI_ADDR`, Table 10-3 (R412, 10_memory_controller.md). -/
def MEM_INJECT_HI_ADDR : Fld := ⟨0x00D00000 + 0x02C, 0, 9, 0⟩
/-- `MEM_INJECT_HI_TYPE`, Table 10-3 (R412, 10_memory_controller.md). -/
def MEM_INJECT_HI_TYPE : Fld := ⟨0x00D00000 + 0x02C, 16, 2, 0⟩
/-- `MEM_INJECT_HI_ARM`, Table 10-3 (R412, 10_memory_controller.md). -/
def MEM_INJECT_HI_ARM : Fld := ⟨0x00D00000 + 0x02C, 31, 1, 0⟩
/-- `MEM_PORT_TARGET`, Table 10-3 (R412, 10_memory_controller.md). -/
def MEM_PORT_TARGET (i : Nat) : Fld := ⟨0x00D00000 + 0x040 + 4 * i, 0, 16, 0⟩
/-- `MEM_TEST_CTL_GO`, Table 10-3 (R412, 10_memory_controller.md). -/
def MEM_TEST_CTL_GO : Fld := ⟨0x00D00000 + 0x200, 31, 1, 0⟩
/-- `MEM_TEST_CTL_OP`, Table 10-3 (R412, 10_memory_controller.md). -/
def MEM_TEST_CTL_OP : Fld := ⟨0x00D00000 + 0x200, 0, 2, 0⟩
/-- `MEM_TEST_CTL_PATTERN`, Table 10-3 (R412, 10_memory_controller.md). -/
def MEM_TEST_CTL_PATTERN : Fld := ⟨0x00D00000 + 0x200, 4, 2, 0⟩
/-- `MEM_TEST_SEED`, Table 10-3 (R412, 10_memory_controller.md). -/
def MEM_TEST_SEED : Fld := ⟨0x00D00000 + 0x204, 0, 32, 1⟩
/-- `MEM_TEST_START_LO`, Table 10-3 (R412, 10_memory_controller.md). -/
def MEM_TEST_START_LO : Fld := ⟨0x00D00000 + 0x208, 6, 26, 0⟩
/-- `MEM_TEST_START_HI`, Table 10-3 (R412, 10_memory_controller.md). -/
def MEM_TEST_START_HI : Fld := ⟨0x00D00000 + 0x20C, 0, 9, 0⟩
/-- `MEM_TEST_END_LO`, Table 10-3 (R412, 10_memory_controller.md). -/
def MEM_TEST_END_LO : Fld := ⟨0x00D00000 + 0x210, 6, 26, 0⟩
/-- `MEM_TEST_END_HI`, Table 10-3 (R412, 10_memory_controller.md). -/
def MEM_TEST_END_HI : Fld := ⟨0x00D00000 + 0x214, 0, 9, 0⟩
/-- `MEM_TEST_STATUS_DONE`, Table 10-3 (R412, 10_memory_controller.md). -/
def MEM_TEST_STATUS_DONE : Fld := ⟨0x00D00000 + 0x218, 0, 1, 0⟩
/-- `MEM_TEST_STATUS_FAIL`, Table 10-3 (R412, 10_memory_controller.md). -/
def MEM_TEST_STATUS_FAIL : Fld := ⟨0x00D00000 + 0x218, 1, 1, 0⟩
/-- `MEM_TEST_STATUS_REJECT`, Table 10-3 (R412, 10_memory_controller.md). -/
def MEM_TEST_STATUS_REJECT : Fld := ⟨0x00D00000 + 0x218, 2, 1, 0⟩
/-- `MEM_TEST_ERR_CNT`, Table 10-3 (R412, 10_memory_controller.md). -/
def MEM_TEST_ERR_CNT : Fld := ⟨0x00D00000 + 0x21C, 0, 32, 0⟩
/-- `MEM_TEST_FAIL_ADDR_LO`, Table 10-3 (R412, 10_memory_controller.md). -/
def MEM_TEST_FAIL_ADDR_LO : Fld := ⟨0x00D00000 + 0x220, 6, 26, 0⟩
/-- `MEM_TEST_FAIL_ADDR_HI`, Table 10-3 (R412, 10_memory_controller.md). -/
def MEM_TEST_FAIL_ADDR_HI : Fld := ⟨0x00D00000 + 0x224, 0, 9, 0⟩

/-- The fields of block `mem` with their access types. -/
def regsMem : List (Acc × Fld) :=
  [(Acc.rwl, MEM_CTL_GRAIN),
   (Acc.rw, MEM_MODE_MODE),
   (Acc.w1c, MEM_STATUS_MODE_REJECT),
   (Acc.w1c, MEM_STATUS_RETRAIN_FAIL),
   (Acc.w1c, MEM_STATUS_CE),
   (Acc.w1c, MEM_STATUS_UE),
   (Acc.rw, MEM_RETRAIN_INTERVAL_MS),
   (Acc.rw, MEM_RETRAIN_TEMP_STEP),
   (Acc.w1s, MEM_RETRAIN_NOW),
   (Acc.rw, MEM_SCRUB_HOURS),
   (Acc.rw, MEM_INJECT_LO),
   (Acc.rw, MEM_INJECT_HI_ADDR)] ++
  [(Acc.rw, MEM_INJECT_HI_TYPE),
   (Acc.w1s, MEM_INJECT_HI_ARM),
   (Acc.w1s, MEM_TEST_CTL_GO),
   (Acc.rw, MEM_TEST_CTL_OP),
   (Acc.rw, MEM_TEST_CTL_PATTERN),
   (Acc.rw, MEM_TEST_SEED),
   (Acc.rw, MEM_TEST_START_LO),
   (Acc.rw, MEM_TEST_START_HI),
   (Acc.rw, MEM_TEST_END_LO),
   (Acc.rw, MEM_TEST_END_HI),
   (Acc.w1c, MEM_TEST_STATUS_DONE),
   (Acc.w1c, MEM_TEST_STATUS_FAIL)] ++
  [(Acc.w1c, MEM_TEST_STATUS_REJECT),
   (Acc.ro, MEM_TEST_ERR_CNT),
   (Acc.ro, MEM_TEST_FAIL_ADDR_LO),
   (Acc.ro, MEM_TEST_FAIL_ADDR_HI)] ++
  (List.range 2).map (fun s => (Acc.ro, MEM_STATUS_TRAINED s)) ++
  (List.range 2).map (fun s => (Acc.ro, MEM_STATUS_HOT s)) ++
  (List.range 8).map (fun i => (Acc.rwl, MEM_PORT_TARGET i))

/-- `MEM_CE_CNT`, Table 10-3 (R412, 10_memory_controller.md). -/
def MEM_CE_CNT (s : Nat) : Fld := ⟨0x00D00100 + 0x40 * s, 0, 32, 0⟩
/-- `MEM_UE_CNT`, Table 10-3 (R412, 10_memory_controller.md). -/
def MEM_UE_CNT (s : Nat) : Fld := ⟨0x00D00100 + 0x40 * s + 0x04, 0, 32, 0⟩
/-- `MEM_ODC_CNT`, Table 10-3 (R412, 10_memory_controller.md). -/
def MEM_ODC_CNT (s : Nat) : Fld := ⟨0x00D00100 + 0x40 * s + 0x08, 0, 32, 0⟩
/-- `MEM_RETRAIN_CNT`, Table 10-3 (R412, 10_memory_controller.md). -/
def MEM_RETRAIN_CNT (s : Nat) : Fld := ⟨0x00D00100 + 0x40 * s + 0x0C, 0, 32, 0⟩
/-- `MEM_RETRAIN_FAIL_CNT`, Table 10-3 (R412, 10_memory_controller.md). -/
def MEM_RETRAIN_FAIL_CNT (s : Nat) : Fld := ⟨0x00D00100 + 0x40 * s + 0x10, 0, 32, 0⟩
/-- `MEM_TEMP`, Table 10-3 (R412, 10_memory_controller.md). -/
def MEM_TEMP (s : Nat) : Fld := ⟨0x00D00100 + 0x40 * s + 0x14, 0, 8, 0⟩
/-- `MEM_SCRUB_PASS`, Table 10-3 (R412, 10_memory_controller.md). -/
def MEM_SCRUB_PASS (s : Nat) : Fld := ⟨0x00D00100 + 0x40 * s + 0x18, 0, 32, 0⟩

/-- The fields of block `memStack` with their access types. -/
def regsMemStack (s : Nat) : List (Acc × Fld) :=
  [(Acc.ro, MEM_CE_CNT s),
   (Acc.ro, MEM_UE_CNT s),
   (Acc.ro, MEM_ODC_CNT s),
   (Acc.ro, MEM_RETRAIN_CNT s),
   (Acc.ro, MEM_RETRAIN_FAIL_CNT s),
   (Acc.ro, MEM_TEMP s),
   (Acc.ro, MEM_SCRUB_PASS s)]

/-- `HIF_LINK_SPEED`, Table 11-3 (R425, 11_host_interface_and_dma.md). -/
def HIF_LINK_SPEED : Fld := ⟨0x00E10000, 0, 4, 0⟩
/-- `HIF_LINK_WIDTH`, Table 11-3 (R425, 11_host_interface_and_dma.md). -/
def HIF_LINK_WIDTH : Fld := ⟨0x00E10000, 4, 5, 0⟩
/-- `HIF_LINK_BME`, Table 11-3 (R425, 11_host_interface_and_dma.md). -/
def HIF_LINK_BME : Fld := ⟨0x00E10000, 9, 1, 0⟩
/-- `HIF_LINK_D3`, Table 11-3 (R425, 11_host_interface_and_dma.md). -/
def HIF_LINK_D3 : Fld := ⟨0x00E10000, 10, 1, 0⟩
/-- `HIF_STATUS_LINK_CHG`, Table 11-3 (R425, 11_host_interface_and_dma.md). -/
def HIF_STATUS_LINK_CHG : Fld := ⟨0x00E10000 + 0x004, 0, 1, 0⟩
/-- `HIF_STATUS_XLAT`, Table 11-3 (R425, 11_host_interface_and_dma.md). -/
def HIF_STATUS_XLAT : Fld := ⟨0x00E10000 + 0x004, 1, 1, 0⟩
/-- `HIF_STATUS_FLR`, Table 11-3 (R425, 11_host_interface_and_dma.md). -/
def HIF_STATUS_FLR : Fld := ⟨0x00E10000 + 0x004, 2, 1, 0⟩
/-- `HIF_STATUS_BAD_ACCESS`, Table 11-3 (R425, 11_host_interface_and_dma.md). -/
def HIF_STATUS_BAD_ACCESS : Fld := ⟨0x00E10000 + 0x004, 3, 1, 0⟩
/-- `HIF_STATUS_CMD_REJECT`, Table 11-3 (R425, 11_host_interface_and_dma.md). -/
def HIF_STATUS_CMD_REJECT : Fld := ⟨0x00E10000 + 0x004, 4, 1, 0⟩
/-- `HIF_AP_SEG`, Table 11-3 (R425, 11_host_interface_and_dma.md). -/
def HIF_AP_SEG (i : Nat) : Fld := ⟨0x00E10000 + 0x040 + 4 * i, 0, 9, i⟩
/-- `HIF_RD_TAGS`, Table 11-3 (R425, 11_host_interface_and_dma.md). -/
def HIF_RD_TAGS : Fld := ⟨0x00E10000 + 0x080, 0, 8, 0⟩
/-- `HIF_STAGE_RD`, Table 11-3 (R425, 11_host_interface_and_dma.md). -/
def HIF_STAGE_RD : Fld := ⟨0x00E10000 + 0x084, 0, 21, 0⟩
/-- `HIF_STAGE_WR`, Table 11-3 (R425, 11_host_interface_and_dma.md). -/
def HIF_STAGE_WR : Fld := ⟨0x00E10000 + 0x088, 0, 21, 0⟩

/-- The fields of block `hif` with their access types. -/
def regsHif : List (Acc × Fld) :=
  [(Acc.ro, HIF_LINK_SPEED),
   (Acc.ro, HIF_LINK_WIDTH),
   (Acc.ro, HIF_LINK_BME),
   (Acc.ro, HIF_LINK_D3),
   (Acc.w1c, HIF_STATUS_LINK_CHG),
   (Acc.w1c, HIF_STATUS_XLAT),
   (Acc.w1c, HIF_STATUS_FLR),
   (Acc.w1c, HIF_STATUS_BAD_ACCESS),
   (Acc.w1c, HIF_STATUS_CMD_REJECT),
   (Acc.ro, HIF_RD_TAGS),
   (Acc.ro, HIF_STAGE_RD),
   (Acc.ro, HIF_STAGE_WR)] ++
  (List.range 16).map (fun i => (Acc.rw, HIF_AP_SEG i))

/-- `HIF_OB_LO_ADDR`, Table 11-4 (R425, 11_host_interface_and_dma.md). -/
def HIF_OB_LO_ADDR (n : Nat) : Fld := ⟨0x00E11000 + 0x10 * n, 12, 20, 0⟩
/-- `HIF_OB_HI_ADDR`, Table 11-4 (R425, 11_host_interface_and_dma.md). -/
def HIF_OB_HI_ADDR (n : Nat) : Fld := ⟨0x00E11000 + 0x10 * n + 0x4, 0, 32, 0⟩
/-- `HIF_OB_CTL_EN`, Table 11-4 (R425, 11_host_interface_and_dma.md). -/
def HIF_OB_CTL_EN (n : Nat) : Fld := ⟨0x00E11000 + 0x10 * n + 0x8, 0, 1, 0⟩
/-- `HIF_OB_CTL_NS`, Table 11-4 (R425, 11_host_interface_and_dma.md). -/
def HIF_OB_CTL_NS (n : Nat) : Fld := ⟨0x00E11000 + 0x10 * n + 0x8, 1, 1, 0⟩

/-- The fields of block `hifOb` with their access types. -/
def regsHifOb (n : Nat) : List (Acc × Fld) :=
  [(Acc.rw, HIF_OB_LO_ADDR n),
   (Acc.rw, HIF_OB_HI_ADDR n),
   (Acc.rw, HIF_OB_CTL_EN n),
   (Acc.rw, HIF_OB_CTL_NS n)]

/-- `DMA_CTL_CMD`, Table 11-5 (R426, 11_host_interface_and_dma.md). -/
def DMA_CTL_CMD (c : Nat) : Fld := ⟨0x00E00000 + 0x400 * c, 28, 4, 0⟩
/-- `DMA_CTL_LOG2_SIZE`, Table 11-5 (R426, 11_host_interface_and_dma.md). -/
def DMA_CTL_LOG2_SIZE (c : Nat) : Fld := ⟨0x00E00000 + 0x400 * c, 16, 5, 4⟩
/-- `DMA_CTL_MODE`, Table 11-5 (R426, 11_host_interface_and_dma.md). -/
def DMA_CTL_MODE (c : Nat) : Fld := ⟨0x00E00000 + 0x400 * c, 0, 2, 0⟩
/-- `DMA_RING_LO`, Table 11-5 (R426, 11_host_interface_and_dma.md). -/
def DMA_RING_LO (c : Nat) : Fld := ⟨0x00E00000 + 0x400 * c + 0x004, 0, 32, 0⟩
/-- `DMA_RING_HI`, Table 11-5 (R426, 11_host_interface_and_dma.md). -/
def DMA_RING_HI (c : Nat) : Fld := ⟨0x00E00000 + 0x400 * c + 0x008, 0, 32, 0⟩
/-- `DMA_CREC_LO`, Table 11-5 (R426, 11_host_interface_and_dma.md). -/
def DMA_CREC_LO (c : Nat) : Fld := ⟨0x00E00000 + 0x400 * c + 0x00C, 0, 32, 0⟩
/-- `DMA_CREC_HI`, Table 11-5 (R426, 11_host_interface_and_dma.md). -/
def DMA_CREC_HI (c : Nat) : Fld := ⟨0x00E00000 + 0x400 * c + 0x010, 0, 32, 0⟩
/-- `DMA_TAIL`, Table 11-5 (R426, 11_host_interface_and_dma.md). -/
def DMA_TAIL (c : Nat) : Fld := ⟨0x00E00000 + 0x400 * c + 0x014, 0, 16, 0⟩
/-- `DMA_HEAD`, Table 11-5 (R426, 11_host_interface_and_dma.md). -/
def DMA_HEAD (c : Nat) : Fld := ⟨0x00E00000 + 0x400 * c + 0x018, 0, 16, 0⟩
/-- `DMA_STATUS_STATE`, Table 11-5 (R426, 11_host_interface_and_dma.md). -/
def DMA_STATUS_STATE (c : Nat) : Fld := ⟨0x00E00000 + 0x400 * c + 0x01C, 0, 2, 0⟩
/-- `DMA_STATUS_BUSY`, Table 11-5 (R426, 11_host_interface_and_dma.md). -/
def DMA_STATUS_BUSY (c : Nat) : Fld := ⟨0x00E00000 + 0x400 * c + 0x01C, 2, 1, 0⟩
/-- `DMA_STATUS_DONE`, Table 11-5 (R426, 11_host_interface_and_dma.md). -/
def DMA_STATUS_DONE (c : Nat) : Fld := ⟨0x00E00000 + 0x400 * c + 0x01C, 8, 1, 0⟩
/-- `DMA_STATUS_HALT`, Table 11-5 (R426, 11_host_interface_and_dma.md). -/
def DMA_STATUS_HALT (c : Nat) : Fld := ⟨0x00E00000 + 0x400 * c + 0x01C, 9, 1, 0⟩
/-- `DMA_STATUS_CMD_REJECT`, Table 11-5 (R426, 11_host_interface_and_dma.md). -/
def DMA_STATUS_CMD_REJECT (c : Nat) : Fld := ⟨0x00E00000 + 0x400 * c + 0x01C, 10, 1, 0⟩
/-- `DMA_STATUS_CAUSE`, Table 11-5 (R426, 11_host_interface_and_dma.md). -/
def DMA_STATUS_CAUSE (c : Nat) : Fld := ⟨0x00E00000 + 0x400 * c + 0x01C, 12, 4, 0⟩
/-- `DMA_BYTES`, Table 11-5 (R426, 11_host_interface_and_dma.md). -/
def DMA_BYTES (c : Nat) : Fld := ⟨0x00E00000 + 0x400 * c + 0x020, 0, 32, 0⟩
/-- `DMA_DESC_CNT`, Table 11-5 (R426, 11_host_interface_and_dma.md). -/
def DMA_DESC_CNT (c : Nat) : Fld := ⟨0x00E00000 + 0x400 * c + 0x024, 0, 32, 0⟩

/-- The fields of block `dma` with their access types. -/
def regsDma (c : Nat) : List (Acc × Fld) :=
  [(Acc.wo, DMA_CTL_CMD c),
   (Acc.rw, DMA_CTL_LOG2_SIZE c),
   (Acc.rw, DMA_CTL_MODE c),
   (Acc.rw, DMA_RING_LO c),
   (Acc.rw, DMA_RING_HI c),
   (Acc.rw, DMA_CREC_LO c),
   (Acc.rw, DMA_CREC_HI c),
   (Acc.rw, DMA_TAIL c),
   (Acc.ro, DMA_HEAD c),
   (Acc.ro, DMA_STATUS_STATE c),
   (Acc.ro, DMA_STATUS_BUSY c),
   (Acc.w1c, DMA_STATUS_DONE c)] ++
  [(Acc.w1c, DMA_STATUS_HALT c),
   (Acc.w1c, DMA_STATUS_CMD_REJECT c),
   (Acc.ro, DMA_STATUS_CAUSE c),
   (Acc.ro, DMA_BYTES c),
   (Acc.ro, DMA_DESC_CNT c)]

/-- `WRP_STATUS_LOCKED`, Table 14-8 (R509, 14_warp_image.md). -/
def WRP_STATUS_LOCKED : Fld := ⟨0x00100000, 0, 1, 0⟩
/-- `WRP_STATUS_BUSY`, Table 14-8 (R509, 14_warp_image.md). -/
def WRP_STATUS_BUSY : Fld := ⟨0x00100000, 1, 1, 0⟩
/-- `WRP_STATUS_DONE`, Table 14-8 (R509, 14_warp_image.md). -/
def WRP_STATUS_DONE : Fld := ⟨0x00100000, 2, 1, 0⟩
/-- `WRP_STATUS_FAIL`, Table 14-8 (R509, 14_warp_image.md). -/
def WRP_STATUS_FAIL : Fld := ⟨0x00100000, 3, 1, 0⟩
/-- `WRP_STATUS_WHY`, Table 14-8 (R509, 14_warp_image.md). -/
def WRP_STATUS_WHY : Fld := ⟨0x00100000, 4, 4, 0⟩
/-- `WRP_STATUS_AUTO_RUN`, Table 14-8 (R509, 14_warp_image.md). -/
def WRP_STATUS_AUTO_RUN : Fld := ⟨0x00100000, 8, 1, 0⟩
/-- `WRP_STATUS_AUTO_DONE`, Table 14-8 (R509, 14_warp_image.md). -/
def WRP_STATUS_AUTO_DONE : Fld := ⟨0x00100000, 9, 1, 0⟩
/-- `WRP_STATUS_AUTO_FAIL`, Table 14-8 (R509, 14_warp_image.md). -/
def WRP_STATUS_AUTO_FAIL : Fld := ⟨0x00100000, 10, 1, 0⟩
/-- `WRP_CTL_GO`, Table 14-8 (R509, 14_warp_image.md). -/
def WRP_CTL_GO : Fld := ⟨0x00100000 + 0x004, 31, 1, 0⟩
/-- `WRP_SRC_LO`, Table 14-8 (R509, 14_warp_image.md). -/
def WRP_SRC_LO : Fld := ⟨0x00100000 + 0x008, 0, 32, 0⟩
/-- `WRP_SRC_HI`, Table 14-8 (R509, 14_warp_image.md). -/
def WRP_SRC_HI : Fld := ⟨0x00100000 + 0x00C, 0, 9, 0⟩
/-- `WRP_LEN`, Table 14-8 (R509, 14_warp_image.md). -/
def WRP_LEN : Fld := ⟨0x00100000 + 0x010, 0, 21, 0⟩
/-- `WRP_IMG_VERSION`, Table 14-8 (R509, 14_warp_image.md). -/
def WRP_IMG_VERSION : Fld := ⟨0x00100000 + 0x014, 0, 32, 0⟩
/-- `WRP_REWEAVE_CNT`, Table 14-8 (R509, 14_warp_image.md). -/
def WRP_REWEAVE_CNT : Fld := ⟨0x00100000 + 0x018, 0, 32, 0⟩
/-- `WRP_AUTO_INDEX`, Table 14-8 (R509, 14_warp_image.md). -/
def WRP_AUTO_INDEX : Fld := ⟨0x00100000 + 0x01C, 0, 16, 0⟩
/-- `WRP_FAIL_SECTION`, Table 14-8 (R509, 14_warp_image.md). -/
def WRP_FAIL_SECTION : Fld := ⟨0x00100000 + 0x020, 0, 16, 0⟩
/-- `WRP_DIGEST`, Table 14-8 (R509, 14_warp_image.md). -/
def WRP_DIGEST (j : Nat) : Fld := ⟨0x00100000 + 0x040 + 4 * j, 0, 32, 0⟩
/-- `WRP_CLK`, Table 14-8 (R509, 14_warp_image.md). -/
def WRP_CLK (d : Nat) : Fld := ⟨0x00100000 + 0x100 + 4 * d, 0, 32, 0⟩

/-- The fields of block `wrp` with their access types. -/
def regsWrp : List (Acc × Fld) :=
  [(Acc.ro, WRP_STATUS_LOCKED),
   (Acc.ro, WRP_STATUS_BUSY),
   (Acc.w1c, WRP_STATUS_DONE),
   (Acc.w1c, WRP_STATUS_FAIL),
   (Acc.ro, WRP_STATUS_WHY),
   (Acc.ro, WRP_STATUS_AUTO_RUN),
   (Acc.ro, WRP_STATUS_AUTO_DONE),
   (Acc.ro, WRP_STATUS_AUTO_FAIL),
   (Acc.w1s, WRP_CTL_GO),
   (Acc.rw, WRP_SRC_LO),
   (Acc.rw, WRP_SRC_HI),
   (Acc.rw, WRP_LEN)] ++
  [(Acc.ro, WRP_IMG_VERSION),
   (Acc.ro, WRP_REWEAVE_CNT),
   (Acc.ro, WRP_AUTO_INDEX),
   (Acc.ro, WRP_FAIL_SECTION)] ++
  (List.range 16).map (fun j => (Acc.ro, WRP_DIGEST j)) ++
  (List.range 40).map (fun d => (Acc.ro, WRP_CLK d))

/-- `SEC_BOOT_STATUS_PHASE`, Table 15-16 (R544, 15_startup_microcode_security.md). -/
def SEC_BOOT_STATUS_PHASE : Fld := ⟨0x01300000, 0, 3, 0⟩
/-- `SEC_BOOT_STATUS_KIND`, Table 15-16 (R544, 15_startup_microcode_security.md). -/
def SEC_BOOT_STATUS_KIND : Fld := ⟨0x01300000, 3, 2, 0⟩
/-- `SEC_BOOT_STATUS_READY`, Table 15-16 (R544, 15_startup_microcode_security.md). -/
def SEC_BOOT_STATUS_READY : Fld := ⟨0x01300000, 5, 1, 0⟩
/-- `SEC_BOOT_STATUS_SHUTDOWN_DONE`, Table 15-16 (R544, 15_startup_microcode_security.md). -/
def SEC_BOOT_STATUS_SHUTDOWN_DONE : Fld := ⟨0x01300000, 6, 1, 0⟩
/-- `SEC_BOOT_STATUS_PTP_RESTORED`, Table 15-16 (R544, 15_startup_microcode_security.md). -/
def SEC_BOOT_STATUS_PTP_RESTORED : Fld := ⟨0x01300000, 7, 1, 0⟩
/-- `SEC_BOOT_STATUS_SLOT_USED`, Table 15-16 (R544, 15_startup_microcode_security.md). -/
def SEC_BOOT_STATUS_SLOT_USED : Fld := ⟨0x01300000, 8, 4, 0⟩
/-- `SEC_BOOT_STATUS_LAST_FAIL`, Table 15-16 (R544, 15_startup_microcode_security.md). -/
def SEC_BOOT_STATUS_LAST_FAIL : Fld := ⟨0x01300000, 16, 4, 0⟩
/-- `SEC_START_CNT_LO`, Table 15-16 (R544, 15_startup_microcode_security.md). -/
def SEC_START_CNT_LO : Fld := ⟨0x01300000 + 0x008, 0, 32, 0⟩
/-- `SEC_START_CNT_HI`, Table 15-16 (R544, 15_startup_microcode_security.md). -/
def SEC_START_CNT_HI : Fld := ⟨0x01300000 + 0x00C, 0, 32, 0⟩
/-- `SEC_FAILS_WARM`, Table 15-16 (R544, 15_startup_microcode_security.md). -/
def SEC_FAILS_WARM : Fld := ⟨0x01300000 + 0x010, 0, 2, 0⟩
/-- `SEC_FAILS_COLD`, Table 15-16 (R544, 15_startup_microcode_security.md). -/
def SEC_FAILS_COLD : Fld := ⟨0x01300000 + 0x010, 2, 2, 0⟩
/-- `SEC_READY_MS`, Table 15-16 (R544, 15_startup_microcode_security.md). -/
def SEC_READY_MS : Fld := ⟨0x01300000 + 0x014, 0, 16, 0⟩
/-- `SEC_MCTR`, Table 15-16 (R544, 15_startup_microcode_security.md). -/
def SEC_MCTR (j : Nat) : Fld := ⟨0x01300000 + 0x020 + 4 * j, 0, 32, 0⟩
/-- `SEC_OWNER_PROGRAMMED`, Table 15-16 (R544, 15_startup_microcode_security.md). -/
def SEC_OWNER_PROGRAMMED : Fld := ⟨0x01300000 + 0x040, 0, 4, 0⟩
/-- `SEC_OWNER_REVOKED`, Table 15-16 (R544, 15_startup_microcode_security.md). -/
def SEC_OWNER_REVOKED : Fld := ⟨0x01300000 + 0x040, 4, 4, 0⟩
/-- `SEC_SERIAL`, Table 15-16 (R544, 15_startup_microcode_security.md). -/
def SEC_SERIAL (j : Nat) : Fld := ⟨0x01300000 + 0x050 + 4 * j, 0, 32, 0⟩
/-- `SEC_REC_LEN`, Table 15-16 (R544, 15_startup_microcode_security.md). -/
def SEC_REC_LEN : Fld := ⟨0x01300000 + 0x080, 0, 30, 0⟩
/-- `SEC_REC_CTL_MODE`, Table 15-16 (R544, 15_startup_microcode_security.md). -/
def SEC_REC_CTL_MODE : Fld := ⟨0x01300000 + 0x084, 0, 1, 0⟩
/-- `SEC_REC_CTL_GO`, Table 15-16 (R544, 15_startup_microcode_security.md). -/
def SEC_REC_CTL_GO : Fld := ⟨0x01300000 + 0x084, 31, 1, 0⟩
/-- `SEC_REC_STATUS`, Table 15-16 (R544, 15_startup_microcode_security.md). -/
def SEC_REC_STATUS : Fld := ⟨0x01300000 + 0x088, 0, 3, 0⟩

/-- The fields of block `sec` with their access types. -/
def regsSec : List (Acc × Fld) :=
  [(Acc.ro, SEC_BOOT_STATUS_PHASE),
   (Acc.ro, SEC_BOOT_STATUS_KIND),
   (Acc.ro, SEC_BOOT_STATUS_READY),
   (Acc.ro, SEC_BOOT_STATUS_SHUTDOWN_DONE),
   (Acc.ro, SEC_BOOT_STATUS_PTP_RESTORED),
   (Acc.ro, SEC_BOOT_STATUS_SLOT_USED),
   (Acc.ro, SEC_BOOT_STATUS_LAST_FAIL),
   (Acc.ro, SEC_START_CNT_LO),
   (Acc.ro, SEC_START_CNT_HI),
   (Acc.ro, SEC_FAILS_WARM),
   (Acc.ro, SEC_FAILS_COLD),
   (Acc.ro, SEC_READY_MS)] ++
  [(Acc.ro, SEC_OWNER_PROGRAMMED),
   (Acc.ro, SEC_OWNER_REVOKED),
   (Acc.rw, SEC_REC_LEN),
   (Acc.rw, SEC_REC_CTL_MODE),
   (Acc.w1s, SEC_REC_CTL_GO),
   (Acc.ro, SEC_REC_STATUS)] ++
  (List.range 8).map (fun j => (Acc.ro, SEC_MCTR j)) ++
  (List.range 4).map (fun j => (Acc.ro, SEC_SERIAL j))

/-- `SEC_MB_OUT`, Table 15-10 (R535, 15_startup_microcode_security.md). -/
def SEC_MB_OUT (t j : Nat) : Fld := ⟨0x01301000 + 0x100 * t + 0x00 + 4 * j, 0, 32, 0⟩
/-- `SEC_MB_IN`, Table 15-10 (R535, 15_startup_microcode_security.md). -/
def SEC_MB_IN (t j : Nat) : Fld := ⟨0x01301000 + 0x100 * t + 0x40 + 4 * j, 0, 32, 0⟩
/-- `SEC_MB_CTL_FREE`, Table 15-10 (R535, 15_startup_microcode_security.md). -/
def SEC_MB_CTL_FREE (t : Nat) : Fld := ⟨0x01301000 + 0x100 * t + 0x80, 0, 1, 1⟩
/-- `SEC_MB_CTL_IN_VALID`, Table 15-10 (R535, 15_startup_microcode_security.md). -/
def SEC_MB_CTL_IN_VALID (t : Nat) : Fld := ⟨0x01301000 + 0x100 * t + 0x80, 1, 1, 0⟩
/-- `SEC_MB_CTL_LOST`, Table 15-10 (R535, 15_startup_microcode_security.md). -/
def SEC_MB_CTL_LOST (t : Nat) : Fld := ⟨0x01301000 + 0x100 * t + 0x80, 2, 1, 0⟩

/-- The fields of block `secMb` with their access types. -/
def regsSecMb (t : Nat) : List (Acc × Fld) :=
  [(Acc.ro, SEC_MB_CTL_FREE t),
   (Acc.w1c, SEC_MB_CTL_IN_VALID t),
   (Acc.w1c, SEC_MB_CTL_LOST t)] ++
  (List.range 16).map (fun j => (Acc.rw, SEC_MB_OUT t j)) ++
  (List.range 16).map (fun j => (Acc.ro, SEC_MB_IN t j))

/-- `UCS_VER_BASE`, Table 15-17 (R545, 15_startup_microcode_security.md). -/
def UCS_VER_BASE (y : Nat) : Fld := ⟨0x01400000 + 0x000 + 4 * y, 0, 16, 0⟩
/-- `UCS_VER_PATCH`, Table 15-17 (R545, 15_startup_microcode_security.md). -/
def UCS_VER_PATCH (y : Nat) : Fld := ⟨0x01400000 + 0x000 + 4 * y, 16, 16, 0⟩
/-- `UCS_YIELD_SPAN`, Table 15-17 (R545, 15_startup_microcode_security.md). -/
def UCS_YIELD_SPAN (y s : Nat) : Fld := ⟨0x01400000 + 0x040 + 0x10 * y + 4 * s, 0, 13, 0⟩
/-- `UCS_PARITY_CNT`, Table 15-17 (R545, 15_startup_microcode_security.md). -/
def UCS_PARITY_CNT (q : Nat) : Fld := ⟨0x01400000 + 0x100 + 4 * q, 0, 32, 0⟩

/-- The fields of block `ucs` with their access types. -/
def regsUcs : List (Acc × Fld) :=
  (List.range 4).map (fun y => (Acc.ro, UCS_VER_BASE y)) ++
  (List.range 4).map (fun y => (Acc.ro, UCS_VER_PATCH y)) ++
  (List.range 4).flatMap (fun y => (List.range 4).map (fun s => (Acc.ro, UCS_YIELD_SPAN y s))) ++
  (List.range 24).map (fun q => (Acc.ro, UCS_PARITY_CNT q))

end Sys2Proof.Machine.R
end

