-- ==== Sys2Proof/Machine/RegsStream.lean ====
section
/-! DEFINITION. The register fields of contexts, scheduler, ingest, egress, PTP and the spindles.
One definition per field of the register tables of spec/, in the order of the tables; each names its address
within BAR0, its place in the word and its reset value, and each block ends with the list of its fields with their
access types (Table 0-5, R8). Written from the tables of the spec by a script of this model's own. -/

namespace Sys2Proof.Machine.R

/-- `STC_CTL_CMD`, Table 2-2 (R49, 02_stream_contexts_and_scheduling.md). -/
def STC_CTL_CMD (n : Nat) : Fld := ⟨0x00200000 + 0x1000 * n, 28, 4, 0⟩
/-- `STC_CTL_VSD`, Table 2-2 (R49, 02_stream_contexts_and_scheduling.md). -/
def STC_CTL_VSD (n : Nat) : Fld := ⟨0x00200000 + 0x1000 * n, 19, 1, 0⟩
/-- `STC_CTL_RUNAHEAD`, Table 2-2 (R49, 02_stream_contexts_and_scheduling.md). -/
def STC_CTL_RUNAHEAD (n : Nat) : Fld := ⟨0x00200000 + 0x1000 * n, 18, 1, 0⟩
/-- `STC_CTL_GANG`, Table 2-2 (R49, 02_stream_contexts_and_scheduling.md). -/
def STC_CTL_GANG (n : Nat) : Fld := ⟨0x00200000 + 0x1000 * n, 17, 1, 0⟩
/-- `STC_CTL_CLASS`, Table 2-2 (R49, 02_stream_contexts_and_scheduling.md). -/
def STC_CTL_CLASS (n : Nat) : Fld := ⟨0x00200000 + 0x1000 * n, 14, 2, 0⟩
/-- `STC_CTL_SOURCE`, Table 2-2 (R49, 02_stream_contexts_and_scheduling.md). -/
def STC_CTL_SOURCE (n : Nat) : Fld := ⟨0x00200000 + 0x1000 * n, 12, 2, 0⟩
/-- `STC_CTL_FLOW`, Table 2-2 (R49, 02_stream_contexts_and_scheduling.md). -/
def STC_CTL_FLOW (n : Nat) : Fld := ⟨0x00200000 + 0x1000 * n, 0, 8, 0⟩
/-- `STC_CODEC_STANDARD`, Table 2-4 (R49, 02_stream_contexts_and_scheduling.md). -/
def STC_CODEC_STANDARD (n : Nat) : Fld := ⟨0x00200000 + 0x1000 * n + 0x004, 0, 4, 0⟩
/-- `STC_CODEC_CHROMA`, Table 2-4 (R49, 02_stream_contexts_and_scheduling.md). -/
def STC_CODEC_CHROMA (n : Nat) : Fld := ⟨0x00200000 + 0x1000 * n + 0x004, 4, 2, 0⟩
/-- `STC_CODEC_DEPTH`, Table 2-4 (R49, 02_stream_contexts_and_scheduling.md). -/
def STC_CODEC_DEPTH (n : Nat) : Fld := ⟨0x00200000 + 0x1000 * n + 0x004, 6, 2, 0⟩
/-- `STC_PICSIZE_MAX_W`, Table 2-4 (R49, 02_stream_contexts_and_scheduling.md). -/
def STC_PICSIZE_MAX_W (n : Nat) : Fld := ⟨0x00200000 + 0x1000 * n + 0x008, 0, 16, 0⟩
/-- `STC_PICSIZE_MAX_H`, Table 2-4 (R49, 02_stream_contexts_and_scheduling.md). -/
def STC_PICSIZE_MAX_H (n : Nat) : Fld := ⟨0x00200000 + 0x1000 * n + 0x008, 16, 16, 0⟩
/-- `STC_PERIOD_PERIOD`, Table 2-4 (R49, 02_stream_contexts_and_scheduling.md). -/
def STC_PERIOD_PERIOD (n : Nat) : Fld := ⟨0x00200000 + 0x1000 * n + 0x00C, 0, 28, 0⟩
/-- `STC_MAX_AU_BYTES`, Table 2-4 (R49, 02_stream_contexts_and_scheduling.md). -/
def STC_MAX_AU_BYTES (n : Nat) : Fld := ⟨0x00200000 + 0x1000 * n + 0x010, 0, 28, 0⟩
/-- `STC_SLACK_NS`, Table 2-4 (R49, 02_stream_contexts_and_scheduling.md). -/
def STC_SLACK_NS (n : Nat) : Fld := ⟨0x00200000 + 0x1000 * n + 0x014, 0, 28, 0⟩
/-- `STC_POOLS_PIC`, Table 2-4 (R49, 02_stream_contexts_and_scheduling.md). -/
def STC_POOLS_PIC (n : Nat) : Fld := ⟨0x00200000 + 0x1000 * n + 0x018, 0, 6, 0⟩
/-- `STC_POOLS_AU`, Table 2-4 (R49, 02_stream_contexts_and_scheduling.md). -/
def STC_POOLS_AU (n : Nat) : Fld := ⟨0x00200000 + 0x1000 * n + 0x018, 8, 6, 0⟩
/-- `STC_ADMIT_PIX_PIX`, Table 2-4 (R49, 02_stream_contexts_and_scheduling.md). -/
def STC_ADMIT_PIX_PIX (n : Nat) : Fld := ⟨0x00200000 + 0x1000 * n + 0x01C, 0, 26, 0⟩
/-- `STC_WIN_ORG_X`, Table 2-4 (R49, 02_stream_contexts_and_scheduling.md). -/
def STC_WIN_ORG_X (n : Nat) : Fld := ⟨0x00200000 + 0x1000 * n + 0x020, 0, 16, 0⟩
/-- `STC_WIN_ORG_Y`, Table 2-4 (R49, 02_stream_contexts_and_scheduling.md). -/
def STC_WIN_ORG_Y (n : Nat) : Fld := ⟨0x00200000 + 0x1000 * n + 0x020, 16, 15, 0⟩
/-- `STC_WIN_SIZE_W_M1`, Table 2-4 (R49, 02_stream_contexts_and_scheduling.md). -/
def STC_WIN_SIZE_W_M1 (n : Nat) : Fld := ⟨0x00200000 + 0x1000 * n + 0x024, 0, 16, 0⟩
/-- `STC_WIN_SIZE_H_M1`, Table 2-4 (R49, 02_stream_contexts_and_scheduling.md). -/
def STC_WIN_SIZE_H_M1 (n : Nat) : Fld := ⟨0x00200000 + 0x1000 * n + 0x024, 16, 15, 0⟩
/-- `STC_ADMIT_GANGED`, Table 2-5 (R49, 02_stream_contexts_and_scheduling.md). -/
def STC_ADMIT_GANGED (n : Nat) : Fld := ⟨0x00200000 + 0x1000 * n + 0x028, 25, 1, 0⟩
/-- `STC_ADMIT_HOMED`, Table 2-5 (R49, 02_stream_contexts_and_scheduling.md). -/
def STC_ADMIT_HOMED (n : Nat) : Fld := ⟨0x00200000 + 0x1000 * n + 0x028, 24, 1, 0⟩
/-- `STC_ADMIT_HOME`, Table 2-5 (R49, 02_stream_contexts_and_scheduling.md). -/
def STC_ADMIT_HOME (n : Nat) : Fld := ⟨0x00200000 + 0x1000 * n + 0x028, 20, 4, 0⟩
/-- `STC_ADMIT_LOAD`, Table 2-5 (R49, 02_stream_contexts_and_scheduling.md). -/
def STC_ADMIT_LOAD (n : Nat) : Fld := ⟨0x00200000 + 0x1000 * n + 0x028, 0, 20, 0⟩
/-- `STC_STATUS_WHY`, Table 2-6 (R49, 02_stream_contexts_and_scheduling.md). -/
def STC_STATUS_WHY (n : Nat) : Fld := ⟨0x00200000 + 0x1000 * n + 0x02C, 12, 4, 0⟩
/-- `STC_STATUS_FAULT`, Table 2-6 (R49, 02_stream_contexts_and_scheduling.md). -/
def STC_STATUS_FAULT (n : Nat) : Fld := ⟨0x00200000 + 0x1000 * n + 0x02C, 10, 1, 0⟩
/-- `STC_STATUS_GANG_SERIAL`, Table 2-6 (R49, 02_stream_contexts_and_scheduling.md). -/
def STC_STATUS_GANG_SERIAL (n : Nat) : Fld := ⟨0x00200000 + 0x1000 * n + 0x02C, 9, 1, 0⟩
/-- `STC_STATUS_UNHOMED`, Table 2-6 (R49, 02_stream_contexts_and_scheduling.md). -/
def STC_STATUS_UNHOMED (n : Nat) : Fld := ⟨0x00200000 + 0x1000 * n + 0x02C, 8, 1, 0⟩
/-- `STC_STATUS_OVERRUN`, Table 2-6 (R49, 02_stream_contexts_and_scheduling.md). -/
def STC_STATUS_OVERRUN (n : Nat) : Fld := ⟨0x00200000 + 0x1000 * n + 0x02C, 7, 1, 0⟩
/-- `STC_STATUS_LATE`, Table 2-6 (R49, 02_stream_contexts_and_scheduling.md). -/
def STC_STATUS_LATE (n : Nat) : Fld := ⟨0x00200000 + 0x1000 * n + 0x02C, 6, 1, 0⟩
/-- `STC_STATUS_ADMIT_FAIL`, Table 2-6 (R49, 02_stream_contexts_and_scheduling.md). -/
def STC_STATUS_ADMIT_FAIL (n : Nat) : Fld := ⟨0x00200000 + 0x1000 * n + 0x02C, 5, 1, 0⟩
/-- `STC_STATUS_CMD_REJECT`, Table 2-6 (R49, 02_stream_contexts_and_scheduling.md). -/
def STC_STATUS_CMD_REJECT (n : Nat) : Fld := ⟨0x00200000 + 0x1000 * n + 0x02C, 4, 1, 0⟩
/-- `STC_STATUS_BUSY`, Table 2-6 (R49, 02_stream_contexts_and_scheduling.md). -/
def STC_STATUS_BUSY (n : Nat) : Fld := ⟨0x00200000 + 0x1000 * n + 0x02C, 3, 1, 0⟩
/-- `STC_STATUS_STATE`, Table 2-6 (R49, 02_stream_contexts_and_scheduling.md). -/
def STC_STATUS_STATE (n : Nat) : Fld := ⟨0x00200000 + 0x1000 * n + 0x02C, 0, 3, 0⟩
/-- `STC_PIC_FMT_PLANAR`, Table 4-13 (R171, 04_decode_spindles.md). -/
def STC_PIC_FMT_PLANAR (n : Nat) : Fld := ⟨0x00200000 + 0x1000 * n + 0x100, 0, 1, 0⟩
/-- `STC_PIC_FMT_C16`, Table 4-13 (R171, 04_decode_spindles.md). -/
def STC_PIC_FMT_C16 (n : Nat) : Fld := ⟨0x00200000 + 0x1000 * n + 0x100, 1, 1, 0⟩
/-- `STC_PIC_FMT_GRAIN`, Table 4-13 (R171, 04_decode_spindles.md). -/
def STC_PIC_FMT_GRAIN (n : Nat) : Fld := ⟨0x00200000 + 0x1000 * n + 0x100, 2, 1, 0⟩
/-- `STC_PIC_FMT_AV1_CP`, Table 4-13 (R171, 04_decode_spindles.md). -/
def STC_PIC_FMT_AV1_CP (n : Nat) : Fld := ⟨0x00200000 + 0x1000 * n + 0x100, 3, 1, 0⟩
/-- `STC_PIC_FMT_VSD_MARGIN`, Table 4-13 (R171, 04_decode_spindles.md). -/
def STC_PIC_FMT_VSD_MARGIN (n : Nat) : Fld := ⟨0x00200000 + 0x1000 * n + 0x100, 4, 2, 0⟩
/-- `STC_PIC_OUT`, Table 4-13 (R171, 04_decode_spindles.md). -/
def STC_PIC_OUT (n : Nat) : Fld := ⟨0x00200000 + 0x1000 * n + 0x104, 0, 32, 0⟩
/-- `STC_PIC_HOLD`, Table 4-13 (R171, 04_decode_spindles.md). -/
def STC_PIC_HOLD (n : Nat) : Fld := ⟨0x00200000 + 0x1000 * n + 0x108, 0, 32, 0⟩
/-- `STC_PIC_HOLD_RES_HELD`, Table 4-13 (R171, 04_decode_spindles.md). -/
def STC_PIC_HOLD_RES_HELD (n : Nat) : Fld := ⟨0x00200000 + 0x1000 * n + 0x10C, 1, 1, 0⟩
/-- `STC_PIC_HOLD_RES_DONE`, Table 4-13 (R171, 04_decode_spindles.md). -/
def STC_PIC_HOLD_RES_DONE (n : Nat) : Fld := ⟨0x00200000 + 0x1000 * n + 0x10C, 0, 1, 0⟩
/-- `STC_VSD_RECT_XY_X`, Table 4-13 (R171, 04_decode_spindles.md). -/
def STC_VSD_RECT_XY_X (n : Nat) : Fld := ⟨0x00200000 + 0x1000 * n + 0x110, 0, 16, 0⟩
/-- `STC_VSD_RECT_XY_Y`, Table 4-13 (R171, 04_decode_spindles.md). -/
def STC_VSD_RECT_XY_Y (n : Nat) : Fld := ⟨0x00200000 + 0x1000 * n + 0x110, 16, 16, 0⟩
/-- `STC_VSD_RECT_WH_W`, Table 4-13 (R171, 04_decode_spindles.md). -/
def STC_VSD_RECT_WH_W (n : Nat) : Fld := ⟨0x00200000 + 0x1000 * n + 0x114, 0, 16, 0⟩
/-- `STC_VSD_RECT_WH_H`, Table 4-13 (R171, 04_decode_spindles.md). -/
def STC_VSD_RECT_WH_H (n : Nat) : Fld := ⟨0x00200000 + 0x1000 * n + 0x114, 16, 16, 0⟩
/-- `STC_VSD_STAT_REGIONS`, Table 4-13 (R171, 04_decode_spindles.md). -/
def STC_VSD_STAT_REGIONS (n : Nat) : Fld := ⟨0x00200000 + 0x1000 * n + 0x118, 0, 10, 0⟩
/-- `STC_VSD_STAT_DECODED`, Table 4-13 (R171, 04_decode_spindles.md). -/
def STC_VSD_STAT_DECODED (n : Nat) : Fld := ⟨0x00200000 + 0x1000 * n + 0x118, 16, 10, 0⟩
/-- `STC_VSD_STAT_ENGAGED`, Table 4-13 (R171, 04_decode_spindles.md). -/
def STC_VSD_STAT_ENGAGED (n : Nat) : Fld := ⟨0x00200000 + 0x1000 * n + 0x118, 31, 1, 0⟩
/-- `STC_ENT_OUT_SEQ`, Table 4-13 (R171, 04_decode_spindles.md). -/
def STC_ENT_OUT_SEQ (n i : Nat) : Fld := ⟨0x00200000 + 0x1000 * n + 0x200 + 0x20 * i, 0, 32, 0⟩
/-- `STC_ENT_OUTCOME`, Table 4-13 (R171, 04_decode_spindles.md). -/
def STC_ENT_OUTCOME (n i : Nat) : Fld := ⟨0x00200000 + 0x1000 * n + 0x204 + 0x20 * i, 0, 3, 0⟩
/-- `STC_ENT_CAUSE`, Table 4-13 (R171, 04_decode_spindles.md). -/
def STC_ENT_CAUSE (n i : Nat) : Fld := ⟨0x00200000 + 0x1000 * n + 0x204 + 0x20 * i, 8, 8, 0⟩
/-- `STC_ENT_PIC`, Table 4-13 (R171, 04_decode_spindles.md). -/
def STC_ENT_PIC (n i : Nat) : Fld := ⟨0x00200000 + 0x1000 * n + 0x204 + 0x20 * i, 31, 1, 0⟩
/-- `STC_ENT_FLAGS`, Table 4-13 (R171, 04_decode_spindles.md). -/
def STC_ENT_FLAGS (n i : Nat) : Fld := ⟨0x00200000 + 0x1000 * n + 0x208 + 0x20 * i, 0, 32, 0⟩
/-- `STC_ENT_ADDR_LO`, Table 4-13 (R171, 04_decode_spindles.md). -/
def STC_ENT_ADDR_LO (n i : Nat) : Fld := ⟨0x00200000 + 0x1000 * n + 0x20C + 0x20 * i, 0, 32, 0⟩
/-- `STC_ENT_ADDR_HI`, Table 4-13 (R171, 04_decode_spindles.md). -/
def STC_ENT_ADDR_HI (n i : Nat) : Fld := ⟨0x00200000 + 0x1000 * n + 0x210 + 0x20 * i, 0, 9, 0⟩
/-- `STC_ENT_GEN`, Table 4-13 (R171, 04_decode_spindles.md). -/
def STC_ENT_GEN (n i : Nat) : Fld := ⟨0x00200000 + 0x1000 * n + 0x214 + 0x20 * i, 0, 32, 0⟩
/-- `STC_ENT_T_LO`, Table 4-13 (R171, 04_decode_spindles.md). -/
def STC_ENT_T_LO (n i : Nat) : Fld := ⟨0x00200000 + 0x1000 * n + 0x218 + 0x20 * i, 0, 32, 0⟩
/-- `STC_ENT_T_HI`, Table 4-13 (R171, 04_decode_spindles.md). -/
def STC_ENT_T_HI (n i : Nat) : Fld := ⟨0x00200000 + 0x1000 * n + 0x21C + 0x20 * i, 0, 32, 0⟩
/-- `STC_SYNTH_CNT`, Table 5-7 (R221, 05_damaged_streams.md). -/
def STC_SYNTH_CNT (n : Nat) : Fld := ⟨0x00200000 + 0x1000 * n + 0x03C, 0, 32, 0⟩
/-- `STC_DROP_CNT`, Table 5-7 (R221, 05_damaged_streams.md). -/
def STC_DROP_CNT (n : Nat) : Fld := ⟨0x00200000 + 0x1000 * n + 0x040, 0, 32, 0⟩
/-- `STC_REJECT_CNT`, Table 5-7 (R221, 05_damaged_streams.md). -/
def STC_REJECT_CNT (n : Nat) : Fld := ⟨0x00200000 + 0x1000 * n + 0x044, 0, 32, 0⟩
/-- `STC_ABORT_CNT`, Table 5-7 (R221, 05_damaged_streams.md). -/
def STC_ABORT_CNT (n : Nat) : Fld := ⟨0x00200000 + 0x1000 * n + 0x048, 0, 32, 0⟩
/-- `STC_BUDGET_CNT`, Table 5-7 (R221, 05_damaged_streams.md). -/
def STC_BUDGET_CNT (n : Nat) : Fld := ⟨0x00200000 + 0x1000 * n + 0x04C, 0, 32, 0⟩
/-- `STC_SYNTAX_CNT`, Table 5-7 (R221, 05_damaged_streams.md). -/
def STC_SYNTAX_CNT (n : Nat) : Fld := ⟨0x00200000 + 0x1000 * n + 0x050, 0, 32, 0⟩
/-- `STC_UNITS_CNT`, Table 5-7 (R221, 05_damaged_streams.md). -/
def STC_UNITS_CNT (n : Nat) : Fld := ⟨0x00200000 + 0x1000 * n + 0x054, 0, 32, 0⟩
/-- `STC_RESYNC_CNT`, Table 5-7 (R221, 05_damaged_streams.md). -/
def STC_RESYNC_CNT (n : Nat) : Fld := ⟨0x00200000 + 0x1000 * n + 0x058, 0, 32, 0⟩
/-- `STC_MEMERR_CNT`, Table 5-7 (R221, 05_damaged_streams.md). -/
def STC_MEMERR_CNT (n : Nat) : Fld := ⟨0x00200000 + 0x1000 * n + 0x05C, 0, 32, 0⟩
/-- `STC_DAMAGE_TAINTED`, Table 5-7 (R221, 05_damaged_streams.md). -/
def STC_DAMAGE_TAINTED (n : Nat) : Fld := ⟨0x00200000 + 0x1000 * n + 0x060, 0, 1, 0⟩
/-- `STC_DAMAGE_RAP_WAIT`, Table 5-7 (R221, 05_damaged_streams.md). -/
def STC_DAMAGE_RAP_WAIT (n : Nat) : Fld := ⟨0x00200000 + 0x1000 * n + 0x060, 1, 1, 0⟩
/-- `STC_DAMAGE_CONCEAL_EVT`, Table 5-7 (R221, 05_damaged_streams.md). -/
def STC_DAMAGE_CONCEAL_EVT (n : Nat) : Fld := ⟨0x00200000 + 0x1000 * n + 0x060, 8, 1, 0⟩
/-- `STC_DAMAGE_REJECT_EVT`, Table 5-7 (R221, 05_damaged_streams.md). -/
def STC_DAMAGE_REJECT_EVT (n : Nat) : Fld := ⟨0x00200000 + 0x1000 * n + 0x060, 9, 1, 0⟩
/-- `STC_LATE_CNT` (R49, 02_stream_contexts_and_scheduling.md). -/
def STC_LATE_CNT (n : Nat) : Fld := ⟨0x00200000 + 0x1000 * n + 0x034, 0, 32, 0⟩
/-- `STC_CONCEAL_CNT` (R49, 02_stream_contexts_and_scheduling.md). -/
def STC_CONCEAL_CNT (n : Nat) : Fld := ⟨0x00200000 + 0x1000 * n + 0x030, 0, 32, 0⟩
/-- `STC_OVERRUN_CNT` (R49, 02_stream_contexts_and_scheduling.md). -/
def STC_OVERRUN_CNT (n : Nat) : Fld := ⟨0x00200000 + 0x1000 * n + 0x038, 0, 32, 0⟩

/-- The fields of block `stc` with their access types. -/
def regsStc (n : Nat) : List (Acc × Fld) :=
  [(Acc.wo, STC_CTL_CMD n),
   (Acc.rw, STC_CTL_VSD n),
   (Acc.rw, STC_CTL_RUNAHEAD n),
   (Acc.rw, STC_CTL_GANG n),
   (Acc.rw, STC_CTL_CLASS n),
   (Acc.rw, STC_CTL_SOURCE n),
   (Acc.rw, STC_CTL_FLOW n),
   (Acc.rw, STC_CODEC_STANDARD n),
   (Acc.rw, STC_CODEC_CHROMA n),
   (Acc.rw, STC_CODEC_DEPTH n),
   (Acc.rw, STC_PICSIZE_MAX_W n),
   (Acc.rw, STC_PICSIZE_MAX_H n)] ++
  [(Acc.rw, STC_PERIOD_PERIOD n),
   (Acc.rw, STC_MAX_AU_BYTES n),
   (Acc.rw, STC_SLACK_NS n),
   (Acc.rw, STC_POOLS_PIC n),
   (Acc.rw, STC_POOLS_AU n),
   (Acc.rw, STC_ADMIT_PIX_PIX n),
   (Acc.rw, STC_WIN_ORG_X n),
   (Acc.rw, STC_WIN_ORG_Y n),
   (Acc.rw, STC_WIN_SIZE_W_M1 n),
   (Acc.rw, STC_WIN_SIZE_H_M1 n),
   (Acc.ro, STC_ADMIT_GANGED n),
   (Acc.ro, STC_ADMIT_HOMED n)] ++
  [(Acc.ro, STC_ADMIT_HOME n),
   (Acc.ro, STC_ADMIT_LOAD n),
   (Acc.ro, STC_STATUS_WHY n),
   (Acc.w1c, STC_STATUS_FAULT n),
   (Acc.w1c, STC_STATUS_GANG_SERIAL n),
   (Acc.ro, STC_STATUS_UNHOMED n),
   (Acc.w1c, STC_STATUS_OVERRUN n),
   (Acc.w1c, STC_STATUS_LATE n),
   (Acc.w1c, STC_STATUS_ADMIT_FAIL n),
   (Acc.w1c, STC_STATUS_CMD_REJECT n),
   (Acc.ro, STC_STATUS_BUSY n),
   (Acc.ro, STC_STATUS_STATE n)] ++
  [(Acc.rw, STC_PIC_FMT_PLANAR n),
   (Acc.rw, STC_PIC_FMT_C16 n),
   (Acc.rw, STC_PIC_FMT_GRAIN n),
   (Acc.rw, STC_PIC_FMT_AV1_CP n),
   (Acc.rw, STC_PIC_FMT_VSD_MARGIN n),
   (Acc.ro, STC_PIC_OUT n),
   (Acc.wo, STC_PIC_HOLD n),
   (Acc.ro, STC_PIC_HOLD_RES_HELD n),
   (Acc.ro, STC_PIC_HOLD_RES_DONE n),
   (Acc.ro, STC_VSD_RECT_XY_X n),
   (Acc.ro, STC_VSD_RECT_XY_Y n),
   (Acc.ro, STC_VSD_RECT_WH_W n)] ++
  [(Acc.ro, STC_VSD_RECT_WH_H n),
   (Acc.ro, STC_VSD_STAT_REGIONS n),
   (Acc.ro, STC_VSD_STAT_DECODED n),
   (Acc.ro, STC_VSD_STAT_ENGAGED n),
   (Acc.ro, STC_SYNTH_CNT n),
   (Acc.ro, STC_DROP_CNT n),
   (Acc.ro, STC_REJECT_CNT n),
   (Acc.ro, STC_ABORT_CNT n),
   (Acc.ro, STC_BUDGET_CNT n),
   (Acc.ro, STC_SYNTAX_CNT n),
   (Acc.ro, STC_UNITS_CNT n),
   (Acc.ro, STC_RESYNC_CNT n)] ++
  [(Acc.ro, STC_MEMERR_CNT n),
   (Acc.ro, STC_DAMAGE_TAINTED n),
   (Acc.ro, STC_DAMAGE_RAP_WAIT n),
   (Acc.w1c, STC_DAMAGE_CONCEAL_EVT n),
   (Acc.w1c, STC_DAMAGE_REJECT_EVT n),
   (Acc.ro, STC_LATE_CNT n),
   (Acc.ro, STC_CONCEAL_CNT n),
   (Acc.ro, STC_OVERRUN_CNT n)] ++
  (List.range 64).map (fun i => (Acc.ro, STC_ENT_OUT_SEQ n i)) ++
  (List.range 64).map (fun i => (Acc.ro, STC_ENT_OUTCOME n i)) ++
  (List.range 64).map (fun i => (Acc.ro, STC_ENT_CAUSE n i)) ++
  (List.range 64).map (fun i => (Acc.ro, STC_ENT_PIC n i)) ++
  (List.range 64).map (fun i => (Acc.ro, STC_ENT_FLAGS n i)) ++
  (List.range 64).map (fun i => (Acc.ro, STC_ENT_ADDR_LO n i)) ++
  (List.range 64).map (fun i => (Acc.ro, STC_ENT_ADDR_HI n i)) ++
  (List.range 64).map (fun i => (Acc.ro, STC_ENT_GEN n i)) ++
  (List.range 64).map (fun i => (Acc.ro, STC_ENT_T_LO n i)) ++
  (List.range 64).map (fun i => (Acc.ro, STC_ENT_T_HI n i))

/-- `STC_CLASSMAP_LIMIT`, Table 2-10 (R64, 02_stream_contexts_and_scheduling.md). -/
def STC_CLASSMAP_LIMIT (c : Nat) : Fld := ⟨0x00280000 + 4 * c, 24, 7, (if c = 0 then 80 else if c = 1 then 95 else 100)⟩
/-- `STC_CLASSMAP_ENC_MASK`, Table 2-10 (R64, 02_stream_contexts_and_scheduling.md). -/
def STC_CLASSMAP_ENC_MASK (c : Nat) : Fld := ⟨0x00280000 + 4 * c, 16, 4, 0⟩
/-- `STC_CLASSMAP_DEC_MASK`, Table 2-10 (R64, 02_stream_contexts_and_scheduling.md). -/
def STC_CLASSMAP_DEC_MASK (c : Nat) : Fld := ⟨0x00280000 + 4 * c, 0, 16, 0⟩
/-- `STC_SPD_LOAD_LIVE_COUNT`, Table 2-11 (R65, 02_stream_contexts_and_scheduling.md). -/
def STC_SPD_LOAD_LIVE_COUNT (k : Nat) : Fld := ⟨0x00280000 + 0x40 + 4 * k, 16, 3, 0⟩
/-- `STC_SPD_LOAD_LIVE_LOAD`, Table 2-11 (R65, 02_stream_contexts_and_scheduling.md). -/
def STC_SPD_LOAD_LIVE_LOAD (k : Nat) : Fld := ⟨0x00280000 + 0x40 + 4 * k, 0, 16, 0⟩
/-- `STC_CLASS_LOAD` (R64, 02_stream_contexts_and_scheduling.md). -/
def STC_CLASS_LOAD (c : Nat) : Fld := ⟨0x00280000 + 0x10 + 4 * c, 0, 24, 0⟩

/-- The fields of block `sch` with their access types. -/
def regsSch : List (Acc × Fld) :=
  (List.range 4).map (fun c => (Acc.rw, STC_CLASSMAP_LIMIT c)) ++
  (List.range 4).map (fun c => (Acc.rwl, STC_CLASSMAP_ENC_MASK c)) ++
  (List.range 4).map (fun c => (Acc.rwl, STC_CLASSMAP_DEC_MASK c)) ++
  (List.range 16).map (fun k => (Acc.ro, STC_SPD_LOAD_LIVE_COUNT k)) ++
  (List.range 16).map (fun k => (Acc.ro, STC_SPD_LOAD_LIVE_LOAD k)) ++
  (List.range 4).map (fun c => (Acc.ro, STC_CLASS_LOAD c))

/-- `ING_PORT_CTL_EN`, Table 3-2 (R108, 03_stream_ingest.md). -/
def ING_PORT_CTL_EN (lp : Nat) : Fld := ⟨0x00400000 + 0x100 * lp, 31, 1, 0⟩
/-- `ING_PORT_CTL_VID`, Table 3-2 (R108, 03_stream_ingest.md). -/
def ING_PORT_CTL_VID (lp : Nat) : Fld := ⟨0x00400000 + 0x100 * lp, 16, 12, 0⟩
/-- `ING_PORT_CTL_VLAN_EN`, Table 3-2 (R108, 03_stream_ingest.md). -/
def ING_PORT_CTL_VLAN_EN (lp : Nat) : Fld := ⟨0x00400000 + 0x100 * lp, 15, 1, 0⟩
/-- `ING_PORT_CTL_PTP_EN`, Table 3-2 (R108, 03_stream_ingest.md). -/
def ING_PORT_CTL_PTP_EN (lp : Nat) : Fld := ⟨0x00400000 + 0x100 * lp, 14, 1, 0⟩
/-- `ING_PORT_CTL_AN`, Table 3-2 (R108, 03_stream_ingest.md). -/
def ING_PORT_CTL_AN (lp : Nat) : Fld := ⟨0x00400000 + 0x100 * lp, 6, 1, 0⟩
/-- `ING_PORT_CTL_FEC`, Table 3-2 (R108, 03_stream_ingest.md). -/
def ING_PORT_CTL_FEC (lp : Nat) : Fld := ⟨0x00400000 + 0x100 * lp, 4, 1, 0⟩
/-- `ING_PORT_CTL_MODE`, Table 3-2 (R108, 03_stream_ingest.md). -/
def ING_PORT_CTL_MODE (lp : Nat) : Fld := ⟨0x00400000 + 0x100 * lp, 0, 2, 0⟩
/-- `ING_PORT_STATUS_OLD_QUERIER`, Table 3-2 (R108, 03_stream_ingest.md). -/
def ING_PORT_STATUS_OLD_QUERIER (lp : Nat) : Fld := ⟨0x00400000 + 0x100 * lp + 0x04, 5, 1, 0⟩
/-- `ING_PORT_STATUS_PAUSE_SEEN`, Table 3-2 (R108, 03_stream_ingest.md). -/
def ING_PORT_STATUS_PAUSE_SEEN (lp : Nat) : Fld := ⟨0x00400000 + 0x100 * lp + 0x04, 4, 1, 0⟩
/-- `ING_PORT_STATUS_LINK_CHG`, Table 3-2 (R108, 03_stream_ingest.md). -/
def ING_PORT_STATUS_LINK_CHG (lp : Nat) : Fld := ⟨0x00400000 + 0x100 * lp + 0x04, 3, 1, 0⟩
/-- `ING_PORT_STATUS_FEC_LOCK`, Table 3-2 (R108, 03_stream_ingest.md). -/
def ING_PORT_STATUS_FEC_LOCK (lp : Nat) : Fld := ⟨0x00400000 + 0x100 * lp + 0x04, 2, 1, 0⟩
/-- `ING_PORT_STATUS_PCS_LOCK`, Table 3-2 (R108, 03_stream_ingest.md). -/
def ING_PORT_STATUS_PCS_LOCK (lp : Nat) : Fld := ⟨0x00400000 + 0x100 * lp + 0x04, 1, 1, 0⟩
/-- `ING_PORT_STATUS_LINK`, Table 3-2 (R108, 03_stream_ingest.md). -/
def ING_PORT_STATUS_LINK (lp : Nat) : Fld := ⟨0x00400000 + 0x100 * lp + 0x04, 0, 1, 0⟩
/-- `ING_PORT_MAC_HI_ADDR`, Table 3-2 (R108, 03_stream_ingest.md). -/
def ING_PORT_MAC_HI_ADDR (lp : Nat) : Fld := ⟨0x00400000 + 0x100 * lp + 0x08, 0, 16, 0⟩
/-- `ING_PORT_MAC_LO_ADDR`, Table 3-2 (R108, 03_stream_ingest.md). -/
def ING_PORT_MAC_LO_ADDR (lp : Nat) : Fld := ⟨0x00400000 + 0x100 * lp + 0x0C, 0, 32, 0⟩
/-- `ING_PORT_IP4_ADDR`, Table 3-2 (R108, 03_stream_ingest.md). -/
def ING_PORT_IP4_ADDR (lp : Nat) : Fld := ⟨0x00400000 + 0x100 * lp + 0x10, 0, 32, 0⟩
/-- `ING_PORT_IP6`, Table 3-2 (R108, 03_stream_ingest.md). -/
def ING_PORT_IP6 (lp j : Nat) : Fld := ⟨0x00400000 + 0x100 * lp + 0x20 + 4 * j, 0, 32, 0⟩
/-- `ING_PORT_IP6LL`, Table 3-2 (R108, 03_stream_ingest.md). -/
def ING_PORT_IP6LL (lp j : Nat) : Fld := ⟨0x00400000 + 0x100 * lp + 0x30 + 4 * j, 0, 32, 0⟩
/-- `ING_PORT_RXLAT_SUB_NS`, Table 3-2 (R108, 03_stream_ingest.md). -/
def ING_PORT_RXLAT_SUB_NS (lp : Nat) : Fld := ⟨0x00400000 + 0x100 * lp + 0x40, 0, 16, 0⟩
/-- `ING_DROP_CNT`, Table 3-2 (R108, 03_stream_ingest.md). -/
def ING_DROP_CNT (lp j : Nat) : Fld := ⟨0x00400000 + 0x100 * lp + 0x80 + 4 * j, 0, 32, 0⟩

/-- The fields of block `ingPort` with their access types. -/
def regsIngPort (lp : Nat) : List (Acc × Fld) :=
  [(Acc.rw, ING_PORT_CTL_EN lp),
   (Acc.rw, ING_PORT_CTL_VID lp),
   (Acc.rw, ING_PORT_CTL_VLAN_EN lp),
   (Acc.rw, ING_PORT_CTL_PTP_EN lp),
   (Acc.rwl, ING_PORT_CTL_AN lp),
   (Acc.rwl, ING_PORT_CTL_FEC lp),
   (Acc.rwl, ING_PORT_CTL_MODE lp),
   (Acc.w1c, ING_PORT_STATUS_OLD_QUERIER lp),
   (Acc.w1c, ING_PORT_STATUS_PAUSE_SEEN lp),
   (Acc.w1c, ING_PORT_STATUS_LINK_CHG lp),
   (Acc.ro, ING_PORT_STATUS_FEC_LOCK lp),
   (Acc.ro, ING_PORT_STATUS_PCS_LOCK lp)] ++
  [(Acc.ro, ING_PORT_STATUS_LINK lp),
   (Acc.rw, ING_PORT_MAC_HI_ADDR lp),
   (Acc.rw, ING_PORT_MAC_LO_ADDR lp),
   (Acc.rw, ING_PORT_IP4_ADDR lp),
   (Acc.rw, ING_PORT_RXLAT_SUB_NS lp)] ++
  (List.range 4).map (fun j => (Acc.rw, ING_PORT_IP6 lp j)) ++
  (List.range 4).map (fun j => (Acc.rw, ING_PORT_IP6LL lp j)) ++
  (List.range 16).map (fun j => (Acc.ro, ING_DROP_CNT lp j))

/-- `ING_MCAST_CTL_ROBUST`, Table 3-8 (R135, 03_stream_ingest.md). -/
def ING_MCAST_CTL_ROBUST : Fld := ⟨0x00400800 + 0x4, 0, 4, 2⟩
/-- `ING_MCAST_CTL_URI`, Table 3-8 (R135, 03_stream_ingest.md). -/
def ING_MCAST_CTL_URI : Fld := ⟨0x00400800 + 0x4, 8, 8, 10⟩
/-- `ING_MCAST_CTL_DSCP`, Table 3-8 (R135, 03_stream_ingest.md). -/
def ING_MCAST_CTL_DSCP : Fld := ⟨0x00400800 + 0x4, 16, 6, 48⟩
/-- `ING_RX_CTL_WAIT_TO` (R126, 03_stream_ingest.md). -/
def ING_RX_CTL_WAIT_TO : Fld := ⟨0x00400800, 0, 16, 100⟩

/-- The fields of block `ingGlb` with their access types. -/
def regsIngGlb : List (Acc × Fld) :=
  [(Acc.rw, ING_MCAST_CTL_ROBUST),
   (Acc.rw, ING_MCAST_CTL_URI),
   (Acc.rw, ING_MCAST_CTL_DSCP),
   (Acc.rw, ING_RX_CTL_WAIT_TO)]

/-- `ING_FLOW_CTL_EN`, Table 3-4 (R111, 03_stream_ingest.md). -/
def ING_FLOW_CTL_EN (n : Nat) : Fld := ⟨0x00404000 + 0x40 * n, 31, 1, 0⟩
/-- `ING_FLOW_CTL_MERGE`, Table 3-4 (R111, 03_stream_ingest.md). -/
def ING_FLOW_CTL_MERGE (n : Nat) : Fld := ⟨0x00404000 + 0x40 * n, 30, 1, 0⟩
/-- `ING_FLOW_CTL_PATH`, Table 3-4 (R111, 03_stream_ingest.md). -/
def ING_FLOW_CTL_PATH (n : Nat) : Fld := ⟨0x00404000 + 0x40 * n, 29, 1, 0⟩
/-- `ING_FLOW_CTL_ST2110`, Table 3-4 (R111, 03_stream_ingest.md). -/
def ING_FLOW_CTL_ST2110 (n : Nat) : Fld := ⟨0x00404000 + 0x40 * n, 28, 1, 0⟩
/-- `ING_FLOW_CTL_SSRC_EN`, Table 3-4 (R111, 03_stream_ingest.md). -/
def ING_FLOW_CTL_SSRC_EN (n : Nat) : Fld := ⟨0x00404000 + 0x40 * n, 27, 1, 0⟩
/-- `ING_FLOW_CTL_SRC_EN`, Table 3-4 (R111, 03_stream_ingest.md). -/
def ING_FLOW_CTL_SRC_EN (n : Nat) : Fld := ⟨0x00404000 + 0x40 * n, 26, 1, 0⟩
/-- `ING_FLOW_CTL_IPV6`, Table 3-4 (R111, 03_stream_ingest.md). -/
def ING_FLOW_CTL_IPV6 (n : Nat) : Fld := ⟨0x00404000 + 0x40 * n, 25, 1, 0⟩
/-- `ING_FLOW_CTL_PT_ANY`, Table 3-4 (R111, 03_stream_ingest.md). -/
def ING_FLOW_CTL_PT_ANY (n : Nat) : Fld := ⟨0x00404000 + 0x40 * n, 24, 1, 0⟩
/-- `ING_FLOW_CTL_PAIR`, Table 3-4 (R111, 03_stream_ingest.md). -/
def ING_FLOW_CTL_PAIR (n : Nat) : Fld := ⟨0x00404000 + 0x40 * n, 8, 8, 0⟩
/-- `ING_FLOW_CTL_LPORTS`, Table 3-4 (R111, 03_stream_ingest.md). -/
def ING_FLOW_CTL_LPORTS (n : Nat) : Fld := ⟨0x00404000 + 0x40 * n, 0, 8, 0⟩
/-- `ING_FLOW_UDP_DPORT`, Table 3-4 (R111, 03_stream_ingest.md). -/
def ING_FLOW_UDP_DPORT (n : Nat) : Fld := ⟨0x00404000 + 0x40 * n + 0x04, 0, 16, 0⟩
/-- `ING_FLOW_UDP_PT`, Table 3-4 (R111, 03_stream_ingest.md). -/
def ING_FLOW_UDP_PT (n : Nat) : Fld := ⟨0x00404000 + 0x40 * n + 0x04, 16, 7, 0⟩
/-- `ING_FLOW_SSRC_SSRC`, Table 3-4 (R111, 03_stream_ingest.md). -/
def ING_FLOW_SSRC_SSRC (n : Nat) : Fld := ⟨0x00404000 + 0x40 * n + 0x08, 0, 32, 0⟩
/-- `ING_FLOW_WIN_W`, Table 3-4 (R111, 03_stream_ingest.md). -/
def ING_FLOW_WIN_W (n : Nat) : Fld := ⟨0x00404000 + 0x40 * n + 0x0C, 0, 16, 100⟩
/-- `ING_FLOW_PLAYOUT_NS`, Table 3-4 (R111, 03_stream_ingest.md). -/
def ING_FLOW_PLAYOUT_NS (n : Nat) : Fld := ⟨0x00404000 + 0x40 * n + 0x10, 0, 28, 0⟩
/-- `ING_FLOW_PFX_LEN_BYTES`, Table 3-4 (R111, 03_stream_ingest.md). -/
def ING_FLOW_PFX_LEN_BYTES (n : Nat) : Fld := ⟨0x00404000 + 0x40 * n + 0x14, 0, 12, 0⟩
/-- `ING_FLOW_PFX_LO_ADDR`, Table 3-4 (R111, 03_stream_ingest.md). -/
def ING_FLOW_PFX_LO_ADDR (n : Nat) : Fld := ⟨0x00404000 + 0x40 * n + 0x18, 0, 32, 0⟩
/-- `ING_FLOW_PFX_HI_ADDR`, Table 3-4 (R111, 03_stream_ingest.md). -/
def ING_FLOW_PFX_HI_ADDR (n : Nat) : Fld := ⟨0x00404000 + 0x40 * n + 0x1C, 0, 9, 0⟩
/-- `ING_FLOW_DADDR`, Table 3-4 (R111, 03_stream_ingest.md). -/
def ING_FLOW_DADDR (n j : Nat) : Fld := ⟨0x00404000 + 0x40 * n + 0x20 + 4 * j, 0, 32, 0⟩
/-- `ING_FLOW_SADDR`, Table 3-4 (R111, 03_stream_ingest.md). -/
def ING_FLOW_SADDR (n j : Nat) : Fld := ⟨0x00404000 + 0x40 * n + 0x30 + 4 * j, 0, 32, 0⟩

/-- The fields of block `ingFlow` with their access types. -/
def regsIngFlow (n : Nat) : List (Acc × Fld) :=
  [(Acc.rw, ING_FLOW_CTL_EN n),
   (Acc.rw, ING_FLOW_CTL_MERGE n),
   (Acc.rw, ING_FLOW_CTL_PATH n),
   (Acc.rw, ING_FLOW_CTL_ST2110 n),
   (Acc.rw, ING_FLOW_CTL_SSRC_EN n),
   (Acc.rw, ING_FLOW_CTL_SRC_EN n),
   (Acc.rw, ING_FLOW_CTL_IPV6 n),
   (Acc.rw, ING_FLOW_CTL_PT_ANY n),
   (Acc.rw, ING_FLOW_CTL_PAIR n),
   (Acc.rw, ING_FLOW_CTL_LPORTS n),
   (Acc.rw, ING_FLOW_UDP_DPORT n),
   (Acc.rw, ING_FLOW_UDP_PT n)] ++
  [(Acc.rw, ING_FLOW_SSRC_SSRC n),
   (Acc.rw, ING_FLOW_WIN_W n),
   (Acc.rw, ING_FLOW_PLAYOUT_NS n),
   (Acc.rw, ING_FLOW_PFX_LEN_BYTES n),
   (Acc.rw, ING_FLOW_PFX_LO_ADDR n),
   (Acc.rw, ING_FLOW_PFX_HI_ADDR n)] ++
  (List.range 4).map (fun j => (Acc.rw, ING_FLOW_DADDR n j)) ++
  (List.range 4).map (fun j => (Acc.rw, ING_FLOW_SADDR n j))

/-- `ING_FLOW_PKTS`, Table 3-5 (R112, 03_stream_ingest.md). -/
def ING_FLOW_PKTS (n : Nat) : Fld := ⟨0x00408000 + 0x20 * n, 0, 32, 0⟩
/-- `ING_FLOW_DUPS`, Table 3-5 (R112, 03_stream_ingest.md). -/
def ING_FLOW_DUPS (n : Nat) : Fld := ⟨0x00408000 + 0x20 * n + 0x04, 0, 32, 0⟩
/-- `ING_FLOW_LOST`, Table 3-5 (R112, 03_stream_ingest.md). -/
def ING_FLOW_LOST (n : Nat) : Fld := ⟨0x00408000 + 0x20 * n + 0x08, 0, 32, 0⟩
/-- `ING_FLOW_DISCARD`, Table 3-5 (R112, 03_stream_ingest.md). -/
def ING_FLOW_DISCARD (n : Nat) : Fld := ⟨0x00408000 + 0x20 * n + 0x0C, 0, 32, 0⟩
/-- `ING_FLOW_AUS`, Table 3-5 (R112, 03_stream_ingest.md). -/
def ING_FLOW_AUS (n : Nat) : Fld := ⟨0x00408000 + 0x20 * n + 0x10, 0, 32, 0⟩
/-- `ING_FLOW_LOSS_AUS`, Table 3-5 (R112, 03_stream_ingest.md). -/
def ING_FLOW_LOSS_AUS (n : Nat) : Fld := ⟨0x00408000 + 0x20 * n + 0x14, 0, 32, 0⟩
/-- `ING_FLOW_STATUS_SEQ_JUMP`, Table 3-5 (R112, 03_stream_ingest.md). -/
def ING_FLOW_STATUS_SEQ_JUMP (n : Nat) : Fld := ⟨0x00408000 + 0x20 * n + 0x18, 3, 1, 0⟩
/-- `ING_FLOW_STATUS_TRUNC`, Table 3-5 (R112, 03_stream_ingest.md). -/
def ING_FLOW_STATUS_TRUNC (n : Nat) : Fld := ⟨0x00408000 + 0x20 * n + 0x18, 2, 1, 0⟩
/-- `ING_FLOW_STATUS_PATH_DOWN`, Table 3-5 (R112, 03_stream_ingest.md). -/
def ING_FLOW_STATUS_PATH_DOWN (n : Nat) : Fld := ⟨0x00408000 + 0x20 * n + 0x18, 1, 1, 0⟩
/-- `ING_FLOW_STATUS_PATH_UP`, Table 3-5 (R112, 03_stream_ingest.md). -/
def ING_FLOW_STATUS_PATH_UP (n : Nat) : Fld := ⟨0x00408000 + 0x20 * n + 0x18, 0, 1, 0⟩

/-- The fields of block `ingFlowStat` with their access types. -/
def regsIngFlowStat (n : Nat) : List (Acc × Fld) :=
  [(Acc.ro, ING_FLOW_PKTS n),
   (Acc.ro, ING_FLOW_DUPS n),
   (Acc.ro, ING_FLOW_LOST n),
   (Acc.ro, ING_FLOW_DISCARD n),
   (Acc.ro, ING_FLOW_AUS n),
   (Acc.ro, ING_FLOW_LOSS_AUS n),
   (Acc.w1c, ING_FLOW_STATUS_SEQ_JUMP n),
   (Acc.w1c, ING_FLOW_STATUS_TRUNC n),
   (Acc.w1c, ING_FLOW_STATUS_PATH_DOWN n),
   (Acc.ro, ING_FLOW_STATUS_PATH_UP n)]

/-- `ING_GRP_CTL_EN`, Table 3-8 (R135, 03_stream_ingest.md). -/
def ING_GRP_CTL_EN (g : Nat) : Fld := ⟨0x0040A000 + 0x40 * g, 31, 1, 0⟩
/-- `ING_GRP_CTL_IPV6`, Table 3-8 (R135, 03_stream_ingest.md). -/
def ING_GRP_CTL_IPV6 (g : Nat) : Fld := ⟨0x0040A000 + 0x40 * g, 30, 1, 0⟩
/-- `ING_GRP_CTL_INCLUDE`, Table 3-8 (R135, 03_stream_ingest.md). -/
def ING_GRP_CTL_INCLUDE (g : Nat) : Fld := ⟨0x0040A000 + 0x40 * g, 29, 1, 0⟩
/-- `ING_GRP_CTL_LPORTS`, Table 3-8 (R135, 03_stream_ingest.md). -/
def ING_GRP_CTL_LPORTS (g : Nat) : Fld := ⟨0x0040A000 + 0x40 * g, 0, 8, 0⟩
/-- `ING_GRP_GADDR`, Table 3-8 (R135, 03_stream_ingest.md). -/
def ING_GRP_GADDR (g j : Nat) : Fld := ⟨0x0040A000 + 0x40 * g + 0x10 + 4 * j, 0, 32, 0⟩
/-- `ING_GRP_SADDR`, Table 3-8 (R135, 03_stream_ingest.md). -/
def ING_GRP_SADDR (g j : Nat) : Fld := ⟨0x0040A000 + 0x40 * g + 0x20 + 4 * j, 0, 32, 0⟩

/-- The fields of block `ingGrp` with their access types. -/
def regsIngGrp (g : Nat) : List (Acc × Fld) :=
  [(Acc.rw, ING_GRP_CTL_EN g),
   (Acc.rw, ING_GRP_CTL_IPV6 g),
   (Acc.rw, ING_GRP_CTL_INCLUDE g),
   (Acc.rw, ING_GRP_CTL_LPORTS g)] ++
  (List.range 4).map (fun j => (Acc.rw, ING_GRP_GADDR g j)) ++
  (List.range 4).map (fun j => (Acc.rw, ING_GRP_SADDR g j))

/-- `ING_EGR_CTL_EN`, Table 3-11 (R148, 03_stream_ingest.md). -/
def ING_EGR_CTL_EN (e : Nat) : Fld := ⟨0x0040C000 + 0x100 * e, 31, 1, 0⟩
/-- `ING_EGR_CTL_DUAL`, Table 3-11 (R148, 03_stream_ingest.md). -/
def ING_EGR_CTL_DUAL (e : Nat) : Fld := ⟨0x0040C000 + 0x100 * e, 30, 1, 0⟩
/-- `ING_EGR_CTL_IPV6`, Table 3-11 (R148, 03_stream_ingest.md). -/
def ING_EGR_CTL_IPV6 (e : Nat) : Fld := ⟨0x0040C000 + 0x100 * e, 29, 1, 0⟩
/-- `ING_EGR_CTL_VLAN_EN`, Table 3-11 (R148, 03_stream_ingest.md). -/
def ING_EGR_CTL_VLAN_EN (e : Nat) : Fld := ⟨0x0040C000 + 0x100 * e, 28, 1, 0⟩
/-- `ING_EGR_CTL_FORMAT`, Table 3-11 (R148, 03_stream_ingest.md). -/
def ING_EGR_CTL_FORMAT (e : Nat) : Fld := ⟨0x0040C000 + 0x100 * e, 24, 2, 0⟩
/-- `ING_EGR_CTL_LPORT_B`, Table 3-11 (R148, 03_stream_ingest.md). -/
def ING_EGR_CTL_LPORT_B (e : Nat) : Fld := ⟨0x0040C000 + 0x100 * e, 4, 3, 0⟩
/-- `ING_EGR_CTL_LPORT_A`, Table 3-11 (R148, 03_stream_ingest.md). -/
def ING_EGR_CTL_LPORT_A (e : Nat) : Fld := ⟨0x0040C000 + 0x100 * e, 0, 3, 0⟩
/-- `ING_EGR_MTU_BYTES`, Table 3-11 (R148, 03_stream_ingest.md). -/
def ING_EGR_MTU_BYTES (e : Nat) : Fld := ⟨0x0040C000 + 0x100 * e + 0x04, 0, 14, 1400⟩
/-- `ING_EGR_RTP_PT`, Table 3-11 (R148, 03_stream_ingest.md). -/
def ING_EGR_RTP_PT (e : Nat) : Fld := ⟨0x0040C000 + 0x100 * e + 0x08, 0, 7, 96⟩
/-- `ING_EGR_SSRC`, Table 3-11 (R148, 03_stream_ingest.md). -/
def ING_EGR_SSRC (e : Nat) : Fld := ⟨0x0040C000 + 0x100 * e + 0x0C, 0, 32, 0⟩
/-- `ING_EGR_UDP_SPORT`, Table 3-11 (R148, 03_stream_ingest.md). -/
def ING_EGR_UDP_SPORT (e : Nat) : Fld := ⟨0x0040C000 + 0x100 * e + 0x10, 0, 16, 0⟩
/-- `ING_EGR_UDP_DPORT`, Table 3-11 (R148, 03_stream_ingest.md). -/
def ING_EGR_UDP_DPORT (e : Nat) : Fld := ⟨0x0040C000 + 0x100 * e + 0x10, 16, 16, 0⟩
/-- `ING_EGR_IPOPT_DSCP`, Table 3-11 (R148, 03_stream_ingest.md). -/
def ING_EGR_IPOPT_DSCP (e : Nat) : Fld := ⟨0x0040C000 + 0x100 * e + 0x14, 0, 6, 0⟩
/-- `ING_EGR_IPOPT_TTL`, Table 3-11 (R148, 03_stream_ingest.md). -/
def ING_EGR_IPOPT_TTL (e : Nat) : Fld := ⟨0x0040C000 + 0x100 * e + 0x14, 8, 8, 64⟩
/-- `ING_EGR_IPOPT_VID`, Table 3-11 (R148, 03_stream_ingest.md). -/
def ING_EGR_IPOPT_VID (e : Nat) : Fld := ⟨0x0040C000 + 0x100 * e + 0x14, 16, 12, 0⟩
/-- `ING_EGR_DMAC_A_HI`, Table 3-11 (R148, 03_stream_ingest.md). -/
def ING_EGR_DMAC_A_HI (e : Nat) : Fld := ⟨0x0040C000 + 0x100 * e + 0x18, 0, 16, 0⟩
/-- `ING_EGR_DMAC_A_LO`, Table 3-11 (R148, 03_stream_ingest.md). -/
def ING_EGR_DMAC_A_LO (e : Nat) : Fld := ⟨0x0040C000 + 0x100 * e + 0x1C, 0, 32, 0⟩
/-- `ING_EGR_DMAC_B_HI`, Table 3-11 (R148, 03_stream_ingest.md). -/
def ING_EGR_DMAC_B_HI (e : Nat) : Fld := ⟨0x0040C000 + 0x100 * e + 0x20, 0, 16, 0⟩
/-- `ING_EGR_DMAC_B_LO`, Table 3-11 (R148, 03_stream_ingest.md). -/
def ING_EGR_DMAC_B_LO (e : Nat) : Fld := ⟨0x0040C000 + 0x100 * e + 0x24, 0, 32, 0⟩
/-- `ING_EGR_DIP_A`, Table 3-11 (R148, 03_stream_ingest.md). -/
def ING_EGR_DIP_A (e j : Nat) : Fld := ⟨0x0040C000 + 0x100 * e + 0x30 + 4 * j, 0, 32, 0⟩
/-- `ING_EGR_DIP_B`, Table 3-11 (R148, 03_stream_ingest.md). -/
def ING_EGR_DIP_B (e j : Nat) : Fld := ⟨0x0040C000 + 0x100 * e + 0x40 + 4 * j, 0, 32, 0⟩
/-- `ING_EGR_PACE_NS`, Table 3-11 (R148, 03_stream_ingest.md). -/
def ING_EGR_PACE_NS (e : Nat) : Fld := ⟨0x0040C000 + 0x100 * e + 0x50, 0, 28, 0⟩
/-- `ING_EGR_PKTS`, Table 3-11 (R148, 03_stream_ingest.md). -/
def ING_EGR_PKTS (e : Nat) : Fld := ⟨0x0040C000 + 0x100 * e + 0x60, 0, 32, 0⟩
/-- `ING_EGR_AUS`, Table 3-11 (R148, 03_stream_ingest.md). -/
def ING_EGR_AUS (e : Nat) : Fld := ⟨0x0040C000 + 0x100 * e + 0x64, 0, 32, 0⟩
/-- `ING_EGR_DROPS`, Table 3-11 (R148, 03_stream_ingest.md). -/
def ING_EGR_DROPS (e : Nat) : Fld := ⟨0x0040C000 + 0x100 * e + 0x68, 0, 32, 0⟩

/-- The fields of block `ingEgr` with their access types. -/
def regsIngEgr (e : Nat) : List (Acc × Fld) :=
  [(Acc.rw, ING_EGR_CTL_EN e),
   (Acc.rw, ING_EGR_CTL_DUAL e),
   (Acc.rw, ING_EGR_CTL_IPV6 e),
   (Acc.rw, ING_EGR_CTL_VLAN_EN e),
   (Acc.rw, ING_EGR_CTL_FORMAT e),
   (Acc.rw, ING_EGR_CTL_LPORT_B e),
   (Acc.rw, ING_EGR_CTL_LPORT_A e),
   (Acc.rw, ING_EGR_MTU_BYTES e),
   (Acc.rw, ING_EGR_RTP_PT e),
   (Acc.rw, ING_EGR_SSRC e),
   (Acc.rw, ING_EGR_UDP_SPORT e),
   (Acc.rw, ING_EGR_UDP_DPORT e)] ++
  [(Acc.rw, ING_EGR_IPOPT_DSCP e),
   (Acc.rw, ING_EGR_IPOPT_TTL e),
   (Acc.rw, ING_EGR_IPOPT_VID e),
   (Acc.rw, ING_EGR_DMAC_A_HI e),
   (Acc.rw, ING_EGR_DMAC_A_LO e),
   (Acc.rw, ING_EGR_DMAC_B_HI e),
   (Acc.rw, ING_EGR_DMAC_B_LO e),
   (Acc.rw, ING_EGR_PACE_NS e),
   (Acc.ro, ING_EGR_PKTS e),
   (Acc.ro, ING_EGR_AUS e),
   (Acc.ro, ING_EGR_DROPS e)] ++
  (List.range 4).map (fun j => (Acc.rw, ING_EGR_DIP_A e j)) ++
  (List.range 4).map (fun j => (Acc.rw, ING_EGR_DIP_B e j))

/-- `PTP_CTL_EN`, Table 3-10 (R146, 03_stream_ingest.md). -/
def PTP_CTL_EN : Fld := ⟨0x00500000, 31, 1, 0⟩
/-- `PTP_CTL_DOMAIN`, Table 3-10 (R146, 03_stream_ingest.md). -/
def PTP_CTL_DOMAIN : Fld := ⟨0x00500000, 8, 8, 127⟩
/-- `PTP_STATE_STATE`, Table 3-10 (R146, 03_stream_ingest.md). -/
def PTP_STATE_STATE : Fld := ⟨0x00500000 + 0x04, 0, 3, 0⟩
/-- `PTP_STATE_LPORT`, Table 3-10 (R146, 03_stream_ingest.md). -/
def PTP_STATE_LPORT : Fld := ⟨0x00500000 + 0x04, 4, 3, 0⟩
/-- `PTP_STATE_CHANGED`, Table 3-10 (R146, 03_stream_ingest.md). -/
def PTP_STATE_CHANGED : Fld := ⟨0x00500000 + 0x04, 8, 1, 0⟩
/-- `PTP_PATH_DELAY_NS`, Table 3-10 (R146, 03_stream_ingest.md). -/
def PTP_PATH_DELAY_NS : Fld := ⟨0x00500000 + 0x08, 0, 24, 0⟩
/-- `PTP_OFFSET_NS`, Table 3-10 (R146, 03_stream_ingest.md). -/
def PTP_OFFSET_NS : Fld := ⟨0x00500000 + 0x0C, 0, 32, 0⟩
/-- `PTP_HOLDOVER_S`, Table 3-10 (R146, 03_stream_ingest.md). -/
def PTP_HOLDOVER_S : Fld := ⟨0x00500000 + 0x10, 0, 16, 60⟩
/-- `PTP_LOCK_THR_NS`, Table 3-10 (R146, 03_stream_ingest.md). -/
def PTP_LOCK_THR_NS : Fld := ⟨0x00500000 + 0x14, 0, 16, 100⟩
/-- `PTP_TIME_LO`, Table 3-10 (R146, 03_stream_ingest.md). -/
def PTP_TIME_LO : Fld := ⟨0x00500000 + 0x20, 0, 32, 0⟩
/-- `PTP_TIME_HI`, Table 3-10 (R146, 03_stream_ingest.md). -/
def PTP_TIME_HI : Fld := ⟨0x00500000 + 0x24, 0, 32, 0⟩
/-- `PTP_GM_ID_LO`, Table 3-10 (R146, 03_stream_ingest.md). -/
def PTP_GM_ID_LO : Fld := ⟨0x00500000 + 0x28, 0, 32, 0⟩
/-- `PTP_GM_ID_HI`, Table 3-10 (R146, 03_stream_ingest.md). -/
def PTP_GM_ID_HI : Fld := ⟨0x00500000 + 0x2C, 0, 32, 0⟩
/-- `PTP_FREQ_PPB`, Table 3-10 (R146, 03_stream_ingest.md). -/
def PTP_FREQ_PPB : Fld := ⟨0x00500000 + 0x30, 0, 32, 0⟩
/-- `PTP_SET_LO`, Table 3-10 (R146, 03_stream_ingest.md). -/
def PTP_SET_LO : Fld := ⟨0x00500000 + 0x38, 0, 32, 0⟩
/-- `PTP_SET_HI`, Table 3-10 (R146, 03_stream_ingest.md). -/
def PTP_SET_HI : Fld := ⟨0x00500000 + 0x3C, 0, 32, 0⟩

/-- The fields of block `ptp` with their access types. -/
def regsPtp : List (Acc × Fld) :=
  [(Acc.rw, PTP_CTL_EN),
   (Acc.rw, PTP_CTL_DOMAIN),
   (Acc.ro, PTP_STATE_STATE),
   (Acc.ro, PTP_STATE_LPORT),
   (Acc.w1c, PTP_STATE_CHANGED),
   (Acc.rw, PTP_PATH_DELAY_NS),
   (Acc.ro, PTP_OFFSET_NS),
   (Acc.rw, PTP_HOLDOVER_S),
   (Acc.rw, PTP_LOCK_THR_NS),
   (Acc.ro, PTP_TIME_LO),
   (Acc.ro, PTP_TIME_HI),
   (Acc.ro, PTP_GM_ID_LO)] ++
  [(Acc.ro, PTP_GM_ID_HI),
   (Acc.ro, PTP_FREQ_PPB),
   (Acc.wo, PTP_SET_LO),
   (Acc.wo, PTP_SET_HI)]

/-- `SPD_CTL_ALLOC_TO`, Table 4-1 (R157, 04_decode_spindles.md). -/
def SPD_CTL_ALLOC_TO (k : Nat) : Fld := ⟨0x00600000 + 0x10000 * k, 0, 16, 2000⟩
/-- `SPD_STATUS_STATE`, Table 4-1 (R157, 04_decode_spindles.md). -/
def SPD_STATUS_STATE (k : Nat) : Fld := ⟨0x00600000 + 0x10000 * k + 0x004, 0, 3, 0⟩
/-- `SPD_STATUS_RUNAHEAD`, Table 4-1 (R157, 04_decode_spindles.md). -/
def SPD_STATUS_RUNAHEAD (k : Nat) : Fld := ⟨0x00600000 + 0x10000 * k + 0x004, 3, 1, 0⟩
/-- `SPD_STATUS_SUSPENDED`, Table 4-1 (R157, 04_decode_spindles.md). -/
def SPD_STATUS_SUSPENDED (k : Nat) : Fld := ⟨0x00600000 + 0x10000 * k + 0x004, 4, 4, 0⟩
/-- `SPD_STATUS_CTX`, Table 4-1 (R157, 04_decode_spindles.md). -/
def SPD_STATUS_CTX (k : Nat) : Fld := ⟨0x00600000 + 0x10000 * k + 0x004, 8, 7, 0⟩
/-- `SPD_STATUS_GANGED`, Table 4-1 (R157, 04_decode_spindles.md). -/
def SPD_STATUS_GANGED (k : Nat) : Fld := ⟨0x00600000 + 0x10000 * k + 0x004, 15, 1, 0⟩
/-- `SPD_BUDGET_MULT`, Table 4-1 (R157, 04_decode_spindles.md). -/
def SPD_BUDGET_MULT (k : Nat) : Fld := ⟨0x00600000 + 0x10000 * k + 0x008, 0, 8, 64⟩
/-- `SPD_BUDGET_SLACK`, Table 4-1 (R157, 04_decode_spindles.md). -/
def SPD_BUDGET_SLACK (k : Nat) : Fld := ⟨0x00600000 + 0x10000 * k + 0x008, 16, 8, 64⟩
/-- `SPD_CAPS_STD`, Table 4-1 (R157, 04_decode_spindles.md). -/
def SPD_CAPS_STD (k : Nat) : Fld := ⟨0x00600000 + 0x10000 * k + 0x00C, 0, 4, 0xF⟩
/-- `SPD_PICS`, Table 4-1 (R157, 04_decode_spindles.md). -/
def SPD_PICS (k : Nat) : Fld := ⟨0x00600000 + 0x10000 * k + 0x010, 0, 32, 0⟩
/-- `SPD_VSD_SKIP`, Table 4-1 (R157, 04_decode_spindles.md). -/
def SPD_VSD_SKIP (k : Nat) : Fld := ⟨0x00600000 + 0x10000 * k + 0x014, 0, 32, 0⟩
/-- `SPD_LAST_CTX`, Table 4-1 (R157, 04_decode_spindles.md). -/
def SPD_LAST_CTX (k : Nat) : Fld := ⟨0x00600000 + 0x10000 * k + 0x018, 0, 7, 0⟩
/-- `SPD_LAST_OUTCOME`, Table 4-1 (R157, 04_decode_spindles.md). -/
def SPD_LAST_OUTCOME (k : Nat) : Fld := ⟨0x00600000 + 0x10000 * k + 0x018, 8, 3, 0⟩
/-- `SPD_LAST_CAUSE`, Table 4-1 (R157, 04_decode_spindles.md). -/
def SPD_LAST_CAUSE (k : Nat) : Fld := ⟨0x00600000 + 0x10000 * k + 0x018, 16, 8, 0⟩
/-- `SPD_WDOG_DATA_TO`, Table 5-4 (R212, 05_damaged_streams.md). -/
def SPD_WDOG_DATA_TO (k : Nat) : Fld := ⟨0x00600000 + 0x10000 * k + 0x020, 0, 16, 5000⟩
/-- `SPD_WDOG_RESP_TO`, Table 5-4 (R212, 05_damaged_streams.md). -/
def SPD_WDOG_RESP_TO (k : Nat) : Fld := ⟨0x00600000 + 0x10000 * k + 0x020, 16, 16, 4000⟩
/-- `SPD_WDOG_CNT`, Table 5-4 (R212, 05_damaged_streams.md). -/
def SPD_WDOG_CNT (k : Nat) : Fld := ⟨0x00600000 + 0x10000 * k + 0x024, 0, 32, 0⟩

/-- The fields of block `spd` with their access types. -/
def regsSpd (k : Nat) : List (Acc × Fld) :=
  [(Acc.rw, SPD_CTL_ALLOC_TO k),
   (Acc.ro, SPD_STATUS_STATE k),
   (Acc.ro, SPD_STATUS_RUNAHEAD k),
   (Acc.ro, SPD_STATUS_SUSPENDED k),
   (Acc.ro, SPD_STATUS_CTX k),
   (Acc.ro, SPD_STATUS_GANGED k),
   (Acc.rw, SPD_BUDGET_MULT k),
   (Acc.rw, SPD_BUDGET_SLACK k),
   (Acc.ro, SPD_CAPS_STD k),
   (Acc.ro, SPD_PICS k),
   (Acc.ro, SPD_VSD_SKIP k),
   (Acc.ro, SPD_LAST_CTX k)] ++
  [(Acc.ro, SPD_LAST_OUTCOME k),
   (Acc.ro, SPD_LAST_CAUSE k),
   (Acc.rw, SPD_WDOG_DATA_TO k),
   (Acc.rw, SPD_WDOG_RESP_TO k),
   (Acc.ro, SPD_WDOG_CNT k)]

/-- `SPE_CTL_ALLOC_TO`, Table 6-1 (R222, 06_encode_spindles.md). -/
def SPE_CTL_ALLOC_TO (k : Nat) : Fld := ⟨0x00700000 + 0x10000 * k, 0, 16, 2000⟩
/-- `SPE_STATUS_STATE`, Table 6-1 (R222, 06_encode_spindles.md). -/
def SPE_STATUS_STATE (k : Nat) : Fld := ⟨0x00700000 + 0x10000 * k + 0x004, 0, 3, 0⟩
/-- `SPE_STATUS_SESSION`, Table 6-1 (R222, 06_encode_spindles.md). -/
def SPE_STATUS_SESSION (k : Nat) : Fld := ⟨0x00700000 + 0x10000 * k + 0x004, 4, 4, 0⟩
/-- `SPE_STATUS_CARDING`, Table 6-1 (R222, 06_encode_spindles.md). -/
def SPE_STATUS_CARDING (k : Nat) : Fld := ⟨0x00700000 + 0x10000 * k + 0x004, 8, 1, 0⟩
/-- `SPE_CAPS_STD`, Table 6-1 (R222, 06_encode_spindles.md). -/
def SPE_CAPS_STD (k : Nat) : Fld := ⟨0x00700000 + 0x10000 * k + 0x00C, 0, 4, 0xB⟩
/-- `SPE_PICS`, Table 6-1 (R222, 06_encode_spindles.md). -/
def SPE_PICS (k : Nat) : Fld := ⟨0x00700000 + 0x10000 * k + 0x010, 0, 32, 0⟩
/-- `SPE_STRIPES`, Table 6-1 (R222, 06_encode_spindles.md). -/
def SPE_STRIPES (k : Nat) : Fld := ⟨0x00700000 + 0x10000 * k + 0x014, 0, 32, 0⟩
/-- `SPE_WDOG_RESP_TO`, Table 6-1 (R222, 06_encode_spindles.md). -/
def SPE_WDOG_RESP_TO (k : Nat) : Fld := ⟨0x00700000 + 0x10000 * k + 0x020, 16, 16, 4000⟩
/-- `SPE_WDOG_CNT`, Table 6-1 (R222, 06_encode_spindles.md). -/
def SPE_WDOG_CNT (k : Nat) : Fld := ⟨0x00700000 + 0x10000 * k + 0x024, 0, 32, 0⟩

/-- The fields of block `spe` with their access types. -/
def regsSpe (k : Nat) : List (Acc × Fld) :=
  [(Acc.rw, SPE_CTL_ALLOC_TO k),
   (Acc.ro, SPE_STATUS_STATE k),
   (Acc.ro, SPE_STATUS_SESSION k),
   (Acc.ro, SPE_STATUS_CARDING k),
   (Acc.ro, SPE_CAPS_STD k),
   (Acc.ro, SPE_PICS k),
   (Acc.ro, SPE_STRIPES k),
   (Acc.rw, SPE_WDOG_RESP_TO k),
   (Acc.ro, SPE_WDOG_CNT k)]

/-- `ENC_CTL_CMD`, Table 6-3 (R224, 06_encode_spindles.md). -/
def ENC_CTL_CMD (s : Nat) : Fld := ⟨0x00780000 + 0x400 * s, 28, 4, 0⟩
/-- `ENC_CTL_CLASS`, Table 6-3 (R224, 06_encode_spindles.md). -/
def ENC_CTL_CLASS (s : Nat) : Fld := ⟨0x00780000 + 0x400 * s, 14, 2, 1⟩
/-- `ENC_CTL_SOURCE`, Table 6-3 (R224, 06_encode_spindles.md). -/
def ENC_CTL_SOURCE (s : Nat) : Fld := ⟨0x00780000 + 0x400 * s, 12, 2, 0⟩
/-- `ENC_CTL_CTX`, Table 6-3 (R224, 06_encode_spindles.md). -/
def ENC_CTL_CTX (s : Nat) : Fld := ⟨0x00780000 + 0x400 * s, 0, 7, 0⟩
/-- `ENC_CODEC_STANDARD`, Table 6-3 (R224, 06_encode_spindles.md). -/
def ENC_CODEC_STANDARD (s : Nat) : Fld := ⟨0x00780000 + 0x400 * s + 0x004, 0, 4, 1⟩
/-- `ENC_CODEC_CHROMA`, Table 6-3 (R224, 06_encode_spindles.md). -/
def ENC_CODEC_CHROMA (s : Nat) : Fld := ⟨0x00780000 + 0x400 * s + 0x004, 4, 2, 0⟩
/-- `ENC_CODEC_DEPTH`, Table 6-3 (R224, 06_encode_spindles.md). -/
def ENC_CODEC_DEPTH (s : Nat) : Fld := ⟨0x00780000 + 0x400 * s + 0x004, 6, 2, 1⟩
/-- `ENC_CODEC_PRESET`, Table 6-3 (R224, 06_encode_spindles.md). -/
def ENC_CODEC_PRESET (s : Nat) : Fld := ⟨0x00780000 + 0x400 * s + 0x004, 8, 2, 1⟩
/-- `ENC_GOP_INTRA_PERIOD`, Table 6-3 (R224, 06_encode_spindles.md). -/
def ENC_GOP_INTRA_PERIOD (s : Nat) : Fld := ⟨0x00780000 + 0x400 * s + 0x008, 0, 16, 0⟩
/-- `ENC_GOP_STRUCT`, Table 6-3 (R224, 06_encode_spindles.md). -/
def ENC_GOP_STRUCT (s : Nat) : Fld := ⟨0x00780000 + 0x400 * s + 0x008, 16, 3, 1⟩
/-- `ENC_GOP_REFS`, Table 6-3 (R224, 06_encode_spindles.md). -/
def ENC_GOP_REFS (s : Nat) : Fld := ⟨0x00780000 + 0x400 * s + 0x008, 20, 2, 0⟩
/-- `ENC_GOP_CLOSED`, Table 6-3 (R224, 06_encode_spindles.md). -/
def ENC_GOP_CLOSED (s : Nat) : Fld := ⟨0x00780000 + 0x400 * s + 0x008, 22, 1, 1⟩
/-- `ENC_GOP_DIVIDER`, Table 6-3 (R224, 06_encode_spindles.md). -/
def ENC_GOP_DIVIDER (s : Nat) : Fld := ⟨0x00780000 + 0x400 * s + 0x008, 24, 4, 1⟩
/-- `ENC_CROP_XY_X`, Table 6-3 (R224, 06_encode_spindles.md). -/
def ENC_CROP_XY_X (s : Nat) : Fld := ⟨0x00780000 + 0x400 * s + 0x00C, 0, 16, 0⟩
/-- `ENC_CROP_XY_Y`, Table 6-3 (R224, 06_encode_spindles.md). -/
def ENC_CROP_XY_Y (s : Nat) : Fld := ⟨0x00780000 + 0x400 * s + 0x00C, 16, 16, 0⟩
/-- `ENC_CROP_WH_W`, Table 6-3 (R224, 06_encode_spindles.md). -/
def ENC_CROP_WH_W (s : Nat) : Fld := ⟨0x00780000 + 0x400 * s + 0x010, 0, 16, 0⟩
/-- `ENC_CROP_WH_H`, Table 6-3 (R224, 06_encode_spindles.md). -/
def ENC_CROP_WH_H (s : Nat) : Fld := ⟨0x00780000 + 0x400 * s + 0x010, 16, 16, 0⟩
/-- `ENC_PERIOD_NS`, Table 6-3 (R224, 06_encode_spindles.md). -/
def ENC_PERIOD_NS (s : Nat) : Fld := ⟨0x00780000 + 0x400 * s + 0x014, 0, 28, 0⟩
/-- `ENC_Q_Q`, Table 6-3 (R224, 06_encode_spindles.md). -/
def ENC_Q_Q (s : Nat) : Fld := ⟨0x00780000 + 0x400 * s + 0x018, 0, 6, 24⟩
/-- `ENC_CAP_RATE_KBPS`, Table 6-3 (R224, 06_encode_spindles.md). -/
def ENC_CAP_RATE_KBPS (s : Nat) : Fld := ⟨0x00780000 + 0x400 * s + 0x01C, 0, 32, 0⟩
/-- `ENC_CAP_SIZE_BITS`, Table 6-3 (R224, 06_encode_spindles.md). -/
def ENC_CAP_SIZE_BITS (s : Nat) : Fld := ⟨0x00780000 + 0x400 * s + 0x020, 0, 32, 0⟩
/-- `ENC_POOLS_RECON`, Table 6-3 (R224, 06_encode_spindles.md). -/
def ENC_POOLS_RECON (s : Nat) : Fld := ⟨0x00780000 + 0x400 * s + 0x024, 0, 6, 0⟩
/-- `ENC_POOLS_OUT`, Table 6-3 (R224, 06_encode_spindles.md). -/
def ENC_POOLS_OUT (s : Nat) : Fld := ⟨0x00780000 + 0x400 * s + 0x024, 8, 6, 0⟩
/-- `ENC_DEST_EGR`, Table 6-3 (R224, 06_encode_spindles.md). -/
def ENC_DEST_EGR (s : Nat) : Fld := ⟨0x00780000 + 0x400 * s + 0x028, 0, 3, 0⟩
/-- `ENC_DEST_EGR_EN`, Table 6-3 (R224, 06_encode_spindles.md). -/
def ENC_DEST_EGR_EN (s : Nat) : Fld := ⟨0x00780000 + 0x400 * s + 0x028, 3, 1, 0⟩
/-- `ENC_DEST_HOST_EN`, Table 6-3 (R224, 06_encode_spindles.md). -/
def ENC_DEST_HOST_EN (s : Nat) : Fld := ⟨0x00780000 + 0x400 * s + 0x028, 4, 1, 0⟩
/-- `ENC_TILES_COLS_M1`, Table 6-3 (R224, 06_encode_spindles.md). -/
def ENC_TILES_COLS_M1 (s : Nat) : Fld := ⟨0x00780000 + 0x400 * s + 0x02C, 0, 6, 0⟩
/-- `ENC_TILES_ROWS_M1`, Table 6-3 (R224, 06_encode_spindles.md). -/
def ENC_TILES_ROWS_M1 (s : Nat) : Fld := ⟨0x00780000 + 0x400 * s + 0x02C, 8, 6, 0⟩
/-- `ENC_TILES_MCTS`, Table 6-3 (R224, 06_encode_spindles.md). -/
def ENC_TILES_MCTS (s : Nat) : Fld := ⟨0x00780000 + 0x400 * s + 0x02C, 16, 1, 0⟩
/-- `ENC_STATUS_STATE`, Table 6-3 (R224, 06_encode_spindles.md). -/
def ENC_STATUS_STATE (s : Nat) : Fld := ⟨0x00780000 + 0x400 * s + 0x030, 0, 3, 0⟩
/-- `ENC_STATUS_BUSY`, Table 6-3 (R224, 06_encode_spindles.md). -/
def ENC_STATUS_BUSY (s : Nat) : Fld := ⟨0x00780000 + 0x400 * s + 0x030, 3, 1, 0⟩
/-- `ENC_STATUS_WHY`, Table 6-3 (R224, 06_encode_spindles.md). -/
def ENC_STATUS_WHY (s : Nat) : Fld := ⟨0x00780000 + 0x400 * s + 0x030, 4, 4, 0⟩
/-- `ENC_STATUS_CMD_REJECT`, Table 6-3 (R224, 06_encode_spindles.md). -/
def ENC_STATUS_CMD_REJECT (s : Nat) : Fld := ⟨0x00780000 + 0x400 * s + 0x030, 8, 1, 0⟩
/-- `ENC_STATUS_ADMIT_FAIL`, Table 6-3 (R224, 06_encode_spindles.md). -/
def ENC_STATUS_ADMIT_FAIL (s : Nat) : Fld := ⟨0x00780000 + 0x400 * s + 0x030, 9, 1, 0⟩
/-- `ENC_STATUS_CAP_REPEAT`, Table 6-3 (R224, 06_encode_spindles.md). -/
def ENC_STATUS_CAP_REPEAT (s : Nat) : Fld := ⟨0x00780000 + 0x400 * s + 0x030, 10, 1, 0⟩
/-- `ENC_STATUS_FLOOR`, Table 6-3 (R224, 06_encode_spindles.md). -/
def ENC_STATUS_FLOOR (s : Nat) : Fld := ⟨0x00780000 + 0x400 * s + 0x030, 11, 1, 0⟩
/-- `ENC_STATUS_SKIP`, Table 6-3 (R224, 06_encode_spindles.md). -/
def ENC_STATUS_SKIP (s : Nat) : Fld := ⟨0x00780000 + 0x400 * s + 0x030, 12, 1, 0⟩
/-- `ENC_STATUS_OUT_LOST`, Table 6-3 (R224, 06_encode_spindles.md). -/
def ENC_STATUS_OUT_LOST (s : Nat) : Fld := ⟨0x00780000 + 0x400 * s + 0x030, 13, 1, 0⟩
/-- `ENC_STATUS_HOST_OVERRUN`, Table 6-3 (R224, 06_encode_spindles.md). -/
def ENC_STATUS_HOST_OVERRUN (s : Nat) : Fld := ⟨0x00780000 + 0x400 * s + 0x030, 14, 1, 0⟩
/-- `ENC_STATUS_FAULT`, Table 6-3 (R224, 06_encode_spindles.md). -/
def ENC_STATUS_FAULT (s : Nat) : Fld := ⟨0x00780000 + 0x400 * s + 0x030, 15, 1, 0⟩
/-- `ENC_ADMIT_HOME`, Table 6-3 (R224, 06_encode_spindles.md). -/
def ENC_ADMIT_HOME (s : Nat) : Fld := ⟨0x00780000 + 0x400 * s + 0x034, 20, 4, 0⟩
/-- `ENC_ADMIT_LOAD`, Table 6-3 (R224, 06_encode_spindles.md). -/
def ENC_ADMIT_LOAD (s : Nat) : Fld := ⟨0x00780000 + 0x400 * s + 0x034, 0, 20, 0⟩
/-- `ENC_FLOOR_I_BITS`, Table 6-3 (R224, 06_encode_spindles.md). -/
def ENC_FLOOR_I_BITS (s : Nat) : Fld := ⟨0x00780000 + 0x400 * s + 0x038, 0, 32, 0⟩
/-- `ENC_REPEAT_BITS`, Table 6-3 (R224, 06_encode_spindles.md). -/
def ENC_REPEAT_BITS (s : Nat) : Fld := ⟨0x00780000 + 0x400 * s + 0x03C, 0, 32, 0⟩
/-- `ENC_BUCKET_BITS`, Table 6-3 (R224, 06_encode_spindles.md). -/
def ENC_BUCKET_BITS (s : Nat) : Fld := ⟨0x00780000 + 0x400 * s + 0x040, 0, 32, 0⟩
/-- `ENC_PICS_CNT`, Table 6-3 (R224, 06_encode_spindles.md). -/
def ENC_PICS_CNT (s : Nat) : Fld := ⟨0x00780000 + 0x400 * s + 0x044, 0, 32, 0⟩
/-- `ENC_SKIP_CNT`, Table 6-3 (R224, 06_encode_spindles.md). -/
def ENC_SKIP_CNT (s : Nat) : Fld := ⟨0x00780000 + 0x400 * s + 0x048, 0, 32, 0⟩
/-- `ENC_REPEAT_CNT`, Table 6-3 (R224, 06_encode_spindles.md). -/
def ENC_REPEAT_CNT (s : Nat) : Fld := ⟨0x00780000 + 0x400 * s + 0x04C, 0, 32, 0⟩
/-- `ENC_FLOOR_CNT`, Table 6-3 (R224, 06_encode_spindles.md). -/
def ENC_FLOOR_CNT (s : Nat) : Fld := ⟨0x00780000 + 0x400 * s + 0x050, 0, 32, 0⟩
/-- `ENC_DEFER_CNT`, Table 6-3 (R224, 06_encode_spindles.md). -/
def ENC_DEFER_CNT (s : Nat) : Fld := ⟨0x00780000 + 0x400 * s + 0x054, 0, 32, 0⟩
/-- `ENC_LOST_CNT`, Table 6-3 (R224, 06_encode_spindles.md). -/
def ENC_LOST_CNT (s : Nat) : Fld := ⟨0x00780000 + 0x400 * s + 0x058, 0, 32, 0⟩
/-- `ENC_HOST_DROP_CNT`, Table 6-3 (R224, 06_encode_spindles.md). -/
def ENC_HOST_DROP_CNT (s : Nat) : Fld := ⟨0x00780000 + 0x400 * s + 0x05C, 0, 32, 0⟩
/-- `ENC_SRC_LO`, Table 6-3 (R224, 06_encode_spindles.md). -/
def ENC_SRC_LO (s : Nat) : Fld := ⟨0x00780000 + 0x400 * s + 0x060, 0, 32, 0⟩
/-- `ENC_SRC_HI`, Table 6-3 (R224, 06_encode_spindles.md). -/
def ENC_SRC_HI (s : Nat) : Fld := ⟨0x00780000 + 0x400 * s + 0x064, 0, 9, 0⟩
/-- `ENC_SRC_TIME_LO`, Table 6-3 (R224, 06_encode_spindles.md). -/
def ENC_SRC_TIME_LO (s : Nat) : Fld := ⟨0x00780000 + 0x400 * s + 0x068, 0, 32, 0⟩
/-- `ENC_SRC_TIME_HI`, Table 6-3 (R224, 06_encode_spindles.md). -/
def ENC_SRC_TIME_HI (s : Nat) : Fld := ⟨0x00780000 + 0x400 * s + 0x06C, 0, 32, 0⟩
/-- `ENC_SRC_STATUS_QUEUED`, Table 6-3 (R224, 06_encode_spindles.md). -/
def ENC_SRC_STATUS_QUEUED (s : Nat) : Fld := ⟨0x00780000 + 0x400 * s + 0x070, 0, 5, 0⟩
/-- `ENC_OUT_SEQ`, Table 6-3 (R224, 06_encode_spindles.md). -/
def ENC_OUT_SEQ (s : Nat) : Fld := ⟨0x00780000 + 0x400 * s + 0x080, 0, 32, 0⟩
/-- `ENC_OUT_ACK`, Table 6-3 (R224, 06_encode_spindles.md). -/
def ENC_OUT_ACK (s : Nat) : Fld := ⟨0x00780000 + 0x400 * s + 0x084, 0, 32, 0⟩
/-- `ENC_OUT_ENT`, Table 6-3 (R224, 06_encode_spindles.md). -/
def ENC_OUT_ENT (s j : Nat) : Fld := ⟨0x00780000 + 0x400 * s + 0x200 + 4 * j, 0, 32, 0⟩

/-- The fields of block `enc` with their access types. -/
def regsEnc (s : Nat) : List (Acc × Fld) :=
  [(Acc.wo, ENC_CTL_CMD s),
   (Acc.rw, ENC_CTL_CLASS s),
   (Acc.rw, ENC_CTL_SOURCE s),
   (Acc.rw, ENC_CTL_CTX s),
   (Acc.rw, ENC_CODEC_STANDARD s),
   (Acc.rw, ENC_CODEC_CHROMA s),
   (Acc.rw, ENC_CODEC_DEPTH s),
   (Acc.rw, ENC_CODEC_PRESET s),
   (Acc.rw, ENC_GOP_INTRA_PERIOD s),
   (Acc.rw, ENC_GOP_STRUCT s),
   (Acc.rw, ENC_GOP_REFS s),
   (Acc.rw, ENC_GOP_CLOSED s)] ++
  [(Acc.rw, ENC_GOP_DIVIDER s),
   (Acc.rw, ENC_CROP_XY_X s),
   (Acc.rw, ENC_CROP_XY_Y s),
   (Acc.rw, ENC_CROP_WH_W s),
   (Acc.rw, ENC_CROP_WH_H s),
   (Acc.rw, ENC_PERIOD_NS s),
   (Acc.rw, ENC_Q_Q s),
   (Acc.rw, ENC_CAP_RATE_KBPS s),
   (Acc.rw, ENC_CAP_SIZE_BITS s),
   (Acc.rw, ENC_POOLS_RECON s),
   (Acc.rw, ENC_POOLS_OUT s),
   (Acc.rw, ENC_DEST_EGR s)] ++
  [(Acc.rw, ENC_DEST_EGR_EN s),
   (Acc.rw, ENC_DEST_HOST_EN s),
   (Acc.rw, ENC_TILES_COLS_M1 s),
   (Acc.rw, ENC_TILES_ROWS_M1 s),
   (Acc.rw, ENC_TILES_MCTS s),
   (Acc.ro, ENC_STATUS_STATE s),
   (Acc.ro, ENC_STATUS_BUSY s),
   (Acc.ro, ENC_STATUS_WHY s),
   (Acc.w1c, ENC_STATUS_CMD_REJECT s),
   (Acc.w1c, ENC_STATUS_ADMIT_FAIL s),
   (Acc.w1c, ENC_STATUS_CAP_REPEAT s),
   (Acc.w1c, ENC_STATUS_FLOOR s)] ++
  [(Acc.w1c, ENC_STATUS_SKIP s),
   (Acc.w1c, ENC_STATUS_OUT_LOST s),
   (Acc.w1c, ENC_STATUS_HOST_OVERRUN s),
   (Acc.w1c, ENC_STATUS_FAULT s),
   (Acc.ro, ENC_ADMIT_HOME s),
   (Acc.ro, ENC_ADMIT_LOAD s),
   (Acc.ro, ENC_FLOOR_I_BITS s),
   (Acc.ro, ENC_REPEAT_BITS s),
   (Acc.ro, ENC_BUCKET_BITS s),
   (Acc.ro, ENC_PICS_CNT s),
   (Acc.ro, ENC_SKIP_CNT s),
   (Acc.ro, ENC_REPEAT_CNT s)] ++
  [(Acc.ro, ENC_FLOOR_CNT s),
   (Acc.ro, ENC_DEFER_CNT s),
   (Acc.ro, ENC_LOST_CNT s),
   (Acc.ro, ENC_HOST_DROP_CNT s),
   (Acc.wo, ENC_SRC_LO s),
   (Acc.wo, ENC_SRC_HI s),
   (Acc.rw, ENC_SRC_TIME_LO s),
   (Acc.rw, ENC_SRC_TIME_HI s),
   (Acc.ro, ENC_SRC_STATUS_QUEUED s),
   (Acc.ro, ENC_OUT_SEQ s),
   (Acc.rw, ENC_OUT_ACK s)] ++
  (List.range 128).map (fun j => (Acc.ro, ENC_OUT_ENT s j))

/-- `SPE_CARD_SUBMIT_LO`, Table 6-13 (R263, 06_encode_spindles.md). -/
def SPE_CARD_SUBMIT_LO : Fld := ⟨0x007C0000, 0, 32, 0⟩
/-- `SPE_CARD_SUBMIT_HI`, Table 6-13 (R263, 06_encode_spindles.md). -/
def SPE_CARD_SUBMIT_HI : Fld := ⟨0x007C0000 + 0x04, 0, 9, 0⟩
/-- `SPE_CARD_STATUS_QUEUED`, Table 6-13 (R263, 06_encode_spindles.md). -/
def SPE_CARD_STATUS_QUEUED : Fld := ⟨0x007C0000 + 0x08, 0, 5, 0⟩
/-- `SPE_CARD_STATUS_DONE`, Table 6-13 (R263, 06_encode_spindles.md). -/
def SPE_CARD_STATUS_DONE : Fld := ⟨0x007C0000 + 0x08, 8, 1, 0⟩
/-- `SPE_CARD_STATUS_SUBMIT_LOST`, Table 6-13 (R263, 06_encode_spindles.md). -/
def SPE_CARD_STATUS_SUBMIT_LOST : Fld := ⟨0x007C0000 + 0x08, 9, 1, 0⟩
/-- `SPE_CARD_DONE_CNT`, Table 6-13 (R263, 06_encode_spindles.md). -/
def SPE_CARD_DONE_CNT : Fld := ⟨0x007C0000 + 0x0C, 0, 32, 0⟩

/-- The fields of block `card` with their access types. -/
def regsCard : List (Acc × Fld) :=
  [(Acc.wo, SPE_CARD_SUBMIT_LO),
   (Acc.wo, SPE_CARD_SUBMIT_HI),
   (Acc.ro, SPE_CARD_STATUS_QUEUED),
   (Acc.w1c, SPE_CARD_STATUS_DONE),
   (Acc.w1c, SPE_CARD_STATUS_SUBMIT_LOST),
   (Acc.ro, SPE_CARD_DONE_CNT)]

end Sys2Proof.Machine.R
end

