-- ==== Sys2Proof/Machine/RegsWall.lean ====
section
/-! DEFINITION. The register fields of the ply engines, the canvas and the Brodys ports.
One definition per field of the register tables of spec/, in the order of the tables; each names its address
within BAR0, its place in the word and its reset value, and each block ends with the list of its fields with their
access types (Table 0-5, R8). Written from the tables of the spec by a script of this model's own. -/

namespace Sys2Proof.Machine.R

/-- `PLY_CTL_RUN`, Table 7-2 (R275, 07_ply_engines.md). -/
def PLY_CTL_RUN (e : Nat) : Fld := ⟨0x00801000 + 0x100000 * e, 0, 1, 0⟩
/-- `PLY_STATUS_QUIESCED`, Table 7-2 (R275, 07_ply_engines.md). -/
def PLY_STATUS_QUIESCED (e : Nat) : Fld := ⟨0x00801000 + 0x100000 * e + 0x004, 0, 1, 1⟩
/-- `PLY_STATUS_LATE`, Table 7-2 (R275, 07_ply_engines.md). -/
def PLY_STATUS_LATE (e : Nat) : Fld := ⟨0x00801000 + 0x100000 * e + 0x004, 1, 1, 0⟩
/-- `PLY_STATUS_COMMIT_REJECT`, Table 7-2 (R275, 07_ply_engines.md). -/
def PLY_STATUS_COMMIT_REJECT (e : Nat) : Fld := ⟨0x00801000 + 0x100000 * e + 0x004, 2, 1, 0⟩
/-- `PLY_STATUS_COMMITTED`, Table 7-2 (R275, 07_ply_engines.md). -/
def PLY_STATUS_COMMITTED (e : Nat) : Fld := ⟨0x00801000 + 0x100000 * e + 0x004, 3, 1, 0⟩
/-- `PLY_STATUS_WHY`, Table 7-2 (R275, 07_ply_engines.md). -/
def PLY_STATUS_WHY (e : Nat) : Fld := ⟨0x00801000 + 0x100000 * e + 0x004, 4, 4, 0⟩
/-- `PLY_STATUS_BLACK`, Table 7-2 (R275, 07_ply_engines.md). -/
def PLY_STATUS_BLACK (e : Nat) : Fld := ⟨0x00801000 + 0x100000 * e + 0x004, 8, 1, 0⟩
/-- `PLY_LATE_CNT`, Table 7-2 (R275, 07_ply_engines.md). -/
def PLY_LATE_CNT (e : Nat) : Fld := ⟨0x00801000 + 0x100000 * e + 0x008, 0, 32, 0⟩
/-- `PLY_LOAD`, Table 7-2 (R275, 07_ply_engines.md). -/
def PLY_LOAD (e : Nat) : Fld := ⟨0x00801000 + 0x100000 * e + 0x00C, 0, 32, 0⟩
/-- `PLY_HOLD_FAIL_CNT`, Table 7-2 (R275, 07_ply_engines.md). -/
def PLY_HOLD_FAIL_CNT (e : Nat) : Fld := ⟨0x00801000 + 0x100000 * e + 0x010, 0, 32, 0⟩
/-- `PLY_PORTMAP`, Table 7-2 (R275, 07_ply_engines.md). -/
def PLY_PORTMAP (e : Nat) : Fld := ⟨0x00801000 + 0x100000 * e + 0x020, 0, 32, 0⟩
/-- `PLY_PORTEN`, Table 7-2 (R275, 07_ply_engines.md). -/
def PLY_PORTEN (e : Nat) : Fld := ⟨0x00801000 + 0x100000 * e + 0x024, 0, 8, 0⟩

/-- The fields of block `plyEng` with their access types. -/
def regsPlyEng (e : Nat) : List (Acc × Fld) :=
  [(Acc.rw, PLY_CTL_RUN e),
   (Acc.ro, PLY_STATUS_QUIESCED e),
   (Acc.w1c, PLY_STATUS_LATE e),
   (Acc.w1c, PLY_STATUS_COMMIT_REJECT e),
   (Acc.w1c, PLY_STATUS_COMMITTED e),
   (Acc.ro, PLY_STATUS_WHY e),
   (Acc.ro, PLY_STATUS_BLACK e),
   (Acc.ro, PLY_LATE_CNT e),
   (Acc.ro, PLY_LOAD e),
   (Acc.ro, PLY_HOLD_FAIL_CNT e),
   (Acc.rwl, PLY_PORTMAP e),
   (Acc.rwl, PLY_PORTEN e)]

/-- `PLY_CANVAS_CTL_EN`, Table 7-5 (R283, 07_ply_engines.md). -/
def PLY_CANVAS_CTL_EN : Fld := ⟨0x00800000, 31, 1, 0⟩
/-- `PLY_CANVAS_CTL_HOLD`, Table 7-5 (R283, 07_ply_engines.md). -/
def PLY_CANVAS_CTL_HOLD : Fld := ⟨0x00800000, 8, 1, 0⟩
/-- `PLY_CANVAS_CTL_WSYNC_OUT_EN`, Table 7-5 (R283, 07_ply_engines.md). -/
def PLY_CANVAS_CTL_WSYNC_OUT_EN : Fld := ⟨0x00800000, 4, 1, 0⟩
/-- `PLY_CANVAS_CTL_SOURCE`, Table 7-5 (R283, 07_ply_engines.md). -/
def PLY_CANVAS_CTL_SOURCE : Fld := ⟨0x00800000, 0, 2, 0⟩
/-- `PLY_CANVAS_RATE_N`, Table 7-5 (R283, 07_ply_engines.md). -/
def PLY_CANVAS_RATE_N : Fld := ⟨0x00800000 + 0x004, 0, 20, 60⟩
/-- `PLY_CANVAS_RATE_D`, Table 7-5 (R283, 07_ply_engines.md). -/
def PLY_CANVAS_RATE_D : Fld := ⟨0x00800000 + 0x008, 0, 16, 1⟩
/-- `PLY_CANVAS_PHASE`, Table 7-5 (R283, 07_ply_engines.md). -/
def PLY_CANVAS_PHASE : Fld := ⟨0x00800000 + 0x00C, 0, 28, 0⟩
/-- `PLY_CANVAS_SYNC_DELAY`, Table 7-5 (R283, 07_ply_engines.md). -/
def PLY_CANVAS_SYNC_DELAY : Fld := ⟨0x00800000 + 0x010, 0, 16, 20000⟩
/-- `PLY_CANVAS_STATUS_RUNNING`, Table 7-5 (R283, 07_ply_engines.md). -/
def PLY_CANVAS_STATUS_RUNNING : Fld := ⟨0x00800000 + 0x014, 0, 1, 0⟩
/-- `PLY_CANVAS_STATUS_FRAME`, Table 7-5 (R283, 07_ply_engines.md). -/
def PLY_CANVAS_STATUS_FRAME : Fld := ⟨0x00800000 + 0x014, 1, 1, 0⟩
/-- `PLY_CANVAS_STATUS_WSYNC_EARLY`, Table 7-5 (R283, 07_ply_engines.md). -/
def PLY_CANVAS_STATUS_WSYNC_EARLY : Fld := ⟨0x00800000 + 0x014, 2, 1, 0⟩
/-- `PLY_CANVAS_STATUS_WSYNC_LOST`, Table 7-5 (R283, 07_ply_engines.md). -/
def PLY_CANVAS_STATUS_WSYNC_LOST : Fld := ⟨0x00800000 + 0x014, 3, 1, 0⟩
/-- `PLY_CANVAS_STATUS_TIME_UNLOCKED`, Table 7-5 (R283, 07_ply_engines.md). -/
def PLY_CANVAS_STATUS_TIME_UNLOCKED : Fld := ⟨0x00800000 + 0x014, 4, 1, 0⟩
/-- `PLY_CANVAS_STATUS_BAD_RATE`, Table 7-5 (R283, 07_ply_engines.md). -/
def PLY_CANVAS_STATUS_BAD_RATE : Fld := ⟨0x00800000 + 0x014, 5, 1, 0⟩
/-- `PLY_CANVAS_STATUS_SHORT_SKIP`, Table 7-5 (R283, 07_ply_engines.md). -/
def PLY_CANVAS_STATUS_SHORT_SKIP : Fld := ⟨0x00800000 + 0x014, 6, 1, 0⟩
/-- `PLY_CANVAS_FRAME_LO`, Table 7-5 (R283, 07_ply_engines.md). -/
def PLY_CANVAS_FRAME_LO : Fld := ⟨0x00800000 + 0x018, 0, 32, 0⟩
/-- `PLY_CANVAS_FRAME_HI`, Table 7-5 (R283, 07_ply_engines.md). -/
def PLY_CANVAS_FRAME_HI : Fld := ⟨0x00800000 + 0x01C, 0, 32, 0⟩
/-- `PLY_CANVAS_TSTART_LO`, Table 7-5 (R283, 07_ply_engines.md). -/
def PLY_CANVAS_TSTART_LO : Fld := ⟨0x00800000 + 0x020, 0, 32, 0⟩
/-- `PLY_CANVAS_TSTART_HI`, Table 7-5 (R283, 07_ply_engines.md). -/
def PLY_CANVAS_TSTART_HI : Fld := ⟨0x00800000 + 0x024, 0, 32, 0⟩
/-- `PLY_CANVAS_PEAK`, Table 7-5 (R283, 07_ply_engines.md). -/
def PLY_CANVAS_PEAK : Fld := ⟨0x00800000 + 0x028, 0, 16, 1000⟩
/-- `PLY_COMMIT`, Table 7-5 (R283, 07_ply_engines.md). -/
def PLY_COMMIT : Fld := ⟨0x00800000 + 0x030, 0, 2, 0⟩
/-- `PLY_AGE_TARGET`, Table 7-5 (R283, 07_ply_engines.md). -/
def PLY_AGE_TARGET : Fld := ⟨0x00800000 + 0x040, 0, 24, 14265754⟩
/-- `PLY_AGE_TARGET_B`, Table 7-5 (R283, 07_ply_engines.md). -/
def PLY_AGE_TARGET_B : Fld := ⟨0x00800000 + 0x044, 0, 12, 3482⟩
/-- `PLY_AGE_MAX`, Table 7-5 (R283, 07_ply_engines.md). -/
def PLY_AGE_MAX : Fld := ⟨0x00800000 + 0x048, 0, 16, 5120⟩

/-- The fields of block `canvas` with their access types. -/
def regsCanvas : List (Acc × Fld) :=
  [(Acc.rw, PLY_CANVAS_CTL_EN),
   (Acc.rw, PLY_CANVAS_CTL_HOLD),
   (Acc.rw, PLY_CANVAS_CTL_WSYNC_OUT_EN),
   (Acc.rw, PLY_CANVAS_CTL_SOURCE),
   (Acc.rw, PLY_CANVAS_RATE_N),
   (Acc.rw, PLY_CANVAS_RATE_D),
   (Acc.rw, PLY_CANVAS_PHASE),
   (Acc.rw, PLY_CANVAS_SYNC_DELAY),
   (Acc.ro, PLY_CANVAS_STATUS_RUNNING),
   (Acc.w1c, PLY_CANVAS_STATUS_FRAME),
   (Acc.w1c, PLY_CANVAS_STATUS_WSYNC_EARLY),
   (Acc.w1c, PLY_CANVAS_STATUS_WSYNC_LOST)] ++
  [(Acc.ro, PLY_CANVAS_STATUS_TIME_UNLOCKED),
   (Acc.w1c, PLY_CANVAS_STATUS_BAD_RATE),
   (Acc.w1c, PLY_CANVAS_STATUS_SHORT_SKIP),
   (Acc.ro, PLY_CANVAS_FRAME_LO),
   (Acc.ro, PLY_CANVAS_FRAME_HI),
   (Acc.ro, PLY_CANVAS_TSTART_LO),
   (Acc.ro, PLY_CANVAS_TSTART_HI),
   (Acc.rw, PLY_CANVAS_PEAK),
   (Acc.w1s, PLY_COMMIT),
   (Acc.rw, PLY_AGE_TARGET),
   (Acc.rw, PLY_AGE_TARGET_B),
   (Acc.rw, PLY_AGE_MAX)]

/-- `WIN_CTL_EN`, Table 7-3 (R278, 07_ply_engines.md). -/
def WIN_CTL_EN (e w : Nat) : Fld := ⟨0x00810000 + 0x100000 * e + 0x80 * w, 31, 1, 0⟩
/-- `WIN_CTL_HIDE_CONCEALED`, Table 7-3 (R278, 07_ply_engines.md). -/
def WIN_CTL_HIDE_CONCEALED (e w : Nat) : Fld := ⟨0x00810000 + 0x100000 * e + 0x80 * w, 30, 1, 0⟩
/-- `WIN_CTL_FILL_EMPTY`, Table 7-3 (R278, 07_ply_engines.md). -/
def WIN_CTL_FILL_EMPTY (e w : Nat) : Fld := ⟨0x00810000 + 0x100000 * e + 0x80 * w, 29, 1, 0⟩
/-- `WIN_CTL_PLY`, Table 7-3 (R278, 07_ply_engines.md). -/
def WIN_CTL_PLY (e w : Nat) : Fld := ⟨0x00810000 + 0x100000 * e + 0x80 * w, 24, 4, 0⟩
/-- `WIN_CTL_KIND`, Table 7-3 (R278, 07_ply_engines.md). -/
def WIN_CTL_KIND (e w : Nat) : Fld := ⟨0x00810000 + 0x100000 * e + 0x80 * w, 20, 2, 0⟩
/-- `WIN_CTL_ALPHA`, Table 7-3 (R278, 07_ply_engines.md). -/
def WIN_CTL_ALPHA (e w : Nat) : Fld := ⟨0x00810000 + 0x100000 * e + 0x80 * w, 8, 8, 0⟩
/-- `WIN_CTL_CTX`, Table 7-3 (R278, 07_ply_engines.md). -/
def WIN_CTL_CTX (e w : Nat) : Fld := ⟨0x00810000 + 0x100000 * e + 0x80 * w, 0, 7, 0⟩
/-- `WIN_DST_XY_X`, Table 7-3 (R278, 07_ply_engines.md). -/
def WIN_DST_XY_X (e w : Nat) : Fld := ⟨0x00810000 + 0x100000 * e + 0x80 * w + 0x04, 0, 16, 0⟩
/-- `WIN_DST_XY_Y`, Table 7-3 (R278, 07_ply_engines.md). -/
def WIN_DST_XY_Y (e w : Nat) : Fld := ⟨0x00810000 + 0x100000 * e + 0x80 * w + 0x04, 16, 15, 0⟩
/-- `WIN_DST_WH_W_M1`, Table 7-3 (R278, 07_ply_engines.md). -/
def WIN_DST_WH_W_M1 (e w : Nat) : Fld := ⟨0x00810000 + 0x100000 * e + 0x80 * w + 0x08, 0, 16, 0⟩
/-- `WIN_DST_WH_H_M1`, Table 7-3 (R278, 07_ply_engines.md). -/
def WIN_DST_WH_H_M1 (e w : Nat) : Fld := ⟨0x00810000 + 0x100000 * e + 0x80 * w + 0x08, 16, 15, 0⟩
/-- `WIN_SRC_XY_X`, Table 7-3 (R278, 07_ply_engines.md). -/
def WIN_SRC_XY_X (e w : Nat) : Fld := ⟨0x00810000 + 0x100000 * e + 0x80 * w + 0x0C, 0, 16, 0⟩
/-- `WIN_SRC_XY_Y`, Table 7-3 (R278, 07_ply_engines.md). -/
def WIN_SRC_XY_Y (e w : Nat) : Fld := ⟨0x00810000 + 0x100000 * e + 0x80 * w + 0x0C, 16, 16, 0⟩
/-- `WIN_SRC_WH_W`, Table 7-3 (R278, 07_ply_engines.md). -/
def WIN_SRC_WH_W (e w : Nat) : Fld := ⟨0x00810000 + 0x100000 * e + 0x80 * w + 0x10, 0, 16, 0⟩
/-- `WIN_SRC_WH_H`, Table 7-3 (R278, 07_ply_engines.md). -/
def WIN_SRC_WH_H (e w : Nat) : Fld := ⟨0x00810000 + 0x100000 * e + 0x80 * w + 0x10, 16, 16, 0⟩
/-- `WIN_FILT_HBANK`, Table 7-3 (R278, 07_ply_engines.md). -/
def WIN_FILT_HBANK (e w : Nat) : Fld := ⟨0x00810000 + 0x100000 * e + 0x80 * w + 0x14, 0, 3, 0⟩
/-- `WIN_FILT_VBANK`, Table 7-3 (R278, 07_ply_engines.md). -/
def WIN_FILT_VBANK (e w : Nat) : Fld := ⟨0x00810000 + 0x100000 * e + 0x80 * w + 0x14, 4, 3, 0⟩
/-- `WIN_FILT_CHROMA_LOC`, Table 7-3 (R278, 07_ply_engines.md). -/
def WIN_FILT_CHROMA_LOC (e w : Nat) : Fld := ⟨0x00810000 + 0x100000 * e + 0x80 * w + 0x14, 8, 3, 0⟩
/-- `WIN_CODE_MATRIX`, Table 7-3 (R278, 07_ply_engines.md). -/
def WIN_CODE_MATRIX (e w : Nat) : Fld := ⟨0x00810000 + 0x100000 * e + 0x80 * w + 0x18, 0, 8, 0⟩
/-- `WIN_CODE_TRANSFER`, Table 7-3 (R278, 07_ply_engines.md). -/
def WIN_CODE_TRANSFER (e w : Nat) : Fld := ⟨0x00810000 + 0x100000 * e + 0x80 * w + 0x18, 8, 8, 0⟩
/-- `WIN_CODE_RANGE`, Table 7-3 (R278, 07_ply_engines.md). -/
def WIN_CODE_RANGE (e w : Nat) : Fld := ⟨0x00810000 + 0x100000 * e + 0x80 * w + 0x18, 16, 2, 0⟩
/-- `WIN_M`, Table 7-3 (R278, 07_ply_engines.md). -/
def WIN_M (e w j : Nat) : Fld := ⟨0x00810000 + 0x100000 * e + 0x80 * w + 0x1C + 4 * j, 0, 32, 0⟩
/-- `WIN_FILL`, Table 7-3 (R278, 07_ply_engines.md). -/
def WIN_FILL (e w : Nat) : Fld := ⟨0x00810000 + 0x100000 * e + 0x80 * w + 0x30, 0, 30, 0⟩
/-- `WIN_PIC_LO`, Table 7-3 (R278, 07_ply_engines.md). -/
def WIN_PIC_LO (e w : Nat) : Fld := ⟨0x00810000 + 0x100000 * e + 0x80 * w + 0x34, 0, 32, 0⟩
/-- `WIN_PIC_HI`, Table 7-3 (R278, 07_ply_engines.md). -/
def WIN_PIC_HI (e w : Nat) : Fld := ⟨0x00810000 + 0x100000 * e + 0x80 * w + 0x38, 0, 9, 0⟩

/-- The fields of block `win` with their access types. -/
def regsWin (e w : Nat) : List (Acc × Fld) :=
  [(Acc.rw, WIN_CTL_EN e w),
   (Acc.rw, WIN_CTL_HIDE_CONCEALED e w),
   (Acc.rw, WIN_CTL_FILL_EMPTY e w),
   (Acc.rw, WIN_CTL_PLY e w),
   (Acc.rw, WIN_CTL_KIND e w),
   (Acc.rw, WIN_CTL_ALPHA e w),
   (Acc.rw, WIN_CTL_CTX e w),
   (Acc.rw, WIN_DST_XY_X e w),
   (Acc.rw, WIN_DST_XY_Y e w),
   (Acc.rw, WIN_DST_WH_W_M1 e w),
   (Acc.rw, WIN_DST_WH_H_M1 e w),
   (Acc.rw, WIN_SRC_XY_X e w)] ++
  [(Acc.rw, WIN_SRC_XY_Y e w),
   (Acc.rw, WIN_SRC_WH_W e w),
   (Acc.rw, WIN_SRC_WH_H e w),
   (Acc.rw, WIN_FILT_HBANK e w),
   (Acc.rw, WIN_FILT_VBANK e w),
   (Acc.rw, WIN_FILT_CHROMA_LOC e w),
   (Acc.rw, WIN_CODE_MATRIX e w),
   (Acc.rw, WIN_CODE_TRANSFER e w),
   (Acc.rw, WIN_CODE_RANGE e w),
   (Acc.rw, WIN_FILL e w),
   (Acc.rw, WIN_PIC_LO e w),
   (Acc.rw, WIN_PIC_HI e w)] ++
  (List.range 5).map (fun j => (Acc.rw, WIN_M e w j))

/-- `WIN_SHOWN`, Table 7-3 (R278, 07_ply_engines.md). -/
def WIN_SHOWN (e w : Nat) : Fld := ⟨0x00818000 + 0x100000 * e + 0x80 * w + 0x40, 0, 32, 0⟩
/-- `WIN_FLAGS`, Table 7-3 (R278, 07_ply_engines.md). -/
def WIN_FLAGS (e w : Nat) : Fld := ⟨0x00818000 + 0x100000 * e + 0x80 * w + 0x44, 0, 6, 0⟩
/-- `WINA_CTL_EN`, Table 7-3 (R278, 07_ply_engines.md). -/
def WINA_CTL_EN (e w : Nat) : Fld := ⟨0x00818000 + 0x100000 * e + 0x80 * w, 31, 1, 0⟩
/-- `WINA_CTL_HIDE_CONCEALED`, Table 7-3 (R278, 07_ply_engines.md). -/
def WINA_CTL_HIDE_CONCEALED (e w : Nat) : Fld := ⟨0x00818000 + 0x100000 * e + 0x80 * w, 30, 1, 0⟩
/-- `WINA_CTL_FILL_EMPTY`, Table 7-3 (R278, 07_ply_engines.md). -/
def WINA_CTL_FILL_EMPTY (e w : Nat) : Fld := ⟨0x00818000 + 0x100000 * e + 0x80 * w, 29, 1, 0⟩
/-- `WINA_CTL_PLY`, Table 7-3 (R278, 07_ply_engines.md). -/
def WINA_CTL_PLY (e w : Nat) : Fld := ⟨0x00818000 + 0x100000 * e + 0x80 * w, 24, 4, 0⟩
/-- `WINA_CTL_KIND`, Table 7-3 (R278, 07_ply_engines.md). -/
def WINA_CTL_KIND (e w : Nat) : Fld := ⟨0x00818000 + 0x100000 * e + 0x80 * w, 20, 2, 0⟩
/-- `WINA_CTL_ALPHA`, Table 7-3 (R278, 07_ply_engines.md). -/
def WINA_CTL_ALPHA (e w : Nat) : Fld := ⟨0x00818000 + 0x100000 * e + 0x80 * w, 8, 8, 0⟩
/-- `WINA_CTL_CTX`, Table 7-3 (R278, 07_ply_engines.md). -/
def WINA_CTL_CTX (e w : Nat) : Fld := ⟨0x00818000 + 0x100000 * e + 0x80 * w, 0, 7, 0⟩
/-- `WINA_DST_XY_X`, Table 7-3 (R278, 07_ply_engines.md). -/
def WINA_DST_XY_X (e w : Nat) : Fld := ⟨0x00818000 + 0x100000 * e + 0x80 * w + 0x04, 0, 16, 0⟩
/-- `WINA_DST_XY_Y`, Table 7-3 (R278, 07_ply_engines.md). -/
def WINA_DST_XY_Y (e w : Nat) : Fld := ⟨0x00818000 + 0x100000 * e + 0x80 * w + 0x04, 16, 15, 0⟩
/-- `WINA_DST_WH_W_M1`, Table 7-3 (R278, 07_ply_engines.md). -/
def WINA_DST_WH_W_M1 (e w : Nat) : Fld := ⟨0x00818000 + 0x100000 * e + 0x80 * w + 0x08, 0, 16, 0⟩
/-- `WINA_DST_WH_H_M1`, Table 7-3 (R278, 07_ply_engines.md). -/
def WINA_DST_WH_H_M1 (e w : Nat) : Fld := ⟨0x00818000 + 0x100000 * e + 0x80 * w + 0x08, 16, 15, 0⟩
/-- `WINA_SRC_XY_X`, Table 7-3 (R278, 07_ply_engines.md). -/
def WINA_SRC_XY_X (e w : Nat) : Fld := ⟨0x00818000 + 0x100000 * e + 0x80 * w + 0x0C, 0, 16, 0⟩
/-- `WINA_SRC_XY_Y`, Table 7-3 (R278, 07_ply_engines.md). -/
def WINA_SRC_XY_Y (e w : Nat) : Fld := ⟨0x00818000 + 0x100000 * e + 0x80 * w + 0x0C, 16, 16, 0⟩
/-- `WINA_SRC_WH_W`, Table 7-3 (R278, 07_ply_engines.md). -/
def WINA_SRC_WH_W (e w : Nat) : Fld := ⟨0x00818000 + 0x100000 * e + 0x80 * w + 0x10, 0, 16, 0⟩
/-- `WINA_SRC_WH_H`, Table 7-3 (R278, 07_ply_engines.md). -/
def WINA_SRC_WH_H (e w : Nat) : Fld := ⟨0x00818000 + 0x100000 * e + 0x80 * w + 0x10, 16, 16, 0⟩
/-- `WINA_FILT_HBANK`, Table 7-3 (R278, 07_ply_engines.md). -/
def WINA_FILT_HBANK (e w : Nat) : Fld := ⟨0x00818000 + 0x100000 * e + 0x80 * w + 0x14, 0, 3, 0⟩
/-- `WINA_FILT_VBANK`, Table 7-3 (R278, 07_ply_engines.md). -/
def WINA_FILT_VBANK (e w : Nat) : Fld := ⟨0x00818000 + 0x100000 * e + 0x80 * w + 0x14, 4, 3, 0⟩
/-- `WINA_FILT_CHROMA_LOC`, Table 7-3 (R278, 07_ply_engines.md). -/
def WINA_FILT_CHROMA_LOC (e w : Nat) : Fld := ⟨0x00818000 + 0x100000 * e + 0x80 * w + 0x14, 8, 3, 0⟩
/-- `WINA_CODE_MATRIX`, Table 7-3 (R278, 07_ply_engines.md). -/
def WINA_CODE_MATRIX (e w : Nat) : Fld := ⟨0x00818000 + 0x100000 * e + 0x80 * w + 0x18, 0, 8, 0⟩
/-- `WINA_CODE_TRANSFER`, Table 7-3 (R278, 07_ply_engines.md). -/
def WINA_CODE_TRANSFER (e w : Nat) : Fld := ⟨0x00818000 + 0x100000 * e + 0x80 * w + 0x18, 8, 8, 0⟩
/-- `WINA_CODE_RANGE`, Table 7-3 (R278, 07_ply_engines.md). -/
def WINA_CODE_RANGE (e w : Nat) : Fld := ⟨0x00818000 + 0x100000 * e + 0x80 * w + 0x18, 16, 2, 0⟩
/-- `WINA_M`, Table 7-3 (R278, 07_ply_engines.md). -/
def WINA_M (e w j : Nat) : Fld := ⟨0x00818000 + 0x100000 * e + 0x80 * w + 0x1C + 4 * j, 0, 32, 0⟩
/-- `WINA_FILL`, Table 7-3 (R278, 07_ply_engines.md). -/
def WINA_FILL (e w : Nat) : Fld := ⟨0x00818000 + 0x100000 * e + 0x80 * w + 0x30, 0, 30, 0⟩
/-- `WINA_PIC_LO`, Table 7-3 (R278, 07_ply_engines.md). -/
def WINA_PIC_LO (e w : Nat) : Fld := ⟨0x00818000 + 0x100000 * e + 0x80 * w + 0x34, 0, 32, 0⟩
/-- `WINA_PIC_HI`, Table 7-3 (R278, 07_ply_engines.md). -/
def WINA_PIC_HI (e w : Nat) : Fld := ⟨0x00818000 + 0x100000 * e + 0x80 * w + 0x38, 0, 9, 0⟩

/-- The fields of block `winAct` with their access types. -/
def regsWinAct (e w : Nat) : List (Acc × Fld) :=
  [(Acc.ro, WIN_SHOWN e w),
   (Acc.ro, WIN_FLAGS e w),
   (Acc.ro, WINA_CTL_EN e w),
   (Acc.ro, WINA_CTL_HIDE_CONCEALED e w),
   (Acc.ro, WINA_CTL_FILL_EMPTY e w),
   (Acc.ro, WINA_CTL_PLY e w),
   (Acc.ro, WINA_CTL_KIND e w),
   (Acc.ro, WINA_CTL_ALPHA e w),
   (Acc.ro, WINA_CTL_CTX e w),
   (Acc.ro, WINA_DST_XY_X e w),
   (Acc.ro, WINA_DST_XY_Y e w),
   (Acc.ro, WINA_DST_WH_W_M1 e w)] ++
  [(Acc.ro, WINA_DST_WH_H_M1 e w),
   (Acc.ro, WINA_SRC_XY_X e w),
   (Acc.ro, WINA_SRC_XY_Y e w),
   (Acc.ro, WINA_SRC_WH_W e w),
   (Acc.ro, WINA_SRC_WH_H e w),
   (Acc.ro, WINA_FILT_HBANK e w),
   (Acc.ro, WINA_FILT_VBANK e w),
   (Acc.ro, WINA_FILT_CHROMA_LOC e w),
   (Acc.ro, WINA_CODE_MATRIX e w),
   (Acc.ro, WINA_CODE_TRANSFER e w),
   (Acc.ro, WINA_CODE_RANGE e w),
   (Acc.ro, WINA_FILL e w)] ++
  [(Acc.ro, WINA_PIC_LO e w),
   (Acc.ro, WINA_PIC_HI e w)] ++
  (List.range 5).map (fun j => (Acc.ro, WINA_M e w j))

/-- `TILE_CTL_EN`, Table 7-9 (R306, 07_ply_engines.md). -/
def TILE_CTL_EN (e t : Nat) : Fld := ⟨0x00820000 + 0x100000 * e + 0x40 * t, 31, 1, 0⟩
/-- `TILE_CTL_DITHER`, Table 7-9 (R306, 07_ply_engines.md). -/
def TILE_CTL_DITHER (e t : Nat) : Fld := ⟨0x00820000 + 0x100000 * e + 0x40 * t, 30, 1, 0⟩
/-- `TILE_CTL_CURVE`, Table 7-9 (R306, 07_ply_engines.md). -/
def TILE_CTL_CURVE (e t : Nat) : Fld := ⟨0x00820000 + 0x100000 * e + 0x40 * t, 29, 1, 0⟩
/-- `TILE_CTL_DEPTH`, Table 7-9 (R306, 07_ply_engines.md). -/
def TILE_CTL_DEPTH (e t : Nat) : Fld := ⟨0x00820000 + 0x100000 * e + 0x40 * t, 26, 2, 0⟩
/-- `TILE_CTL_AGE_MANUAL`, Table 7-9 (R306, 07_ply_engines.md). -/
def TILE_CTL_AGE_MANUAL (e t : Nat) : Fld := ⟨0x00820000 + 0x100000 * e + 0x40 * t, 25, 1, 0⟩
/-- `TILE_CTL_MAT_EN`, Table 7-9 (R306, 07_ply_engines.md). -/
def TILE_CTL_MAT_EN (e t : Nat) : Fld := ⟨0x00820000 + 0x100000 * e + 0x40 * t, 24, 1, 0⟩
/-- `TILE_CTL_ORIENT`, Table 7-9 (R306, 07_ply_engines.md). -/
def TILE_CTL_ORIENT (e t : Nat) : Fld := ⟨0x00820000 + 0x100000 * e + 0x40 * t, 20, 3, 0⟩
/-- `TILE_ORG_X`, Table 7-9 (R306, 07_ply_engines.md). -/
def TILE_ORG_X (e t : Nat) : Fld := ⟨0x00820000 + 0x100000 * e + 0x40 * t + 0x04, 0, 16, 0⟩
/-- `TILE_ORG_Y`, Table 7-9 (R306, 07_ply_engines.md). -/
def TILE_ORG_Y (e t : Nat) : Fld := ⟨0x00820000 + 0x100000 * e + 0x40 * t + 0x04, 16, 15, 0⟩
/-- `TILE_SIZE_W_M1`, Table 7-9 (R306, 07_ply_engines.md). -/
def TILE_SIZE_W_M1 (e t : Nat) : Fld := ⟨0x00820000 + 0x100000 * e + 0x40 * t + 0x08, 0, 10, 0⟩
/-- `TILE_SIZE_H_M1`, Table 7-9 (R306, 07_ply_engines.md). -/
def TILE_SIZE_H_M1 (e t : Nat) : Fld := ⟨0x00820000 + 0x100000 * e + 0x40 * t + 0x08, 16, 10, 0⟩
/-- `TILE_GMAP_LO`, Table 7-9 (R306, 07_ply_engines.md). -/
def TILE_GMAP_LO (e t : Nat) : Fld := ⟨0x00820000 + 0x100000 * e + 0x40 * t + 0x0C, 0, 32, 0⟩
/-- `TILE_GMAP_HI`, Table 7-9 (R306, 07_ply_engines.md). -/
def TILE_GMAP_HI (e t : Nat) : Fld := ⟨0x00820000 + 0x100000 * e + 0x40 * t + 0x10, 0, 9, 0⟩
/-- `TILE_MAT`, Table 7-9 (R306, 07_ply_engines.md). -/
def TILE_MAT (e t j : Nat) : Fld := ⟨0x00820000 + 0x100000 * e + 0x40 * t + 0x14 + 4 * j, 0, 32, 0⟩
/-- `TILE_AGE_RG`, Table 7-9 (R306, 07_ply_engines.md). -/
def TILE_AGE_RG (e t : Nat) : Fld := ⟨0x00820000 + 0x100000 * e + 0x40 * t + 0x28, 0, 32, 0⟩
/-- `TILE_AGE_B`, Table 7-9 (R306, 07_ply_engines.md). -/
def TILE_AGE_B (e t : Nat) : Fld := ⟨0x00820000 + 0x100000 * e + 0x40 * t + 0x2C, 0, 16, 0⟩

/-- The fields of block `tile` with their access types. -/
def regsTile (e t : Nat) : List (Acc × Fld) :=
  [(Acc.rw, TILE_CTL_EN e t),
   (Acc.rw, TILE_CTL_DITHER e t),
   (Acc.rw, TILE_CTL_CURVE e t),
   (Acc.rw, TILE_CTL_DEPTH e t),
   (Acc.rw, TILE_CTL_AGE_MANUAL e t),
   (Acc.rw, TILE_CTL_MAT_EN e t),
   (Acc.rw, TILE_CTL_ORIENT e t),
   (Acc.rw, TILE_ORG_X e t),
   (Acc.rw, TILE_ORG_Y e t),
   (Acc.rw, TILE_SIZE_W_M1 e t),
   (Acc.rw, TILE_SIZE_H_M1 e t),
   (Acc.rw, TILE_GMAP_LO e t)] ++
  [(Acc.rw, TILE_GMAP_HI e t),
   (Acc.rw, TILE_AGE_RG e t),
   (Acc.rw, TILE_AGE_B e t)] ++
  (List.range 5).map (fun j => (Acc.rw, TILE_MAT e t j))

/-- `TILEA_CTL_EN`, Table 7-9 (R306, 07_ply_engines.md). -/
def TILEA_CTL_EN (e t : Nat) : Fld := ⟨0x00828000 + 0x100000 * e + 0x40 * t, 31, 1, 0⟩
/-- `TILEA_CTL_DITHER`, Table 7-9 (R306, 07_ply_engines.md). -/
def TILEA_CTL_DITHER (e t : Nat) : Fld := ⟨0x00828000 + 0x100000 * e + 0x40 * t, 30, 1, 0⟩
/-- `TILEA_CTL_CURVE`, Table 7-9 (R306, 07_ply_engines.md). -/
def TILEA_CTL_CURVE (e t : Nat) : Fld := ⟨0x00828000 + 0x100000 * e + 0x40 * t, 29, 1, 0⟩
/-- `TILEA_CTL_DEPTH`, Table 7-9 (R306, 07_ply_engines.md). -/
def TILEA_CTL_DEPTH (e t : Nat) : Fld := ⟨0x00828000 + 0x100000 * e + 0x40 * t, 26, 2, 0⟩
/-- `TILEA_CTL_AGE_MANUAL`, Table 7-9 (R306, 07_ply_engines.md). -/
def TILEA_CTL_AGE_MANUAL (e t : Nat) : Fld := ⟨0x00828000 + 0x100000 * e + 0x40 * t, 25, 1, 0⟩
/-- `TILEA_CTL_MAT_EN`, Table 7-9 (R306, 07_ply_engines.md). -/
def TILEA_CTL_MAT_EN (e t : Nat) : Fld := ⟨0x00828000 + 0x100000 * e + 0x40 * t, 24, 1, 0⟩
/-- `TILEA_CTL_ORIENT`, Table 7-9 (R306, 07_ply_engines.md). -/
def TILEA_CTL_ORIENT (e t : Nat) : Fld := ⟨0x00828000 + 0x100000 * e + 0x40 * t, 20, 3, 0⟩
/-- `TILEA_ORG_X`, Table 7-9 (R306, 07_ply_engines.md). -/
def TILEA_ORG_X (e t : Nat) : Fld := ⟨0x00828000 + 0x100000 * e + 0x40 * t + 0x04, 0, 16, 0⟩
/-- `TILEA_ORG_Y`, Table 7-9 (R306, 07_ply_engines.md). -/
def TILEA_ORG_Y (e t : Nat) : Fld := ⟨0x00828000 + 0x100000 * e + 0x40 * t + 0x04, 16, 15, 0⟩
/-- `TILEA_SIZE_W_M1`, Table 7-9 (R306, 07_ply_engines.md). -/
def TILEA_SIZE_W_M1 (e t : Nat) : Fld := ⟨0x00828000 + 0x100000 * e + 0x40 * t + 0x08, 0, 10, 0⟩
/-- `TILEA_SIZE_H_M1`, Table 7-9 (R306, 07_ply_engines.md). -/
def TILEA_SIZE_H_M1 (e t : Nat) : Fld := ⟨0x00828000 + 0x100000 * e + 0x40 * t + 0x08, 16, 10, 0⟩
/-- `TILEA_GMAP_LO`, Table 7-9 (R306, 07_ply_engines.md). -/
def TILEA_GMAP_LO (e t : Nat) : Fld := ⟨0x00828000 + 0x100000 * e + 0x40 * t + 0x0C, 0, 32, 0⟩
/-- `TILEA_GMAP_HI`, Table 7-9 (R306, 07_ply_engines.md). -/
def TILEA_GMAP_HI (e t : Nat) : Fld := ⟨0x00828000 + 0x100000 * e + 0x40 * t + 0x10, 0, 9, 0⟩
/-- `TILEA_MAT`, Table 7-9 (R306, 07_ply_engines.md). -/
def TILEA_MAT (e t j : Nat) : Fld := ⟨0x00828000 + 0x100000 * e + 0x40 * t + 0x14 + 4 * j, 0, 32, 0⟩
/-- `TILEA_AGE_RG`, Table 7-9 (R306, 07_ply_engines.md). -/
def TILEA_AGE_RG (e t : Nat) : Fld := ⟨0x00828000 + 0x100000 * e + 0x40 * t + 0x28, 0, 32, 0⟩
/-- `TILEA_AGE_B`, Table 7-9 (R306, 07_ply_engines.md). -/
def TILEA_AGE_B (e t : Nat) : Fld := ⟨0x00828000 + 0x100000 * e + 0x40 * t + 0x2C, 0, 16, 0⟩

/-- The fields of block `tileAct` with their access types. -/
def regsTileAct (e t : Nat) : List (Acc × Fld) :=
  [(Acc.ro, TILEA_CTL_EN e t),
   (Acc.ro, TILEA_CTL_DITHER e t),
   (Acc.ro, TILEA_CTL_CURVE e t),
   (Acc.ro, TILEA_CTL_DEPTH e t),
   (Acc.ro, TILEA_CTL_AGE_MANUAL e t),
   (Acc.ro, TILEA_CTL_MAT_EN e t),
   (Acc.ro, TILEA_CTL_ORIENT e t),
   (Acc.ro, TILEA_ORG_X e t),
   (Acc.ro, TILEA_ORG_Y e t),
   (Acc.ro, TILEA_SIZE_W_M1 e t),
   (Acc.ro, TILEA_SIZE_H_M1 e t),
   (Acc.ro, TILEA_GMAP_LO e t)] ++
  [(Acc.ro, TILEA_GMAP_HI e t),
   (Acc.ro, TILEA_AGE_RG e t),
   (Acc.ro, TILEA_AGE_B e t)] ++
  (List.range 5).map (fun j => (Acc.ro, TILEA_MAT e t j))

/-- `PLY_COEF_LO` (R298, 07_ply_engines.md). -/
def PLY_COEF_LO (e b ph j : Nat) : Fld := ⟨0x00830000 + 0x100000 * e + 0x400 * b + 0x10 * ph + 4 * j, 0, 12, 0⟩
/-- `PLY_COEF_HI` (R298, 07_ply_engines.md). -/
def PLY_COEF_HI (e b ph j : Nat) : Fld := ⟨0x00830000 + 0x100000 * e + 0x400 * b + 0x10 * ph + 4 * j, 16, 12, 0⟩

/-- The fields of block `coef` with their access types. -/
def regsCoef (e : Nat) : List (Acc × Fld) :=
  (List.range 8).flatMap (fun b => (List.range 64).flatMap (fun ph => (List.range 4).map (fun j => (Acc.rw, PLY_COEF_LO e b ph j)))) ++
  (List.range 8).flatMap (fun b => (List.range 64).flatMap (fun ph => (List.range 4).map (fun j => (Acc.rw, PLY_COEF_HI e b ph j))))

/-- `PLY_COEF_ACT_LO` (R298, 07_ply_engines.md). -/
def PLY_COEF_ACT_LO (e b ph j : Nat) : Fld := ⟨0x00832000 + 0x100000 * e + 0x400 * b + 0x10 * ph + 4 * j, 0, 12, 0⟩
/-- `PLY_COEF_ACT_HI` (R298, 07_ply_engines.md). -/
def PLY_COEF_ACT_HI (e b ph j : Nat) : Fld := ⟨0x00832000 + 0x100000 * e + 0x400 * b + 0x10 * ph + 4 * j, 16, 12, 0⟩

/-- The fields of block `coefAct` with their access types. -/
def regsCoefAct (e : Nat) : List (Acc × Fld) :=
  (List.range 8).flatMap (fun b => (List.range 64).flatMap (fun ph => (List.range 4).map (fun j => (Acc.ro, PLY_COEF_ACT_LO e b ph j)))) ++
  (List.range 8).flatMap (fun b => (List.range 64).flatMap (fun ph => (List.range 4).map (fun j => (Acc.ro, PLY_COEF_ACT_HI e b ph j))))

/-- `PLY_AGE_A_R`, Table 7-11 (R311, 07_ply_engines.md). -/
def PLY_AGE_A_R (e t : Nat) : Fld := ⟨0x00848000 + 0x100000 * e + 0x8 * t, 0, 16, 4096⟩
/-- `PLY_AGE_A_G`, Table 7-11 (R311, 07_ply_engines.md). -/
def PLY_AGE_A_G (e t : Nat) : Fld := ⟨0x00848000 + 0x100000 * e + 0x8 * t, 16, 16, 4096⟩
/-- `PLY_AGE_A_B`, Table 7-11 (R311, 07_ply_engines.md). -/
def PLY_AGE_A_B (e t : Nat) : Fld := ⟨0x00848000 + 0x100000 * e + 0x8 * t + 0x4, 0, 16, 4096⟩
/-- `PLY_AGE_LIMIT`, Table 7-11 (R311, 07_ply_engines.md). -/
def PLY_AGE_LIMIT (e t : Nat) : Fld := ⟨0x00848000 + 0x100000 * e + 0x8 * t + 0x4, 16, 1, 0⟩
/-- `PLY_AGE_NO_RECORD`, Table 7-11 (R311, 07_ply_engines.md). -/
def PLY_AGE_NO_RECORD (e t : Nat) : Fld := ⟨0x00848000 + 0x100000 * e + 0x8 * t + 0x4, 17, 1, 0⟩

/-- The fields of block `plyAge` with their access types. -/
def regsPlyAge (e t : Nat) : List (Acc × Fld) :=
  [(Acc.ro, PLY_AGE_A_R e t),
   (Acc.ro, PLY_AGE_A_G e t),
   (Acc.ro, PLY_AGE_A_B e t),
   (Acc.ro, PLY_AGE_LIMIT e t),
   (Acc.ro, PLY_AGE_NO_RECORD e t)]

/-- `PLY_TALLY_R_LO`, Table 7-12 (R312, 07_ply_engines.md). -/
def PLY_TALLY_R_LO (e t : Nat) : Fld := ⟨0x00840000 + 0x100000 * e + 0x20 * t, 0, 32, 0⟩
/-- `PLY_TALLY_R_HI`, Table 7-12 (R312, 07_ply_engines.md). -/
def PLY_TALLY_R_HI (e t : Nat) : Fld := ⟨0x00840000 + 0x100000 * e + 0x20 * t + 0x04, 0, 32, 0⟩
/-- `PLY_TALLY_G_LO`, Table 7-12 (R312, 07_ply_engines.md). -/
def PLY_TALLY_G_LO (e t : Nat) : Fld := ⟨0x00840000 + 0x100000 * e + 0x20 * t + 0x08, 0, 32, 0⟩
/-- `PLY_TALLY_G_HI`, Table 7-12 (R312, 07_ply_engines.md). -/
def PLY_TALLY_G_HI (e t : Nat) : Fld := ⟨0x00840000 + 0x100000 * e + 0x20 * t + 0x0C, 0, 32, 0⟩
/-- `PLY_TALLY_B_LO`, Table 7-12 (R312, 07_ply_engines.md). -/
def PLY_TALLY_B_LO (e t : Nat) : Fld := ⟨0x00840000 + 0x100000 * e + 0x20 * t + 0x10, 0, 32, 0⟩
/-- `PLY_TALLY_B_HI`, Table 7-12 (R312, 07_ply_engines.md). -/
def PLY_TALLY_B_HI (e t : Nat) : Fld := ⟨0x00840000 + 0x100000 * e + 0x20 * t + 0x14, 0, 32, 0⟩

/-- The fields of block `plyTally` with their access types. -/
def regsPlyTally (e t : Nat) : List (Acc × Fld) :=
  [(Acc.ro, PLY_TALLY_R_LO e t),
   (Acc.ro, PLY_TALLY_R_HI e t),
   (Acc.ro, PLY_TALLY_G_LO e t),
   (Acc.ro, PLY_TALLY_G_HI e t),
   (Acc.ro, PLY_TALLY_B_LO e t),
   (Acc.ro, PLY_TALLY_B_HI e t)]

/-- `BLK_CTL_GEN`, Table 8-16 (R363, 08_brodys_link.md). -/
def BLK_CTL_GEN (p : Nat) : Fld := ⟨0x00A00000 + 0x4000 * p, 0, 2, 0⟩
/-- `BLK_CTL_EN`, Table 8-16 (R363, 08_brodys_link.md). -/
def BLK_CTL_EN (p : Nat) : Fld := ⟨0x00A00000 + 0x4000 * p, 4, 1, 0⟩
/-- `BLK_CTL_AUTO_ENUM`, Table 8-16 (R363, 08_brodys_link.md). -/
def BLK_CTL_AUTO_ENUM (p : Nat) : Fld := ⟨0x00A00000 + 0x4000 * p, 5, 1, 1⟩
/-- `BLK_CTL_AUTH_REQ`, Table 8-16 (R363, 08_brodys_link.md). -/
def BLK_CTL_AUTH_REQ (p : Nat) : Fld := ⟨0x00A00000 + 0x4000 * p, 6, 1, 0⟩
/-- `BLK_CTL_IDLE_EN`, Table 8-16 (R363, 08_brodys_link.md). -/
def BLK_CTL_IDLE_EN (p : Nat) : Fld := ⟨0x00A00000 + 0x4000 * p, 7, 1, 0⟩
/-- `BLK_LANECFG_LMAP`, Table 8-16 (R363, 08_brodys_link.md). -/
def BLK_LANECFG_LMAP (p : Nat) : Fld := ⟨0x00A00000 + 0x4000 * p + 0x004, 0, 8, 0⟩
/-- `BLK_LANECFG_POL`, Table 8-16 (R363, 08_brodys_link.md). -/
def BLK_LANECFG_POL (p : Nat) : Fld := ⟨0x00A00000 + 0x4000 * p + 0x004, 8, 4, 0⟩
/-- `BLK_LANECFG_POL_CL`, Table 8-16 (R363, 08_brodys_link.md). -/
def BLK_LANECFG_POL_CL (p : Nat) : Fld := ⟨0x00A00000 + 0x4000 * p + 0x004, 12, 1, 0⟩
/-- `BLK_LANECFG_POL_RL`, Table 8-16 (R363, 08_brodys_link.md). -/
def BLK_LANECFG_POL_RL (p : Nat) : Fld := ⟨0x00A00000 + 0x4000 * p + 0x004, 13, 1, 0⟩
/-- `BLK_TXCFG_SWING`, Table 8-16 (R363, 08_brodys_link.md). -/
def BLK_TXCFG_SWING (p : Nat) : Fld := ⟨0x00A00000 + 0x4000 * p + 0x008, 0, 4, 8⟩
/-- `BLK_TXCFG_DEEMPH`, Table 8-16 (R363, 08_brodys_link.md). -/
def BLK_TXCFG_DEEMPH (p : Nat) : Fld := ⟨0x00A00000 + 0x4000 * p + 0x008, 4, 4, 4⟩
/-- `BLK_CMD_CMD`, Table 8-16 (R363, 08_brodys_link.md). -/
def BLK_CMD_CMD (p : Nat) : Fld := ⟨0x00A00000 + 0x4000 * p + 0x00C, 0, 4, 0⟩
/-- `BLK_STATUS_STATE`, Table 8-16 (R363, 08_brodys_link.md). -/
def BLK_STATUS_STATE (p : Nat) : Fld := ⟨0x00A00000 + 0x4000 * p + 0x010, 0, 3, 0⟩
/-- `BLK_STATUS_TILES`, Table 8-16 (R363, 08_brodys_link.md). -/
def BLK_STATUS_TILES (p : Nat) : Fld := ⟨0x00A00000 + 0x4000 * p + 0x010, 4, 7, 0⟩
/-- `BLK_STATUS_ATTN`, Table 8-16 (R363, 08_brodys_link.md). -/
def BLK_STATUS_ATTN (p : Nat) : Fld := ⟨0x00A00000 + 0x4000 * p + 0x010, 11, 1, 0⟩
/-- `BLK_STATUS_BUSY`, Table 8-16 (R363, 08_brodys_link.md). -/
def BLK_STATUS_BUSY (p : Nat) : Fld := ⟨0x00A00000 + 0x4000 * p + 0x010, 12, 1, 0⟩
/-- `BLK_STATUS_UP`, Table 8-16 (R363, 08_brodys_link.md). -/
def BLK_STATUS_UP (p : Nat) : Fld := ⟨0x00A00000 + 0x4000 * p + 0x010, 16, 1, 0⟩
/-- `BLK_STATUS_CHAIN_CHG`, Table 8-16 (R363, 08_brodys_link.md). -/
def BLK_STATUS_CHAIN_CHG (p : Nat) : Fld := ⟨0x00A00000 + 0x4000 * p + 0x010, 17, 1, 0⟩
/-- `BLK_STATUS_AUTH_FAIL`, Table 8-16 (R363, 08_brodys_link.md). -/
def BLK_STATUS_AUTH_FAIL (p : Nat) : Fld := ⟨0x00A00000 + 0x4000 * p + 0x010, 18, 1, 0⟩
/-- `BLK_STATUS_MGMT_FAIL`, Table 8-16 (R363, 08_brodys_link.md). -/
def BLK_STATUS_MGMT_FAIL (p : Nat) : Fld := ⟨0x00A00000 + 0x4000 * p + 0x010, 19, 1, 0⟩
/-- `BLK_STATUS_RL_LOSS`, Table 8-16 (R363, 08_brodys_link.md). -/
def BLK_STATUS_RL_LOSS (p : Nat) : Fld := ⟨0x00A00000 + 0x4000 * p + 0x010, 20, 1, 0⟩
/-- `BLK_STATUS_SHOW_SHORT`, Table 8-16 (R363, 08_brodys_link.md). -/
def BLK_STATUS_SHOW_SHORT (p : Nat) : Fld := ⟨0x00A00000 + 0x4000 * p + 0x010, 21, 1, 0⟩
/-- `BLK_STATUS_CMD_REJECT`, Table 8-16 (R363, 08_brodys_link.md). -/
def BLK_STATUS_CMD_REJECT (p : Nat) : Fld := ⟨0x00A00000 + 0x4000 * p + 0x010, 22, 1, 0⟩
/-- `BLK_STATUS_TEST_DONE`, Table 8-16 (R363, 08_brodys_link.md). -/
def BLK_STATUS_TEST_DONE (p : Nat) : Fld := ⟨0x00A00000 + 0x4000 * p + 0x010, 23, 1, 0⟩
/-- `BLK_CHAIN_EXPECT`, Table 8-16 (R363, 08_brodys_link.md). -/
def BLK_CHAIN_EXPECT (p : Nat) : Fld := ⟨0x00A00000 + 0x4000 * p + 0x014, 0, 7, 0⟩
/-- `BLK_MGMT_TO_US`, Table 8-16 (R363, 08_brodys_link.md). -/
def BLK_MGMT_TO_US (p : Nat) : Fld := ⟨0x00A00000 + 0x4000 * p + 0x018, 0, 16, 64⟩
/-- `BLK_MGMT_RETRIES`, Table 8-16 (R363, 08_brodys_link.md). -/
def BLK_MGMT_RETRIES (p : Nat) : Fld := ⟨0x00A00000 + 0x4000 * p + 0x018, 16, 4, 3⟩
/-- `BLK_POLL_MS`, Table 8-16 (R363, 08_brodys_link.md). -/
def BLK_POLL_MS (p : Nat) : Fld := ⟨0x00A00000 + 0x4000 * p + 0x01C, 0, 16, 100⟩
/-- `BLK_TIMING_TRAIN_US`, Table 8-16 (R363, 08_brodys_link.md). -/
def BLK_TIMING_TRAIN_US (p : Nat) : Fld := ⟨0x00A00000 + 0x4000 * p + 0x020, 0, 16, 2000⟩
/-- `BLK_TIMING_SHOW_NS`, Table 8-16 (R363, 08_brodys_link.md). -/
def BLK_TIMING_SHOW_NS (p : Nat) : Fld := ⟨0x00A00000 + 0x4000 * p + 0x020, 16, 16, 8000⟩
/-- `BLK_IDLE_MIN_NS`, Table 8-16 (R363, 08_brodys_link.md). -/
def BLK_IDLE_MIN_NS (p : Nat) : Fld := ⟨0x00A00000 + 0x4000 * p + 0x024, 0, 16, 2000⟩
/-- `BLK_TOPO_HASH_LO`, Table 8-16 (R363, 08_brodys_link.md). -/
def BLK_TOPO_HASH_LO (p : Nat) : Fld := ⟨0x00A00000 + 0x4000 * p + 0x028, 0, 32, 0⟩
/-- `BLK_TOPO_HASH_HI`, Table 8-16 (R363, 08_brodys_link.md). -/
def BLK_TOPO_HASH_HI (p : Nat) : Fld := ⟨0x00A00000 + 0x4000 * p + 0x02C, 0, 32, 0⟩
/-- `BLK_TEST_PATTERN`, Table 8-16 (R363, 08_brodys_link.md). -/
def BLK_TEST_PATTERN (p : Nat) : Fld := ⟨0x00A00000 + 0x4000 * p + 0x030, 0, 2, 3⟩
/-- `BLK_TEST_LANES`, Table 8-16 (R363, 08_brodys_link.md). -/
def BLK_TEST_LANES (p : Nat) : Fld := ⟨0x00A00000 + 0x4000 * p + 0x030, 2, 4, 15⟩
/-- `BLK_TEST_MODE`, Table 8-16 (R363, 08_brodys_link.md). -/
def BLK_TEST_MODE (p : Nat) : Fld := ⟨0x00A00000 + 0x4000 * p + 0x030, 6, 2, 0⟩
/-- `BLK_TEST_TILE`, Table 8-16 (R363, 08_brodys_link.md). -/
def BLK_TEST_TILE (p : Nat) : Fld := ⟨0x00A00000 + 0x4000 * p + 0x030, 8, 6, 0⟩
/-- `BLK_TEST_DURATION_US`, Table 8-16 (R363, 08_brodys_link.md). -/
def BLK_TEST_DURATION_US (p : Nat) : Fld := ⟨0x00A00000 + 0x4000 * p + 0x030, 16, 16, 1000⟩
/-- `BLK_INJECT_LANE`, Table 8-16 (R363, 08_brodys_link.md). -/
def BLK_INJECT_LANE (p : Nat) : Fld := ⟨0x00A00000 + 0x4000 * p + 0x034, 0, 3, 0⟩
/-- `BLK_INJECT_MODE`, Table 8-16 (R363, 08_brodys_link.md). -/
def BLK_INJECT_MODE (p : Nat) : Fld := ⟨0x00A00000 + 0x4000 * p + 0x034, 4, 2, 0⟩
/-- `BLK_INJECT_MGMT_CRC`, Table 8-16 (R363, 08_brodys_link.md). -/
def BLK_INJECT_MGMT_CRC (p : Nat) : Fld := ⟨0x00A00000 + 0x4000 * p + 0x034, 6, 1, 0⟩
/-- `BLK_INJECT_PERIOD`, Table 8-16 (R363, 08_brodys_link.md). -/
def BLK_INJECT_PERIOD (p : Nat) : Fld := ⟨0x00A00000 + 0x4000 * p + 0x034, 8, 24, 0⟩
/-- `BLK_LANE_ERRCNT`, Table 8-16 (R363, 08_brodys_link.md). -/
def BLK_LANE_ERRCNT (p j : Nat) : Fld := ⟨0x00A00000 + 0x4000 * p + 0x040 + 4 * j, 0, 32, 0⟩
/-- `BLK_LANE_LOCK`, Table 8-16 (R363, 08_brodys_link.md). -/
def BLK_LANE_LOCK (p : Nat) : Fld := ⟨0x00A00000 + 0x4000 * p + 0x054, 0, 5, 0⟩
/-- `BLK_RL_CODE_ERR`, Table 8-16 (R363, 08_brodys_link.md). -/
def BLK_RL_CODE_ERR (p : Nat) : Fld := ⟨0x00A00000 + 0x4000 * p + 0x058, 0, 32, 0⟩
/-- `BLK_MGMT_RETRY_CNT`, Table 8-16 (R363, 08_brodys_link.md). -/
def BLK_MGMT_RETRY_CNT (p : Nat) : Fld := ⟨0x00A00000 + 0x4000 * p + 0x05C, 0, 32, 0⟩
/-- `BLK_MGMT_FAIL_CNT`, Table 8-16 (R363, 08_brodys_link.md). -/
def BLK_MGMT_FAIL_CNT (p : Nat) : Fld := ⟨0x00A00000 + 0x4000 * p + 0x060, 0, 32, 0⟩
/-- `BLK_ROW_DROP_CNT`, Table 8-16 (R363, 08_brodys_link.md). -/
def BLK_ROW_DROP_CNT (p : Nat) : Fld := ⟨0x00A00000 + 0x4000 * p + 0x064, 0, 32, 0⟩
/-- `BLK_HM_CTL_GO`, Table 8-20 (R364, 08_brodys_link.md). -/
def BLK_HM_CTL_GO (p : Nat) : Fld := ⟨0x00A00000 + 0x4000 * p + 0x100, 31, 1, 0⟩
/-- `BLK_HM_CTL_LEN`, Table 8-20 (R364, 08_brodys_link.md). -/
def BLK_HM_CTL_LEN (p : Nat) : Fld := ⟨0x00A00000 + 0x4000 * p + 0x100, 16, 13, 0⟩
/-- `BLK_HM_CTL_OP`, Table 8-20 (R364, 08_brodys_link.md). -/
def BLK_HM_CTL_OP (p : Nat) : Fld := ⟨0x00A00000 + 0x4000 * p + 0x100, 8, 8, 0⟩
/-- `BLK_HM_CTL_ADDR`, Table 8-20 (R364, 08_brodys_link.md). -/
def BLK_HM_CTL_ADDR (p : Nat) : Fld := ⟨0x00A00000 + 0x4000 * p + 0x100, 0, 8, 0⟩
/-- `BLK_HM_STATUS_RESULT`, Table 8-20 (R364, 08_brodys_link.md). -/
def BLK_HM_STATUS_RESULT (p : Nat) : Fld := ⟨0x00A00000 + 0x4000 * p + 0x104, 0, 3, 0⟩
/-- `BLK_HM_STATUS_TILE_STATUS`, Table 8-20 (R364, 08_brodys_link.md). -/
def BLK_HM_STATUS_TILE_STATUS (p : Nat) : Fld := ⟨0x00A00000 + 0x4000 * p + 0x104, 8, 8, 0⟩
/-- `BLK_HM_STATUS_RLEN`, Table 8-20 (R364, 08_brodys_link.md). -/
def BLK_HM_STATUS_RLEN (p : Nat) : Fld := ⟨0x00A00000 + 0x4000 * p + 0x104, 16, 13, 0⟩
/-- `BLK_HM_STATUS_DONE`, Table 8-20 (R364, 08_brodys_link.md). -/
def BLK_HM_STATUS_DONE (p : Nat) : Fld := ⟨0x00A00000 + 0x4000 * p + 0x104, 31, 1, 0⟩
/-- `BLK_HM_REQ`, Table 8-20 (R364, 08_brodys_link.md). -/
def BLK_HM_REQ (p j : Nat) : Fld := ⟨0x00A00000 + 0x4000 * p + 0x1000 + 4 * j, 0, 32, 0⟩
/-- `BLK_HM_RSP`, Table 8-20 (R364, 08_brodys_link.md). -/
def BLK_HM_RSP (p j : Nat) : Fld := ⟨0x00A00000 + 0x4000 * p + 0x1800 + 4 * j, 0, 32, 0⟩

/-- The fields of block `blk` with their access types. -/
def regsBlk (p : Nat) : List (Acc × Fld) :=
  [(Acc.rwl, BLK_CTL_GEN p),
   (Acc.rw, BLK_CTL_EN p),
   (Acc.rw, BLK_CTL_AUTO_ENUM p),
   (Acc.rw, BLK_CTL_AUTH_REQ p),
   (Acc.rw, BLK_CTL_IDLE_EN p),
   (Acc.rwl, BLK_LANECFG_LMAP p),
   (Acc.rwl, BLK_LANECFG_POL p),
   (Acc.rwl, BLK_LANECFG_POL_CL p),
   (Acc.rwl, BLK_LANECFG_POL_RL p),
   (Acc.rw, BLK_TXCFG_SWING p),
   (Acc.rw, BLK_TXCFG_DEEMPH p),
   (Acc.wo, BLK_CMD_CMD p)] ++
  [(Acc.ro, BLK_STATUS_STATE p),
   (Acc.ro, BLK_STATUS_TILES p),
   (Acc.ro, BLK_STATUS_ATTN p),
   (Acc.ro, BLK_STATUS_BUSY p),
   (Acc.w1c, BLK_STATUS_UP p),
   (Acc.w1c, BLK_STATUS_CHAIN_CHG p),
   (Acc.w1c, BLK_STATUS_AUTH_FAIL p),
   (Acc.w1c, BLK_STATUS_MGMT_FAIL p),
   (Acc.w1c, BLK_STATUS_RL_LOSS p),
   (Acc.w1c, BLK_STATUS_SHOW_SHORT p),
   (Acc.w1c, BLK_STATUS_CMD_REJECT p),
   (Acc.w1c, BLK_STATUS_TEST_DONE p)] ++
  [(Acc.rw, BLK_CHAIN_EXPECT p),
   (Acc.rw, BLK_MGMT_TO_US p),
   (Acc.rw, BLK_MGMT_RETRIES p),
   (Acc.rw, BLK_POLL_MS p),
   (Acc.rw, BLK_TIMING_TRAIN_US p),
   (Acc.rw, BLK_TIMING_SHOW_NS p),
   (Acc.rw, BLK_IDLE_MIN_NS p),
   (Acc.ro, BLK_TOPO_HASH_LO p),
   (Acc.ro, BLK_TOPO_HASH_HI p),
   (Acc.rw, BLK_TEST_PATTERN p),
   (Acc.rw, BLK_TEST_LANES p),
   (Acc.rw, BLK_TEST_MODE p)] ++
  [(Acc.rw, BLK_TEST_TILE p),
   (Acc.rw, BLK_TEST_DURATION_US p),
   (Acc.rw, BLK_INJECT_LANE p),
   (Acc.rw, BLK_INJECT_MODE p),
   (Acc.w1s, BLK_INJECT_MGMT_CRC p),
   (Acc.rw, BLK_INJECT_PERIOD p),
   (Acc.ro, BLK_LANE_LOCK p),
   (Acc.ro, BLK_RL_CODE_ERR p),
   (Acc.ro, BLK_MGMT_RETRY_CNT p),
   (Acc.ro, BLK_MGMT_FAIL_CNT p),
   (Acc.ro, BLK_ROW_DROP_CNT p),
   (Acc.w1s, BLK_HM_CTL_GO p)] ++
  [(Acc.rw, BLK_HM_CTL_LEN p),
   (Acc.rw, BLK_HM_CTL_OP p),
   (Acc.rw, BLK_HM_CTL_ADDR p),
   (Acc.ro, BLK_HM_STATUS_RESULT p),
   (Acc.ro, BLK_HM_STATUS_TILE_STATUS p),
   (Acc.ro, BLK_HM_STATUS_RLEN p),
   (Acc.w1c, BLK_HM_STATUS_DONE p)] ++
  (List.range 5).map (fun j => (Acc.ro, BLK_LANE_ERRCNT p j)) ++
  (List.range 512).map (fun j => (Acc.rw, BLK_HM_REQ p j)) ++
  (List.range 512).map (fun j => (Acc.ro, BLK_HM_RSP p j))

/-- `BLK_TILE_PRESENT`, Table 8-17 (R363, 08_brodys_link.md). -/
def BLK_TILE_PRESENT (p n : Nat) : Fld := ⟨0x00A02000 + 0x4000 * p + 0x40 * n, 0, 1, 0⟩
/-- `BLK_TILE_AUTH`, Table 8-17 (R363, 08_brodys_link.md). -/
def BLK_TILE_AUTH (p n : Nat) : Fld := ⟨0x00A02000 + 0x4000 * p + 0x40 * n, 1, 3, 0⟩
/-- `BLK_TILE_LIFE_VALID`, Table 8-17 (R363, 08_brodys_link.md). -/
def BLK_TILE_LIFE_VALID (p n : Nat) : Fld := ⟨0x00A02000 + 0x4000 * p + 0x40 * n, 4, 1, 0⟩
/-- `BLK_TILE_SIZE_MISMATCH`, Table 8-17 (R363, 08_brodys_link.md). -/
def BLK_TILE_SIZE_MISMATCH (p n : Nat) : Fld := ⟨0x00A02000 + 0x4000 * p + 0x40 * n, 5, 1, 0⟩
/-- `BLK_TILE_LOST`, Table 8-17 (R363, 08_brodys_link.md). -/
def BLK_TILE_LOST (p n : Nat) : Fld := ⟨0x00A02000 + 0x4000 * p + 0x40 * n, 6, 1, 0⟩
/-- `BLK_TILE_ATTN`, Table 8-17 (R363, 08_brodys_link.md). -/
def BLK_TILE_ATTN (p n : Nat) : Fld := ⟨0x00A02000 + 0x4000 * p + 0x40 * n, 7, 1, 0⟩
/-- `BLK_TILE_SERIAL`, Table 8-17 (R363, 08_brodys_link.md). -/
def BLK_TILE_SERIAL (p n j : Nat) : Fld := ⟨0x00A02000 + 0x4000 * p + 0x40 * n + 0x04 + 4 * j, 0, 32, 0⟩
/-- `BLK_TILE_W_M1`, Table 8-17 (R363, 08_brodys_link.md). -/
def BLK_TILE_W_M1 (p n : Nat) : Fld := ⟨0x00A02000 + 0x4000 * p + 0x40 * n + 0x14, 0, 10, 0⟩
/-- `BLK_TILE_H_M1`, Table 8-17 (R363, 08_brodys_link.md). -/
def BLK_TILE_H_M1 (p n : Nat) : Fld := ⟨0x00A02000 + 0x4000 * p + 0x40 * n + 0x14, 16, 10, 0⟩
/-- `BLK_TILE_CAPS`, Table 8-17 (R363, 08_brodys_link.md). -/
def BLK_TILE_CAPS (p n : Nat) : Fld := ⟨0x00A02000 + 0x4000 * p + 0x40 * n + 0x18, 0, 32, 0⟩
/-- `BLK_TILE_HOP`, Table 8-17 (R363, 08_brodys_link.md). -/
def BLK_TILE_HOP (p n : Nat) : Fld := ⟨0x00A02000 + 0x4000 * p + 0x40 * n + 0x1C, 0, 32, 0⟩
/-- `BLK_TILE_TEMP`, Table 8-17 (R363, 08_brodys_link.md). -/
def BLK_TILE_TEMP (p n : Nat) : Fld := ⟨0x00A02000 + 0x4000 * p + 0x40 * n + 0x20, 0, 32, 0⟩
/-- `BLK_TILE_ROW_CRC_ERR`, Table 8-17 (R363, 08_brodys_link.md). -/
def BLK_TILE_ROW_CRC_ERR (p n : Nat) : Fld := ⟨0x00A02000 + 0x4000 * p + 0x40 * n + 0x24, 0, 32, 0⟩
/-- `BLK_TILE_SYNC_MISSED`, Table 8-17 (R363, 08_brodys_link.md). -/
def BLK_TILE_SYNC_MISSED (p n : Nat) : Fld := ⟨0x00A02000 + 0x4000 * p + 0x40 * n + 0x28, 0, 32, 0⟩
/-- `BLK_TILE_ROW_DROP`, Table 8-17 (R363, 08_brodys_link.md). -/
def BLK_TILE_ROW_DROP (p n : Nat) : Fld := ⟨0x00A02000 + 0x4000 * p + 0x40 * n + 0x2C, 0, 32, 0⟩
/-- `BLK_TILE_VENDOR_ID`, Table 8-17 (R363, 08_brodys_link.md). -/
def BLK_TILE_VENDOR_ID (p n : Nat) : Fld := ⟨0x00A02000 + 0x4000 * p + 0x40 * n + 0x30, 0, 32, 0⟩
/-- `BLK_TILE_MODEL`, Table 8-17 (R363, 08_brodys_link.md). -/
def BLK_TILE_MODEL (p n : Nat) : Fld := ⟨0x00A02000 + 0x4000 * p + 0x40 * n + 0x34, 0, 32, 0⟩

/-- The fields of block `blkTile` with their access types. -/
def regsBlkTile (p n : Nat) : List (Acc × Fld) :=
  [(Acc.ro, BLK_TILE_PRESENT p n),
   (Acc.ro, BLK_TILE_AUTH p n),
   (Acc.ro, BLK_TILE_LIFE_VALID p n),
   (Acc.ro, BLK_TILE_SIZE_MISMATCH p n),
   (Acc.ro, BLK_TILE_LOST p n),
   (Acc.ro, BLK_TILE_ATTN p n),
   (Acc.ro, BLK_TILE_W_M1 p n),
   (Acc.ro, BLK_TILE_H_M1 p n),
   (Acc.ro, BLK_TILE_CAPS p n),
   (Acc.ro, BLK_TILE_HOP p n),
   (Acc.ro, BLK_TILE_TEMP p n),
   (Acc.ro, BLK_TILE_ROW_CRC_ERR p n)] ++
  [(Acc.ro, BLK_TILE_SYNC_MISSED p n),
   (Acc.ro, BLK_TILE_ROW_DROP p n),
   (Acc.ro, BLK_TILE_VENDOR_ID p n),
   (Acc.ro, BLK_TILE_MODEL p n)] ++
  (List.range 4).map (fun j => (Acc.ro, BLK_TILE_SERIAL p n j))

end Sys2Proof.Machine.R
end

