-- ==== Sys2Proof/Machine/Records.lean ====
section
/-! DEFINITION. The records that State is made of beside the register fields: queues, transfers in progress and the
internal state that the rules give the units. -/

namespace Sys2Proof.Machine

/-- A fault on its way to the collector (R466–R471, 13_faults_and_counters.md). `level` none is the class's default;
`names` says that the raising rule names the context or session; `fenced` that the rule has fenced the unit itself. -/
structure FaultReq where
  cls : Nat := 0
  level : Option Nat := none
  master : Nat := 0xFF
  access : Nat := 6
  ctx : Nat := 0xFF
  names : Bool := false
  addr : Nat := 0
  fenced : Bool := false
  injected : Bool := false
  at_ : Nat := 0
  deriving DecidableEq, Repr

/-- A power request in progress (R29, R33). -/
structure PwrReq where
  island : Nat := 0
  target : Nat := 0
  /-- the island is DRAINING for this request -/
  draining : Bool := false
  /-- the island is powering up for this request -/
  rising : Bool := false
  /-- the request waits for a fence of the island's unit to lift (R44) -/
  held : Bool := false
  /-- elapsed time at which DRAINING began -/
  since : Nat := 0
  deriving DecidableEq, Repr

/-- What started a fence (R43, R44, R48). -/
inductive FenceCause where
  | unitReset
  | fault
  | reweave
  deriving DecidableEq, Repr

/-- The steps of Table 1-14 that take time. -/
inductive FencePhase where
  /-- steps 3 and 4: the fence waits for the responses owed to the unit -/
  | waitReplies
  /-- step 5: the reset is held for 64 cycles -/
  | inReset
  /-- step 6 has ended and a reweave still has to load its section (R48) -/
  | waitLoad
  deriving DecidableEq, Repr

/-- A fence in progress (Table 1-14, R45). -/
structure Fence where
  phase : FencePhase := .waitReplies
  cause : FenceCause := .unitReset
  since : Nat := 0
  deriving DecidableEq, Repr

/-- Power and clock controller state beside its registers. -/
structure PwrSt where
  req : Option PwrReq := none
  /-- fences in progress, by master ID -/
  fences : SMap (Option Fence) := []
  /-- masters whose fence is held (R44) -/
  held : List Nat := []
  /-- masters that a parity error has stopped until the collector has taken its fault (R538) -/
  stopped : List Nat := []
  deriving DecidableEq, Repr

/-- A request queued in a memory controller half, with the mode in force when it left the crossing queue (R399). -/
structure MemReq where
  req : FabReq := {}
  /-- bobbin address -/
  addr : Nat := 0
  /-- elapsed time at which it left the crossing queue (R394) -/
  since : Nat := 0
  mode : Nat := 0
  /-- arrival number, which orders the requests (R393) -/
  seq : Nat := 0
  deriving DecidableEq, Repr

/-- One bank of a pseudo-channel: its open row plus 1, row hits served in succession past an older request to another row, the writes that hold it in
in-order mode by arrival number (R397), refreshes postponed and refreshes issued (R400). -/
structure BankSt where
  row : Nat := 0
  hits : Nat := 0
  inOrder : List Nat := []
  postponed : Nat := 0
  refreshed : Nat := 0
  deriving DecidableEq, Repr

/-- A pseudo-channel: input queue (16), request entries (64), banks, the bank issued to last, retraining state. -/
structure PchSt where
  input : List MemReq := []
  entries : List MemReq := []
  banks : SMap BankSt := []
  lastBank : Nat := 0
  /-- elapsed time of the previous retraining -/
  trainedAt : Nat := 0
  /-- stack temperature at the previous retraining (R404), when the stack had reported one -/
  trainedTemp : Option Int := none
  /-- a retraining is asked for -/
  trainAsked : Bool := false
  /-- a retraining pause is in progress -/
  pausing : Bool := false
  /-- the pause was deferred from this time on (R405) -/
  deferred : Option Nat := none
  deriving DecidableEq, Repr

/-- The memory controller beside its registers. -/
structure MemSt where
  /-- crossing queues of MC0 and MC1 -/
  xq : SMap (List FabReq) := []
  pch : SMap PchSt := []
  seq : Nat := 0
  /-- SECDED state of the 8-byte words that are not clean: 1 corrected on read, 2 uncorrectable or poisoned -/
  ecc : SMap Nat := []
  /-- next atom of the scrubber, per stack -/
  scrub : SMap Nat := []
  deriving DecidableEq, Repr

/-- A parked ALLOC (R380). -/
structure Parked where
  req : PoolReq := {}
  /-- elapsed time at which it times out -/
  due : Nat := 0
  deriving DecidableEq, Repr

/-- The bobbin pool beside its registers: list heads (0: none), ledgers (R385), parked requests oldest first,
answers not yet taken up, requests waiting for arbitration, and the round-robin records (R379). -/
structure PoolSt where
  head : SMap Nat := []
  ledger : SMap (List Nat) := []
  parked : List Parked := []
  done : List PoolRes := []
  queue : List PoolReq := []
  rr : SMap Nat := []
  deriving DecidableEq, Repr

/-- A request that received RETRY and is issued again when due (R16, R17, R402). -/
inductive Retried where
  | fabric (r : FabReq)
  | pool (r : PoolReq)
  /-- a unit's own write, which waits for no answer -/
  | store (master addr : Nat) (data : List Byte)
  /-- a unit's own read, whose data it has taken as they stand; a parse sequencer's where `parse` -/
  | load (master acc addr len : Nat) (parse : Bool)
  /-- the evaluation of a request of `STC_PIC_HOLD`: context and OUT_SEQ (R176) -/
  | hold (n seq : Nat)
  /-- the hold that a session asks for its source (R230, R235): session and source number -/
  | take (e idx : Nat)
  /-- the hold that a ply engine asks for at a frame start (R292): engine, context, OUT_SEQ, bobbin, generation -/
  | show (e ctx seq addr gen : Nat)
  deriving DecidableEq, Repr

/-- The master that issued a request. -/
def Retried.master : Retried → Nat
  | .fabric r => r.master
  | .pool r => r.master
  | .store m _ _ => m
  | .load m _ _ _ _ => m
  | .hold _ _ => 0x32
  | .take _ _ => 0x32
  | .show _ _ _ _ _ => 0x32

/-- The bobbin pool has the request, and waits for its memory itself (R402). -/
def Retried.pooled : Retried → Bool
  | .pool _ => true
  | _ => false

/-- The fabric beside the memory controller's queues. -/
structure FabSt where
  retry : List (Nat × Retried) := []
  resp : List FabResp := []
  deriving DecidableEq, Repr

/-- The interrupt controller beside its registers (12_interrupt_controller.md). -/
structure IntSt where
  /-- running-priority stacks, top first: (priority, source) -/
  stack : SMap (List (Nat × Nat)) := []
  /-- the target was signalled at the last arbitration -/
  signalled : SMap Bool := []
  /-- priority of the last message sent, 16 for none -/
  lastMsg : SMap Nat := []
  /-- redirect destination of a source while REDIR is 1 -/
  redirTo : SMap Nat := []
  /-- ALT of a target whose redirect is in force -/
  redirAlt : SMap Nat := []
  timerArmed : SMap Bool := []
  /-- device time at which PARKED was set -/
  parkedAt : SMap Nat := []
  /-- vectors of a target whose message is held (R462) -/
  heldVec : SMap (List Nat) := []
  deriving DecidableEq, Repr

/-- The fault collector beside its registers. -/
structure FltSt where
  queue : List FaultReq := []
  /-- device times of the log records of the last second (R479) -/
  logTimes : List Nat := []
  gap : Bool := false
  /-- SEQ of the newest log record (R480) -/
  seq : Nat := 0
  /-- captured address and time of a class (R468): the `_HI` words are read from here when their `_LO` word is -/
  cap : SMap (Nat × Nat) := []
  deriving DecidableEq, Repr

/-- A BAR0 access in progress (R17, R418): when it is repeated, its next word's offset, how many words are left, the words still to
write (none for a read) and the words read. -/
structure BarWait where
  due : Nat := 0
  off : Nat := 0
  left : Nat := 0
  data : Option (List Nat) := none
  got : List Nat := []
  deriving DecidableEq, Repr

/-- PCIe function state that configuration space holds (R413–R417, R462, R465). -/
structure PcieSt where
  bme : Bool := false
  d3 : Bool := false
  /-- Max_Payload_Size in bytes (R414); the value at reset is PCI Express's own (PRESUMED, log entry 44) -/
  mps : Nat := 128
  /-- Max_Read_Request_Size in bytes (R414); the value at reset is PCI Express's own (PRESUMED, log entry 44) -/
  mrrs : Nat := 512
  msixEn : Bool := false
  fnMask : Bool := false
  /-- completion timeout in ns (R415): 10 ms by default -/
  cplTimeout : Nat := 10000000
  /-- an FLR or PERST_N reset is in progress since this elapsed time -/
  flrSince : Option Nat := none
  /-- BAR0 accesses that wait, oldest first: for a response other than RETRY (R17), or for earlier BAR2 writes (R420) -/
  waiting : List BarWait := []
  deriving DecidableEq, Repr

/-- A DMA descriptor that has started (R430, R437). `word` is its bytes 20–23; `au` the access unit it belongs to in STREAM
mode, 0 for none. -/
structure Desc where
  index : Nat := 0
  hostAddr : Nat := 0
  devAddr : Nat := 0
  len : Nat := 0
  word : Nat := 0
  au : Nat := 0
  /-- the transfer has ended with this status and length -/
  ended : Option (Nat × Nat) := none
  tDone : Nat := 0
  /-- failing address and access type of an error status -/
  badAddr : Nat := 0
  access : Nat := 3
  deriving DecidableEq, Repr

end Sys2Proof.Machine
end

