-- ==== Sys2Proof/Machine/RecordsBoot.lean ====
section
/-! DEFINITION. The records of the warp loader, start-up and security, power-on and the pins. -/

namespace Sys2Proof.Machine

/-- What a reweave in progress holds (R506). -/
structure Hold where
  active : Bool := false
  classes : List Nat := []
  engines : List Nat := []
  ports : List Nat := []
  sources : List Nat := []
  counters : List Nat := []
  deriving DecidableEq, Repr

/-- A reweave that has passed its checks (R506, Table 14-7). -/
structure Reweave where
  /-- the sections of the image, by type -/
  sects : SMap (List Byte) := []
  /-- islands that step 4 brings to ON -/
  rise : List Nat := []
  /-- masters that step 5 fences -/
  units : List Nat := []
  deriving DecidableEq, Repr

/-- The warp loader beside its registers. -/
structure WrpSt where
  hold : Hold := {}
  /-- REQ_CAPS of the image loaded at start -/
  caps : Nat := 0
  /-- the sections in force, by type, defaults of R498 included -/
  sects : SMap (List Byte) := []
  reweave : Option Reweave := none
  /-- the entry of the autonomous program that runs, and the elapsed time at which it began (R501) -/
  autoAt : Nat := 0
  autoSince : Nat := 0
  deriving DecidableEq, Repr

/-- The warm-start record (Table 15-3) as the device uses it; calibration and trained values are in its own format. -/
structure WarmRec where
  start : Nat := 0
  tag : List Byte := []
  epoch : Nat := 0
  /-- CK_AON cycles at writing -/
  count : Nat := 0
  ptpState : Nat := 0
  holdS : Nat := 0
  freq : Nat := 0
  time : Nat := 0
  holdStart : Nat := 0
  gm : Nat := 0
  /-- topology hash and authentication codes of the ports that were ACTIVE -/
  topo : SMap (Option (Nat × List Nat)) := []
  deriving DecidableEq, Repr

/-- How the next start is begun (R510, R535). -/
inductive StartCmd where
  /-- a start of the kind that R515 decides -/
  | auto
  /-- a start commanded COLD -/
  | cold
  /-- a recovery boot -/
  | recovery
  deriving DecidableEq, Repr

/-- An accepted record of the key bundle (R531): its usages (Table 15-8), its key, and whether its chain ends at the root. -/
structure BootKey where
  usage : Nat := 0
  pub : List Byte := []
  root : Bool := false
  deriving DecidableEq, Repr

/-- A patch record in force (Table 15-14). -/
structure UcodePatch where
  kind : Nat := 0
  type : Nat := 0
  count : Nat := 0
  start : Nat := 0
  data : List Byte := []
  deriving DecidableEq, Repr

/-- The stores of one sequencer (R536, R537): the microwords and nanowords that a patch has put in place of those of ROM, the microstore
addresses at which a stored parity bit disagrees with its word, and the address of the microword that was read last. -/
structure UcStore where
  micro : SMap (Option Nat) := []
  nano : SMap (Option Nat) := []
  bad : List Nat := []
  at_ : Nat := 0
  deriving DecidableEq, Repr

/-- How the boot ROM reads the flash (R559): 8D-8D-8D or 1S-1S-1S, the rate in MHz, and the dummy cycles of 8D-8D-8D. -/
structure FlashBus where
  octal : Bool := false
  mhz : Nat := 25
  dummy : Nat := 0
  deriving DecidableEq, Repr

/-- A mailbox message that waits (R535): its mailbox, 16 for the I2C target (R561), and its words. -/
structure Mail where
  box : Nat := 0
  words : List Nat := []
  deriving DecidableEq, Repr

/-- The security block and what start-up keeps, beside their registers. What MRAM and the fuses hold outlasts a start. -/
structure SecSt where
  /-- MRAM start record (Table 15-15): start count, LAST_READY_START, WARM_FAILS, COLD_FAILS, LAST_FAIL -/
  startCnt : Nat := 0
  lastReady : Nat := 0
  warmFails : Nat := 0
  coldFails : Nat := 0
  lastFail : Nat := 0
  /-- the warm-start record, when one is written whole -/
  warm : Option WarmRec := none
  /-- monotonic counters 0–7 (R532) -/
  mctr : SMap Nat := []
  /-- owner key slots in fuses: the programmed hash, and the revoke bits (R531) -/
  owner : SMap (Option (List Byte)) := []
  revoked : Nat := 0
  /-- a start is in progress: neither READY nor failed -/
  starting : Bool := false
  /-- step 5 has decided the kind (R515, R520) -/
  kindKnown : Bool := false
  /-- the start was commanded COLD -/
  cold : Bool := false
  /-- the start reads its components from the recovery image (R527) -/
  fromImage : Bool := false
  /-- Table 15-2 reason that has come up in this start -/
  failing : Option Nat := none
  /-- elapsed time of the start event -/
  t0 : Nat := 0
  /-- what the next start event begins -/
  due : Option StartCmd := some .auto
  /-- elapsed time at which the power controller begins the next start (R521, R522) -/
  restartAt : Option Nat := none
  /-- DIGEST fields and VERSIONs of the components in force: 0 firmware, 1 patch container, 2 warp image, 3 key bundle -/
  digests : SMap (List Byte) := []
  versions : SMap Nat := []
  patches : List UcodePatch := []
  /-- the stores of the sequencers, by number (R536) -/
  stores : SMap UcStore := []
  /-- the boot ROM's way of reading flash since the start event -/
  spi : FlashBus := {}
  /-- public keys of the accepted tile issuers (R356, Table 15-8) -/
  issuers : List (List Byte) := []
  /-- the accepted records of the key bundle in force (R531) -/
  keys : List BootKey := []
  /-- what the warm-start record holds of a port until its first bring-up: hash and authentication states (R354) -/
  warmTopo : SMap (Option (Nat × List Nat)) := []
  /-- mailbox messages not yet executed, in order of arrival -/
  mail : List Mail := []
  /-- replies that wait for IN of their mailbox (R535) -/
  replies : SMap (List (List Nat)) := []
  /-- an orderly shutdown is in progress or has ended (Table 15-4 step 1) -/
  halting : Bool := false
  deriving DecidableEq, Repr

/-- What runs in CK_AON and at the pins (16_electrical_and_package.md). -/
structure AonSt where
  /-- VDD_AON is in range -/
  vdd : Bool := true
  /-- the AON power-on count (R550, Table 15-3) -/
  epoch : Nat := 1
  /-- elapsed time at which VDD_AON rose -/
  since : Nat := 0
  /-- `RESET_N` is low -/
  resetLow : Bool := false
  /-- `THERMTRIP_N` is asserted -/
  thermtrip : Bool := false
  /-- die temperature in °C (R553), its highest sample since VDD_AON rose (Table 16-10) and since the start (Table 16-7) -/
  tj : Int := 0
  peak : Option Int := none
  startPeak : Option Int := none
  /-- the AVSBus step in progress, in mV (R549) -/
  avs : Option Nat := none
  /-- a SHUTDOWN was accepted over I2C (R561) -/
  i2cAsked : Bool := false
  /-- the offset of the I2C map at which a read starts (R560) -/
  i2cOff : Nat := 0
  /-- the JTAG instruction in force (R562) and the levels that the boundary cells hold -/
  jtag : Nat := 0
  cells : List Bool := []
  deriving DecidableEq, Repr

end Sys2Proof.Machine
end

