-- ==== Sys2Proof/Machine/RecordsStream.lean ====
section
/-! DEFINITION. The records of the stream side: access units, jobs, contexts, spindles, ingest, PTP and egress. -/

namespace Sys2Proof.Machine

/-- An access unit in a chain of bobbins (Table 3-7): the bobbins with their generations, first to last. -/
structure Chain where
  bobs : List (Nat × Nat) := []
  bytes : Nat := 0
  loss : Bool := false
  trunc : Bool := false
  pfx : Bool := false
  rap : Bool := false
  discont : Bool := false
  host : Bool := false
  pathA : Bool := false
  pathB : Bool := false
  complete : Bool := true
  auSeq : Nat := 0
  rtpTs : Nat := 0
  tFirst : Nat := 0
  tRelease : Nat := 0
  pkts : Nat := 0
  lost : Nat := 0
  deriving DecidableEq, Repr

/-- A decode job (R74, R75): its context, chain, release time and deadline; `reposted` after R82; `ovr` when it was
dispatched as PROGRAM under R73. -/
structure Job where
  ctx : Nat := 0
  chain : Chain := {}
  r : Nat := 0
  d : Nat := 0
  /-- bytes of the access unit, those of a host-fed one that are still to be copied included (R73) -/
  size : Nat := 0
  /-- what the scheduler's test of R73 needs to know of the picture -/
  shape : PicShape := {}
  reposted : Bool := false
  ovr : Bool := false
  deriving DecidableEq, Repr

/-- An access unit that waits to be posted; `due` is its playout time (R128). -/
structure ToPost where
  job : Job := {}
  due : Option Nat := none
  deriving DecidableEq, Repr

/-- Where the sequencer stands in an access unit: the sets held, causes of Table 5-5 found, items that units named, the units (first
and count) of the slices that parsed and of those discarded, whether a header parsed, and whether the first picture is over. -/
structure ParseSt where
  sets : List ParamSet := []
  causes : List Nat := []
  tools : List Tool := []
  covered : List (Nat × Nat) := []
  lost : List (Nat × Nat) := []
  parses : Bool := false
  past : Bool := false
  deriving DecidableEq, Repr

/-- A picture that the context knows: its bobbin, its identity and why the context holds it (R175). `syn` marks a
synthetic entry (R204), whose bobbin is 0 when it is a constant. -/
structure Pic where
  addr : Nat := 0
  gen : Nat := 0
  order : Int := 0
  decSeq : Nat := 0
  slots : List Nat := []
  isRef : Bool := false
  awaits : Bool := false
  newest : Bool := false
  syn : Bool := false
  outcome : Nat := 0
  cause : Nat := 0
  flags : Nat := 0
  width : Nat := 0
  height : Nat := 0
  chroma : Nat := 1
  depth : Nat := 8
  /-- pictures that followed it in decode order while it awaited output -/
  age : Nat := 0
  grain : Bool := false
  /-- an AV1 key frame with show_frame 0, and the regions it reconstructed -/
  hidKey : Bool := false
  regs : List Nat := []
  /-- the rectangles that were reconstructed, when not all was (R191) -/
  area : Option (List Rect) := none
  /-- AVC: a long-term reference -/
  longTerm : Bool := false
  /-- T_FIRST of its chain, for the capture time of R234 -/
  tFirst : Nat := 0
  deriving DecidableEq, Repr

/-- An output that the process has released and that is not yet published: the picture's DEC_SEQ, REPEAT and the spindle
that performs it (R170). -/
structure OutReq where
  dec : Nat := 0
  again : Bool := false
  spd : Nat := 0
  deriving DecidableEq, Repr

/-- A context beside its registers. -/
structure Ctx where
  toPost : List ToPost := []
  posted : List Job := []
  /-- the spindle that has its job in progress, plus 1 -/
  busyOn : Nat := 0
  pics : List Pic := []
  /-- the load charged at admission: spindles with what each carries, and the class with its share (R68, R71) -/
  homes : List (Nat × Nat) := []
  outs : List OutReq := []
  decSeq : Nat := 0
  outSeq : Nat := 0
  auSeq : Nat := 0
  /-- access units end REJECTED until the next sequence start, with this cause (R163) -/
  rejecting : Option Nat := none
  seq : SeqFacts := {}
  /-- the parameter sets held, and the content of the active SPS or sequence header (R162, R198) -/
  sets : List ParamSet := []
  active : Option Nat := none
  /-- RASL pictures of the last IRAP picture are skipped (R206) -/
  raslSkip : Bool := false
  /-- HEVC: the MCTS message of the coded video sequence; and the tile grid with which engagement began (Table 4-16) -/
  mcts : Option MctsSei := none
  tiles : List Nat × List Nat := ([], [])
  /-- the region grid that the states of R190 belong to, and the regions of it that are CLEAN -/
  grid : List Rect := []
  clean : List Nat := []
  /-- HEVC and AV1: the last random-access point met Table 4-16 and no picture since broke its grid -/
  vsdOn : Bool := false
  /-- the order at which a gradual refresh ends TAINTED (R209) -/
  recovery : Option Int := none
  /-- DEC_SEQ of the hidden key frames, decoded with no cause of their own, at whose showing TAINTED ends (Table 5-3) -/
  hiddenKey : List Nat := []
  /-- TAINTED ended at a CRA whose RASL pictures may still come (R209) -/
  craRasl : Bool := false
  /-- the prefix of R121 goes ahead of the next access unit posted -/
  pfxDue : Bool := false
  deriving DecidableEq, Repr

/-- Where a job stands on its spindle (Table 4-14). -/
inductive JobPhase where
  | dispatched
  | waitData
  | parse
  | waitBobbin
  | recon
  deriving DecidableEq, Repr

/-- A job on a spindle. -/
structure RunJob where
  job : Job := {}
  phase : JobPhase := .dispatched
  facts : PicFacts := {}
  /-- parsing has ended and the chain is released -/
  parsed : Bool := false
  /-- picture bobbin and generation, and the size of the pool's bobbins the guard recorded (R213) -/
  pic : Option (Nat × Nat) := none
  bobSize : Nat := 0
  causes : List Nat := []
  damaged : Nat := 0
  /-- what its headers held -/
  hdr : ParseSt := {}
  /-- concealed units, in decode order of each (R201) -/
  conc : List Nat := []
  /-- synthetic entries that the job created (R204) -/
  synths : List Int := []
  /-- bytes of a host-fed chain that parsing needs to go on, and the phase it goes on with (R154) -/
  need : Nat := 0
  back : JobPhase := .dispatched
  /-- the bytes not yet copied count as absent (R211) -/
  cutOff : Bool := false
  /-- an encode session took the context as its source at dispatch (R185, R229) -/
  taken : Bool := false
  /-- fetch rectangle at dispatch (R188) -/
  rect : Rect := {}
  /-- regions reconstructed, when viewport-scoped decode engaged -/
  engaged : Bool := false
  regs : List Nat := []
  /-- the regions of the picture (Table 4-16) -/
  grid : List Rect := []
  catchup : Bool := false
  ganged : Bool := false
  serial : Bool := false
  /-- the parts of a pair: wavefront rows, or those before and from a unit on (R182, R183) -/
  wave : Bool := false
  split : Nat := 0
  /-- wavefront rows: the units completed in each -/
  rows : List Nat := []
  /-- the halves whose budget has run out (R193) -/
  cut : List Nat := []
  ahead : Bool := false
  budget : Bool := false
  waitSince : Nat := 0
  /-- nanoseconds spent in WAIT_DATA so far (R211) -/
  waited : Nat := 0
  deriving DecidableEq, Repr

/-- The settings in force since the job began or resumed (R159), each as it acts. -/
structure SpdSet where
  allocTo : Nat := 2000
  mult : Nat := 64
  slack : Nat := 64
  dataTo : Nat := 5000
  respTo : Nat := 4000
  deriving DecidableEq, Repr

/-- A decode spindle beside its registers. -/
structure Spd where
  cur : Option RunJob := none
  next : Option RunJob := none
  suspended : List RunJob := []
  /-- the odd spindle of a pair works for this lead, plus 1 -/
  gangLead : Nat := 0
  preempt : Bool := false
  cancel : Bool := false
  /-- stopped at a yield point for a drain (R35) -/
  held : Bool := false
  set : SpdSet := {}
  /-- the context whose first waiting output waits for this spindle's grain bobbin (R174) -/
  grain : Option Nat := none
  deriving DecidableEq, Repr

/-- A packet held in an open access unit: its sequence number extended beyond 16 bits, timestamp, marker, the device time
it was stamped with, the flow entry that supplied it, the logical port it came by, and the RTP payload. -/
structure Pkt where
  seq : Nat := 0
  ts : Nat := 0
  marker : Bool := false
  at_ : Nat := 0
  entry : Nat := 0
  lp : Nat := 0
  data : List Byte := []
  deriving DecidableEq, Repr

/-- The merge point of a flow (or of a merged pair, at its path-A entry): the first number of the oldest span still open,
the highest number held, the packets held, and the settings latched when the oldest access unit opened (R114,
R123–R125). -/
structure Flow where
  started : Bool := false
  /-- the last number of the access unit written most recently since the context's OPEN; 0 for none (R123) -/
  last : Nat := 0
  base : Nat := 0
  high : Nat := 0
  pkts : List Pkt := []
  discont : Bool := false
  window : Nat := 0
  playout : Nat := 0
  /-- elapsed time of the last match of the entry itself (R134) -/
  lastMatch : Nat := 0
  /-- bobbins obtained for the access units being built -/
  bobs : List (Nat × Nat) := []
  /-- packets that wait for a bobbin, and whether each holds a park slot (R126) -/
  parked : List (Pkt × Bool) := []
  deriving DecidableEq, Repr

/-- An access unit that a STREAM channel builds (R153): its chain as far as it has been copied, and whether its last
descriptor has started, so that it can be posted. -/
structure HostAu where
  chain : Chain := {}
  /-- bytes of the descriptors that have started (R73) -/
  size : Nat := 0
  whole : Bool := false
  posted : Bool := false
  deriving DecidableEq, Repr

/-- A DMA channel beside its registers. -/
structure DmaSt where
  /-- descriptors started and not yet written back, in ring order -/
  started : List Desc := []
  /-- index of the next descriptor to fetch -/
  nextIdx : Nat := 0
  /-- the error status that ended a descriptor: no later one starts (R440), with its address and access type -/
  stopAt : Option (Nat × Nat × Nat) := none
  /-- doorbells not yet passed by fetching: the TAIL they set and their device times (R429) -/
  bells : List (Nat × Nat) := []
  /-- STREAM: access units not yet complete, oldest first, and the count of them since the context's OPEN -/
  aus : List HostAu := []
  /-- the descriptors up to the next EOAU are discarded (R153, R156) -/
  skip : Bool := false
  /-- an allocation is outstanding (R153) -/
  asked : Bool := false
  /-- bytes moved that do not yet fill a unit of `DMA_BYTES` -/
  rest : Nat := 0
  deriving DecidableEq, Repr

/-- A membership report that is scheduled: logical port, IP version, the group (none: all records), the elapsed time it is
due, whether it answers a query, and how many more times a state-change report is sent after it. -/
structure Report where
  lp : Nat := 0
  v6 : Bool := false
  group : Option Nat := none
  due : Nat := 0
  current : Bool := false
  left : Nat := 0
  deriving DecidableEq, Repr

/-- A PTP master heard in Announce messages. -/
structure PtpMaster where
  lp : Nat := 0
  id : Nat := 0
  /-- the port identity it sends from, which Sync and Follow_Up messages carry -/
  source : Nat := 0
  /-- the comparison key of the default BMCA, lower better -/
  rank : Nat := 0
  /-- elapsed time at which its announce receipt times out -/
  due : Nat := 0
  deriving DecidableEq, Repr

/-- The PTP servo beside its registers. -/
structure PtpSt where
  masters : List PtpMaster := []
  /-- source port identity of the selected master -/
  selected : Option Nat := none
  /-- billionths of a nanosecond carried from tick to tick by the frequency correction -/
  frac : Nat := 0
  good : Nat := 0
  bad : Nat := 0
  holdSince : Nat := 0
  /-- the two-step Sync that waits for its Follow_Up: sequence number, receive time and correction in ns -/
  sync : Option (Nat × Int × Int) := none
  /-- the grandmaster of a holdover that a warm start restored, until the servo locks (R517) -/
  restored : Option Nat := none
  deriving DecidableEq, Repr

/-- A coded access unit on its way out of an egress channel: chain, capture time, packets still to send. -/
structure EgrAu where
  chain : Chain := {}
  capture : Nat := 0
  packets : List (List Byte) := []
  /-- the paths (path B true) by which the next packet has left -/
  gone : List Bool := []
  total : Nat := 0
  start : Nat := 0
  sent : Nat := 0
  deriving DecidableEq, Repr

/-- An egress channel beside its registers. -/
structure Egr where
  queue : List EgrAu := []
  seq : Nat := 0
  deriving DecidableEq, Repr

/-- A group record of the membership generator (R136): address, EXCLUDE {} or INCLUDE with its sources. -/
structure GroupRec where
  v6 : Bool := false
  addr : Nat := 0
  exclude : Bool := false
  sources : List Nat := []
  deriving DecidableEq, Repr

/-- Ingest and egress beside their registers. -/
structure IngSt where
  flows : SMap Flow := []
  reports : List Report := []
  /-- the group records last reported, per logical port -/
  known : SMap (List GroupRec) := []
  ptp : PtpSt := {}
  egr : SMap Egr := []
  /-- the channel that last sent on a logical port -/
  lastEgr : SMap Nat := []
  deriving DecidableEq, Repr

end Sys2Proof.Machine
end

