-- ==== Sys2Proof/Machine/RecordsEnc.lean ====
section
/-! DEFINITION. The records of encode sessions, encode spindles and the carding queue (06_encode_spindles.md). -/

namespace Sys2Proof.Machine

/-- A source picture queued in a session (R230–R235): its number in source order, its bobbin (0 when missing), its
capture time and the time it was queued. -/
structure Src where
  idx : Nat := 0
  addr : Nat := 0
  gen : Nat := 0
  missing : Bool := false
  concealed : Bool := false
  t : Nat := 0
  q : Nat := 0
  /-- its hold meets RETRY and is asked for again: the session does not code it yet -/
  ask : Bool := false
  deriving DecidableEq, Repr

/-- A reconstructed reference: source number, bobbin and generation. -/
structure EncRef where
  idx : Nat := 0
  addr : Nat := 0
  gen : Nat := 0
  deriving DecidableEq, Repr

/-- What the parameter sets or the sequence header of a session's stream say (R233, R237, R240): profile, level, coded size and format,
tiles, loop filters across them, motion vectors of references, and PRIMARIES, TRANSFER, MATRIX and FULL_RANGE. -/
structure EncHead where
  std : Nat := 0
  profile : Nat := 0
  level : Nat := 0
  width : Nat := 0
  height : Nat := 0
  chroma : Nat := 0
  depth : Nat := 8
  cols : Nat := 1
  rows : Nat := 1
  loopAcross : Bool := true
  refMvs : Bool := true
  colour : List Nat := []
  deriving DecidableEq, Repr

/-- The forms of a coded picture (R239). -/
inductive CodedForm where
  | inter
  /-- an IDR picture, or a key frame -/
  | closed
  /-- AVC: an I picture with a recovery point SEI message -/
  | recovery
  /-- HEVC: a CRA picture -/
  | cra
  deriving DecidableEq, Repr

/-- What the access unit of a coded picture holds: its form, the parameter sets or sequence header ahead of its slices (R239), the temporal
MCTS message or the metadata of Table 4-17 (R240), show_frame, the source number that a show_existing_frame after it shows (R238), and the
quantisers signalled (R248, R253, R254), and whether every unit is skipped (R255). -/
structure CodedDesc where
  idx : Nat := 0
  form : CodedForm := .inter
  sets : Bool := false
  tileMessage : Bool := false
  shown : Bool := true
  existing : Option Nat := none
  quants : List Int := []
  allSkip : Bool := false
  deriving DecidableEq, Repr

/-- An encode session beside its registers. -/
structure Enc where
  srcs : List Src := []
  /-- sources queued since START: the number of the next one -/
  taken : Nat := 0
  /-- list entries considered since START (R230) -/
  seen : Nat := 0
  /-- first source of the mini-GOP being coded, and the step within its coding order (Table 6-8) -/
  base : Nat := 0
  step : Nat := 0
  /-- the encode spindle that codes a picture of the session, plus 1 -/
  busyOn : Nat := 0
  /-- FORCE_INTRA waits for the next anchor -/
  force : Bool := false
  /-- a coded picture was lost: the next anchor is an intra with AFTER_LOSS (R261) -/
  loss : Bool := false
  /-- an intra picture is deferred (R256) -/
  deferring : Bool := false
  /-- the picture in progress was cut and is coded again (R247) -/
  redo : Bool := false
  refs : List EncRef := []
  auSeq : Nat := 0
  /-- the quantisers of the rows of the last coded picture (R253) -/
  rowQ : List Int := []
  /-- the headers of the stream, from the first picture coded after START, and what the last access unit holds -/
  head : Option EncHead := none
  desc : Option CodedDesc := none
  deriving DecidableEq, Repr

/-- A step of a coded picture that takes time. -/
inductive EncPhase where
  | waitRecon
  | waitOut
  | coding
  deriving DecidableEq, Repr

/-- A picture on an encode spindle. -/
structure EncJob where
  session : Nat := 0
  src : Src := {}
  d : Nat := 0
  phase : EncPhase := .coding
  intra : Bool := false
  anchor : Bool := false
  level : Nat := 0
  isRef : Bool := false
  /-- what this picture took of the session's requests, given back when it is cut -/
  force : Bool := false
  loss : Bool := false
  recon : Option (Nat × Nat) := none
  outs : List (Nat × Nat) := []
  /-- what coding brought, while output bobbins are still being allocated -/
  facts : Option CodedFacts := none
  began : Nat := 0
  allocTo : Nat := 2000
  respTo : Nat := 4000
  /-- ENC_Q as coding of the picture began (R225) -/
  q : Nat := 0
  /-- the session has entered FAULTED: the picture is dropped at the next yield point (R58) -/
  stop : Bool := false
  deriving DecidableEq, Repr

/-- A stripe of a carding job (R272): the job's number, the stripe's index, and how often it has been cut. -/
structure Stripe where
  job : Nat := 0
  idx : Nat := 0
  cuts : Nat := 0
  deriving DecidableEq, Repr

/-- An encode spindle beside its registers. -/
structure Spe where
  cur : Option EncJob := none
  stripe : Option Stripe := none
  /-- stopped at a yield point for a drain (R35) -/
  held : Bool := false
  deriving DecidableEq, Repr

/-- A carding job (R263): descriptor address, the 64 descriptor bytes once the job has begun, stripes dispatched and
ended, stripes to run again, records written and the worst result. -/
structure CardJob where
  num : Nat := 0
  addr : Nat := 0
  began : Bool := false
  desc : List Byte := []
  stripes : Nat := 0
  next : Nat := 0
  ended : Nat := 0
  again : List Stripe := []
  records : Nat := 0
  code : Nat := 0
  deriving DecidableEq, Repr

/-- The carding queue, head first. -/
structure CardSt where
  jobs : List CardJob := []
  num : Nat := 0
  deriving DecidableEq, Repr

end Sys2Proof.Machine
end

