-- ==== Sys2Proof/Machine/RecordsWall.lean ====
section
/-! DEFINITION. The records of the wall: canvas timing, ply engines, and the Brodys port managers. -/

namespace Sys2Proof.Machine

/-- The canvas timing generator beside its registers (R283–R288). -/
structure CanvasSt where
  /-- frame starts so far: names a frame even when its number repeats -/
  ord : Nat := 0
  /-- number k of the latest frame start, and its device time -/
  k : Nat := 0
  tstart : Nat := 0
  /-- elapsed time of the latest frame start; none before the first -/
  at_ : Option Nat := none
  /-- elapsed time of EN, which the flywheel counts from before the first frame after it -/
  enAt : Nat := 0
  /-- FREE and PTP: the number of the grid point reached -/
  next : Nat := 0
  /-- the last WSYNC frame started without an edge -/
  lost : Bool := false
  /-- elapsed time at which `WSYNC_OUT` rose, while it is high -/
  outSince : Option Nat := none
  /-- context windows as latched (R279): X, Y, W_M1, H_M1 -/
  wins : SMap (Nat × Nat × Nat × Nat) := []
  /-- fetch rectangles of the last eight frame starts with their device times, oldest first (R296) -/
  rects : SMap (List (Nat × Rect)) := []
  deriving DecidableEq, Repr

/-- A picture that a window shows: its context, OUT_SEQ, bobbin and generation (R291, R292). -/
structure Shown where
  ctx : Nat := 0
  seq : Nat := 0
  addr : Nat := 0
  gen : Nat := 0
  deriving DecidableEq, Repr

/-- What the engine reads of a picture's record (Table 4-10). -/
structure PicView where
  base : Nat := 0
  w : Nat := 0
  h : Nat := 0
  cropL : Nat := 0
  cropR : Nat := 0
  cropT : Nat := 0
  cropB : Nat := 0
  chroma : Nat := 0
  depth : Nat := 8
  planar : Bool := false
  bytes : Nat := 1
  pitchY : Nat := 0
  pitchC : Nat := 0
  offY : Nat := 0
  offCb : Nat := 0
  offCr : Nat := 0
  transfer : Nat := 2
  matrix : Nat := 2
  fullRange : Nat := 0
  vsd : Bool := false
  tRelease : Nat := 0
  deriving DecidableEq, Repr

/-- A window as one frame draws it (R278–R282, R291). -/
structure WinView where
  w : Nat := 0
  ply : Nat := 0
  kind : Nat := 0
  alpha : Nat := 0
  fillEmpty : Bool := false
  fill : Nat := 0
  /-- destination rectangle on the canvas -/
  dst : Rect := {}
  /-- source rectangle in the cropped picture -/
  src : Rect := {}
  hbank : Nat := 0
  vbank : Nat := 0
  loc : Nat := 0
  matrix : Nat := 0
  transfer : Nat := 0
  range : Nat := 0
  mat : List Int := []
  pic : Option PicView := none
  /-- the ratio of R299 is exceeded -/
  ratio : Bool := false
  /-- the safe rectangle of R297, for a picture that carries VSD -/
  safe : Option Rect := none
  deriving DecidableEq, Repr

/-- A tile as one frame drives it (R306, R311). -/
structure TileView where
  /-- entry number t = 64 × slot + chain position -/
  t : Nat := 0
  x : Nat := 0
  y : Nat := 0
  w : Nat := 1
  h : Nat := 1
  orient : Nat := 0
  depth : Nat := 0
  curve : Bool := false
  dither : Bool := false
  /-- tile matrix; none for the identity -/
  mat : Option (List Int) := none
  gmap : Nat := 0
  /-- aging gains R, G, B, 4.12 -/
  age : Nat × Nat × Nat := (0x1000, 0x1000, 0x1000)
  deriving DecidableEq, Repr

/-- A frame that an engine builds: its ordinal and number, black or not, the windows and tiles, the rows still to be built
per port slot in the order of R314, the lamp-layer samples used and the drive sums so far. -/
structure PlyFrame where
  ord : Nat := 0
  k : Nat := 0
  black : Bool := false
  wins : List WinView := []
  tiles : List TileView := []
  todo : SMap (List (Nat × Nat)) := []
  samples : Nat := 0
  sums : SMap (Nat × Nat × Nat) := []
  /-- pictures the frame reads -/
  uses : List Shown := []
  deriving DecidableEq, Repr

/-- A ply engine beside its registers. -/
structure PlySt where
  /-- elapsed time of the pending commit request, and whether validation has succeeded (R276, R277) -/
  asked : Option Nat := none
  valid : Bool := false
  /-- the last frame was sent with RUN 1: one black frame follows RUN 0 (R315) -/
  sending : Bool := false
  frames : List PlyFrame := []
  held : List Shown := []
  shown : SMap (Option Shown) := []
  /-- the frame whose SYNC is due: its number, ordinal and elapsed due time -/
  sync : Option (Nat × Nat × Nat) := none
  /-- the ordinal of the latest frame start and the elapsed time of its c_k + DELAY, with the DELAY latched then (R314) -/
  due : Nat × Nat := (0, 0)
  /-- drive sums of the tiles, 64 bits each (Table 7-12), and their values at the last minute -/
  tally : SMap (Nat × Nat × Nat) := []
  tallyOld : SMap (Nat × Nat × Nat) := []
  deriving DecidableEq, Repr

/-- A row handed to a port: the frame's ordinal, the chain position, row and width, the WORD field and the payload. -/
structure RowPkt where
  ord : Nat := 0
  pos : Nat := 0
  row : Nat := 0
  w : Nat := 0
  word : Nat := 0
  data : List Byte := []
  deriving DecidableEq, Repr

/-- What a management transaction of the port is for (R349, R351, R355, R357, R362, R364). -/
inductive MgrTask where
  | clear
  | hop
  | ping (n : Nat)
  | ident (n : Nat)
  | life (n : Nat)
  | status (n : Nat)
  | cert (n part : Nat)
  | challenge (n : Nat)
  | sig (n part : Nat)
  | hours (n : Nat)
  | host
  deriving DecidableEq, Repr

/-- The outstanding transaction (R343–R346): the request, retries left, the elapsed time its packet ends. -/
structure Trans where
  task : MgrTask := .host
  seq : Nat := 0
  op : Nat := 0
  addr : Nat := 0
  args : List Byte := []
  left : Nat := 0
  endAt : Nat := 0
  /-- the packet waits for the next SYNC to pass (R344) -/
  unsent : Bool := false
  deriving DecidableEq, Repr

/-- A host request that waits its turn (R343, R364). -/
structure HostReq where
  op : Nat := 0
  addr : Nat := 0
  args : List Byte := []
  deriving DecidableEq, Repr

/-- The enumeration in progress (R351, R354): `full` false for a probe without CLEAR_ADDR and ENUM, the rounds run, the
identity pages held before it began; `reach` is the chain length once known. -/
structure EnumSt where
  full : Bool := true
  warm : Bool := false
  rounds : Nat := 0
  reach : Option Nat := none
  pages : List (List Byte) := []
  deriving DecidableEq, Repr

/-- The authentication in progress (R357): the tile, what has been read, the nonce, and what the security block verifies. -/
structure AuthSt where
  n : Nat := 0
  cert : List Byte := []
  nonce : List Byte := []
  sig : List Byte := []
  /-- elapsed time of the CHALLENGE -/
  since : Nat := 0
  /-- elapsed time of the last BUSY answer, while the port waits to read again -/
  busyAt : Option Nat := none
  /-- the security block verifies: 1 the certificate, 2 the signature -/
  verify : Nat := 0
  deriving DecidableEq, Repr

/-- What a port knows of a tile beside `BLK_TILE`: identity and life pages, power cycles last read (none before any read), failed
transactions in a row. -/
structure TileSt where
  page : List Byte := []
  life : List Byte := []
  cycles : Option Nat := none
  fails : Nat := 0
  deriving DecidableEq, Repr

/-- A port manager beside its registers. -/
structure PortSt where
  /-- RL symbol lock, and the elapsed time of its loss -/
  lock : Bool := false
  lostAt : Option Nat := none
  /-- elapsed time of the last step of bring-up -/
  since : Nat := 0
  /-- the bring-up in progress keeps the tile addresses (R342), or is a warm start's (R354) -/
  keep : Bool := false
  warm : Bool := false
  /-- the retrain in progress ends a test -/
  testEnd : Bool := false
  /-- rows are accepted of frames after this ordinal (Table 8-7 step 6) -/
  fromOrd : Nat := 0
  rows : List RowPkt := []
  /-- elapsed time until which the lanes carry the packet sent last -/
  lineBusy : Nat := 0
  /-- L0–L3 are in electrical idle (R340), or since when a fast-exit burst runs (R341) -/
  idle : Bool := false
  burst : Option Nat := none
  seq : Nat := 0
  trans : Option Trans := none
  tasks : List MgrTask := []
  host : Option HostReq := none
  /-- the last transaction was the host's -/
  hostLast : Bool := false
  enum : Option EnumSt := none
  auth : Option AuthSt := none
  authQ : List Nat := []
  tiles : SMap TileSt := []
  /-- the next position to poll -/
  pollNext : Nat := 0
  /-- the hash last computed -/
  hash : Nat := 0
  /-- elapsed end of the test in progress -/
  testAt : Nat := 0
  /-- elapsed time of the last one-bit injection -/
  injectAt : Nat := 0
  /-- authentication states restored by a warm start (R354), by position -/
  saved : List Nat := []
  /-- the hash that a warm start compares (R354) -/
  warmHash : Nat := 0
  deriving DecidableEq, Repr

end Sys2Proof.Machine
end

