-- ==== Sys2Proof/Machine/State.lean ====
section
/-! DEFINITION. The state of the block, its reset, and the reasons a step can stop. Register fields are held by name
in one store (`flds`), everything else the rules give the machine in the records below. -/

namespace Sys2Proof.Machine

/-- The orderable parts of Table 0-1 (R1). -/
inductive Part where
  | ix9640
  | ix9620
  deriving DecidableEq, Repr

/-- The machine. -/
structure State where
  /-- the orderable part (R1, R2, Table 0-1); never changed by a command -/
  part : Part
  /-- every register field, by `Fld.key`; an absent key reads as the field's reset value -/
  flds : SMap Nat
  /-- HBM contents by bobbin address (R368); an unlisted byte reads 0 (DESIGN CHOICE, log entry 3) -/
  hbm : SMap Byte
  /-- host memory as the device has written it, by host bus address (DESIGN CHOICE, log entry 3) -/
  hostMem : SMap Byte
  /-- the MRAM (R480, R543), by byte offset -/
  mram : SMap Byte
  /-- the boot flash, by byte offset -/
  flash : SMap Byte
  /-- device time: the 64-bit nanosecond count (R146) -/
  devTime : Nat
  /-- nanoseconds since the model's reset, which no PTP step moves -/
  elapsed : Nat
  /-- MODEL: how many free values have been drawn (DESIGN CHOICE, log entry 4) -/
  fresh : Nat
  /-- MODEL: what has left the device, newest first -/
  out : List Output
  /-- power and clock controller (01_architecture.md) -/
  pwr : PwrSt
  /-- the fabric (01_architecture.md) -/
  fab : FabSt
  /-- the memory controller (10_memory_controller.md) -/
  mem : MemSt
  /-- the bobbin pool (09_bobbin_pool.md) -/
  pool : PoolSt
  /-- the interrupt controller (12_interrupt_controller.md) -/
  intr : IntSt
  /-- the fault collector (13_faults_and_counters.md) -/
  flt : FltSt
  /-- the PCIe function (11_host_interface_and_dma.md) -/
  pcie : PcieSt
  /-- the DMA channels beside their registers (11_host_interface_and_dma.md) -/
  dma : SMap DmaSt
  /-- the 48-bit counts behind `CNT_VAL` (R481) -/
  cntLive : SMap Nat
  /-- stream contexts beside their registers (02_stream_contexts_and_scheduling.md) -/
  ctxs : SMap Ctx
  /-- decode spindles beside their registers (04_decode_spindles.md) -/
  spds : SMap Spd
  /-- ingest, PTP servo and egress (03_stream_ingest.md) -/
  ing : IngSt
  /-- encode sessions beside their registers (06_encode_spindles.md) -/
  encs : SMap Enc
  /-- encode spindles beside their registers (06_encode_spindles.md) -/
  spes : SMap Spe
  /-- the carding queue (06_encode_spindles.md) -/
  card : CardSt
  /-- canvas timing (07_ply_engines.md) -/
  canvas : CanvasSt
  /-- ply engines beside their registers (07_ply_engines.md) -/
  plys : SMap PlySt
  /-- Brodys port managers beside their registers (08_brodys_link.md) -/
  ports : SMap PortSt
  /-- the warp loader (14_warp_image.md) -/
  wrp : WrpSt
  /-- the security block and start-up (15_startup_microcode_security.md) -/
  sec : SecSt
  /-- the always-on domain and the pins (16_electrical_and_package.md) -/
  aon : AonSt
  /-- the commands waiting, first in, first out -/
  pending : List Instr
  deriving DecidableEq, Repr

/-- No command stops the block with a fault: the block has no behaviour the spec leaves without an effect. The one
constructor is never raised (safe). -/
inductive Fault where
  /-- raised by no meaning of this model; safe -/
  | none
  deriving DecidableEq, Repr

/-- Why a command has no meaning. -/
inductive Refusal where
  /-- an arm of `exec` that has no meaning yet, by the table's mnemonic; safe -/
  | notModelled (mnemonic : String)
  deriving DecidableEq, Repr

/-- The machine right after reset: every register field at its reset value (the empty store), every queue empty,
no command waiting. (DESIGN CHOICE, log entry 1.) (DEDUCED, log entry 41.) -/
def State.reset : State where
  part := .ix9640
  flds := []
  hbm := []
  hostMem := []
  mram := []
  flash := []
  devTime := 0
  elapsed := 0
  fresh := 0
  out := []
  pwr := {}
  fab := {}
  mem := {}
  pool := {}
  intr := {}
  flt := {}
  pcie := {}
  dma := []
  cntLive := []
  ctxs := []
  spds := []
  ing := {}
  encs := []
  spes := []
  card := {}
  canvas := {}
  plys := []
  ports := []
  wrp := {}
  sec := {}
  aon := {}
  pending := []

end Sys2Proof.Machine
end

