-- ==== Sys2Proof/Machine/Ops.lean ====
section
/-! DEFINITION. The named operations over registers, records and memories that every family uses. -/

namespace Sys2Proof.Machine

open R

/-- Read a register field. (DESIGN CHOICE, log entry 16.) -/
def State.rd (s : State) (F : Fld) : Nat := smGet F.reset s.flds F.key

/-- Write a register field, narrowed to its width. (DESIGN CHOICE, log entry 16.) -/
def State.wr (s : State) (F : Fld) (v : Nat) : State :=
  { s with flds := smSet F.reset s.flds F.key (v % 2 ^ F.width) }

/-- Whether a one-bit field reads 1. -/
def State.on (s : State) (F : Fld) : Bool := s.rd F == 1

/-- Add to a field; a counter wraps at its width. -/
def State.bump (s : State) (F : Fld) (k : Nat := 1) : State := s.wr F (s.rd F + k)

/-- Set bit `i` of a field that holds one bit per member. -/
def State.setBit (s : State) (F : Fld) (i : Nat) : State := s.wr F (withBit (s.rd F) i)

/-- Clear bit `i` of a field that holds one bit per member. -/
def State.clrBit (s : State) (F : Fld) (i : Nat) : State := s.wr F (withoutBit (s.rd F) i)

/-- Return a field to its reset value. -/
def State.rst (s : State) (F : Fld) : State := s.wr F F.reset

/-- Apply a change only under a condition. -/
def State.iff (s : State) (c : Bool) (f : State → State) : State := if c then f s else s

/-- Apply a change for every element of a list, in order. -/
def State.each {α : Type} (s : State) (l : List α) (f : α → State → State) : State :=
  l.foldl (fun t a => f a t) s

/-- Return a list of fields to their reset values. -/
def State.rstAll (s : State) (l : List (Acc × Fld)) : State := s.each l (fun p t => t.rst p.2)

/-- Draw a free value: the spec leaves it open (DESIGN CHOICE, log entry 4). -/
def State.free (s : State) : Nat × State := (Config.freeValue s.fresh, { s with fresh := s.fresh + 1 })

/-- Bytes whose value the spec leaves open: data that an ERROR response withheld, an area that it left undefined, padding (DESIGN CHOICE, log entry 4). -/
def State.freeBytes (s : State) (n : Nat) : List Byte × State :=
  ((List.range n).map (fun (i : Nat) => BitVec.ofNat 8 (Config.freeValue (s.fresh + i))), { s with fresh := s.fresh + n })

/-- A timestamp of this instant in some domain: it lies within 8 ns of device time, and where is a free value of each sample (R24,
DESIGN CHOICE, log entry 66). -/
def State.stamp (s : State) : Nat × State :=
  let v := s.free
  (s.devTime + v.1 % 17 - 8, v.2)

/-- Record something that leaves the device. (DESIGN CHOICE, log entry 7.) -/
def State.emit (s : State) (o : Output) : State := { s with out := o :: s.out }

/-- Device time low and high words. -/
def State.timeLo (s : State) : Nat := s.devTime % 2 ^ 32
/-- Device time bits [63:32]. -/
def State.timeHi (s : State) : Nat := s.devTime / 2 ^ 32 % 2 ^ 32

/-! ### Parts and islands -/

/-- `GLB_CAPS` of the part (R13, Table 1-2). -/
def State.caps (s : State) : Nat :=
  match s.part with
  | .ix9640 => 0x3FFFFFFF
  | .ix9620 => 0x0D7300FF

/-- The bit of `GLB_CAPS` that reports an island's unit present: 0–15 DEC, 16–19 ENC, 20–21 PLY, 22–25 BLG,
26–27 ETH, 28–29 HBM (Tables 1-2 and 1-6). -/
def capBit (i : Nat) : Nat :=
  if i < 22 then i else if i < 26 then i + 4 else if i < 28 then i - 2 else i - 6

/-- The island's unit is present in the part (R2, `PWR_ISL_STATE.ABSENT`). (DESIGN CHOICE, log entry 1.) -/
def State.present (s : State) (i : Nat) : Bool := i < 30 && bitSet s.caps (capBit i)

/-- Island states of Table 1-7. -/
def islON : Nat := 0
def islDRAINING : Nat := 1
def islRETENTION : Nat := 2
def islOFF : Nat := 3

/-- The state of an island (R26). -/
def State.isl (s : State) (i : Nat) : Nat := s.rd (PWR_ISL_STATE_STATE i)

/-- The island a master's unit lies in (Tables 1-1 and 1-6); none for the fabric domain. -/
def masterIsland (m : Nat) : Option Nat :=
  if m < 0x14 then some m
  else if m = 0x18 ∨ m = 0x19 then some (m - 0x18 + 20)
  else if 0x48 ≤ m ∧ m < 0x58 then some ((m - 0x48) / 4 + 22)
  else none

/-- The master ID of the unit that owns sequencer `q` (Table 15-12). -/
def seqMaster (q : Nat) : Nat := if q < 20 then q else if q < 22 then 0x20 else 0x21

/-- The masters that Table 1-1 places in an island. -/
def islandMasters (i : Nat) : List Nat :=
  if i < 20 then [i]
  else if i < 22 then [i - 20 + 0x18]
  else if i < 26 then [0x48 + 4 * (i - 22), 0x49 + 4 * (i - 22), 0x4A + 4 * (i - 22), 0x4B + 4 * (i - 22)]
  else []

/-- The master ID PWR_DRAIN and ENV faults carry for an island: its lowest master, 0xFF for none (R471). -/
def islandMaster (i : Nat) : Nat := ((islandMasters i)[0]?).getD 0xFF

/-- The fence of a master, if one is in progress. -/
def State.fence (s : State) (m : Nat) : Option Fence := smGet none s.pwr.fences m

/-- The unit with this master ID is fenced (R45). -/
def State.fenced (s : State) (m : Nat) : Bool := (s.fence m).isSome

/-- The standard of a context's stream. -/
def State.ctxStd (s : State) (n : Nat) : Nat := s.rd (STC_CODEC_STANDARD n)

/-- The island is ON. -/
def State.islOn (s : State) (i : Nat) : Bool := s.isl i == islON

/-- The unit is about to be fenced (R44), or stopped by a parity error (R538): it takes up no work. -/
def State.stayed (s : State) (m : Nat) : Bool := s.pwr.held.contains m || s.pwr.stopped.contains m

/-- The master's island, if it has one, is ON, and the unit is neither fenced nor stayed: it may take up work. -/
def State.unitUp (s : State) (m : Nat) : Bool :=
  !s.fenced m && !s.stayed m && (match masterIsland m with | none => true | some i => s.islOn i && s.present i)

/-! ### Faults: the queue -/

/-- Bring a fault to the collector. Up to 256 wait; one that finds the queue full is counted and lost (R470). -/
def State.raise (s : State) (f : FaultReq) : State :=
  if s.flt.queue.length < 256 then
    { s with flt := { s.flt with queue := s.flt.queue ++ [{ f with at_ := s.elapsed }] } }
  else (s.bump (FLT_COUNT f.cls)).bump FLT_LOST

/-! ### Performance counters (R481–R485) -/

/-- The live 48-bit count of counter `i`. -/
def State.cnt (s : State) (i : Nat) : Nat := smGet 0 s.cntLive i

/-- Add `n` to counter `i`; a wrap from 2^48 − 1 sets OVF, and carries into a chained odd counter (R481, R484). -/
def State.cntAdd (s : State) (i n : Nat) : State :=
  let v := s.cnt i + n
  let t := { s with cntLive := smSet 0 s.cntLive i (v % 2 ^ 48) }
  if v < 2 ^ 48 then t
  else if i % 2 = 0 ∧ s.on (CNT_CTL_CHAIN (i + 1)) then
    let w := t.cnt (i + 1) + 1
    let t := { t with cntLive := smSet 0 t.cntLive (i + 1) (w % 2 ^ 48) }
    if w < 2 ^ 48 then t else t.setBit CNT_STATUS_OVF (i + 1)
  else t.setBit CNT_STATUS_OVF i

/-- Counter `i` counts event `ev` by its own selection: enabled and not the high half of a chained pair (R484). -/
def State.cntHears (s : State) (i ev : Nat) : Bool :=
  s.on (CNT_CTL_EN i) && s.rd (CNT_SEL_EVENT i) == ev && !(i % 2 == 1 && s.on (CNT_CTL_CHAIN i))

/-- Count an event of no kind (Table 13-7). -/
def State.count (s : State) (ev n : Nat) : State :=
  s.each (List.range 32) (fun i t => t.iff (t.cntHears i ev) (·.cntAdd i n))

/-- Count an event of kind UNIT: only MASTER_EN and MASTER filter it (R483). -/
def State.countUnit (s : State) (ev master n : Nat) : State :=
  s.each (List.range 32) (fun i t =>
    t.iff (t.cntHears i ev && (!t.on (CNT_CTL_MASTER_EN i) || t.rd (CNT_CTL_MASTER i) == master)) (·.cntAdd i n))

/-- The privilege class of a request (Table 13-8). -/
def privClass (r : FabReq) : Nat :=
  if r.master = 0x40 ∨ r.master = 0x28 ∨ r.master = 0x29 then 0
  else if r.master = 0x38 ∨ r.master = 0x60 then 1
  else if r.ucode then 2 else 3

/-- The section of the warp image in force (R498, R504). -/
def State.sect (s : State) (typ : Nat) : List Byte := smGet [] s.wrp.sects typ

/-- The traffic class of a master, from section 7, MEMORY (R394, R495). -/
def State.tcOf (s : State) (m : Nat) : Nat := (((s.sect 7)[24 + m]?).getD 0).toNat

/-- Count an event of kind REQ under all filters of R483. -/
def State.countReq (s : State) (ev : Nat) (r : FabReq) (n : Nat) : State :=
  s.each (List.range 32) (fun i t =>
    t.iff (t.cntHears i ev && bitSet (t.rd (CNT_CTL_PRIV i)) (privClass r)
        && (!t.on (CNT_CTL_MASTER_EN i) || t.rd (CNT_CTL_MASTER i) == r.master)
        && bitSet (t.rd (CNT_CTL_TC i)) (t.tcOf r.master)
        && (!t.on (CNT_BASE_HI_RANGE_EN i) ||
            (decide (2 ^ 32 * t.rd (CNT_BASE_HI i) + t.rd (CNT_BASE_LO i) * 64 ≤ r.addr) &&
             decide (r.addr ≤ 2 ^ 32 * t.rd (CNT_LIMIT_HI i) + t.rd (CNT_LIMIT_LO i) * 64 + 63))))
      (·.cntAdd i n))

/-- Bytes a request carries. -/
def FabKind.len : FabKind → Nat
  | .read n => n
  | .write d => d.length
  | .atomic d => d.length

/-- The request reads. -/
def FabKind.isRead : FabKind → Bool
  | .read _ => true
  | _ => false

/-- A response reaches its requester; one that was fenced or cut since gets none (R39, R45). Host inbound completes a host's read;
what a BAR2 read returns after an ERROR code the spec does not say, so it carries no data. -/
def State.respond (s : State) (r : FabReq) (code : Nat) (data : List Byte) : State :=
  let s := s.iff (decide (2 ≤ code)) (·.countReq 0x014 r 1)
  if s.fenced r.master || r.dead then s
  else if r.master = 0x40 then (if FabKind.isRead r.kind then s.emit (.hostRead data (code == 0)) else s)
  else { s with fab := { s.fab with resp := s.fab.resp ++ [{ master := r.master, tag := r.tag, code := code, data := data }] } }

/-! ### Memories -/

/-- `n` bytes of a memory from an address. (DESIGN CHOICE, log entry 3.) (DEDUCED, log entry 19.) -/
def memBytes (m : SMap Byte) (a : Nat) : Nat → List Byte
  | 0 => []
  | n + 1 => smGet 0 m a :: memBytes m (a + 1) n

/-- Store bytes into a memory. (DESIGN CHOICE, log entry 3.) -/
def memStore (m : SMap Byte) (a : Nat) : List Byte → SMap Byte
  | [] => m
  | b :: r => memStore (smSet 0 m a b) (a + 1) r

/-- The canonical form of a memory. (DESIGN CHOICE, log entry 3.) -/
def Memory.wf (m : SMap Byte) : Bool := smWf 0 m

/-- Bobbin address ranges of Table 9-1. -/
def hbmSplit : Nat := 0x00900000000
def hbmEnd : Nat := 0x01200000000
def winBase : Nat := 0x10000000000
def winEnd : Nat := 0x20000000000

/-- The stack an HBM address lies in, when the part has it (R4, R368). -/
def State.stackOf (s : State) (a : Nat) : Option Nat :=
  if a < hbmSplit then some 0
  else if a < hbmEnd ∧ s.present 29 then some 1
  else none

/-- The segment entry of a host-window address is enabled (R422). -/
def State.winHost (s : State) (a : Nat) : Option Nat :=
  let n := (a - winBase) / 2 ^ 32
  if s.on (HIF_OB_CTL_EN n) then
    some (2 ^ 32 * s.rd (HIF_OB_HI_ADDR n) + 4096 * s.rd (HIF_OB_LO_ADDR n) + (a - winBase) % 2 ^ 32)
  else none

/-- The segment entry of a host-window address asks for No Snoop (R422). -/
def State.winNs (s : State) (a : Nat) : Bool := s.on (HIF_OB_CTL_NS ((a - winBase) / 2 ^ 32))

/-- A transfer of `n` bytes at host address `a` in pieces of at most `m` bytes that do not cross 4 KiB, in order (R414). -/
def hostPieces (m : Nat) : Nat → Nat → Nat → List (Nat × Nat)
  | 0, _, _ => []
  | k + 1, a, n =>
    if n = 0 then []
    else
      let x := min n (min (max 1 m) (4096 - a % 4096))
      (a, x) :: hostPieces m k (a + x) (n - x)

/-- The posted writes that carry bytes to host address `a` (R414), newest first. -/
def postedWrites (m a : Nat) (data : List Byte) (ns : Bool) : List Output :=
  ((hostPieces m data.length a data.length).map (fun p => Output.hostWrite p.1 ((data.drop (p.1 - a)).take p.2) ns)).reverse

/-- The read requests for `n` bytes at host address `a` leave on the link (R414). -/
def State.hostAsk (s : State) (a n : Nat) (ns : Bool) : State :=
  { s with out := ((hostPieces s.pcie.mrrs n a n).map (fun p => Output.hostAsk p.1 p.2 ns)).reverse ++ s.out }

/-- Bytes go to host memory in posted writes (R414, R422, R434). -/
def State.hostWrite (s : State) (a : Nat) (data : List Byte) (ns : Bool := false) : State :=
  { s with hostMem := memStore s.hostMem a data, out := postedWrites s.pcie.mps a data ns ++ s.out }

/-- The response code the path to a bobbin address gives (Table 1-3): HBM by its island (R33, R42), the reserved range
NO_TARGET (R391), the host window by its segment and by bus mastering (R416, R423). -/
def State.pathCode (s : State) (a : Nat) : Nat :=
  if a < winBase then
    match s.stackOf a with
    | none => 4
    | some k => if s.isl (28 + k) = islON then 0 else if s.isl (28 + k) = islDRAINING then 1 else 6
  else if a < winEnd then
    if s.pcie.bme ∧ ¬ s.pcie.d3 then (if (s.winHost a).isSome then 0 else 4) else 5
  else 4

/-- The SECDED mark of the 8-byte word that holds an address: 0 clean, 1 correctable, 2 uncorrectable (Table 10-5). -/
def State.eccOf (s : State) (a : Nat) : Nat := smGet 0 s.mem.ecc (a / 8)

/-- Set the mark of the word that holds an address. -/
def State.setEcc (s : State) (a v : Nat) : State :=
  { s with mem := { s.mem with ecc := smSet 0 s.mem.ecc (a / 8) v } }

/-- The words (by index) that a range of bytes touches. -/
def wordsOf (a n : Nat) : List Nat :=
  if n = 0 then [] else (List.range ((a + n - 1) / 8 - a / 8 + 1)).map (· + a / 8)

/-- The armed injection of `MEM_INJECT`: the word index and the mark it stores (R411). -/
def State.injected (s : State) : Option (Nat × Nat) :=
  if s.on MEM_INJECT_HI_ARM then
    let w := (2 ^ 32 * s.rd MEM_INJECT_HI_ADDR + s.rd MEM_INJECT_LO) / 8
    match s.rd MEM_INJECT_HI_TYPE with
    | 1 => some (w, 1)
    | 2 => some (w, 2)
    | _ => none
  else none

/-- The mark of one word after a write covers part of it or all of it (R408, R411). -/
def State.eccAfter (s : State) (a n w : Nat) : State :=
  let whole := decide (a ≤ 8 * w) && decide (8 * w + 8 ≤ a + n)
  let poisoned := !whole && s.eccOf (8 * w) == 2
  match s.injected with
  | some (iw, m) =>
    if iw = w then (s.setEcc (8 * w) (if poisoned then 2 else m)).wr MEM_INJECT_HI_ARM 0
    else s.setEcc (8 * w) (if poisoned then 2 else 0)
  | none => s.setEcc (8 * w) (if poisoned then 2 else 0)

/-- Some word of a range is uncorrectable and only partly covered by a write (R408). (DEDUCED, log entry 13.) -/
def State.partialUe (s : State) (a n : Nat) : Bool :=
  (wordsOf a n).any (fun w => !(decide (a ≤ 8 * w) && decide (8 * w + 8 ≤ a + n)) && s.eccOf (8 * w) == 2)

/-- The aligned 64-byte atoms (by index) that a range of bytes touches (10_memory_controller.md). -/
def atomsFrom (a n : Nat) : List Nat :=
  if n = 0 then [] else (List.range ((a + n - 1) / 64 - a / 64 + 1)).map (· + a / 64)

/-- The most severe mark among the words of atom `i`: 0 clean, 1 corrected, 2 uncorrectable. (DEDUCED, log entry 12.) -/
def State.atomFinding (s : State) (i : Nat) : Nat :=
  (List.range 8).foldl (fun m w => max m (s.eccOf (64 * i + 8 * w))) 0

/-- The most severe finding of the atoms that a read of a range touches (R407). (DEDUCED, log entry 12.) -/
def State.findingOf (s : State) (a n : Nat) : Nat := (atomsFrom a n).foldl (fun m i => max m (s.atomFinding i)) 0

/-- A SECDED finding and what the stack's own cells add to it: 2 before 1 before 3, an on-die correction (Table 10-5). -/
def worse (g f : Nat) : Nat := if g = 2 ∨ f = 2 then 2 else if g = 1 ∨ f = 1 then 1 else f

/-- Account for the finding `f` of atom `i` (Table 10-5): 3 stands for an on-die correction with SECDED clean. The capture holds the
request's address. (DEDUCED, log entry 14.) -/
def State.finding (s : State) (master acc a i f : Nat) : State :=
  let k := (s.stackOf (64 * i)).getD 0
  match f with
  | 1 => ((s.bump (MEM_CE_CNT k)).wr MEM_STATUS_CE 1).raise { cls := 13, master := master, access := acc, addr := a }
  | 2 => ((s.bump (MEM_UE_CNT k)).wr MEM_STATUS_UE 1).raise { cls := 14, master := master, access := acc, addr := a }
  | 3 => s.bump (MEM_ODC_CNT k)
  | _ => s

/-- Account for a read of a range: each atom counts once, under its most severe finding; `f` adds to that of the first (R407). (DEDUCED, log entry 12.) -/
def State.findings (s : State) (master acc a n f : Nat) : State :=
  s.each (atomsFrom a n) (fun i t => t.finding master acc a i (if i = a / 64 then worse (s.atomFinding i) f else s.atomFinding i))

/-- The most severe mark of the words of atom `i` that a write covers in part, and that its read-modify-write reads (R408). (DEDUCED, log entry 13.) -/
def State.rmwFinding (s : State) (a n i : Nat) : Nat :=
  ((wordsOf a n).filter (fun w => w / 8 == i && !(decide (a ≤ 8 * w) && decide (8 * w + 8 ≤ a + n)))).foldl
    (fun m w => max m (s.eccOf (8 * w))) 0

/-- Store bytes in HBM, with the check bits (R408, R411). The code is OKAY, or TARGET_ERROR for a partial write of an
uncorrectable word; what the read of a partial write finds counts as on any read. (DEDUCED, log entry 11.) -/
def State.hbmWrite (s : State) (master a : Nat) (data : List Byte) : Nat × State :=
  let n := data.length
  let u := s.each (wordsOf a n) (fun w t => t.eccAfter a n w)
  let u := { u with hbm := memStore u.hbm a data }
  ((if s.partialUe a n then 5 else 0), u.each (atomsFrom a n) (fun i t => t.finding master 1 a i (s.rmwFinding a n i)))

/-- Read bytes of HBM with the checks of Table 10-5. (DEDUCED, log entry 11.) -/
def State.hbmRead (s : State) (master acc a n : Nat) : Nat × List Byte × State :=
  ((if s.findingOf a n = 2 then 5 else 0), memBytes s.hbm a n, s.findings master acc a n 0)

/-- The fault an ERROR response raises at the requester's side (Table 13-1, R423, R467). (DEDUCED, log entry 15.) -/
def State.respFault (s : State) (master acc a code : Nat) : State :=
  if winBase ≤ a ∧ a < winEnd ∧ (code = 4 ∨ code = 5) then
    (s.wr HIF_STATUS_XLAT 1).raise { cls := 12, master := master, access := acc, addr := a }
  else if code = 4 then s.raise { cls := 0, master := master, access := acc, addr := a }
  else if code = 6 then s.raise { cls := 1, master := master, access := acc, addr := a }
  else if (code = 2 ∨ code = 3) ∧ master = 0x40 then s.raise { cls := 1, master := master, access := acc, addr := a }
  else s

/-! ### Units' own transfers -/

/-- The maximum of CK_FAB in kHz (Table 1-4), taken before a clock plan is in force (DESIGN CHOICE, log entry 6). -/
def fabMaxKhz : Nat := 1200000

/-- CK_FAB in kHz: domain 22 of `WRP_CLK`. (DESIGN CHOICE, log entry 6.) -/
def State.fabKhz (s : State) : Nat :=
  let f := s.rd (WRP_CLK 22)
  if f = 0 then fabMaxKhz else f

/-- Nanoseconds that `n` CK_FAB cycles take, rounded up. -/
def State.fabNs (s : State) (n : Nat) : Nat := cdiv (1000000 * n) s.fabKhz

/-- A request is accepted by its target (Table 13-7). -/
def State.fabAccept (s : State) (r : FabReq) : State :=
  let s := s.countReq 0x010 r 1
  match r.kind with
  | .read n => s.countReq 0x011 r (cdiv n 64)
  | .write d => s.countReq 0x012 r (cdiv d.length 64)
  | .atomic _ => s

/-- The request that a unit's own access makes; those of ingest, and of a decode spindle that parses, are under microcode control
(Table 13-8). (DEDUCED, log entry 85.) -/
def ownReq (master acc a : Nat) (kind : FabKind) (parse : Bool := false) : FabReq :=
  { master := master, addr := a, kind := kind, access := acc, ucode := parse || master == 0x20 || master == 0x21 }

/-- A unit's own access is accepted, and memory performs its atoms (Table 13-7). -/
def State.countDone (s : State) (r : FabReq) : State :=
  if r.addr < winBase then
    match r.kind with
    | .read n => (s.fabAccept r).countReq 0x020 r (atomsFrom r.addr n).length
    | .write d => (s.fabAccept r).countReq 0x021 r (atomsFrom r.addr d.length).length
    | .atomic _ => s.fabAccept r
  else s.fabAccept r

/-- What the counters of kind REQ hear of a unit's own access that is answered with a code (Table 13-7): RETRY, or an acceptance, with the
atoms that memory performs, and an ERROR. (DEDUCED, log entry 85.) -/
def State.countOwn (s : State) (r : FabReq) (code : Nat) : State :=
  if (List.range 32).any (fun i => s.on (CNT_CTL_EN i)) then
    if code = 1 then s.countReq 0x013 r 1
    else if code = 0 then s.countDone r
    else if code = 5 ∧ r.addr < winBase then (s.countDone r).countReq 0x014 r 1
    else s.countReq 0x014 r 1
  else s

/-- A request that received RETRY waits 32 CK_FAB cycles (R16). -/
def State.again (s : State) (q : Retried) : State :=
  { s with fab := { s.fab with retry := s.fab.retry ++ [(s.elapsed + s.fabNs 32, q)] } }

/-- A write to the stack of an address waits to be issued again, so that what follows it waits too (R14). -/
def State.storeWaits (s : State) (a : Nat) : Bool :=
  decide (a < winBase) && s.fab.retry.any (fun q => match q.2 with | .store _ b _ => decide (b < winBase) && s.stackOf b == s.stackOf a | _ => false)

/-- The code that a unit's own transfer meets: RETRY also behind a write that waits. -/
def State.unitCode (s : State) (a : Nat) : Nat := if s.storeWaits a then 1 else s.pathCode a

/-- A unit's own write to the bobbin address space. At RETRY it is issued again later (R16, R34), and `busWrite` answers OKAY:
an event that needs its answer waits for it (`State.finishOnce`). (DEDUCED, log entry 11.) -/
def State.busWrite (s : State) (master a : Nat) (data : List Byte) : Nat × State :=
  let c := s.unitCode a
  let o :=
    if c = 1 then (0, s.again (.store master a data))
    else if c = 0 then
      if a < winBase then s.hbmWrite master a data else (0, s.hostWrite ((s.winHost a).getD 0) data (s.winNs a))
    else (c, s.respFault master 1 a c)
  (o.1, o.2.countOwn (ownReq master 1 a (.write data)) (if c = 1 then 1 else o.1))

/-- A unit's own read of the bobbin address space. At RETRY it is issued again later, and what memory holds is what it will
bring: nothing writes a stack that drains. (DEDUCED, log entry 11.) -/
def State.busRead (s : State) (master acc a n : Nat) : Nat × List Byte × State :=
  let c := s.unitCode a
  let o :=
    if c = 1 then (0, memBytes s.hbm a n, s.again (.load master acc a n false))
    else if c = 0 then
      if a < winBase then s.hbmRead master acc a n
      else
        let h := (s.winHost a).getD 0
        (0, memBytes s.hostMem h n, s.hostAsk h n (s.winNs a))
    else (c, [], s.respFault master acc a c)
  (o.1, o.2.1, o.2.2.countOwn (ownReq master acc a (.read n)) (if c = 1 then 1 else o.1))

/-- A unit's own read, a parse sequencer's where `parse`, of which only the answer and what it counts matter. (DEDUCED, log entry 11.) -/
def State.busProbe (s : State) (master acc a n : Nat) (parse : Bool := false) : Nat × State :=
  let c := s.unitCode a
  let o :=
    if c = 1 then (0, s.again (.load master acc a n parse))
    else if c = 0 then
      if a < winBase then ((if s.findingOf a n = 2 then 5 else 0), s.findings master acc a n 0)
      else (0, s.hostAsk ((s.winHost a).getD 0) n (s.winNs a))
    else (c, s.respFault master acc a c)
  (o.1, o.2.countOwn (ownReq master acc a (.read n) parse) (if c = 1 then 1 else o.1))

/-- A write whose response the unit ignores. -/
def State.store (s : State) (master a : Nat) (data : List Byte) : State := (s.busWrite master a data).2

/-- Bytes of MRAM. -/
def State.mramBytes (s : State) (a n : Nat) : List Byte := memBytes s.mram a n

/-- Store bytes in MRAM. -/
def State.mramStore (s : State) (a : Nat) (data : List Byte) : State := { s with mram := memStore s.mram a data }

/-- CRC-32 with polynomial 0x04C1_1DB7, reflected, preset and inverted (R326, 08_brodys_link.md): one byte. -/
def crc32Byte (c : Nat) (b : Byte) : Nat :=
  (List.range 8).foldl (fun c _ => if c % 2 = 1 then (c / 2).xor 0xEDB88320 else c / 2) (c.xor b.toNat)

/-- CRC-32 of R326 over bytes. -/
def crc32 (l : List Byte) : Nat := (l.foldl crc32Byte 0xFFFFFFFF).xor 0xFFFFFFFF

end Sys2Proof.Machine
end

