-- ==== Sys2Proof/Machine/Views.lean ====
section
/-! DEFINITION. The status fields that show a condition as it stands, and how a command ends: they are brought up to date, and a
device that is held in reset has done nothing. -/

namespace Sys2Proof.Machine

open R

/-- Pool states of Table 9-5. -/
def poolOFF : Nat := 0
def poolINIT : Nat := 1
def poolREADY : Nat := 2
def poolBROKEN : Nat := 3

/-- PTP states of Table 3-9. -/
def ptpFREERUN : Nat := 0
def ptpACQUIRING : Nat := 1
def ptpLOCKED : Nat := 2
def ptpHOLDOVER : Nat := 3
def ptpEXPIRED : Nat := 4

/-- The stack temperature in °C. -/
def State.memTemp (s : State) (k : Nat) : Int := signOf 8 (s.rd (MEM_TEMP k))

/-- Every domain except CK_AON is held in reset (R510, R552, R554). -/
def State.held (s : State) : Bool := s.aon.resetLow || s.aon.thermtrip || !s.aon.vdd

/-- The condition of a CONDITION class holds now (Table 13-1): a BROKEN pool, HOLDOVER_EXPIRED, a monitor beyond its threshold. -/
def State.faultCause (s : State) (c : Nat) : Bool :=
  match c with
  | 5 => (List.range 64).any (fun p => s.rd (POOL_CTL_STATE p) == poolBROKEN)
  | 19 => s.rd PTP_STATE_STATE == ptpEXPIRED
  | 22 => s.rd GLB_ENV != 0
  | _ => false

/-- Every request queued in the memory controller. -/
def State.queued (s : State) : List FabReq :=
  (s.mem.xq.flatMap (·.2)) ++ s.mem.pch.flatMap (fun q => (q.2.input ++ q.2.entries).map (·.req))

/-- An island's memory stack holds the address. -/
def inIsland (s : State) (i a : Nat) : Bool := match s.stackOf a with | some k => i == 28 + k | none => false

/-- Accepted requests that target the island or that its masters issued, parked pool requests among them (Table 1-11). -/
def State.outstanding (s : State) (i : Nat) : Nat :=
  (s.queued.filter (fun r => inIsland s i r.addr || (islandMasters i).contains r.master)).length +
    (s.pool.parked.filter (fun k => (islandMasters i).contains k.req.master)).length

/-- Bring `PWR_ISL_STATE.OUTSTANDING` up to date. -/
def State.showOutstanding (s : State) (i : Nat) : State := s.wr (PWR_ISL_STATE_OUTSTANDING i) (min 255 (s.outstanding i))

/-! ### Fields that show a condition -/

/-- `PLY_CANVAS_STATUS.TIME_UNLOCKED` (Table 7-5): SOURCE is PTP and the servo is not LOCKED. -/
def State.timeUnlocked (s : State) : Bool := s.rd PLY_CANVAS_CTL_SOURCE == 1 && s.rd PTP_STATE_STATE != ptpLOCKED

/-- `MEM_STATUS.HOTk` (R400). -/
def State.hot (s : State) (k : Nat) : Bool := decide (85 < s.memTemp k)

/-- The CONDITION classes of Table 13-1. -/
def condClasses : List Nat := [5, 19, 22]

/-- Bring the fields that show a condition up to date: TIME_UNLOCKED, HOT, CAUSE of the CONDITION classes (Table 13-4) and OUTSTANDING
(Table 1-11). (DESIGN CHOICE, log entry 7.) -/
def State.settle (s : State) : State :=
  let s := s.wr PLY_CANVAS_STATUS_TIME_UNLOCKED (b2n s.timeUnlocked)
  let s := s.each [0, 1] (fun k t => t.wr (MEM_STATUS_HOT k) (b2n (t.hot k)))
  let s := s.each condClasses (fun c t => t.wr (FLT_CLASS_CAUSE c) (b2n (t.faultCause c)))
  s.each (List.range 30) (fun i t => t.showOutstanding i)

/-- How a command ends that reaches the device also while its domains are held in reset. (DESIGN CHOICE, log entry 7.) -/
def State.done (t : State) : Host.Outcome State Fault Refusal := .next t.settle

/-- How a command on `s` with effect `t` ends: while every domain but CK_AON is held in reset, it has none (R510, R552, R554). (DESIGN CHOICE, log entry 7.) -/
def State.finish (s t : State) : Host.Outcome State Fault Refusal := if s.held then .next s else t.done

/-- How an event ends that comes about once every transfer of its unit has been answered: while one of them meets RETRY, the unit
repeats it and the event has not come about (R16, R33, R34). `after` is what other units do upon it. (DEDUCED, log entry 11.) -/
def State.finishOnce (s t : State) (after : State → State) : Host.Outcome State Fault Refusal :=
  if s.fab.retry.length < t.fab.retry.length then .next s else s.finish (after t)

end Sys2Proof.Machine
end

