-- ==== Sys2Proof/Machine/CanvasTime.lean ====
section
/-! DEFINITION. The grid of canvas frame starts (R283–R287, 07_ply_engines.md) and what a change of device time does to it. -/

namespace Sys2Proof.Machine

open R

/-- The canvas period T_c = D × 10^9 / N in ns, as numerator and denominator. -/
def State.canvasPeriod (s : State) : Nat × Nat := (1000000000 * s.rd PLY_CANVAS_RATE_D, s.rd PLY_CANVAS_RATE_N)

/-- The rate lies in the range of R284: 24000/1001 to 240 Hz. -/
def State.rateOk (s : State) : Bool :=
  let n := s.rd PLY_CANVAS_RATE_N
  let d := s.rd PLY_CANVAS_RATE_D
  n != 0 && d != 0 && decide (24000 * d ≤ n * 1001) && decide (n ≤ 240 * d)

/-- PHASE modulo T_c (Table 7-5), rounded up: device time counts whole ns, and ⌈x⌉ of them reach x. -/
def State.phaseNs (s : State) : Nat :=
  let c := s.canvasPeriod
  cdiv (s.rd PLY_CANVAS_PHASE * c.2 % c.1) c.2

/-- The device time that reaches t_k, of grid point k (R285). -/
def State.gridAt (s : State) (k : Nat) : Nat :=
  let c := s.canvasPeriod
  s.phaseNs + cdiv (k * c.1) c.2

/-- The first k whose t_k is at least `t`. -/
def State.gridFrom (s : State) (t : Nat) : Nat :=
  let c := s.canvasPeriod
  let m := t - s.phaseNs
  if m = 0 then 0 else (m - 1) * c.2 / c.1 + 1

/-- The canvas runs on edges of `WSYNC_IN`. -/
def State.onWsync (s : State) : Bool := s.rd PLY_CANVAS_CTL_SOURCE == 2

/-- Set device time. A step backward moves the next frame start to the first t_k after the new time (R286). -/
def State.setDevTime (s : State) (t : Nat) : State :=
  let t := t % 2 ^ 64
  let back := decide (t < s.devTime)
  let s := { s with devTime := t }
  s.iff (back && s.on PLY_CANVAS_CTL_EN && !s.onWsync) (fun u =>
    { u with canvas := { u.canvas with next := u.gridFrom (t + 1) } })

/-- The record of ply engine `e`. -/
def State.ply (s : State) (e : Nat) : PlySt := smGet {} s.plys e

/-- Change the record of ply engine `e`. -/
def State.modPly (s : State) (e : Nat) (f : PlySt → PlySt) : State := { s with plys := smSet {} s.plys e (f (s.ply e)) }

/-- A closed context's windows show nothing from the next frame start (R294). -/
def State.plyForget (s : State) (n : Nat) : State :=
  s.each [0, 1] (fun e t => t.modPly e (fun y => { y with shown := y.shown.filter (fun (q : Nat × Option Shown) =>
    match q.2 with | none => false | some p => p.ctx != n) }))

end Sys2Proof.Machine
end

