-- ==== Sys2Proof/Machine/Pool.lean ====
section
/-! DEFINITION. The bobbin pool (09_bobbin_pool.md): pool commands, the five operations with their arbitration, parked
requests, owner ledgers and the sweep, thresholds and the free-list checks. -/

namespace Sys2Proof.Machine

open R

/-! ### Pool geometry -/

/-- A bobbin metadata word (Table 9-2). -/
structure Meta where
  ref : Nat := 0
  owner : Nat := 0
  free : Bool := false
  prov : Bool := false
  gen : Nat := 0
  deriving DecidableEq, Repr

/-- The 64-bit word of a metadata record (Table 9-2). -/
def Meta.pack (m : Meta) : Nat :=
  m.ref + 2 ^ 16 * m.owner + 2 ^ 24 * b2n m.free + 2 ^ 25 * b2n m.prov + 2 ^ 32 * m.gen

/-- The record of a 64-bit metadata word. -/
def Meta.ofWord (w : Nat) : Meta :=
  { ref := bitsOf w 0 16, owner := bitsOf w 16 8, free := bitSet w 24, prov := bitSet w 25, gen := bitsOf w 32 32 }

/-- BASE of a pool (R369). -/
def State.poolBase (s : State) (p : Nat) : Nat := 2 ^ 32 * s.rd (POOL_BASE_HI p) + s.rd (POOL_BASE_LO p)
/-- META of a pool. -/
def State.poolMeta (s : State) (p : Nat) : Nat := 2 ^ 32 * s.rd (POOL_META_HI p) + s.rd (POOL_META_LO p)
/-- The bobbin size of a pool: 2^(12 + LOG2). -/
def State.poolSize (s : State) (p : Nat) : Nat := 2 ^ (12 + s.rd (POOL_CTL_LOG2 p))
/-- COUNT of a pool. -/
def State.poolCount (s : State) (p : Nat) : Nat := s.rd (POOL_COUNT p)
/-- The state of a pool (Table 9-5). -/
def State.poolState (s : State) (p : Nat) : Nat := s.rd (POOL_CTL_STATE p)
/-- Address of bobbin `i` (R369). -/
def State.bobAddr (s : State) (p i : Nat) : Nat := s.poolBase p + i * s.poolSize p
/-- Address of the metadata word of bobbin `i` (R369). -/
def State.metaAddr (s : State) (p i : Nat) : Nat := s.poolMeta p + 8 * i

/-- The index of a bobbin of pool `p` from its exact base address. -/
def State.bobIdx (s : State) (p a : Nat) : Option Nat :=
  let b := s.poolBase p
  let z := s.poolSize p
  if b ≤ a ∧ (a - b) % z = 0 ∧ (a - b) / z < s.poolCount p then some ((a - b) / z) else none

/-- The pool in READY or BROKEN, and the index, that an address is the base of (R375). -/
def State.locate (s : State) (a : Nat) : Option (Nat × Nat) :=
  (List.range 64).findSome? (fun p =>
    if s.poolState p = poolREADY ∨ s.poolState p = poolBROKEN then (s.bobIdx p a).map (fun i => (p, i)) else none)

/-- The metadata record of a bobbin. -/
def State.metaOf (s : State) (p i : Nat) : Meta := Meta.ofWord (leNat (memBytes s.hbm (s.metaAddr p i) 8))

/-- Write the metadata record of a bobbin, as the pool (master 0x30). -/
def State.setMeta (s : State) (p i : Nat) (m : Meta) : State := s.store 0x30 (s.metaAddr p i) (natLe 8 m.pack)

/-- The response code of a read by the pool of a metadata word or a link: the path, or TARGET_ERROR for an uncorrectable atom
(R402, R407). -/
def State.poolReadCode (s : State) (a : Nat) : Nat :=
  let c := s.pathCode a
  if c = 0 ∧ a < winBase ∧ s.findingOf a 8 = 2 then 5 else c

/-- What such a read counts and raises (Tables 10-5 and 13-1). (DEDUCED, log entry 15.) -/
def State.poolReadSeen (s : State) (a : Nat) : State :=
  let c := s.pathCode a
  let t := if c = 0 then s.iff (decide (a < winBase)) (·.findings 0x30 0 a 8 0) else s.respFault 0x30 0 a c
  t.countOwn (ownReq 0x30 0 a (.read 8)) (s.poolReadCode a)

/-- The response code of a read of a metadata word (R402). -/
def State.metaCode (s : State) (p i : Nat) : Nat := s.poolReadCode (s.metaAddr p i)

/-- The link of a free bobbin: 8 bytes at its base (Table 9-3). -/
def State.linkOf (s : State) (a : Nat) : Nat :=
  if a < winBase then leNat (memBytes s.hbm a 8) else leNat (memBytes s.hostMem ((s.winHost a).getD 0) 8)

/-- The head of a pool's free list; 0 for none. -/
def State.poolHead (s : State) (p : Nat) : Nat := smGet 0 s.pool.head p

/-- Set the head of a pool's free list. -/
def State.setHead (s : State) (p a : Nat) : State :=
  { s with pool := { s.pool with head := smSet 0 s.pool.head p a } }

/-- Change FREE and apply the thresholds of R387. -/
def State.setFree (s : State) (p v : Nat) : State :=
  let old := s.rd (POOL_FREE p)
  let s := s.wr (POOL_FREE p) v
  let s := s.iff (decide (s.rd (POOL_LOW p) < old) && decide (v ≤ s.rd (POOL_LOW p))) (·.wr (POOL_STATUS_LOW p) 1)
  s.iff (decide (old < s.rd (POOL_HIGH p)) && decide (s.rd (POOL_HIGH p) ≤ v)) (·.wr (POOL_STATUS_HIGH p) 1)

/-! ### Ledgers (R385) -/

/-- Entries of a master's ledger (Table 9-9); none for a master without a limit. -/
def ledgerCap (m : Nat) : Option Nat :=
  if m < 0x10 then some 16
  else if m < 0x14 then some 1024
  else if m = 0x18 ∨ m = 0x19 then some 0
  else if m = 0x20 ∨ m = 0x28 then some 4096
  else if m = 0x21 ∨ m = 0x29 then some 0
  else if 0x48 ≤ m ∧ m < 0x58 then some 16
  else if m = 0x32 then some 0
  else none

/-- The exclusive bobbins in a master's ledger. -/
def State.ledger (s : State) (m : Nat) : List Nat := smGet [] s.pool.ledger m

/-- The ledger has no free entry. -/
def State.ledgerFull (s : State) (m : Nat) : Bool :=
  match ledgerCap m with
  | none => false
  | some c => decide (c ≤ (s.ledger m).length)

/-- Add an entry to a master's ledger; a master without a ledger keeps none. -/
def State.ledgerAdd (s : State) (m a : Nat) : State :=
  if (ledgerCap m).isSome then
    { s with pool := { s.pool with ledger := smSet [] s.pool.ledger m (s.ledger m ++ [a]) } }
  else s

/-- Remove an entry from a master's ledger. -/
def State.ledgerDel (s : State) (m a : Nat) : State :=
  { s with pool := { s.pool with ledger := smSet [] s.pool.ledger m ((s.ledger m).filter (· != a)) } }

/-! ### Commands (R372–R374) -/

/-- Record a rejected pool command with its reason (Table 9-6). -/
def State.poolReject (s : State) (p why : Nat) : State :=
  (s.wr (POOL_STATUS_CMD_REJECT p) 1).wr (POOL_STATUS_WHY p) why

/-- End of present HBM. -/
def State.hbmTop (s : State) : Nat := if s.present 29 then hbmEnd else hbmSplit

/-- A range of bytes lies wholly in present HBM. -/
def State.inHbm (s : State) (a n : Nat) : Bool := decide (a + n ≤ s.hbmTop)

/-- Two ranges share a byte. -/
def overlaps (a n b m : Nat) : Bool := decide (a < b + m) && decide (b < a + n)

/-- The bobbins and the table of a pool as ranges. -/
def State.poolRanges (s : State) (p : Nat) : List (Nat × Nat) :=
  [(s.poolBase p, s.poolCount p * s.poolSize p), (s.poolMeta p, 8 * s.poolCount p)]

/-- The first failing check of ENABLE, in the order of Table 9-6; 0 for none (R373). -/
def State.poolWhy (s : State) (p : Nat) : Nat :=
  let b := s.poolBase p
  let m := s.poolMeta p
  let n := s.poolCount p
  if s.poolState p ≠ poolOFF then 1
  else if 16 < s.rd (POOL_CTL_LOG2 p) ∨ n = 0 ∨ 2 ^ 24 < n then 2
  else if b % s.poolSize p ≠ 0 ∨ m % 8 ≠ 0 then 3
  else if b = 0 ∨ ¬ (s.inHbm b (n * s.poolSize p) ∨ (winBase ≤ b ∧ b + n * s.poolSize p ≤ winEnd))
      ∨ ¬ s.inHbm m (8 * n) then 4
  else if overlaps b (n * s.poolSize p) m (8 * n) ∨
      (List.range 64).any (fun q => q != p && s.poolState q != poolOFF &&
        (s.poolRanges q).any (fun r => (s.poolRanges p).any (fun t => overlaps r.1 r.2 t.1 t.2))) then 5
  else 0

/-- ENABLE (R373): the checks, then INIT with the counters cleared. -/
def State.poolEnable (s : State) (p : Nat) : State :=
  match s.poolWhy p with
  | 0 =>
    let s := s.each [POOL_ALLOC_CNT p, POOL_EMPTY_CNT p, POOL_TIMEOUT_CNT p, POOL_MISUSE_CNT p, POOL_PROV p, POOL_FREE p]
      (fun F t => t.wr F 0)
    (s.wr (POOL_CTL_STATE p) poolINIT).setHead p 0
  | w => s.poolReject p w

/-- Requests of a pool that are parked, oldest first. -/
def State.parkedOf (s : State) (p : Nat) : List Parked := s.pool.parked.filter (fun k => k.req.pool == p)

/-- Show how many requests of a pool are parked. -/
def State.showParked (s : State) (p : Nat) : State := s.wr (POOL_PARKED p) (s.parkedOf p).length

/-- DISABLE (R374): READY with every bobbin free, or BROKEN. -/
def State.poolDisable (s : State) (p : Nat) : State :=
  let st := s.poolState p
  if st = poolBROKEN ∨ (st = poolREADY ∧ s.rd (POOL_FREE p) = s.poolCount p) then
    let base := s.poolBase p
    let last := base + s.poolCount p * s.poolSize p
    let s := { s with pool := { s.pool with
      ledger := s.pool.ledger.foldl (fun m (e : Nat × List Nat) =>
        smSet [] m e.1 (e.2.filter (fun a => decide (a < base) || decide (last ≤ a)))) s.pool.ledger } }
    (((s.wr (POOL_CTL_STATE p) poolOFF).setHead p 0).wr (POOL_FREE p) 0).wr (POOL_PROV p) 0
  else if st = poolREADY then s.poolReject p 6
  else s.poolReject p 1

/-- A write of `POOL_CTL` (R372): in OFF, LOG2 is stored first; elsewhere a differing LOG2 sets CMD_REJECT. -/
def State.poolCtl (s : State) (p cmd log2 : Nat) : State :=
  let off := s.poolState p = poolOFF
  let differs := log2 != s.rd (POOL_CTL_LOG2 p)
  let s1 := if off then s.wr (POOL_CTL_LOG2 p) log2 else if differs then s.poolReject p 1 else s
  match cmd with
  | 0 => s1
  | 1 => s1.poolEnable p
  | 2 => s1.poolDisable p
  | _ => s1.poolReject p 1

/-- A write of BASE, COUNT or META (R372): only in OFF. -/
def State.poolSetup (s : State) (p : Nat) (F : Fld) (v : Nat) : State :=
  if s.poolState p = poolOFF then s.wr F v else s.poolReject p 1

/-- POOL_NOP (R371). -/
def execPoolNop (p : Fin 64) (log2 : Fin 32) (s : State) : Host.Outcome State Fault Refusal := s.finish (s.poolCtl p 0 log2)
/-- POOL_ENABLE (R373). -/
def execPoolEnable (p : Fin 64) (log2 : Fin 32) (s : State) : Host.Outcome State Fault Refusal :=
  s.finish (s.poolCtl p 1 log2)
/-- POOL_DISABLE (R374). -/
def execPoolDisable (p : Fin 64) (log2 : Fin 32) (s : State) : Host.Outcome State Fault Refusal :=
  s.finish (s.poolCtl p 2 log2)

/-! ### Breaking a pool (R388, R402) -/

/-- Bring an answer to whoever asked: a bus response, a host slot's registers (Table 9-10: the address of an ALLOC, the metadata of an
ALLOC or a QUERY), or the list its unit takes it from. -/
def State.poolAnswer (s : State) (r : PoolRes) : State :=
  match r.forWhom with
  | .unit => s
  | .bus tag =>
    { s with fab := { s.fab with resp := s.fab.resp ++
        [{ master := r.master, tag := tag, code := 0, data := natLe 8 r.code ++ natLe 8 r.addr ++ natLe 8 r.word }] } }
  | .slot k =>
    let s := (s.wr (POOL_HOP_RES_RESULT k) r.code).wr (POOL_HOP_RES_DONE k) 1
    let s := s.iff (r.op == 1) (fun t => (t.wr (POOL_HOP_RADDR_LO k) r.addr).wr (POOL_HOP_RADDR_HI k) (r.addr / 2 ^ 32))
    s.iff (r.op == 1 || r.op == 5) (fun t => (t.wr (POOL_HOP_RMETA_LO k) r.word).wr (POOL_HOP_RMETA_HI k) (r.word / 2 ^ 32))
  | _ => { s with pool := { s.pool with done := s.pool.done ++ [r] } }

/-- The answer code for a request, to whoever made it. -/
def answerTo (r : PoolReq) (code : Nat) (addr : Nat := 0) (word : Nat := 0) : PoolRes :=
  { forWhom := r.forWhom, master := r.master, op := r.op, code := code, addr := addr, word := word }

/-- Drop the parked requests of a pool with an answer. -/
def State.answerParked (s : State) (p code : Nat) : State :=
  let l := s.parkedOf p
  let s := { s with pool := { s.pool with parked := s.pool.parked.filter (fun k => k.req.pool != p) } }
  (s.each l (fun k t => t.poolAnswer (answerTo k.req code))).showParked p

/-- The pool enters BROKEN with the failing bobbin (R388); the requests it had parked count as timed out. (DEDUCED, log entry 62.) -/
def State.poolBreak (s : State) (p addr : Nat) : State :=
  if s.poolState p = poolBROKEN then s
  else
    let s := (s.wr (POOL_CTL_STATE p) poolBROKEN).wr (POOL_STATUS_BROKEN p) 1
    let s := s.bump (POOL_TIMEOUT_CNT p) (s.parkedOf p).length
    let s := (s.wr (POOL_FREE p) 0).answerParked p 2
    s.raise { cls := 5, level := some 3, master := 0x30, access := 2, addr := addr }

/-! ### The operations (R375–R388) -/

/-- Code that stands for "no answer yet": the request is parked or is repeated under R16. -/
def poolWaits : Nat := 15

/-- Repeat a pool request after 32 CK_FAB cycles (R16, R402). -/
def State.poolRetry (s : State) (r : PoolReq) : State := s.again (.pool r)

/-- A bobbin becomes a requester's allocation: metadata, ledger, counts (R375, R387). -/
def State.grant (s : State) (p i : Nat) (r : PoolReq) : PoolRes × State :=
  let m := s.metaOf p i
  let m' : Meta := { ref := 1, owner := r.master, free := false, prov := r.prov, gen := (m.gen + 1) % 2 ^ 32 }
  let a := s.bobAddr p i
  let s := ((s.setMeta p i m').ledgerAdd r.master a).bump (POOL_ALLOC_CNT p)
  let s := (s.countUnit 0x070 0x30 1).iff r.prov (fun t => (t.bump (POOL_PROV p)).countUnit 0x071 0x30 1)
  (answerTo r 0 a m'.pack, s)

/-- An ALLOC finds no bobbin: EMPTY sets and counts (R380). -/
def State.poolEmpty (s : State) (p : Nat) : State :=
  (s.wr (POOL_STATUS_EMPTY p) 1).bump (POOL_EMPTY_CNT p)

/-- The checks of R388 on the head of the free list. -/
def State.headOk (s : State) (p : Nat) : Bool :=
  let h := s.poolHead p
  let free := s.rd (POOL_FREE p)
  match s.bobIdx p h with
  | none => false
  | some i =>
    let l := s.linkOf h
    let m := s.metaOf p i
    decide (h ≠ 0) && decide (l < 2 ^ 41) && (l == 0 || (s.bobIdx p l).isSome) && m.free && m.ref == 0 &&
      (if free = 1 then l == 0 else l != 0)

/-- The response codes of the metadata and link accesses at the head of the free list (R402). -/
def State.headCodes (s : State) (p : Nat) : List Nat :=
  match s.bobIdx p (s.poolHead p) with
  | none => []
  | some i => [s.metaCode p i, s.poolReadCode (s.poolHead p)]

/-- What those accesses count and raise: the link is read once the metadata word has come. (DEDUCED, log entry 15.) -/
def State.headSeen (s : State) (p : Nat) : State :=
  match s.bobIdx p (s.poolHead p) with
  | none => s
  | some i => (s.poolReadSeen (s.metaAddr p i)).iff (s.metaCode p i == 0) (·.poolReadSeen (s.poolHead p))

/-- Park a request (R380). -/
def State.park1 (s : State) (r : PoolReq) : State :=
  let k : Parked := { req := r, due := s.elapsed + 1000 * r.timeoutUs }
  ({ s with pool := { s.pool with parked := s.pool.parked ++ [k] } }).showParked r.pool

/-- ALLOC with FREE at 0 (R380): EMPTY sets; the request is parked or answered EMPTY. -/
def State.allocEmpty (s : State) (r : PoolReq) : PoolRes × State :=
  if r.wait ∧ s.pool.parked.length < 256 then
    (answerTo r poolWaits, (s.poolEmpty r.pool).park1 r)
  else (answerTo r 1, (s.poolEmpty r.pool).countUnit 0x072 0x30 1)

/-- ALLOC takes the head of the free list, under the checks of R388 and R402. -/
def State.allocHead (s : State) (r : PoolReq) : PoolRes × State :=
  let p := r.pool
  let h := s.poolHead p
  let codes := s.headCodes p
  let s := s.headSeen p
  if codes.any (fun c => 1 < c) then (answerTo r 12, s.poolBreak p h)
  else if codes.contains 1 then (answerTo r poolWaits, s.poolRetry r)
  else if s.headOk p then
    ((s.setHead p (s.linkOf h)).setFree p (s.rd (POOL_FREE p) - 1)).grant p ((s.bobIdx p h).getD 0) r
  else (answerTo r 1, ((s.poolBreak p h).poolEmpty p).countUnit 0x072 0x30 1)

/-- ALLOC (R375, R380, R385, R388). -/
def State.poolAlloc (s : State) (r : PoolReq) : PoolRes × State :=
  if 64 ≤ r.pool then (answerTo r 11, s)
  else if s.poolState r.pool = poolOFF ∨ s.poolState r.pool = poolINIT then (answerTo r 4, s)
  else if s.poolState r.pool = poolBROKEN then (answerTo r 1, (s.poolEmpty r.pool).countUnit 0x072 0x30 1)
  else if s.ledgerFull r.master then (answerTo r 3, s)
  else if s.rd (POOL_FREE r.pool) = 0 then s.allocEmpty r
  else s.allocHead r

/-- The pool a request acts on: its operand, or the pool its address lies in. -/
def State.poolOf (s : State) (r : PoolReq) : Nat :=
  if r.op = 1 then r.pool else match s.locate r.addr with | some (p, _) => p | none => 64

/-- Discard a release or share in the way of R382 and R383. -/
def State.misuse (s : State) (p : Option Nat) (r : PoolReq) (cls : Nat) : State :=
  let s := match p with
    | none => s
    | some p => (s.wr (POOL_STATUS_MISUSE p) 1).bump (POOL_MISUSE_CNT p)
  s.raise { cls := cls, level := some 1, master := r.master, access := 2, addr := r.addr }

/-- Offer a bobbin that has come back to the parked requests of its pool, oldest first (R378): the first whose ledger
has room takes it, those with a full ledger before it leave with LEDGER_FULL. -/
def State.offer (s : State) (p i : Nat) : List Parked → Bool × State
  | [] => (false, s)
  | k :: rest =>
    let s := { s with pool := { s.pool with parked := s.pool.parked.erase k } }
    if s.ledgerFull k.req.master then (s.poolAnswer (answerTo k.req 3)).offer p i rest
    else
      let g := s.grant p i k.req
      (true, g.2.poolAnswer g.1)

/-- A bobbin reaches zero references (R378, R388). -/
def State.freeBob (s : State) (p i : Nat) (m : Meta) : State :=
  let a := s.bobAddr p i
  let s := s.iff m.prov (fun t => t.wr (POOL_PROV p) (t.rd (POOL_PROV p) - 1))
  let s := s.ledgerDel m.owner a
  if s.poolState p = poolBROKEN then s.setMeta p i { m with ref := 0, owner := 0, free := true, prov := false }
  else
    let s := s.setMeta p i { m with ref := 0, owner := 0, free := false, prov := false }
    let o := s.offer p i (s.parkedOf p)
    if o.1 then o.2.showParked p
    else
      let s := o.2.showParked p
      let s := s.store 0x30 a (natLe 8 (s.poolHead p))
      let s := s.setMeta p i { m with ref := 0, owner := 0, free := true, prov := false }
      (s.setHead p a).setFree p (s.rd (POOL_FREE p) + 1)

/-- Run an operation that names a bobbin by address: BAD_ADDR, then the metadata access of R402. -/
def State.withBob (s : State) (r : PoolReq) (f : State → Nat → Nat → Meta → PoolRes × State) : PoolRes × State :=
  match s.locate r.addr with
  | none =>
    if r.op = 3 then (answerTo r 5, s.misuse none r 4) else (answerTo r 5, s)
  | some (p, i) =>
    let c := s.metaCode p i
    let t := s.poolReadSeen (s.metaAddr p i)
    if c = 0 then f t p i (s.metaOf p i)
    else if c = 1 then (answerTo r poolWaits, t.poolRetry r)
    else (answerTo r 12, t.poolBreak p r.addr)

/-- A bobbin that reaches zero references goes to the free list of a READY pool, so that its link is written: no parked request takes
it (R378). (DEDUCED, log entry 62.) -/
def State.linkWritten (s : State) (p : Nat) (m : Meta) (a : Nat) : Bool :=
  s.poolState p == poolREADY && (s.parkedOf p).all (fun k => (s.ledgerDel m.owner a).ledgerFull k.req.master)

/-- SHARE (R376). -/
def State.poolShare (s : State) (r : PoolReq) : PoolRes × State :=
  if 15 < r.add then (answerTo r 11, s)
  else s.withBob r (fun s p i m =>
    if m.free ∨ m.ref = 0 ∨ (r.genChk ∧ m.gen ≠ r.gen) then (answerTo r 8, s)
    else if m.prov then (answerTo r 9, s)
    else if m.owner ≠ 0xFF ∧ m.owner ≠ r.master then (answerTo r 7, s.misuse (some p) r 4)
    else if 65535 < m.ref + r.add then (answerTo r 10, s)
    else
      let m' := { m with ref := m.ref + r.add, owner := 0xFF }
      (answerTo r 0 r.addr m'.pack, (s.ledgerDel m.owner r.addr).setMeta p i m'))

/-- RELEASE (R376, R378, R382, R383). -/
def State.poolRelease (s : State) (r : PoolReq) : PoolRes × State :=
  s.withBob r (fun s p i m =>
    if m.free ∨ m.ref = 0 ∨ (r.genChk ∧ m.gen ≠ r.gen) then (answerTo r 6, s.misuse (some p) r 3)
    else if m.owner ≠ 0xFF ∧ m.owner ≠ r.master then (answerTo r 7, s.misuse (some p) r 4)
    else if 1 < m.ref then (answerTo r 0 r.addr, s.setMeta p i { m with ref := m.ref - 1 })
    else
      let c := if s.linkWritten p m r.addr then s.pathCode r.addr else 0
      if c = 0 then (answerTo r 0 r.addr, s.freeBob p i m)
      else if c = 1 then (answerTo r poolWaits, s.poolRetry r)
      else (answerTo r 12, (s.respFault 0x30 1 r.addr c).poolBreak p r.addr))

/-- SET_OWNER (R376, R385). -/
def State.poolSetOwner (s : State) (r : PoolReq) : PoolRes × State :=
  if r.newTag = 0xFF then (answerTo r 11, s)
  else s.withBob r (fun s p i m =>
    if m.free ∨ m.owner = 0xFF ∨ m.owner ≠ r.master then (answerTo r 7, s)
    else if r.newTag ≠ m.owner ∧ s.ledgerFull r.newTag then (answerTo r 3, s)
    else
      let s := (s.ledgerDel m.owner r.addr).ledgerAdd r.newTag r.addr
      let s := s.iff (r.clrProv && m.prov) (fun t => t.wr (POOL_PROV p) (t.rd (POOL_PROV p) - 1))
      let m' := { m with owner := r.newTag, prov := m.prov && !r.clrProv }
      (answerTo r 0 r.addr m'.pack, s.setMeta p i m'))

/-- QUERY (R375). -/
def State.poolQuery (s : State) (r : PoolReq) : PoolRes × State :=
  s.withBob r (fun s _ _ m => (answerTo r 0 r.addr m.pack, s))

/-- One operation, by its code (Table 9-7). -/
def State.poolOp (s : State) (r : PoolReq) : PoolRes × State :=
  match r.op with
  | 1 => s.poolAlloc r
  | 2 => s.poolShare r
  | 3 => s.poolRelease r
  | 4 => s.poolSetOwner r
  | 5 => s.poolQuery r
  | _ => (answerTo r 11, s)

/-- Perform an operation and bring its answer to the requester. -/
def State.poolServe (s : State) (r : PoolReq) : State :=
  let o := s.poolOp r
  if o.1.code = poolWaits then o.2 else o.2.poolAnswer o.1

/-! ### Arbitration (R379) -/

/-- The class of a requester in R379, 1 first. -/
def poolClass (m : Nat) : Nat :=
  if m = 0x20 ∨ m = 0x21 then 1
  else if m < 0x10 then 2
  else if m < 0x14 then 3
  else if m = 0x18 ∨ m = 0x19 ∨ m = 0x32 then 4
  else if m = 0x28 ∨ m = 0x29 then 5
  else 6

/-- The master last served in a class by a pool. -/
def State.lastServed (s : State) (p c : Nat) : Nat := smGet 255 s.pool.rr (8 * p + c)

/-- The rank of a request at its pool: class first, then its distance after the master last served in that class. -/
def State.poolRank (s : State) (p : Nat) (r : PoolReq) : Nat :=
  let c := poolClass r.master
  c * 256 + (r.master + 255 - s.lastServed p c) % 256

/-- Serve the request of pool `p` that arbitration picks among those present. -/
def State.poolTurn (s : State) (p : Nat) : State :=
  match minBy (s.poolRank p) (s.pool.queue.filter (fun r => s.poolOf r == p)) with
  | none => s
  | some r =>
    let s := { s with pool := { s.pool with queue := s.pool.queue.erase r, rr := smSet 255 s.pool.rr (8 * p + poolClass r.master) r.master } }
    s.poolServe r

/-- Turns of a pool until a request present has been served: at most as many as requests are present. -/
def State.poolTurns (s : State) (p : Nat) (r : PoolReq) : Nat → State
  | 0 => s
  | n + 1 => if s.pool.queue.contains r then (s.poolTurn p).poolTurns p r n else s

/-- A pool operation is an atomic request, which the pool accepts (01_architecture.md, Table 13-3). -/
def State.poolAsked (s : State) (r : PoolReq) : State := s.countOwn (ownReq r.master 2 r.addr (.atomic [])) 0

/-- A request reaches the pool and competes with those present until it has been served. -/
def State.poolRequest (s : State) (r : PoolReq) : State :=
  let s := s.poolAsked r
  let s := { s with pool := { s.pool with queue := s.pool.queue ++ [r] } }
  s.poolTurns (s.poolOf r) r s.pool.queue.length

/-- A requester on the bus that may ask now: its unit is up (R33, R45). -/
def State.busPool (s : State) (op : Nat) (r : PoolReq) (tag : Nat) : State :=
  if s.unitUp r.master then s.poolRequest { r with op := op, forWhom := .bus tag } else s

/-- ALLOC (R375). -/
def execAlloc (r : PoolReq) (tag : Nat) (s : State) : Host.Outcome State Fault Refusal := s.finish (s.busPool 1 r tag)
/-- SHARE (R376). -/
def execShare (r : PoolReq) (tag : Nat) (s : State) : Host.Outcome State Fault Refusal := s.finish (s.busPool 2 r tag)
/-- RELEASE (R378). -/
def execRelease (r : PoolReq) (tag : Nat) (s : State) : Host.Outcome State Fault Refusal := s.finish (s.busPool 3 r tag)
/-- SET_OWNER (R376). -/
def execSetOwner (r : PoolReq) (tag : Nat) (s : State) : Host.Outcome State Fault Refusal := s.finish (s.busPool 4 r tag)
/-- QUERY (R375). -/
def execQuery (r : PoolReq) (tag : Nat) (s : State) : Host.Outcome State Fault Refusal := s.finish (s.busPool 5 r tag)

/-- A parked request whose time has come is answered TIMEOUT (R381). -/
def State.parkTimeout (s : State) (p : Nat) : State :=
  match (s.parkedOf p).find? (fun k => decide (k.due ≤ s.elapsed)) with
  | none => s
  | some k =>
    let s := { s with pool := { s.pool with parked := s.pool.parked.erase k } }
    ((s.showParked p).bump (POOL_TIMEOUT_CNT p)).poolAnswer (answerTo k.req 2)

/-- PARK_TIMEOUT (R381). -/
def execParkTimeout (p : Fin 64) (s : State) : Host.Outcome State Fault Refusal := s.finish (s.parkTimeout p)

/-! ### INIT (R373) -/

/-- Write the metadata word and the link of bobbin `i` of a pool in INIT. -/
def State.initBob (s : State) (p i : Nat) : State :=
  let n := s.poolCount p
  let s := s.setMeta p i { free := true }
  s.store 0x30 (s.bobAddr p i) (natLe 8 (if i + 1 < n then s.bobAddr p (i + 1) else 0))

/-- What INIT writes: the metadata word and the link of each bobbin, in index order, with the bobbin they are of. -/
def State.initWrites (s : State) (p : Nat) : List (Nat × Nat) :=
  (List.range (s.poolCount p)).flatMap (fun i => [(s.metaAddr p i, s.bobAddr p i), (s.bobAddr p i, s.bobAddr p i)])

/-- INIT ends: metadata and list are written, FREE is COUNT and READY sets. A memory that answers with an ERROR breaks
the pool at that bobbin, and one in a drain makes it wait (R402). -/
def State.poolInitDone (s : State) (p : Nat) : State :=
  if s.poolState p = poolINIT then
    let l := s.initWrites p
    if let some x := l.find? (fun x => decide (1 < s.pathCode x.1)) then
      (s.respFault 0x30 1 x.1 (s.pathCode x.1)).poolBreak p x.2
    else if l.any (fun x => s.pathCode x.1 == 1) then s
    else
      let s := s.each (List.range (s.poolCount p)) (fun i t => t.initBob p i)
      let s := (s.setHead p (s.poolBase p)).wr (POOL_CTL_STATE p) poolREADY
      (s.setFree p (s.poolCount p)).wr (POOL_STATUS_READY p) 1
  else s

/-- POOL_INIT_DONE (R373). -/
def execPoolInitDone (p : Fin 64) (s : State) : Host.Outcome State Fault Refusal := s.finish (s.poolInitDone p)

/-! ### The owner sweep (R386) and the operations of the device's own units -/

/-- Serve every request of a master that has reached the pool. -/
def State.drainPoolOf (s : State) (m : Nat) : State :=
  s.each (s.pool.queue.filter (fun r => r.master == m)) (fun r t =>
    ({ t with pool := { t.pool with queue := t.pool.queue.erase r } }).poolServe r)

/-- The request is an ALLOC of a master that the pool has yet to complete. -/
def Retried.allocOf (m : Nat) : Retried → Bool
  | .pool r => r.master == m && r.op == 1
  | _ => false

/-- Release every bobbin in a master's ledger and answer its parked requests and the ALLOCs that memory holds up, whose answers are
discarded. -/
def State.ownerSweep (s : State) (m : Nat) : State :=
  let s := s.drainPoolOf m
  let s := { s with fab := { s.fab with retry := s.fab.retry.filter (fun q => !q.2.allocOf m) } }
  let pools := (s.pool.parked.filter (fun k => k.req.master == m)).map (fun k => k.req.pool)
  let s := { s with pool := { s.pool with
    parked := s.pool.parked.filter (fun k => k.req.master != m), done := s.pool.done.filter (fun r => r.master != m) } }
  let s := s.each pools (fun p t => t.showParked p)
  let s := s.each (s.ledger m) (fun a t => t.poolServe { master := m, op := 3, addr := a })
  { s with pool := { s.pool with ledger := smSet [] s.pool.ledger m [] } }

/-- A unit releases a reference with the generation it received (R377). -/
def State.release (s : State) (master addr gen : Nat) : State :=
  let r : PoolReq := { master := master, op := 3, addr := addr, genChk := true, gen := gen }
  (s.poolAsked r).poolServe r

/-- A unit takes one reference with the test of R176: SHARE with ADD 1 and GEN_CHK. Whether it was granted; none while the metadata
answers RETRY, when nothing has happened and the unit asks again (R16). -/
def State.askRef (s : State) (master addr gen : Nat) : Option Bool × State :=
  let r : PoolReq := { master := master, op := 2, addr := addr, add := 1, genChk := true, gen := gen }
  let o := (s.poolAsked r).poolOp r
  if o.1.code = poolWaits then (none, s) else (some (o.1.code == 0), o.2)

/-- The same within an event that waits for its answer: a request that meets RETRY is queued, and the event has not come about
(`State.finishOnce`). Whether it was granted. -/
def State.takeRef (s : State) (master addr gen : Nat) : Bool × State :=
  let r : PoolReq := { master := master, op := 2, addr := addr, add := 1, genChk := true, gen := gen }
  let o := (s.poolAsked r).poolOp r
  (o.1.code == 0, o.2)

/-- The owner of a bobbin makes it shared and adds references. -/
def State.shareBy (s : State) (master addr gen add : Nat) : State :=
  let r : PoolReq := { master := master, op := 2, addr := addr, add := add, genChk := true, gen := gen }
  ((s.poolAsked r).poolOp r).2

/-- A unit asks for a bobbin at once, without WAIT: address and generation. -/
def State.allocNow (s : State) (master pool : Nat) (prov : Bool) : Option (Nat × Nat) × State :=
  let r : PoolReq := { master := master, op := 1, pool := pool, prov := prov }
  let o := (s.poolAsked r).poolOp r
  (if o.1.code = 0 then some (o.1.addr, o.1.word / 2 ^ 32) else none, o.2)

/-- A unit asks for a bobbin with WAIT; the answer goes to the list it is taken from. -/
def State.allocWait (s : State) (r : PoolReq) : State := s.poolRequest { r with op := 1, wait := true }

/-- Take the answer to a unit's waiting allocation. -/
def State.takeAnswer (s : State) (w : AllocFor) : Option PoolRes × State :=
  match s.pool.done.find? (fun r => r.forWhom == w) with
  | none => (none, s)
  | some r => (some r, { s with pool := { s.pool with done := s.pool.done.erase r } })

/-- Forget the waiting allocations that `w` picks; a bobbin already granted is released. -/
def State.dropWaits (s : State) (w : AllocFor → Bool) : State :=
  let pools := (s.pool.parked.filter (fun k => w k.req.forWhom)).map (fun k => k.req.pool)
  let got := s.pool.done.filter (fun r => w r.forWhom)
  let s := { s with pool := { s.pool with
    parked := s.pool.parked.filter (fun k => !w k.req.forWhom), done := s.pool.done.filter (fun r => !w r.forWhom) } }
  let s := s.each pools (fun p t => t.showParked p)
  s.each got (fun r t => t.iff (r.code == 0) (·.release r.master r.addr (r.word / 2 ^ 32)))

/-- Forget a unit's waiting allocations. -/
def State.dropWait (s : State) (w : AllocFor) : State := s.dropWaits (· == w)

/-- The allocation is ingest's, for merge point `f`. -/
def forFlow (f : Nat) : AllocFor → Bool
  | .ingest g _ => g == f
  | _ => false

/-- Ingest's first answer for merge point `f`, with the number of the packet that asked. -/
def State.ingAnswer (s : State) (f : Nat) : Option (Nat × PoolRes) × State :=
  match s.pool.done.find? (fun r => forFlow f r.forWhom) with
  | none => (none, s)
  | some r =>
    (some (match r.forWhom with | .ingest _ x => x | _ => 0, r), { s with pool := { s.pool with done := s.pool.done.erase r } })

/-- A write of `POOL_HOP_CMD` (R390): ignored while DONE reads 0. The tag is the writer's, and WAIT is never used. -/
def State.hopCmd (s : State) (master k op : Nat) : State :=
  if s.on (POOL_HOP_RES_DONE k) then
    let r : PoolReq := {
      master := master, op := op, pool := s.rd (POOL_HOP_ARG_POOL k)
      addr := 2 ^ 32 * s.rd (POOL_HOP_ADDR_HI k) + s.rd (POOL_HOP_ADDR_LO k)
      add := s.rd (POOL_HOP_ARG_ADD k), genChk := s.on (POOL_HOP_ARG_GEN_CHK k), gen := s.rd (POOL_HOP_GEN k)
      newTag := s.rd (POOL_HOP_ARG_TAG k), clrProv := s.on (POOL_HOP_ARG_CLR_PROV k), forWhom := .slot k }
    (s.wr (POOL_HOP_RES_DONE k) 0).poolRequest r
  else s

end Sys2Proof.Machine
end

