-- ==== Sys2Proof/Machine/Sched.lean ====
section
/-! DEFINITION. The scheduler (02_stream_contexts_and_scheduling.md): contexts and spindles as records, chains and pictures
they hold, the choice of the next job (R79–R83), dispatch, yield requests and the cancelling of run-ahead. -/

namespace Sys2Proof.Machine

open R

/-! ### Records -/

/-- Context states of Table 2-7. -/
def ctxIDLE : Nat := 0
def ctxOPEN : Nat := 1
def ctxRUNNING : Nat := 2
def ctxPAUSED : Nat := 3
def ctxDRAINING : Nat := 4
def ctxFAULTED : Nat := 5

/-- The record of a context. -/
def State.ctx (s : State) (n : Nat) : Ctx := smGet {} s.ctxs n

/-- Change the record of a context. -/
def State.modCtx (s : State) (n : Nat) (f : Ctx → Ctx) : State :=
  { s with ctxs := smSet {} s.ctxs n (f (s.ctx n)) }

/-- The state of a context (Table 2-7). -/
def State.ctxState (s : State) (n : Nat) : Nat := s.rd (STC_STATUS_STATE n)

/-- The class of a context, 0 LIVE. -/
def State.ctxClass (s : State) (n : Nat) : Nat := s.rd (STC_CTL_CLASS n)

/-- The record of a decode spindle. -/
def State.spd (s : State) (k : Nat) : Spd := smGet {} s.spds k

/-- `SPD_STATUS.STATE` of a job (Table 4-2). -/
def JobPhase.code : JobPhase → Nat
  | .dispatched => 0
  | .waitData => 4
  | .parse => 1
  | .waitBobbin => 3
  | .recon => 2

/-- The job a spindle works on: its own, or its lead's when it is the odd half of a pair. -/
def State.curOf (s : State) (k : Nat) : Option RunJob :=
  match (s.spd k).gangLead with
  | 0 => (s.spd k).cur
  | l + 1 => (s.spd l).cur

/-- Bring `SPD_STATUS` in line with the record (Tables 4-1 and 4-2). -/
def State.showSpd (s : State) (k : Nat) : State :=
  let r := s.spd k
  let s := s.wr (SPD_STATUS_RUNAHEAD k) (b2n r.next.isSome)
  let s := s.wr (SPD_STATUS_SUSPENDED k) r.suspended.length
  if s.fenced k then s.wr (SPD_STATUS_STATE k) 6
  else match s.curOf k with
    | none => (s.wr (SPD_STATUS_STATE k) 0).wr (SPD_STATUS_GANGED k) 0
    | some j =>
      let q := s.spd ((s.spd k).gangLead - 1)
      let r := if r.gangLead = 0 then r else q
      let yielding := (r.preempt || r.cancel || s.isl k == islDRAINING) && !r.held && j.phase != .dispatched
      let s := s.wr (SPD_STATUS_STATE k) (if yielding then 5 else j.phase.code)
      (s.wr (SPD_STATUS_CTX k) j.job.ctx).wr (SPD_STATUS_GANGED k) (b2n j.ganged)

/-- Change the record of a spindle, and what its status register and that of the odd spindle it leads show. -/
def State.modSpd (s : State) (k : Nat) (f : Spd → Spd) : State :=
  let s := ({ s with spds := smSet {} s.spds k (f (s.spd k)) }).showSpd k
  s.iff ((s.spd (k + 1)).gangLead == k + 1) (·.showSpd (k + 1))

/-- Change the job a spindle leads. -/
def State.modJob (s : State) (k : Nat) (f : RunJob → RunJob) : State :=
  s.modSpd k (fun r => { r with cur := r.cur.map f })

/-! ### Chains and pictures -/

/-- Release the bobbins of a chain, as the master that gives it up (R130). A host-fed chain that is still being copied
belongs to the DMA read engine, which releases it at its end when no job is left for it. -/
def State.releaseChain (s : State) (master : Nat) (c : Chain) : State :=
  if c.host && !c.complete then s else s.each c.bobs (fun b t => t.release master b.1 b.2)

/-- The unit that releases a chain no spindle will read: ingest, or the DMA read engine for host-fed data. -/
def Chain.maker (c : Chain) : Nat := if c.host then 0x28 else 0x20

/-- Release the chains of jobs that will never run. -/
def State.releaseJobs (s : State) (l : List Job) : State := s.each l (fun j t => t.releaseChain j.chain.maker j.chain)

/-- The context holds the picture for a reason of R175. -/
def Pic.kept (p : Pic) : Bool := p.isRef || p.awaits || p.newest

/-- The context table's own master ID (Table 1-1). -/
def mCTX : Nat := 0x32

/-- Release the context's reference on each picture it no longer keeps (R175). -/
def State.settlePics (s : State) (n : Nat) : State :=
  let gone := (s.ctx n).pics.filter (fun p => !p.kept)
  let s := s.modCtx n (fun c => { c with pics := c.pics.filter Pic.kept })
  s.each (gone.filter (fun p => p.addr != 0)) (fun p t => t.release mCTX p.addr p.gen)

/-- Release every picture a context holds. -/
def State.releasePics (s : State) (n : Nat) : State :=
  let l := (s.ctx n).pics.filter (fun p => p.addr != 0)
  (s.modCtx n (fun c => { c with pics := [] })).each l (fun p t => t.release mCTX p.addr p.gen)

/-! ### Viewport-scoped decode: the regions a picture needs (R185, R188, R189) -/

/-- The rectangle grown by a margin on every side, kept within coordinates of at least 0. -/
def rectGrow (r : Rect) (m : Nat) : Rect :=
  { x := r.x - m, y := r.y - m, w := r.x + r.w + m - (r.x - m), h := r.y + r.h + m - (r.y - m) }

/-- Two rectangles share a sample. -/
def rectMeets (a b : Rect) : Bool :=
  decide (a.x < b.x + b.w) && decide (b.x < a.x + a.w) && decide (a.y < b.y + b.h) && decide (b.y < a.y + a.h)

/-- Two rectangles share an edge or a corner. -/
def rectTouches (a b : Rect) : Bool :=
  decide (a.x ≤ b.x + b.w) && decide (b.x ≤ a.x + a.w) && decide (a.y ≤ b.y + b.h) && decide (b.y ≤ a.y + a.h)

/-- One more ring of regions (R189). -/
def addRing (g : List Rect) (set : List Nat) : List Nat :=
  (List.range g.length).filter (fun i => set.any (fun j => rectTouches ((g[i]?).getD {}) ((g[j]?).getD {})))

/-- Add rings of regions. -/
def addRings (g : List Rect) (set : List Nat) : Nat → List Nat
  | 0 => set
  | m + 1 => addRings g (addRing g set) m

/-- The regions needed of a picture for a fetch rectangle in coordinates of the cropped picture (R189). -/
def neededRegions (g : List Rect) (cropL cropT : Nat) (r : Rect) (std margin : Nat) : List Nat :=
  if r.w = 0 then []
  else
    let r : Rect := { r with x := r.x + cropL, y := r.y + cropT }
    let r := if std = 3 then rectGrow r 8 else r
    addRings g ((List.range g.length).filter (fun i => rectMeets ((g[i]?).getD {}) r)) margin

/-- The fetch rectangle of a context as the last canvas frame start left it (R188). -/
def State.fetchRect (s : State) (n : Nat) : Rect :=
  { x := s.rd (STC_VSD_RECT_XY_X n), y := s.rd (STC_VSD_RECT_XY_Y n)
    w := s.rd (STC_VSD_RECT_WH_W n), h := s.rd (STC_VSD_RECT_WH_H n) }

/-- Some encode session takes the context as its source (R185, R229): from OPEN until CLOSE. -/
def State.encTakes (s : State) (n : Nat) : Bool :=
  (List.range 16).any (fun e => s.rd (ENC_STATUS_STATE e) != 0 && s.rd (ENC_CTL_SOURCE e) == 0 && s.rd (ENC_CTL_CTX e) == n)

/-- Viewport-scoped decode may engage for a picture with these regions (R185, Table 4-16). -/
def State.vsdEngages (s : State) (n : Nat) (regions : List Rect) (rap : Bool) : Bool :=
  let std := s.rd (STC_CODEC_STANDARD n)
  s.on (STC_CTL_VSD n) && !s.encTakes n && std != 0 && !regions.isEmpty &&
    (std == 2 || rap || (s.ctx n).vsdOn)

/-- The luma samples of the regions of a set. -/
def regionSamples (g : List Rect) (set : List Nat) : Nat :=
  set.foldl (fun a i => a + ((g[i]?).getD {}).w * ((g[i]?).getD {}).h) 0

/-- The luma samples a job's picture needs (R73). -/
def State.needSamples (s : State) (j : Job) : Nat :=
  let n := j.ctx
  if s.vsdEngages n j.shape.regions j.chain.rap then
    regionSamples j.shape.regions (neededRegions j.shape.regions j.shape.cropL j.shape.cropT (s.fetchRect n)
      (s.rd (STC_CODEC_STANDARD n)) (s.rd (STC_PIC_FMT_VSD_MARGIN n)))
  else j.shape.samples

/-- The count P of R66. -/
def State.admitPix (s : State) (n : Nat) : Nat :=
  if s.rd (STC_ADMIT_PIX_PIX n) = 0 then s.rd (STC_PICSIZE_MAX_W n) * s.rd (STC_PICSIZE_MAX_H n)
  else s.rd (STC_ADMIT_PIX_PIX n)

/-- A LIVE job exceeds its context's declaration (R73). -/
def State.overruns (s : State) (j : Job) : Bool :=
  s.ctxClass j.ctx == 0 &&
    (decide (s.rd (STC_MAX_AU_BYTES j.ctx) < max j.size j.chain.bytes) || decide (s.admitPix j.ctx < s.needSamples j))

/-- The class a posted job is served in now (R73, R79). -/
def State.jobClass (s : State) (j : Job) : Nat := if s.overruns j then 1 else s.ctxClass j.ctx

/-- The class a job on a spindle was dispatched in. -/
def State.runClass (s : State) (r : RunJob) : Nat := if r.job.ovr then 1 else s.ctxClass r.job.ctx

/-! ### Which spindle may take which job -/

/-- A decode spindle is free: no job, not the odd half of a pair at work, its island ON and it is not fenced (R80). -/
def State.spdFree (s : State) (k : Nat) : Bool :=
  (s.spd k).cur.isNone && (s.spd k).gangLead == 0 && s.unitUp k

/-- The class's mask has the spindle. -/
def State.inMask (s : State) (c k : Nat) : Bool := bitSet (s.rd (STC_CLASSMAP_DEC_MASK c)) k

/-- The context decodes on a ganged pair. -/
def State.ganged (s : State) (n : Nat) : Bool := s.on (STC_CTL_GANG n)

/-- The home spindles of a LIVE context are up (R81). -/
def State.homeUp (s : State) (n : Nat) : Bool :=
  let h := s.rd (STC_ADMIT_HOME n)
  s.unitUp h && (!s.ganged n || s.unitUp (h + 1))

/-- A LIVE job of context `n` may run on spindle `k`: its home while that is up, else any spindle of the mask (R81). -/
def State.liveOn (s : State) (n k : Nat) : Bool :=
  if s.homeUp n then
    let h := s.rd (STC_ADMIT_HOME n)
    k == h || (s.ganged n && k == h + 1)
  else s.inMask 0 k && (!s.ganged n || (s.inMask 0 (k - k % 2) && s.inMask 0 (k - k % 2 + 1)))

/-- A job of class `c` of context `n` may run on spindle `k`. -/
def State.jobOn (s : State) (n c k : Nat) : Bool :=
  if c = 0 then s.liveOn n k
  else s.inMask c k && (!s.ganged n || (s.inMask c (k - k % 2) && s.inMask c (k - k % 2 + 1)))

/-- The other spindle of the pair that holds `k`. -/
def partner (k : Nat) : Nat := if k % 2 = 0 then k + 1 else k - 1

/-- A job that competes for a spindle: a posted one, or one suspended there. -/
structure Cand where
  job : Job := {}
  susp : Option RunJob := none
  cls : Nat := 0
  gang : Bool := false
  deriving DecidableEq, Repr

/-- The posted job of a context that is eligible (R77): its first, when none of its jobs is on a spindle. -/
def State.postedHead (s : State) (n : Nat) : Option Job :=
  let c := s.ctx n
  let st := s.ctxState n
  if c.busyOn = 0 ∧ (st = ctxRUNNING ∨ st = ctxPAUSED ∨ st = ctxDRAINING) then c.posted.head? else none

/-- The jobs suspended where spindle `k` may resume them: its own, and a pair's, which its even spindle holds. -/
def State.suspendedOf (s : State) (k : Nat) : List RunJob :=
  (s.spd k).suspended ++ (if k % 2 = 1 then (s.spd (k - 1)).suspended.filter (fun r => r.ganged) else [])

/-- Every job that competes for spindle `k`, before the questions of R83. -/
def State.cands (s : State) (k : Nat) : List Cand :=
  (s.ctxs.filterMap (fun e => (s.postedHead e.1).bind (fun j =>
    let c := s.jobClass j
    if s.jobOn e.1 c k then some { job := j, cls := c, gang := s.ganged e.1 } else none))) ++
  (s.suspendedOf k).map (fun r => { job := r.job, susp := some r, cls := s.runClass r, gang := r.ganged })

/-- A LIVE job preempts the job that a spindle works on (R83, R96): one of another class, or a LIVE one with a later
deadline, and the spindle has a free slot for it (R97). -/
def State.preempts (s : State) (j : Job) (k : Nat) : Bool :=
  match s.curOf k with
  | none => false
  | some r =>
    let lead := if (s.spd k).gangLead = 0 then k else (s.spd k).gangLead - 1
    decide ((s.spd lead).suspended.length < 8) && (s.runClass r != 0 || decide (j.d < r.job.d))

/-- A candidate for spindle `k` can be had: a ganged job needs the other spindle of the pair free, or, for a homed LIVE
job, posted or suspended, working on something it preempts (R83). -/
def State.reachable (s : State) (k : Nat) (c : Cand) : Bool :=
  !c.gang || s.spdFree (partner k) || (c.cls == 0 && s.homeUp c.job.ctx && s.preempts c.job (partner k))

/-- Order of two candidates of one class: deadline, then context number (R79). -/
def Cand.key (c : Cand) : Nat := c.job.d * 128 + c.job.ctx

/-- R79: LIVE first, then PROGRAM, BACKGROUND, CARDING, each by earliest deadline. (DEDUCED, log entry 50.) -/
def State.pickJob (s : State) (k : Nat) : Option Cand :=
  let l := (s.cands k).filter (s.reachable k)
  (List.range 4).findSome? (fun c => minBy Cand.key (l.filter (fun x => x.cls == c)))

/-! ### Dispatch -/

/-- The settings that take effect when a job begins or resumes (R159); a time of 0 acts as 1, MULT below 16 as 16. -/
def State.settings (s : State) (k : Nat) : SpdSet :=
  { allocTo := max 1 (s.rd (SPD_CTL_ALLOC_TO k)), mult := max 16 (s.rd (SPD_BUDGET_MULT k))
    slack := s.rd (SPD_BUDGET_SLACK k), dataTo := max 1 (s.rd (SPD_WDOG_DATA_TO k))
    respTo := max 1 (s.rd (SPD_WDOG_RESP_TO k)) }

/-- Record that a LIVE job is dispatched as PROGRAM (R73). -/
def State.countOver (s : State) (n : Nat) : State := (s.wr (STC_STATUS_OVERRUN n) 1).bump (STC_OVERRUN_CNT n)

/-- Put a job on spindle `k`, with the other half of its pair when it is ganged. -/
def State.putOn (s : State) (k : Nat) (r : RunJob) : State :=
  let lead := if r.ganged then k - k % 2 else k
  let s := s.modCtx r.job.ctx (fun c => { c with busyOn := lead + 1 })
  let s := s.modSpd lead (fun x => { x with
    cur := some r, preempt := false, cancel := false, held := false, set := s.settings lead })
  if r.ganged then s.modSpd (lead + 1) (fun x => { x with gangLead := lead + 1, set := s.settings (lead + 1) }) else s

/-- Take a candidate on spindle `k`: a posted job is dispatched, a suspended one resumes. -/
def State.take (s : State) (k : Nat) (c : Cand) : State :=
  match c.susp with
  | some r =>
    let l := if r.ganged then k - k % 2 else k
    (s.modSpd l (fun x => { x with suspended := x.suspended.erase r })).putOn k { r with waitSince := s.elapsed }
  | none =>
    let n := c.job.ctx
    let ovr := s.overruns c.job
    let s := s.iff ovr (·.countOver n)
    let s := s.modCtx n (fun x => { x with posted := x.posted.drop 1 })
    s.putOn k { job := { c.job with ovr := ovr }, rect := s.fetchRect n, taken := s.encTakes n, ganged := c.gang }

/-- Free spindle `k` selects its next job; one that waits for a pair leaves it free (R79, R83). -/
def State.serveSpd (s : State) (k : Nat) : State :=
  if s.spdFree k then
    match s.pickJob k with
    | none => s
    | some c => if !c.gang || s.spdFree (partner k) then s.take k c else s
  else s

/-- A posted LIVE job asks spindle `k`, its home, to yield, and so does a suspended LIVE job of the pair, which waits for both of its
spindles (R83, R96). -/
def State.yieldAsked (s : State) (k : Nat) : Bool :=
  s.ctxs.any (fun e =>
    match s.postedHead e.1 with
    | none => false
    | some j => s.jobClass j == 0 && s.homeUp e.1 && s.liveOn e.1 k && s.preempts j k) ||
  (s.suspendedOf k).any (fun r => r.ganged && s.runClass r == 0 && s.homeUp r.job.ctx && s.preempts r.job k)

/-- Set the yield requests of the busy spindles; a pair is asked through its lead. -/
def State.askYield (s : State) (k : Nat) : State :=
  if (s.spd k).cur.isSome then
    let asked := s.yieldAsked k || ((s.spd (k + 1)).gangLead == k + 1 && s.yieldAsked (k + 1))
    if asked = (s.spd k).preempt then s else s.modSpd k (fun r => { r with preempt := asked })
  else s

/-- Show UNHOMED of the LIVE contexts that have a home (R81). -/
def State.showHomes (s : State) : State :=
  s.each ((List.range 128).filter (fun n => s.on (STC_ADMIT_HOMED n))) (fun n t =>
    t.wr (STC_STATUS_UNHOMED n) (b2n (!t.homeUp n)))

/-- The scheduler works: every free spindle selects its next job, then the home spindles are asked to yield. -/
def State.dispatch (s : State) : State :=
  let s := s.showHomes
  let s := s.each (List.range 16) (fun k t => t.serveSpd k)
  s.each (List.range 16) (fun k t => t.askYield k)

/-! ### Cancelling -/

/-- Cancel the run-ahead of a spindle (R90, R91): its provisional bobbin comes back and its job returns to the front of
its context's queue. -/
def State.cancelAhead (s : State) (k : Nat) : State :=
  match (s.spd k).next with
  | none => s
  | some r =>
    let s := (s.modSpd k (fun x => { x with next := none })).countUnit 0x045 k 1
    let s := match r.pic with
      | none => s
      | some p => s.release k p.1 p.2
    s.modCtx r.job.ctx (fun c => { c with posted := { r.job with ovr := false } :: c.posted })

/-- The spindles that run ahead for a context. -/
def State.aheadOf (s : State) (n : Nat) : List Nat :=
  (List.range 16).filter (fun k => match (s.spd k).next with | none => false | some r => r.job.ctx == n)

/-- The posted jobs that a context holds: those that wait, the one on a spindle and the one that runs ahead (DESIGN CHOICE, log entry
68). -/
def State.heldJobs (s : State) (n : Nat) : Nat :=
  (s.ctx n).posted.length + (if (s.ctx n).busyOn = 0 then 0 else 1) + (s.aheadOf n).length

/-- Cancel a context's run-ahead. -/
def State.cancelAheadOf (s : State) (n : Nat) : State := s.each (s.aheadOf n) (fun k t => t.cancelAhead k)

/-- Cancel a context's pending jobs and run-ahead; `keep` leaves a job posted again under R82 in place (R55). -/
def State.cancelPending (s : State) (n : Nat) (keep : Bool) : State :=
  let s := s.cancelAheadOf n
  let c := s.ctx n
  let stay := c.posted.filter (fun j => keep && j.reposted)
  let go := c.posted.filter (fun j => !(keep && j.reposted)) ++ c.toPost.map (fun t => t.job)
  (s.modCtx n (fun c => { c with posted := stay, toPost := [] })).releaseJobs go

/-- Post a job again after its spindle answered TARGET_RESET or ABORTED_PWR (R82), with its original r and d. -/
def State.repost (s : State) (j : Job) : State :=
  s.modCtx j.ctx (fun c => { c with posted := { j with reposted := true, ovr := false } :: c.posted, busyOn := 0 })

/-- Return the load a context was admitted with (R71). What `STC_ADMIT` reads then the spec leaves open: its fields read 0 (DESIGN
CHOICE, log entry 67). -/
def State.returnLoad (s : State) (n : Nat) : State :=
  let load := s.rd (STC_ADMIT_LOAD n) * (if s.on (STC_ADMIT_GANGED n) then 2 else 1)
  let cl := STC_CLASS_LOAD (s.ctxClass n)
  let s := s.wr cl (s.rd cl - load)
  let s := s.each (s.ctx n).homes (fun h t =>
    (t.wr (STC_SPD_LOAD_LIVE_LOAD h.1) (t.rd (STC_SPD_LOAD_LIVE_LOAD h.1) - h.2)).wr
      (STC_SPD_LOAD_LIVE_COUNT h.1) (t.rd (STC_SPD_LOAD_LIVE_COUNT h.1) - 1))
  let s := s.modCtx n (fun c => { c with homes := [] })
  s.each [STC_ADMIT_GANGED n, STC_ADMIT_HOMED n, STC_ADMIT_HOME n, STC_ADMIT_LOAD n, STC_STATUS_UNHOMED n]
    (fun F t => t.wr F 0)

/-- DRAINING ends when no job of the context is in progress or awaits dispatch again (R55, R57). -/
def State.drainEnd (s : State) (n : Nat) : State :=
  let c := s.ctx n
  if s.ctxState n = ctxDRAINING ∧ c.busyOn = 0 ∧ c.posted = [] then
    ((s.returnLoad n).wr (STC_STATUS_STATE n) ctxOPEN).wr (STC_STATUS_BUSY n) 0
  else s

end Sys2Proof.Machine
end

