-- ==== Sys2Proof/Machine/Contexts.lean ====
section
/-! DEFINITION. The commands of a stream context (R49–R61) and admission (R66–R72), with the posting of jobs (R74–R76). -/

namespace Sys2Proof.Machine

open R

/-! ### Declaration and binding -/

/-- The flow entries that a network context binds: its own and, with MERGE, the partner (R115). -/
def State.flowsOf (s : State) (n : Nat) : List Nat :=
  if s.rd (STC_CTL_SOURCE n) = 0 then
    let f := s.rd (STC_CTL_FLOW n)
    if s.on (ING_FLOW_CTL_MERGE f) then [f, s.rd (ING_FLOW_CTL_PAIR f)] else [f]
  else []

/-- The DMA channel a host-fed context binds. -/
def State.chanOf (s : State) (n : Nat) : Option Nat :=
  if s.rd (STC_CTL_SOURCE n) = 1 then some (s.rd (STC_CTL_FLOW n)) else none

/-- The contexts that are not IDLE. -/
def State.openCtxs (s : State) : List Nat := (List.range 128).filter (fun n => s.ctxState n != ctxIDLE)

/-- The context that binds a flow entry. -/
def State.binder (s : State) (f : Nat) : Option Nat := s.openCtxs.find? (fun n => (s.flowsOf n).contains f)

/-- The context that binds a DMA channel. -/
def State.chanCtx (s : State) (c : Nat) : Option Nat := s.openCtxs.find? (fun n => s.chanOf n == some c)

/-- Every declared field lies in the range of Table 2-4, and the profile is decoded (R52, Tables 4-3 to 4-7). -/
def State.declOk (s : State) (n : Nat) : Bool :=
  let std := s.rd (STC_CODEC_STANDARD n)
  let chroma := s.rd (STC_CODEC_CHROMA n)
  let w := s.rd (STC_PICSIZE_MAX_W n)
  let h := s.rd (STC_PICSIZE_MAX_H n)
  decide (std < 4) && decide (chroma < 3) && decide (s.rd (STC_CODEC_DEPTH n) < 2) &&
    decide (16 ≤ w) && decide (w ≤ 8192) && decide (16 ≤ h) && decide (h ≤ 4352) && decide (w * h ≤ 35651584) &&
    decide (4000000 ≤ s.rd (STC_PERIOD_PERIOD n)) && decide (1 ≤ s.rd (STC_MAX_AU_BYTES n)) &&
    !(std == 0 && chroma == 2) && !(std == 3 && chroma == 1)

/-- The flow entries or the channel can be bound (R52, R115). -/
def State.bindOk (s : State) (n : Nat) : Bool :=
  match s.rd (STC_CTL_SOURCE n) with
  | 0 =>
    let f := s.rd (STC_CTL_FLOW n)
    let p := s.rd (ING_FLOW_CTL_PAIR f)
    s.on (ING_FLOW_CTL_EN f) &&
      (!s.on (ING_FLOW_CTL_MERGE f) || (s.on (ING_FLOW_CTL_MERGE p) && s.rd (ING_FLOW_CTL_PAIR p) == f &&
        s.rd (ING_FLOW_CTL_PATH p) != s.rd (ING_FLOW_CTL_PATH f))) &&
      (s.flowsOf n).all (fun e => (s.binder e).isNone)
  | 1 => decide (s.rd (STC_CTL_FLOW n) < 64) && (s.chanCtx (s.rd (STC_CTL_FLOW n))).isNone
  | _ => false

/-! ### Admission -/

/-- The maximum of CK_SPD in kHz (Table 1-4), taken before a clock plan is in force (DESIGN CHOICE, log entry 6). -/
def spdMaxKhz : Nat := 1600000

/-- CK_SPDk in kHz. (DESIGN CHOICE, log entry 6.) -/
def State.spdKhz (s : State) (k : Nat) : Nat :=
  let f := s.rd (WRP_CLK k)
  if f = 0 then spdMaxKhz else f

/-- The product P × w rounded up, by chroma format (R66, Table 4-8). -/
def weighted (chroma p : Nat) : Nat :=
  match chroma with
  | 0 => cdiv (p * 4) 5
  | 1 => p
  | _ => cdiv (p * 4) 3

/-- The picture cost in spindle cycles (R66). (DESIGN CHOICE, log entry 60.) -/
def State.pictureCost (s : State) (n : Nat) : Nat :=
  max (weighted (s.rd (STC_CODEC_CHROMA n)) (s.admitPix n)) (cdiv (s.rd (STC_MAX_AU_BYTES n) * 32) 3) + 16384

/-- The load at a frequency in kHz, per spindle when ganged (R67). -/
def State.loadAt (s : State) (n khz : Nat) : Nat :=
  cdiv (1000000 * (65536 * s.pictureCost n)) (s.rd (STC_PERIOD_PERIOD n) * khz * (if s.ganged n then 2 else 1))

/-- A spindle is in ON or RETENTION, so not fixed OFF (R68). -/
def State.spdPowered (s : State) (k : Nat) : Bool :=
  s.present k && (s.isl k == islON || s.isl k == islRETENTION)

/-- A spindle is fixed OFF (R70). -/
def State.fixedOff (s : State) (k : Nat) : Bool :=
  !s.present k || (!s.on (PWR_ISL_STATE_SWITCHABLE k) && s.isl k == islOFF)

/-- The spindles of a class's mask. -/
def State.maskOf (s : State) (c : Nat) : List Nat := (List.range 16).filter (s.inMask c)

/-- The places a context of class `c` could have: powered spindles of the mask, or even spindles of powered pairs. -/
def State.places (s : State) (n c : Nat) : List Nat :=
  if s.ganged n then
    (List.range 8).map (2 * ·) |>.filter (fun k =>
      s.inMask c k && s.inMask c (k + 1) && s.spdPowered k && s.spdPowered (k + 1))
  else (s.maskOf c).filter s.spdPowered

/-- The admission limit in percent: LIVE acts as at most 80 (Table 2-10). -/
def State.limitOf (s : State) (c : Nat) : Nat :=
  if c = 0 then min 80 (s.rd (STC_CLASSMAP_LIMIT c)) else s.rd (STC_CLASSMAP_LIMIT c)

/-- What one LIVE spindle may carry (R68). -/
def State.homeLimit (s : State) : Nat := 65536 * s.limitOf 0 / 100

/-- The load of every admitted context that the class test of class `c` counts, a ganged one twice (R70). -/
def State.classSum (s : State) (c : Nat) : Nat :=
  ((List.range 128).filter (fun m => decide (ctxRUNNING ≤ s.ctxState m) && decide (s.ctxState m ≤ ctxDRAINING) &&
      decide (s.ctxClass m ≤ c) && (s.maskOf (s.ctxClass m)).any (s.inMask c))).foldl
    (fun a m => a + s.rd (STC_ADMIT_LOAD m) * (if s.on (STC_ADMIT_GANGED m) then 2 else 1)) 0

/-- The lowest frequency among the spindles of a mask (R67). -/
def State.lowestKhz (s : State) (c : Nat) : Nat :=
  match s.maskOf c with
  | [] => spdMaxKhz
  | k :: r => r.foldl (fun a i => min a (s.spdKhz i)) (s.spdKhz k)

/-- The class test (R70). -/
def State.classTest (s : State) (n c : Nat) : Bool :=
  let mine := s.loadAt n (s.lowestKhz c) * (if s.ganged n then 2 else 1)
  let count := ((s.maskOf c).filter (fun k => !s.fixedOff k)).length
  decide (s.classSum c + mine ≤ 65536 * count * s.limitOf c / 100)

/-- The spindles that a home at `k` charges. -/
def State.homeSet (s : State) (n k : Nat) : List Nat := if s.ganged n then [k, k + 1] else [k]

/-- The home test at a place: every spindle of it passes (R68). -/
def State.homeTest (s : State) (n k : Nat) : Bool :=
  (s.homeSet n k).all (fun i =>
    decide (s.rd (STC_SPD_LOAD_LIVE_LOAD i) + s.loadAt n (s.spdKhz i) ≤ s.homeLimit) &&
      decide (s.rd (STC_SPD_LOAD_LIVE_COUNT i) < 7))

/-- The resulting load of a place: the larger of a pair's (R68). -/
def State.resulting (s : State) (n k : Nat) : Nat :=
  (s.homeSet n k).foldl (fun a i => max a (s.rd (STC_SPD_LOAD_LIVE_LOAD i) + s.loadAt n (s.spdKhz i))) 0

/-- The home of a LIVE context: the passing place with the smallest resulting load, the lowest index on a tie (R68). -/
def State.home (s : State) (n : Nat) : Option Nat :=
  minBy (s.resulting n) ((s.places n 0).filter (s.homeTest n))

/-- GANG_REQUIRED (R69): alone, the load exceeds the limit on every powered spindle of the LIVE mask. -/
def State.gangRequired (s : State) (n : Nat) : Bool :=
  !s.ganged n && (s.places n 0).all (fun k => decide (s.homeLimit < s.loadAt n (s.spdKhz k)))

/-- The first test of R69 that fails: its WHY code, 0 for none. -/
def State.admitWhy (s : State) (n : Nat) : Nat :=
  let c := s.ctxClass n
  if (s.places n c).isEmpty then 6
  else if c = 0 ∧ s.gangRequired n then 5
  else if ¬ s.classTest n c then 3
  else if c = 0 ∧ (s.home n).isNone then 4
  else 0

/-- Enter an admitted load in `STC_ADMIT`, `STC_SPD_LOAD` and `STC_CLASS_LOAD` (R71). (DEDUCED, log entry 50.) -/
def State.charge (s : State) (n : Nat) : State :=
  let c := s.ctxClass n
  let twice := if s.ganged n then 2 else 1
  let home := if c = 0 then s.home n else none
  let load := match home with
    | some k => s.loadAt n (s.spdKhz k)
    | none => s.loadAt n (s.lowestKhz c)
  let charges := match home with
    | some k => (s.homeSet n k).map (fun i => (i, s.loadAt n (s.spdKhz i)))
    | none => []
  let s := (s.wr (STC_ADMIT_LOAD n) load).wr (STC_ADMIT_GANGED n) (b2n (s.ganged n))
  let s := (s.wr (STC_ADMIT_HOMED n) (b2n home.isSome)).wr (STC_ADMIT_HOME n) (home.getD 0)
  let s := s.modCtx n (fun x => { x with homes := charges })
  let s := s.each charges (fun h t =>
    (t.wr (STC_SPD_LOAD_LIVE_LOAD h.1) (t.rd (STC_SPD_LOAD_LIVE_LOAD h.1) + h.2)).bump (STC_SPD_LOAD_LIVE_COUNT h.1))
  s.bump (STC_CLASS_LOAD c) (load * twice)

/-! ### Commands -/

/-- Reject a command with its reason (Table 2-8). -/
def State.ctxReject (s : State) (n why : Nat) : State :=
  (s.wr (STC_STATUS_CMD_REJECT n) 1).wr (STC_STATUS_WHY n) why

/-- Store the configuration fields of a write to `STC_CTL`: only in IDLE (R50). -/
def State.ctxFields (s : State) (n w : Nat) : State :=
  if s.ctxState n = ctxIDLE then
    s.each [STC_CTL_VSD n, STC_CTL_RUNAHEAD n, STC_CTL_GANG n, STC_CTL_CLASS n, STC_CTL_SOURCE n, STC_CTL_FLOW n]
      (fun F t => t.wr F (bitsOf w F.lo F.width))
  else s

/-- Discard the access unit that ingest or the DMA is building for a context (R116, R153): the packets held count in
DISCARD, and the rest of a host-fed unit is skipped. (DEDUCED, log entry 36.) -/
def State.dropBuilding (s : State) (n : Nat) : State :=
  let s := s.each (s.flowsOf n) (fun f t =>
    let r : Flow := smGet {} t.ing.flows f
    let t := { t with ing := { t.ing with flows := smSet {} t.ing.flows f { lastMatch := r.lastMatch, last := r.last } } }
    ((t.dropWaits (forFlow f)).bump (ING_FLOW_DISCARD f) (r.pkts.length + r.parked.length)).each r.bobs (fun b u =>
      u.release 0x20 b.1 b.2))
  match s.chanOf n with
  | none => s
  | some c =>
    let r : DmaSt := smGet {} s.dma c
    let open_ := r.aus.filter (fun a => !a.whole)
    let gone := r.aus.filter (fun a => !a.posted)
    let s := { s with dma := smSet {} s.dma c { r with
      aus := r.aus.filter (fun a => a.posted), skip := r.skip || !open_.isEmpty, asked := false } }
    (s.dropWait (.stream c)).each gone (fun a t => t.each a.chain.bobs (fun b u => u.release 0x28 b.1 b.2))

/-- The counters of a context that OPEN clears (R49, R221) and its picture list (R171). -/
def ctxCounters (n : Nat) : List Fld :=
  [STC_CONCEAL_CNT n, STC_LATE_CNT n, STC_OVERRUN_CNT n, STC_SYNTH_CNT n, STC_DROP_CNT n, STC_REJECT_CNT n,
   STC_ABORT_CNT n, STC_BUDGET_CNT n, STC_SYNTAX_CNT n, STC_UNITS_CNT n, STC_RESYNC_CNT n, STC_MEMERR_CNT n,
   STC_PIC_OUT n, STC_DAMAGE_TAINTED n, STC_DAMAGE_RAP_WAIT n]

/-- The fields of list entry `i`. -/
def listEntry (n i : Nat) : List Fld :=
  [STC_ENT_OUT_SEQ n i, STC_ENT_OUTCOME n i, STC_ENT_CAUSE n i, STC_ENT_PIC n i, STC_ENT_FLAGS n i,
   STC_ENT_ADDR_LO n i, STC_ENT_ADDR_HI n i, STC_ENT_GEN n i, STC_ENT_T_LO n i, STC_ENT_T_HI n i]

/-- The flow counters that the bound context's OPEN clears (R112). -/
def flowCounters (f : Nat) : List Fld :=
  [ING_FLOW_PKTS f, ING_FLOW_DUPS f, ING_FLOW_LOST f, ING_FLOW_DISCARD f, ING_FLOW_AUS f, ING_FLOW_LOSS_AUS f]

/-- OPEN (R52): the declaration is checked, the flow or channel bound, and the counters and the list start anew. (DEDUCED, log entry 39.) -/
def State.ctxOpen (s : State) (n : Nat) : State :=
  if s.ctxState n ≠ ctxIDLE then s.ctxReject n 1
  else if s.declOk n && s.bindOk n then
    let s := s.each (ctxCounters n) (fun F t => t.wr F 0)
    let s := s.each (List.range 64) (fun i t => t.each (listEntry n i) (fun F u => u.wr F 0))
    let s := s.each ((s.flowsOf n).flatMap flowCounters) (fun F t => t.wr F 0)
    let s := s.modCtx n (fun c => { busyOn := c.busyOn })
    let s := s.each (s.flowsOf n) (fun f t => { t with ing := { t.ing with
      flows := smSet {} t.ing.flows f { (smGet {} t.ing.flows f : Flow) with last := 0 } } })
    s.wr (STC_STATUS_STATE n) ctxOPEN
  else s.ctxReject n 2

/-- START (R69, R71, R506). -/
def State.ctxStart (s : State) (n : Nat) : State :=
  if s.ctxState n ≠ ctxOPEN ∨ s.wrp.hold.classes.contains (s.ctxClass n) then s.ctxReject n 1
  else match s.admitWhy n with
    | 0 =>
      let s := (s.charge n).modCtx n (fun c => { c with pfxDue := true })
      (s.wr (STC_STATUS_STATE n) ctxRUNNING).showHomes
    | w => (s.wr (STC_STATUS_ADMIT_FAIL n) 1).wr (STC_STATUS_WHY n) w

/-- PAUSE (R55, R116). -/
def State.ctxPause (s : State) (n : Nat) : State :=
  if s.ctxState n = ctxRUNNING then
    ((s.cancelPending n true).dropBuilding n).wr (STC_STATUS_STATE n) ctxPAUSED
  else s.ctxReject n 1

/-- RESUME (R56, R121, R506). -/
def State.ctxResume (s : State) (n : Nat) : State :=
  if s.ctxState n = ctxPAUSED ∧ ¬ s.wrp.hold.classes.contains (s.ctxClass n) then
    let s := (s.wr (STC_DAMAGE_RAP_WAIT n) 1).modCtx n (fun c => { c with pfxDue := true })
    s.wr (STC_STATUS_STATE n) ctxRUNNING
  else s.ctxReject n 1

/-- STOP (R55, R57, R116). -/
def State.ctxStop (s : State) (n : Nat) : State :=
  if s.ctxState n = ctxRUNNING ∨ s.ctxState n = ctxPAUSED then
    let s := (s.cancelPending n true).dropBuilding n
    ((s.wr (STC_STATUS_STATE n) ctxDRAINING).wr (STC_STATUS_BUSY n) 1).drainEnd n
  else s.ctxReject n 1

/-- CLOSE (R60): the context's own references go back, holds of others stay, and `STC_PIC_OUT` reads 0 (R291). -/
def State.ctxClose (s : State) (n : Nat) : State :=
  if s.ctxState n = ctxOPEN ∨ s.ctxState n = ctxFAULTED then
    let s := (((s.cancelPending n false).dropBuilding n).releasePics n).plyForget n
    (s.wr (STC_PIC_OUT n) 0).wr (STC_STATUS_STATE n) ctxIDLE
  else s.ctxReject n 1

/-- FLUSH (R56, R116): pending work goes, and access units are discarded up to the next random-access point. (DEDUCED, log entry 50.) -/
def State.ctxFlush (s : State) (n : Nat) : State :=
  if s.ctxState n = ctxRUNNING then
    let s := (s.cancelPending n false).dropBuilding n
    (s.wr (STC_DAMAGE_RAP_WAIT n) 1).modCtx n (fun c => { c with pfxDue := true })
  else s.ctxReject n 1

/-- RECOVER (R59). -/
def State.ctxRecover (s : State) (n : Nat) : State :=
  if s.ctxState n = ctxFAULTED then
    if s.on (STC_STATUS_FAULT n) then s.ctxReject n 7 else s.wr (STC_STATUS_STATE n) ctxOPEN
  else s.ctxReject n 1

/-- A write of `STC_CTL` with command `cmd` (R50, R53): one while BUSY is rejected, NOP too; else NOP acts on nothing. (DEDUCED, log entry 50.) -/
def State.ctxCmd (s : State) (n w cmd : Nat) : State :=
  let s := s.ctxFields n w
  if s.on (STC_STATUS_BUSY n) then s.ctxReject n 1
  else if cmd = 0 then s
  else
    let s := match cmd with
      | 1 => s.ctxOpen n
      | 2 => s.ctxStart n
      | 3 => s.ctxPause n
      | 4 => s.ctxResume n
      | 5 => s.ctxStop n
      | 6 => s.ctxClose n
      | 7 => s.ctxFlush n
      | 8 => s.ctxRecover n
      | _ => s.ctxReject n 1
    s.dispatch

/-- CTX_NOP: `w` carries the other fields of the word written. -/
def execCtxNop (n : Fin 128) (w : Word) (s : State) : Host.Outcome State Fault Refusal := s.finish (s.ctxCmd n w.toNat 0)
/-- CTX_OPEN. -/
def execCtxOpen (n : Fin 128) (w : Word) (s : State) : Host.Outcome State Fault Refusal := s.finish (s.ctxCmd n w.toNat 1)
/-- CTX_START. -/
def execCtxStart (n : Fin 128) (w : Word) (s : State) : Host.Outcome State Fault Refusal := s.finish (s.ctxCmd n w.toNat 2)
/-- CTX_PAUSE. -/
def execCtxPause (n : Fin 128) (w : Word) (s : State) : Host.Outcome State Fault Refusal := s.finish (s.ctxCmd n w.toNat 3)
/-- CTX_RESUME. -/
def execCtxResume (n : Fin 128) (w : Word) (s : State) : Host.Outcome State Fault Refusal := s.finish (s.ctxCmd n w.toNat 4)
/-- CTX_STOP. -/
def execCtxStop (n : Fin 128) (w : Word) (s : State) : Host.Outcome State Fault Refusal := s.finish (s.ctxCmd n w.toNat 5)
/-- CTX_CLOSE. -/
def execCtxClose (n : Fin 128) (w : Word) (s : State) : Host.Outcome State Fault Refusal := s.finish (s.ctxCmd n w.toNat 6)
/-- CTX_FLUSH. -/
def execCtxFlush (n : Fin 128) (w : Word) (s : State) : Host.Outcome State Fault Refusal := s.finish (s.ctxCmd n w.toNat 7)
/-- CTX_RECOVER. -/
def execCtxRecover (n : Fin 128) (w : Word) (s : State) : Host.Outcome State Fault Refusal := s.finish (s.ctxCmd n w.toNat 8)

/-! ### Posting (R74–R76, R128) -/

/-- The deadline of a job (R75). -/
def State.deadline (s : State) (n r : Nat) : Nat :=
  r + s.rd (STC_PERIOD_PERIOD n) + (if s.ctxClass n = 0 then 0 else s.rd (STC_SLACK_NS n))

/-- Post the first waiting access unit of a context; a context holds at most 16 posted jobs (R76), the one on a spindle and the one
that runs ahead among them (DESIGN CHOICE, log entry 68). -/
def State.postJob (s : State) (n : Nat) (shape : PicShape) : State :=
  let c := s.ctx n
  match c.toPost with
  | [] => s
  | p :: rest =>
    if s.ctxState n = ctxRUNNING ∧ s.heldJobs n < 16 then
      let j := { p.job with ctx := n, d := s.deadline n p.job.r, shape := shape }
      (s.modCtx n (fun x => { x with toPost := rest, posted := x.posted ++ [j] })).dispatch
    else s

/-- The first waiting access unit has a playout time (R128). -/
def State.waitsPlayout (s : State) (n : Nat) : Option Nat := ((s.ctx n).toPost.head?).bind (·.due)

/-- JOB_POST: an access unit that waits for no playout time is posted. -/
def execJobPost (n : Fin 128) (shape : PicShape) (s : State) : Host.Outcome State Fault Refusal :=
  s.finish (if (s.waitsPlayout n).isNone then s.postJob n shape else s)

/-- PLAYOUT_DUE: device time reaches the playout time of the first waiting access unit. -/
def execPlayoutDue (n : Fin 128) (shape : PicShape) (s : State) : Host.Outcome State Fault Refusal :=
  s.finish (match s.waitsPlayout n with
    | none => s
    | some t => if t ≤ s.devTime then s.postJob n shape else s)

end Sys2Proof.Machine
end

