-- ==== Sys2Proof/Machine/Net.lean ====
section
/-! DEFINITION. Bytes on the network (03_stream_ingest.md): big-endian fields, checksums, the frames the device sends, and
access-unit chains in memory (Table 3-7). -/

namespace Sys2Proof.Machine

open R

/-- A number as `n` big-endian bytes. -/
def natBe (n v : Nat) : List Byte := (natLe n v).reverse

/-- Big-endian bytes as a number. -/
def beNat (l : List Byte) : Nat := l.foldl (fun a b => a * 256 + b.toNat) 0

/-- `n` bytes of a list from an offset. -/
def slice (l : List Byte) (o n : Nat) : List Byte := (l.drop o).take n

/-- A big-endian number of `n` bytes at an offset. -/
def beAt (l : List Byte) (o n : Nat) : Nat := beNat (slice l o n)

/-- One byte at an offset, 0 beyond the end. -/
def byteAt (l : List Byte) (o : Nat) : Nat := ((l[o]?).getD 0).toNat

/-- The sum of 16-bit words, an odd last byte padded with 0. -/
def sum16 : List Byte → Nat
  | [] => 0
  | [a] => a.toNat * 256
  | a :: b :: r => a.toNat * 256 + b.toNat + sum16 r

/-- The Internet checksum over bytes. -/
def inetSum (l : List Byte) : Nat :=
  let f := fun v => v % 65536 + v / 65536
  0xFFFF - f (f (f (sum16 l)))

/-- Four 32-bit address words, most significant first, as 16 bytes. -/
def ip6Bytes (f : Nat → Nat) : List Byte := natBe 4 (f 0) ++ natBe 4 (f 1) ++ natBe 4 (f 2) ++ natBe 4 (f 3)

/-- The 90 kHz count of a device time (R128, R150). -/
def rtp90 (t : Nat) : Nat := t * 9 / 100000 % 2 ^ 32

/-- The MAC address of a logical port (Table 3-2). -/
def State.portMac (s : State) (lp : Nat) : List Byte :=
  natBe 2 (s.rd (ING_PORT_MAC_HI_ADDR lp)) ++ natBe 4 (s.rd (ING_PORT_MAC_LO_ADDR lp))

/-- The frame a logical port sends: addresses, an 802.1Q tag when a VLAN is given, EtherType, payload padded to the least
frame, and the FCS. -/
def ethFrame (dst src : List Byte) (vid : Option Nat) (etype : Nat) (payload : List Byte) : List Byte :=
  let tag := match vid with
    | none => []
    | some v => natBe 2 0x8100 ++ natBe 2 v
  let f := dst ++ src ++ tag ++ natBe 2 etype ++ payload
  let f := f ++ List.replicate (60 - f.length) 0
  f ++ natLe 4 (crc32 f)

/-- A logical port exists: its Ethernet port is present and its lane group exists in the port's mode (R105). -/
def State.portExists (s : State) (lp : Nat) : Bool :=
  s.present (26 + lp / 4) && (s.rd (ING_PORT_CTL_MODE (lp / 4 * 4)) == 1 || lp % 4 == 0)

/-- A logical port can carry frames: it exists, it is enabled and its island is ON. -/
def State.portUp (s : State) (lp : Nat) : Bool :=
  s.portExists lp && s.on (ING_PORT_CTL_EN lp) && s.islOn (26 + lp / 4)

/-- Send a frame on a logical port; a port that is not up sends nothing. (DEDUCED, log entry 34.) -/
def State.sendFrame (s : State) (lp : Nat) (f : List Byte) : State := if s.portUp lp then s.emit (.frame lp f) else s

/-- An IPv4 header with options: type of service, identification word (free), TTL, protocol. (DEDUCED, log entry 34.) -/
def ip4Header (tos ident ttl proto : Nat) (opts : List Byte) (src dst len : Nat) : List Byte :=
  let h := fun c => natBe 1 (0x45 + opts.length / 4) ++ natBe 1 tos ++ natBe 2 (20 + opts.length + len) ++ natBe 2 ident ++
    natBe 2 0 ++ natBe 1 ttl ++ natBe 1 proto ++ natBe 2 c ++ natBe 4 src ++ natBe 4 dst ++ opts
  h (inetSum (h 0))

/-- An IPv6 header: traffic class, flow label (free), next header, hop limit. (DEDUCED, log entry 34.) -/
def ip6Header (tc flow next hop : Nat) (src dst : List Byte) (len : Nat) : List Byte :=
  natBe 4 (6 * 2 ^ 28 + tc * 2 ^ 20 + flow % 2 ^ 20) ++ natBe 2 len ++ natBe 1 next ++ natBe 1 hop ++ src ++ dst

/-- The checksum of an upper-layer packet over its pseudo-header; UDP sends 0 as 0xFFFF. -/
def upperSum (src dst : List Byte) (proto : Nat) (l : List Byte) : Nat :=
  inetSum (src ++ dst ++ natBe 4 l.length ++ natBe 4 proto ++ l)

/-- A UDP datagram with its checksum. (DEDUCED, log entry 34.) -/
def udpDatagram (src dst : List Byte) (sport dport : Nat) (l : List Byte) : List Byte :=
  let h := fun c => natBe 2 sport ++ natBe 2 dport ++ natBe 2 (8 + l.length) ++ natBe 2 c ++ l
  let c := upperSum src dst 17 (h 0)
  h (if c = 0 then 0xFFFF else c)

/-- Cut a list into pieces of `n` bytes. -/
def pieces (n : Nat) (l : List Byte) : List (List Byte) :=
  (List.range (cdiv l.length n)).map (fun i => slice l (i * n) n)

/-! ### Chains in memory (Table 3-7) -/

/-- The FLAGS word of the first bobbin of a chain; bit 1 is set apart. -/
def Chain.flags (c : Chain) : Nat :=
  1 + 4 * b2n c.loss + 8 * b2n c.trunc + 16 * b2n c.pfx + 32 * b2n c.rap + 64 * b2n c.discont + 128 * b2n c.host +
    256 * b2n c.pathA + 512 * b2n c.pathB + 1024 * b2n c.complete

/-- The 64-byte header of bobbin `i` of a chain that holds `fill` payload bytes. -/
def Chain.header (c : Chain) (i fill : Nat) : List Byte :=
  let next := ((c.bobs[i + 1]?).getD (0, 0)).1
  let last := if i + 1 = c.bobs.length then 2 else 0
  let head := natLe 8 next ++ natLe 4 fill ++ natLe 4 ((if i = 0 then c.flags else 0) + last) ++ natLe 4 c.auSeq ++
    natLe 4 c.rtpTs
  if i = 0 then
    head ++ natLe 8 c.tFirst ++ natLe 8 c.tRelease ++ natLe 4 c.bytes ++ natLe 2 (min c.pkts 0xFFFF) ++
      natLe 2 (min c.lost 0xFFFF) ++ natLe 16 0
  else head ++ natLe 40 0

/-- Payload bytes a chain of bobbins of one size can hold. -/
def chainRoom (size bobs : Nat) : Nat := (size - 64) * bobs

/-- Write the headers of a chain, whose bobbins are filled in turn up to its BYTES. -/
def State.writeHeaders (s : State) (master size : Nat) (c : Chain) : State :=
  s.each (List.range c.bobs.length) (fun i t =>
    let fill := min (size - 64) (c.bytes - (size - 64) * i)
    t.store master ((c.bobs[i]?).getD (0, 0)).1 (c.header i fill))

/-- Write payload bytes at an offset of a chain. -/
def State.writePayload (s : State) (master size : Nat) (bobs : List (Nat × Nat)) (off : Nat) (l : List Byte) : State :=
  let n := size - 64
  s.each (List.range bobs.length) (fun i t =>
    let lo := max off (n * i)
    let hi := min (off + l.length) (n * (i + 1))
    if lo < hi then t.store master (((bobs[i]?).getD (0, 0)).1 + 64 + (lo - n * i)) (slice l (lo - off) (hi - lo)) else t)

/-- The payload of a chain as memory holds it, each bobbin read below its FILL. -/
def State.readChain (s : State) (master : Nat) (c : Chain) : List Byte × State :=
  c.bobs.foldl (fun (acc : List Byte × State) b =>
    let h := acc.2.busRead master 0 (b.1 + 8) 4
    let p := h.2.2.busRead master 0 (b.1 + 64) (leNat h.2.1)
    (acc.1 ++ p.2.1, p.2.2)) ([], s)

/-- Share every bobbin of a chain, with `add` further references (R130, R259). -/
def State.shareChain (s : State) (master add : Nat) (c : Chain) : State :=
  s.each c.bobs (fun b t => t.shareBy master b.1 b.2 add)

end Sys2Proof.Machine
end

