-- ==== Sys2Proof/Machine/Egress.lean ====
section
/-! DEFINITION. RTP egress (R148–R152, 03_stream_ingest.md): channels, packetisation and pacing. -/

namespace Sys2Proof.Machine

open R

/-- The master ID of ingest egress (Table 1-1). -/
def mEGR : Nat := 0x21

/-- The record of an egress channel. -/
def State.egr (s : State) (e : Nat) : Egr := smGet {} s.ing.egr e

/-- Change the record of an egress channel. -/
def State.modEgr (s : State) (e : Nat) (f : Egr → Egr) : State :=
  { s with ing := { s.ing with egr := smSet {} s.ing.egr e (f (s.egr e)) } }

/-! ### Packetisation (R149) -/

/-- Split a byte stream at its start codes 0x0000_0001 (R119). -/
def nalUnits : List Byte → List Byte → List (List Byte)
  | cur, 0 :: 0 :: 0 :: 1 :: r => (if cur.isEmpty then [] else [cur.reverse]) ++ nalUnits [] r
  | cur, b :: r => nalUnits (b :: cur) r
  | cur, [] => if cur.isEmpty then [] else [cur.reverse]

/-- A NAL unit is a parameter set: SPS and PPS (AVC), VPS, SPS and PPS (HEVC). -/
def isParamSet (hevc : Bool) (n : List Byte) : Bool :=
  if hevc then [32, 33, 34].contains (byteAt n 0 / 2 % 64) else [7, 8].contains (byteAt n 0 % 32)

/-- One NAL unit in fragments: FU-A (RFC 6184) or FU (RFC 7798). -/
def fragments (hevc : Bool) (mtu : Nat) (n : List Byte) : List (List Byte) :=
  let h0 := byteAt n 0
  let parts := if hevc then pieces (mtu - 3) (n.drop 2) else pieces (mtu - 2) (n.drop 1)
  (List.range parts.length).map (fun i =>
    let se := (if i = 0 then 0x80 else 0) + (if i + 1 = parts.length then 0x40 else 0)
    let head :=
      if hevc then natBe 1 (h0 / 128 * 128 + 49 * 2 + h0 % 2) ++ natBe 1 (byteAt n 1) ++ natBe 1 (se + h0 / 2 % 64)
      else natBe 1 (h0 / 32 * 32 + 28) ++ natBe 1 (se + h0 % 32)
    head ++ (parts[i]?).getD [])

/-- The aggregation packet of several NAL units: STAP-A or AP. -/
def aggregate (hevc : Bool) (l : List (List Byte)) : List Byte :=
  let body := l.flatMap (fun n => natBe 2 n.length ++ n)
  if hevc then
    let f := if l.any (fun n => decide (128 ≤ byteAt n 0)) then 128 else 0
    let id := l.foldl (fun m n => min m (byteAt n 0 % 2 * 32 + byteAt n 1 / 8)) 63
    let tid := l.foldl (fun m n => min m (byteAt n 1 % 8)) 7
    natBe 1 (f + 48 * 2 + id / 32) ++ natBe 1 (id % 32 * 8 + tid) ++ body
  else
    let f := if l.any (fun n => decide (128 ≤ byteAt n 0)) then 128 else 0
    let nri := l.foldl (fun m n => max m (byteAt n 0 / 32 % 4)) 0
    natBe 1 (f + nri * 32 + 24) ++ body

/-- The packets of a run of parameter sets that has been gathered. -/
def flushSets (hevc : Bool) (sets : List (List Byte)) : List (List Byte) :=
  if sets.length < 2 then sets else [aggregate hevc sets]

/-- The payloads of an AVC or HEVC access unit: parameter sets gathered while they fit, other units single or in
fragments. -/
def nalPackets (hevc : Bool) (mtu : Nat) : List (List Byte) → List (List Byte) → List (List Byte)
  | sets, [] => flushSets hevc sets
  | sets, n :: r =>
    let head := if hevc then 2 else 1
    if isParamSet hevc n ∧ head + (sets ++ [n]).foldl (fun a u => a + 2 + u.length) 0 ≤ mtu then
      nalPackets hevc mtu (sets ++ [n]) r
    else if isParamSet hevc n ∧ n.length ≤ mtu then flushSets hevc sets ++ nalPackets hevc mtu [n] r
    else
      flushSets hevc sets ++ (if n.length ≤ mtu then [n] else fragments hevc mtu n) ++ nalPackets hevc mtu [] r

/-- An unsigned LEB128 number. -/
def leb128 (fuel v : Nat) : List Byte :=
  match fuel with
  | 0 => []
  | k + 1 => if v < 128 then natLe 1 v else natLe 1 (v % 128 + 128) ++ leb128 k (v / 128)

/-- Read a LEB128 number: its value and its length. -/
def readLeb : Nat → Nat → List Byte → Nat × Nat
  | 0, _, _ => (0, 0)
  | _, _, [] => (0, 0)
  | k + 1, sh, b :: r =>
    if b.toNat < 128 then (b.toNat * 2 ^ sh, 1)
    else
      let q := readLeb k (sh + 7) r
      (b.toNat % 128 * 2 ^ sh + q.1, q.2 + 1)

/-- Split a low-overhead bitstream into its OBUs (R119), without temporal delimiters (R149). -/
def obus : Nat → List Byte → List (List Byte)
  | 0, _ => []
  | _, [] => []
  | k + 1, l =>
    let ext := byteAt l 0 / 4 % 2
    let z := readLeb 8 0 (l.drop (1 + ext))
    let n := 1 + ext + z.2 + z.1
    (if byteAt l 0 / 8 % 16 = 2 then [] else [l.take n]) ++ obus k (l.drop n)

/-- One AV1 packet being filled: whether it continues a fragment, and its elements. -/
def av1Head (z y n : Bool) : List Byte := natBe 1 (128 * b2n z + 64 * b2n y + 8 * b2n n)

/-- The largest fragment that fits in `room` bytes with its length. -/
def fragRoom (room : Nat) : Nat := if room - 1 < 128 then room - 1 else room - 2

/-- Fill AV1 packets with length-prefixed elements; an OBU that does not fit is continued in the next packet. (DEDUCED, log entry 35.) -/
def av1Packets (mtu : Nat) (n : Bool) : Nat → Bool → List Byte → List (List Byte) → List (List Byte)
  | 0, _, _, _ => []
  | _, z, cur, [] => if cur.isEmpty then [] else [av1Head z false n ++ cur]
  | k + 1, z, cur, o :: r =>
    let el := leb128 5 o.length ++ o
    let room := mtu - 1 - cur.length
    if el.length ≤ room then av1Packets mtu n k z (cur ++ el) r
    else if room < 2 then (av1Head z false n ++ cur) :: av1Packets mtu false k false [] (o :: r)
    else
      let f := fragRoom room
      (av1Head z true n ++ cur ++ leb128 5 f ++ o.take f) :: av1Packets mtu false k true [] (o.drop f :: r)

/-- The RTP payloads of an access unit on channel `e` (R149); FORMAT 3 is reserved and yields none. -/
def State.egrPackets (s : State) (e : Nat) (data : List Byte) : List (List Byte) :=
  let mtu := s.rd (ING_EGR_MTU_BYTES e)
  match s.rd (ING_EGR_CTL_FORMAT e) with
  | 0 => nalPackets false mtu [] (nalUnits [] data)
  | 1 => nalPackets true mtu [] (nalUnits [] data)
  | 2 =>
    let l := obus data.length data
    let n := match l with
      | [] => false
      | o :: _ => byteAt o 0 / 8 % 16 == 1
    av1Packets mtu n (2 * data.length + 2) false [] l
  | _ => []

/-! ### Channels -/

/-- A coded chain is handed to channel `e` (R152): a fifth access unit is dropped, and so is one handed to a disabled
channel. (DEDUCED, log entry 35.) -/
def State.egressAu (s : State) (e : Nat) (c : Chain) (t : Nat) : State :=
  if ¬ s.on (ING_EGR_CTL_EN e) then s.releaseChain mEGR c
  else if 4 ≤ (s.egr e).queue.length then (s.releaseChain mEGR c).bump (ING_EGR_DROPS e)
  else
    let d := s.readChain mEGR c
    let p := d.2.egrPackets e d.1
    d.2.modEgr e (fun r => { r with queue := r.queue ++
      [{ chain := c, capture := t, packets := p, total := p.length, start := d.2.elapsed }] })

/-- EN is set: the sequence number starts at an unpredictable value (R150). -/
def State.egressEnable (s : State) (e : Nat) : State :=
  if s.on (ING_EGR_CTL_EN e) then s
  else
    let v := s.free
    (v.2.wr (ING_EGR_CTL_EN e) 1).modEgr e (fun r => { r with seq := v.1 % 65536 })

/-- EN is cleared: queued access units are released unsent (R152). (DEDUCED, log entry 35.) -/
def State.egressDisable (s : State) (e : Nat) : State :=
  let l := (s.egr e).queue
  let s := (s.wr (ING_EGR_CTL_EN e) 0).modEgr e (fun r => { r with queue := [] })
  s.each l (fun a t => t.releaseChain mEGR a.chain)

/-- EGRESS_DISABLE: a write of 0 to EN of channel `e`. -/
def execEgressDisable (e : Fin 8) (s : State) : Host.Outcome State Fault Refusal := s.finish (s.egressDisable e)

/-- The first packet of channel `e` may leave now: the channel is enabled, egress is not fenced, its time has come (R151). -/
def State.egrDue (s : State) (e : Nat) : Bool :=
  s.on (ING_EGR_CTL_EN e) && s.unitUp mEGR &&
    (match (s.egr e).queue with
    | [] => false
    | a :: _ => decide (a.start + a.sent * s.rd (ING_EGR_PACE_NS e) / max a.total 1 ≤ s.elapsed))

/-- A membership report waits for the logical port (R151). -/
def State.reportDue (s : State) (lp : Nat) : Bool :=
  s.ing.reports.any (fun r => r.lp == lp && decide (r.due ≤ s.elapsed))

/-- The paths of a channel: the logical port of path A, and with DUAL that of path B. -/
def State.egrPaths (s : State) (e : Nat) : List (Nat × Bool) :=
  (s.rd (ING_EGR_CTL_LPORT_A e), false) :: (if s.on (ING_EGR_CTL_DUAL e) then [(s.rd (ING_EGR_CTL_LPORT_B e), true)] else [])

/-- The paths by which the next packet of a channel has left. -/
def State.egrGone (s : State) (e : Nat) : List Bool := (((s.egr e).queue.head?).map (·.gone)).getD []

/-- A packet of channel `e` is due that has not left by a logical port yet. -/
def State.egrWants (s : State) (e lp : Nat) : Bool :=
  s.egrDue e && (s.egrPaths e).any (fun p => p.1 == lp && !(s.egrGone e).contains p.2)

/-- The channel that sends next on a logical port: the first due one after the one that sent last (R151). -/
def State.egrTurn (s : State) (lp : Nat) : Option Nat :=
  let last := smGet 0 s.ing.lastEgr lp
  minBy (fun e => (e + 7 - last) % 8) ((List.range 8).filter (fun e => s.egrWants e lp))

/-- The RTP packet with its headers (R150). -/
def State.rtpPacket (s : State) (e : Nat) (a : EgrAu) (payload : List Byte) (last : Bool) : List Byte :=
  natBe 1 0x80 ++ natBe 1 (128 * b2n last + s.rd (ING_EGR_RTP_PT e)) ++ natBe 2 (s.egr e).seq ++
    natBe 4 (rtp90 a.capture) ++ natBe 4 (s.rd (ING_EGR_SSRC e)) ++ payload

/-- The frame of an RTP packet on one path; identification and flow label are free values. (DEDUCED, log entry 34.) -/
def State.egrFrame (s : State) (e lp : Nat) (pathB : Bool) (rtp : List Byte) (free : Nat) : List Byte :=
  let dip := fun i => if pathB then s.rd (ING_EGR_DIP_B e i) else s.rd (ING_EGR_DIP_A e i)
  let dmac := if pathB then natBe 2 (s.rd (ING_EGR_DMAC_B_HI e)) ++ natBe 4 (s.rd (ING_EGR_DMAC_B_LO e))
    else natBe 2 (s.rd (ING_EGR_DMAC_A_HI e)) ++ natBe 4 (s.rd (ING_EGR_DMAC_A_LO e))
  let vid := if s.on (ING_EGR_CTL_VLAN_EN e) then some (s.rd (ING_EGR_IPOPT_VID e)) else none
  let tos := s.rd (ING_EGR_IPOPT_DSCP e) * 4
  let ttl := s.rd (ING_EGR_IPOPT_TTL e)
  let sport := s.rd (ING_EGR_UDP_SPORT e)
  let dport := s.rd (ING_EGR_UDP_DPORT e)
  if s.on (ING_EGR_CTL_IPV6 e) then
    let src := ip6Bytes (fun i => s.rd (ING_PORT_IP6 lp i))
    let dst := ip6Bytes dip
    let u := udpDatagram src dst sport dport rtp
    ethFrame dmac (s.portMac lp) vid 0x86DD (ip6Header tos free 17 ttl src dst u.length ++ u)
  else
    let src := s.rd (ING_PORT_IP4_ADDR lp)
    let dst := dip 0
    let u := udpDatagram (natBe 4 src) (natBe 4 dst) sport dport rtp
    ethFrame dmac (s.portMac lp) vid 0x0800 (ip4Header tos (free % 65536) ttl 17 [] src dst u.length ++ u)

/-- Send a packet on one path. -/
def State.sendPath (s : State) (e lp : Nat) (pathB : Bool) (rtp : List Byte) : State :=
  let v := s.free
  v.2.sendFrame lp (v.2.egrFrame e lp pathB rtp v.1)

/-- The access unit at the head of a channel is sent: its chain goes back and the next may start (R151, R152). -/
def State.egrAuEnd (s : State) (e : Nat) (a : EgrAu) : State :=
  let now := s.elapsed
  let s := s.modEgr e (fun r => { r with queue := (r.queue.drop 1).zipIdx.map (fun q =>
    if q.2 = 0 then { q.1 with start := max q.1.start now } else q.1) })
  (s.releaseChain mEGR a.chain).bump (ING_EGR_AUS e)

/-- The packet of channel `e` leaves by one of its paths, after the membership reports of the port and in its round-robin order (R151). -/
def State.egrLeave (s : State) (e : Nat) (rtp : List Byte) (p : Nat × Bool) : State :=
  if (s.egrGone e).contains p.2 ∨ s.reportDue p.1 ∨ s.egrTurn p.1 ≠ some e then s
  else
    let s := s.sendPath e p.1 p.2 rtp
    let s := { s with ing := { s.ing with lastEgr := smSet 0 s.ing.lastEgr p.1 e } }
    s.modEgr e (fun r => { r with queue := r.queue.zipIdx.map (fun q => if q.2 = 0 then { q.1 with gone := p.2 :: q.1.gone } else q.1) })

/-- The next packet of channel `e` leaves by the paths that are open to it; it is over once it has left by all (R150). -/
def State.egrSend (s : State) (e : Nat) : State :=
  match (s.egr e).queue with
  | [] => s
  | a :: _ =>
    match a.packets with
    | [] => s.egrAuEnd e a
    | p :: rest =>
      let s := s.each (s.egrPaths e) (fun q t => t.egrLeave e (s.rtpPacket e a p rest.isEmpty) q)
      if (s.egrPaths e).any (fun q => !(s.egrGone e).contains q.2) then s
      else
        let s := (s.bump (ING_EGR_PKTS e)).modEgr e (fun r => { r with
          seq := (r.seq + 1) % 65536
          queue := r.queue.zipIdx.map (fun q =>
            if q.2 = 0 then { q.1 with packets := rest, sent := q.1.sent + 1, gone := [] } else q.1) })
        if rest.isEmpty then s.egrAuEnd e a else s

/-- EGRESS_PACKET_DUE: the next packet of channel `e` may leave (R151). -/
def execEgressPacketDue (e : Fin 8) (s : State) : Host.Outcome State Fault Refusal :=
  s.finish (if s.egrDue e then s.egrSend e else s)

end Sys2Proof.Machine
end

