-- ==== Sys2Proof/Machine/Depack.lean ====
section
/-! DEFINITION. The depacketiser (R117–R120, Table 3-6): what the payload of one RTP packet contributes to its access unit,
and an access unit put together from the packets held. The packet structures are those of the payload formats that Table 3-6
names (DEDUCED, log entry 9). -/

namespace Sys2Proof.Machine

open R

/-- What a packet contributes: whole units, or a fragment of one. -/
inductive Piece where
  | whole (u : List Byte)
  | first (u : List Byte)
  | mid (u : List Byte)
  | last (u : List Byte)
  deriving DecidableEq, Repr

/-- A fragment by its start and end marks. -/
def pieceOf (start fin : Bool) (u : List Byte) : Piece :=
  match start, fin with
  | true, true => .whole u
  | true, false => .first u
  | false, true => .last u
  | false, false => .mid u

/-- The units of an aggregation packet, each after its 16-bit size; none when a size runs beyond the packet. -/
def aggUnits : Nat → List Byte → Option (List Piece)
  | 0, _ => none
  | _, [] => some []
  | k + 1, l =>
    let n := beAt l 0 2
    if l.length < 2 + n ∨ n = 0 then none else (aggUnits k (l.drop (2 + n))).map (fun r => .whole (slice l 2 n) :: r)

/-- RFC 6184: single NAL unit packets, STAP-A and FU-A. -/
def depackAvc (l : List Byte) : Option (List Piece) :=
  let t := byteAt l 0 % 32
  if 1 ≤ t ∧ t ≤ 23 then some [.whole l]
  else if t = 24 then aggUnits l.length (l.drop 1)
  else if t = 28 ∧ 2 ≤ l.length then
    let h := byteAt l 1
    let start := 128 ≤ h
    let head := if start then natBe 1 (byteAt l 0 / 32 * 32 + h % 32) else []
    some [pieceOf start (h / 64 % 2 == 1) (head ++ l.drop 2)]
  else none

/-- RFC 7798: single NAL unit packets, aggregation packets and fragmentation units, without DONL. -/
def depackHevc (l : List Byte) : Option (List Piece) :=
  let t := byteAt l 0 / 2 % 64
  if l.length < 2 then none
  else if t ≤ 47 then some [.whole l]
  else if t = 48 then aggUnits l.length (l.drop 2)
  else if t = 49 ∧ 3 ≤ l.length then
    let h := byteAt l 2
    let start := 128 ≤ h
    let head := if start then natBe 1 (byteAt l 0 / 128 * 128 + h % 64 * 2 + byteAt l 0 % 2) ++ slice l 1 1 else []
    some [pieceOf start (h / 64 % 2 == 1) (head ++ l.drop 3)]
  else none

/-- RFC 9328: single NAL unit packets, aggregation packets and fragmentation units, without DONL. -/
def depackVvc (l : List Byte) : Option (List Piece) :=
  let t := byteAt l 1 / 8
  if l.length < 2 then none
  else if t ≤ 27 then some [.whole l]
  else if t = 28 then aggUnits l.length (l.drop 2)
  else if t = 29 ∧ 3 ≤ l.length then
    let h := byteAt l 2
    let start := 128 ≤ h
    let head := if start then slice l 0 1 ++ natBe 1 (h % 32 * 8 + byteAt l 1 % 8) else []
    some [pieceOf start (h / 64 % 2 == 1) (head ++ l.drop 3)]
  else none

/-- The elements of an AV1 packet: `w` of them, the last without a length, or all with one when `w` is 0. -/
def av1Elems : Nat → Nat → List Byte → Option (List (List Byte))
  | 0, _, _ => none
  | _, _, [] => some []
  | k + 1, w, l =>
    if w = 1 then some [l]
    else
      let z := readLeb 8 0 l
      if z.2 = 0 ∨ l.length < z.2 + z.1 then none
      else (av1Elems k (w - 1) (l.drop (z.2 + z.1))).map (fun r => slice l z.2 z.1 :: r)

/-- The AOM RTP payload format: Z continues the first element, Y leaves the last one open. -/
def depackAv1 (l : List Byte) : Option (List Piece) :=
  let h := byteAt l 0
  match av1Elems (l.length + 1) (h / 16 % 4) (l.drop 1) with
  | none => none
  | some es => some ((List.range es.length).map (fun i =>
      pieceOf (!(i == 0 && decide (128 ≤ h))) (!(i + 1 == es.length && h / 64 % 2 == 1)) ((es[i]?).getD [])))

/-- What a packet's payload contributes under a standard; none for a structure that Table 3-6 does not accept. -/
def depack (std : Nat) (l : List Byte) : Option (List Piece) :=
  if l.isEmpty then none
  else match std with
    | 0 => depackAvc l
    | 1 => depackHevc l
    | 2 => depackVvc l
    | _ => depackAv1 l

/-! ### Access units (R119, R120) -/

/-- An AV1 OBU in the low-overhead format with its size; none for one that ingest drops: temporal delimiters (the chain
has its own), tile lists, padding, and spatial layers above 0. -/
def obuForm (u : List Byte) : Option (List Byte) :=
  let h := byteAt u 0
  let t := h / 8 % 16
  let ext := h / 4 % 2
  let z := if h / 2 % 2 = 1 then (readLeb 8 0 (u.drop (1 + ext))).2 else 0
  let body := u.drop (1 + ext + z)
  if u.isEmpty ∨ t = 2 ∨ t = 8 ∨ t = 15 ∨ (ext = 1 ∧ byteAt u 1 / 8 % 4 ≠ 0) then none
  else some (natLe 1 (if h / 2 % 2 = 1 then h else h + 2) ++ slice u 1 ext ++ leb128 8 body.length ++ body)

/-- A unit in the form of R119. -/
def unitForm (std : Nat) (u : List Byte) : List Byte :=
  if std = 3 then (obuForm u).getD [] else natBe 4 1 ++ u

/-- A NAL unit payload without its emulation prevention bytes; `z` zero bytes stand before it. -/
def unescape : Nat → List Byte → List Byte
  | _, [] => []
  | z, b :: r =>
    if 2 ≤ z ∧ b = 3 then unescape 0 r
    else b :: unescape (if b = 0 then z + 1 else 0) r

/-- A number of an SEI message header: 255 for each byte of 255, and the byte that ends it; with the bytes after it. -/
def seiNum : Nat → List Byte → Option (Nat × List Byte)
  | _, [] => none
  | v, b :: r => if b.toNat = 255 then seiNum (v + 255) r else some (v + b.toNat, r)

/-- A recovery point message among the SEI messages of a payload. -/
def seiMessages : Nat → List Byte → Bool
  | 0, _ => false
  | k + 1, l =>
    match seiNum 0 l with
    | none => false
    | some t =>
      match seiNum 0 t.2 with
      | none => false
      | some n => t.1 == 6 || seiMessages k (n.2.drop n.1)

/-- An SEI payload carries a recovery point message. -/
def seiRecovery (l : List Byte) : Bool := seiMessages l.length (unescape 0 l)

/-- A unit makes its access unit a random-access point (Table 5-3). AV1 tells it by the N bit of the packet. -/
def unitRap (std : Nat) (u : List Byte) : Bool :=
  match std with
  | 0 =>
    let t := byteAt u 0 % 32
    t == 5 || (t == 6 && seiRecovery (u.drop 1))
  | 1 =>
    let t := byteAt u 0 / 2 % 64
    (decide (16 ≤ t) && decide (t ≤ 23)) || (t == 39 && seiRecovery (u.drop 2))
  | 2 =>
    let t := byteAt u 1 / 8
    decide (7 ≤ t) && decide (t ≤ 10)
  | _ => false

/-- An access unit as it is put together. -/
structure Built where
  bytes : List Byte := []
  /-- the fragments of a unit that has begun -/
  open_ : Option (List Byte) := none
  loss : Bool := false
  rap : Bool := false
  deriving DecidableEq, Repr

/-- A whole unit joins the access unit. -/
def Built.unit (b : Built) (std : Nat) (u : List Byte) : Built :=
  { b with bytes := b.bytes ++ unitForm std u, rap := b.rap || unitRap std u }

/-- A unit whose fragments are not all there is dropped (R120). -/
def Built.drop (b : Built) : Built := if b.open_.isSome then { b with open_ := none, loss := true } else b

/-- One piece joins the access unit. -/
def Built.piece (std : Nat) (b : Built) (p : Piece) : Built :=
  match p with
  | .whole u => b.drop.unit std u
  | .first u => { b.drop with open_ := some u }
  | .mid u =>
    match b.open_ with
    | none => { b with loss := true }
    | some v => { b with open_ := some (v ++ u) }
  | .last u =>
    match b.open_ with
    | none => { b with loss := true }
    | some v => ({ b with open_ := none } : Built).unit std (v ++ u)

/-- Put packets together in order; `prev` is the number before the next packet, none before the first. -/
def buildPkts (std : Nat) : Option Nat → Built → List Pkt → Built
  | _, b, [] => b.drop
  | prev, b, p :: r =>
    let gap := match prev with
      | none => false
      | some n => n + 1 != p.seq
    let b := if gap then b.drop else b
    let n := std == 3 && byteAt p.data 0 / 8 % 2 == 1
    let b := ((depack std p.data).getD []).foldl (Built.piece std) b
    buildPkts std (some p.seq) { b with rap := b.rap || n } r

/-- The payload of an access unit that spans from `base` on. -/
def buildAu (std base : Nat) (l : List Pkt) : Built :=
  let head : List Byte := if std = 3 then [0x12#8, 0x00#8] else []
  buildPkts std (if base = 0 then none else some (base - 1)) { bytes := head } l

/-- The bytes that the packets held of an access unit fill so far, a unit that has begun among them. -/
def heldBytes (std : Nat) (l : List Pkt) : Nat :=
  let b := l.foldl (fun b p => ((depack std p.data).getD []).foldl (Built.piece std) b)
    ({ bytes := if std = 3 then [0x12#8, 0x00#8] else [] } : Built)
  b.bytes.length + (match b.open_ with | none => 0 | some u => (unitForm std u).length)

end Sys2Proof.Machine
end

