-- ==== Sys2Proof/Machine/Layout.lean ====
section
/-! DEFINITION. The layout of a decoded picture in its bobbin (R165, Table 4-9), the extent guard (R213–R215) and the
fields of the picture record that other units read (Table 4-10). -/

namespace Sys2Proof.Machine

open R

/-- A number rounded up to a multiple. -/
def alignUp (v m : Nat) : Nat := cdiv v m * m

/-- The areas of a picture bobbin (Table 4-9). -/
structure Layout where
  pitchY : Nat := 0
  pitchC : Nat := 0
  offY : Nat := 0x1000
  offCb : Nat := 0
  offCr : Nat := 0
  offMeta : Nat := 0
  /-- end of the last plane -/
  planes : Nat := 0
  /-- end of the picture -/
  total : Nat := 0
  deriving DecidableEq, Repr

/-- Table 4-9. `chroma` as in the record: 0 4:0:0, 1 4:2:0, 2 4:2:2, 3 4:4:4; `motion` false for a grain output (R174). -/
def layoutOf (w h chroma depth : Nat) (planar c16 motion : Bool) : Layout :=
  let wa := alignUp w 128
  let ha := alignUp h 128
  let b := if 8 < depth ∨ c16 then 2 else 1
  let sx := if chroma = 3 then 1 else 2
  let sy := if chroma = 1 then 2 else 1
  let pitchY := alignUp (wa * b) 256
  let endY := 0x1000 + alignUp (pitchY * ha) 4096
  let pitchC := if chroma = 0 then 0 else if planar then alignUp (wa / sx * b) 256 else alignUp (2 * (wa / sx) * b) 256
  let sizeC := alignUp (pitchC * (ha / sy)) 4096
  let offCr := if chroma ≠ 0 ∧ planar then endY + sizeC else 0
  let area := if chroma = 0 then endY else if planar then endY + 2 * sizeC else endY + sizeC
  let lastC := if chroma = 0 then 0x1000 + pitchY * ha
    else if planar then offCr + pitchC * (ha / sy) else endY + pitchC * (ha / sy)
  { pitchY := pitchY, pitchC := pitchC, offY := 0x1000, offCb := if chroma = 0 then 0 else endY, offCr := offCr
    offMeta := if motion then area else 0, planes := lastC
    total := if motion then area + wa * ha / 4 else lastC }

/-- A coordinate held inside a picture of `n` columns or rows (R199, R268). -/
def clampTo (n : Nat) (v : Int) : Nat := min (n - 1) v.toNat

/-- The extent guard's check of one write (R214): its area of Table 4-9 and the recorded bobbin. -/
def guardOk (l : Layout) (bobSize : Nat) (w : PicWrite) : Bool :=
  let lo := w.off
  let hi := w.off + w.data.length
  decide (0 ≤ lo) && decide (hi ≤ bobSize) &&
    (match w.kind with
    | .sample => decide ((l.offY : Int) ≤ lo) && decide (hi ≤ l.planes)
    | .motion => decide (l.offMeta ≠ 0) && decide ((l.offMeta : Int) ≤ lo) && decide (hi ≤ l.total)
    | .record => decide (hi ≤ 0x100))

/-- A little-endian field of a picture record in memory. -/
def recField (rec : List Byte) (off n : Nat) : Nat := leNat (slice rec off n)

/-- The nearest device time to `t` whose 90 kHz count equals an RTP timestamp (R128). -/
def refTime (t ts : Nat) : Nat :=
  let q := t * 9 / 100000 / 2 ^ 32
  let near := fun (k : Nat) =>
    let c := 2 ^ 32 * k + ts % 2 ^ 32
    max (cdiv (c * 100000) 9) (min (cdiv ((c + 1) * 100000) 9 - 1) t)
  (minBy (fun x => if x ≤ t then t - x else x - t) ((List.range (q + 2)).drop (q - 1) |>.map near)).getD t

end Sys2Proof.Machine
end

