-- ==== Sys2Proof/Machine/Ingest.lean ====
section
/-! DEFINITION. Flows, spans and access units (R110–R134): the merge point, bobbins for packets, completion, closing, and the
hand-over of a chain to its context. -/

namespace Sys2Proof.Machine

open R

/-- The master ID of ingest receive (Table 1-1). -/
def mING : Nat := 0x20

/-- The record of a flow entry. -/
def State.flow (s : State) (f : Nat) : Flow := smGet {} s.ing.flows f

/-- Change the record of a flow entry. -/
def State.modFlow (s : State) (f : Nat) (g : Flow → Flow) : State :=
  { s with ing := { s.ing with flows := smSet {} s.ing.flows f (g (s.flow f)) } }

/-- The merge point of an entry: the path-A entry of a merged pair, else the entry itself (R131). -/
def State.mergePoint (s : State) (f : Nat) : Nat :=
  if s.on (ING_FLOW_CTL_MERGE f) ∧ s.on (ING_FLOW_CTL_PATH f) then s.rd (ING_FLOW_CTL_PAIR f) else f

/-- Payload bytes a bobbin of a context's access-unit pool holds. -/
def State.auRoom (s : State) (n : Nat) : Nat := s.poolSize (s.rd (STC_POOLS_AU n)) - 64

/-! ### Posting (R121, R127–R130) -/

/-- Where a chain comes from: the master that writes it, the flow entry whose counters and prefix apply (none for host-fed
data) and the playout delay. -/
structure AuFrom where
  master : Nat := 0x20
  flow : Option Nat := none
  playout : Nat := 0
  st2110 : Bool := false
  deriving DecidableEq, Repr

/-- The playout time of an access unit (R128): none for LIVE and for a delay of 0. -/
def State.playoutDue (s : State) (n : Nat) (a : AuFrom) (c : Chain) : Option Nat :=
  if s.ctxClass n = 0 ∨ a.playout = 0 then none
  else some ((if a.st2110 then refTime c.tFirst c.rtpTs else c.tFirst) + a.playout)

/-- A chain joins the access units that wait to be posted; `size` bytes in all, of which some may still be copied. -/
def State.queueAu (s : State) (n : Nat) (a : AuFrom) (c : Chain) (size : Nat := 0) : State :=
  let due := s.playoutDue n a c
  s.modCtx n (fun x => { x with toPost := x.toPost ++ [{ job := { ctx := n, chain := c, r := c.tRelease, size := size }, due := due }] })

/-- A context that waits for a random-access point discards an access unit that is none (R129). -/
def State.rapHolds (s : State) (n : Nat) (rap : Bool) : Bool := s.on (STC_DAMAGE_RAP_WAIT n) && !rap

/-! ### Writing an access unit -/

/-- The prefix bytes that go ahead of the next access unit of a context, read as the memory holds them (R121). Which entry's prefix a
merged pair uses the spec leaves open: the path-A entry's (DESIGN CHOICE, log entry 78). -/
def State.prefixOf (s : State) (n f : Nat) : List Byte × State :=
  if (s.ctx n).pfxDue ∧ s.rd (ING_FLOW_PFX_LEN_BYTES f) ≠ 0 then
    let o := s.busRead mING 0 (2 ^ 32 * s.rd (ING_FLOW_PFX_HI_ADDR f) + s.rd (ING_FLOW_PFX_LO_ADDR f))
      (s.rd (ING_FLOW_PFX_LEN_BYTES f))
    o.2
  else ([], s)

/-- 64 MiB, where an access unit is truncated (R127). -/
def auMax : Nat := 67108864

/-- Give back the bobbins that a flow holds beyond what its open access units can need. (DEDUCED, log entry 37.) -/
def State.spareBobs (s : State) (f keep : Nat) : State :=
  let l := (s.flow f).bobs.drop keep
  (s.modFlow f (fun r => { r with bobs := r.bobs.take keep })).each l (fun b t => t.release mING b.1 b.2)

/-- Write the access unit of packets `l` at merge point `f` and hand it to its context; `lost` numbers of its span are
missing, and `jump` closes it with LOSS (R123). Left open by the spec: whether AU_SEQ counts from 0 or 1, here 1 (DESIGN CHOICE, log
entry 76); what becomes of a packet that straddles the 64 MiB of R127, whose bytes up to the limit stay (DESIGN CHOICE, log entry 77). (DESIGN CHOICE, log entry 76.) -/
def State.writeAu (s : State) (f n lost : Nat) (jump : Bool) (l : List Pkt) : State :=
  let r := s.flow f
  let b := buildAu (s.ctxStd n) (if lost = 0 then 0 else r.base) l
  let pfx := s.prefixOf n f
  let s := pfx.2
  let data := pfx.1 ++ b.bytes
  let trunc := decide (auMax < data.length)
  let data := data.take auMax
  let loss := b.loss || lost != 0 || jump
  let s := s.iff loss (·.bump (ING_FLOW_LOSS_AUS f))
  if s.rapHolds n b.rap then (s.bump (ING_FLOW_DISCARD f) l.length)
  else
    let room := s.auRoom n
    let need := max 1 (cdiv data.length room)
    let onB := fun (p : Pkt) => s.on (ING_FLOW_CTL_PATH p.entry)
    let bobs := r.bobs.take need
    let c : Chain := {
      bobs := bobs, bytes := min data.length (room * bobs.length), loss := loss, trunc := trunc, pfx := !pfx.1.isEmpty
      rap := b.rap, discont := r.discont, pathA := l.any (fun p => !onB p), pathB := l.any onB
      auSeq := (s.ctx n).auSeq + 1, rtpTs := ((l.head?).map (·.ts)).getD 0, tFirst := (minBy id (l.map (·.at_))).getD s.devTime
      tRelease := s.stamp.1, pkts := l.length, lost := lost }
    let s := s.stamp.2.modFlow f (fun r => { r with bobs := r.bobs.drop need, discont := false })
    let s := s.modCtx n (fun x => { x with auSeq := x.auSeq + 1, pfxDue := false })
    let s := (s.wr (STC_DAMAGE_RAP_WAIT n) 0).iff trunc (·.wr (ING_FLOW_STATUS_TRUNC f) 1)
    let s := s.bump (ING_FLOW_AUS f)
    let size := room + 64
    let s := ((s.writePayload mING size bobs 0 data).writeHeaders mING size c).shareChain mING 0 c
    s.queueAu n { master := mING, flow := some f, playout := r.playout, st2110 := s.on (ING_FLOW_CTL_ST2110 f) } c

/-! ### Spans (R124, R125) -/

/-- The end of the oldest open span, the time that established it, and whether nothing can move it: a marker, or the packet held
before a later timestamp, behind which a packet with the marker may still come when a number between the two is missing. (DEDUCED, log entry 37.) -/
def spanEnd : List Pkt → Option (Nat × Nat × Bool)
  | [] => none
  | [p] => if p.marker then some (p.seq, p.at_, true) else none
  | p :: q :: r =>
    if p.marker then some (p.seq, p.at_, true)
    else if p.ts ≠ q.ts ∧ (q.ts + 2 ^ 32 - p.ts) % 2 ^ 32 < 2 ^ 31 then some (p.seq, max p.at_ q.at_, p.seq + 1 == q.seq)
    else spanEnd (q :: r)

/-- Latch the settings of the next access unit (R114). (DEDUCED, log entry 37.) -/
def State.latchFlow (s : State) (f : Nat) : State :=
  let w := s.rd (ING_FLOW_WIN_W f)
  let p := s.rd (ING_FLOW_PLAYOUT_NS f)
  s.modFlow f (fun r => { r with window := w, playout := p })

/-- End the oldest span at `fin`: its packets become an access unit with the missing numbers counted. -/
def State.endSpan (s : State) (f n fin : Nat) (jump : Bool := false) : State :=
  let r := s.flow f
  let l := r.pkts.filter (fun p => decide (p.seq ≤ fin))
  let lost := fin + 1 - r.base - l.length
  let s := s.bump (ING_FLOW_LOST f) lost
  let s := s.writeAu f n lost jump l
  let s := s.modFlow f (fun r => { r with base := fin + 1, last := fin, pkts := r.pkts.filter (fun p => decide (fin < p.seq)) })
  let s := s.latchFlow f
  if (s.flow f).pkts.isEmpty ∧ (s.flow f).parked.isEmpty then s.spareBobs f 0 else s

/-- Complete every oldest span whose numbers are all held. -/
def State.completeSpans (s : State) (f n : Nat) : Nat → State
  | 0 => s
  | k + 1 =>
    let r := s.flow f
    match spanEnd r.pkts with
    | none => s
    | some e =>
      if e.2.2 ∧ (r.pkts.filter (fun p => decide (p.seq ≤ e.1))).length = e.1 + 1 - r.base then
        (s.endSpan f n e.1).completeSpans f n k
      else s

/-- Close every open access unit with LOSS (R123): spans that have an end, then what is left up to the highest number. -/
def State.closeSpans (s : State) (f n : Nat) : Nat → State
  | 0 => s
  | k + 1 =>
    let r := s.flow f
    match r.pkts.getLast? with
    | none => s
    | some p => (s.endSpan f n (match spanEnd r.pkts with | none => p.seq | some e => e.1) true).closeSpans f n k

/-! ### Packets and bobbins (R123, R126) -/

/-- Insert a packet in the order of its number. -/
def insertPkt (p : Pkt) : List Pkt → List Pkt
  | [] => [p]
  | q :: r => if p.seq < q.seq then p :: q :: r else q :: insertPkt p r

/-- The packets held, span by span. -/
def pktSpans : List Pkt → List (List Pkt)
  | [] => []
  | p :: l =>
    match pktSpans l with
    | [] => [[p]]
    | g :: r => if p.marker || ((g.head?).map (·.ts)) != some p.ts then [p] :: g :: r else (p :: g) :: r

/-- The bobbins that packets of open access units need: each span's bytes in bobbins of its own, the first with the
prefix. (DEDUCED, log entry 37.) -/
def State.bobsNeeded (s : State) (f n : Nat) (l : List Pkt) : Nat :=
  let pfx := if (s.ctx n).pfxDue then s.rd (ING_FLOW_PFX_LEN_BYTES f) else 0
  (pktSpans l).zipIdx.foldl (fun a t =>
    let bytes := heldBytes (s.ctxStd n) t.1 + (if t.2 = 0 then pfx else 0)
    a + max 1 (cdiv (min bytes auMax) (s.auRoom n))) 0

/-- The packet is held: it counts, and the spans that are whole now are completed. (DEDUCED, log entry 37.) -/
def State.holdPkt (s : State) (f n : Nat) (p : Pkt) : State :=
  let s := (s.bump (ING_FLOW_PKTS p.entry)).countUnit 0x080 mING 1
  let s := s.iff (s.flow f).pkts.isEmpty (·.latchFlow f)
  let s := s.modFlow f (fun r => { r with pkts := insertPkt p r.pkts, high := max r.high p.seq })
  s.completeSpans f n (s.flow f).pkts.length

/-- Park slots in use (R126). -/
def State.parkSlots (s : State) : Nat :=
  s.ing.flows.foldl (fun a e => a + (e.2.parked.filter (fun q => q.2)).length) 0

/-- Ask for a bobbin for a packet, in WAIT mode when a park slot is free. -/
def State.askBob (s : State) (f n : Nat) (p : Pkt) : State :=
  let slot := decide (s.parkSlots < 64)
  let s := s.modFlow f (fun r => { r with parked := r.parked ++ [(p, slot)] })
  s.poolRequest { master := mING, op := 1, pool := s.rd (STC_POOLS_AU n), wait := slot
                  timeoutUs := max 1 (s.rd ING_RX_CTL_WAIT_TO), forWhom := .ingest f p.seq }

/-- A packet is taken up: it is held at once when the bobbins in hand have room for it, else it waits for one. -/
def State.placePkt (s : State) (f n : Nat) (p : Pkt) : State :=
  let r := s.flow f
  if s.bobsNeeded f n (insertPkt p r.pkts) ≤ r.bobs.length then s.holdPkt f n p else s.askBob f n p

/-- Count a dropped frame (R109). (DEDUCED, log entry 36.) -/
def State.dropFrame (s : State) (lp why : Nat) : State := (s.bump (ING_DROP_CNT lp why)).countUnit 0x081 mING 1

/-- An answer to an allocation of a merge point: the packet that asked is placed, asks again, or is dropped with POOL; one whose span
has been closed meanwhile is STALE (R125). -/
def State.ingAlloc (s : State) (f : Nat) : State :=
  match s.ingAnswer f with
  | (none, _) => s
  | (some (x, a), t) =>
    match (t.flow f).parked.find? (fun q => q.1.seq == x), t.binder f with
    | some q, some n =>
      let t := t.modFlow f (fun r => { r with parked := r.parked.erase q })
      if a.code ≠ 0 then t.dropFrame q.1.lp 14
      else if x < (t.flow f).base then (t.release mING a.addr (a.word / 2 ^ 32)).dropFrame q.1.lp 13
      else (t.modFlow f (fun r => { r with bobs := r.bobs ++ [(a.addr, a.word / 2 ^ 32)] })).placePkt f n q.1
    | _, _ => t.iff (a.code == 0) (·.release mING a.addr (a.word / 2 ^ 32))

/-- ING_ALLOC_DONE: at merge point `f`. -/
def execIngAllocDone (f : Fin 256) (s : State) : Host.Outcome State Fault Refusal := s.finish (s.ingAlloc f)

/-- A sequence number extended beyond 16 bits, nearest to the highest number held, or to the last one written. -/
def extSeq (r : Flow) (seq : Nat) : Nat :=
  let h := if r.started then r.high else r.last
  if h = 0 then 2 ^ 32 + seq
  else
    let d := (seq + 65536 - h % 65536) % 65536
    if d < 32768 then h + d else h + d - 65536

/-- A packet of a bound, RUNNING flow reaches its merge point (R123, R131). A span with no access unit before it begins, as the spec leaves
open, at the first packet received, and earlier numbers are STALE (DESIGN CHOICE, log entry 75). -/
def State.mergePkt (s : State) (lp f n : Nat) (p : Pkt) : State :=
  let r := s.flow f
  let x := extSeq r p.seq
  let p := { p with seq := x, lp := lp }
  if ¬ r.started ∧ r.last ≠ 0 ∧ x ≤ r.last then s.dropFrame lp 13
  else if ¬ r.started then
    (s.modFlow f (fun q => { q with started := true, base := x, high := x })).placePkt f n p
  else if x < r.base then s.dropFrame lp 13
  else if r.pkts.any (fun q => q.seq == x) ∨ r.parked.any (fun q => q.1.seq == x) then s.bump (ING_FLOW_DUPS p.entry)
  else if r.high + 1024 < x then
    let s := s.closeSpans f n r.pkts.length
    let s := (s.modFlow f (fun q => { q with base := x, high := x, discont := true })).wr (ING_FLOW_STATUS_SEQ_JUMP f) 1
    s.placePkt f n p
  else s.placePkt f n p

/-! ### Time -/

/-- The oldest span is closed when W has passed since its end was known (R125). -/
def State.auClose (s : State) (f : Nat) : State :=
  match s.binder f, spanEnd (s.flow f).pkts with
  | some n, some e =>
    if e.2.1 + (s.flow f).window * 10000 ≤ s.devTime then
      let s := s.endSpan f n e.1
      s.completeSpans f n (s.flow f).pkts.length
    else s
  | _, _ => s

/-- AU_CLOSE_TIMEOUT: at merge point `f`. -/
def execAuCloseTimeout (f : Fin 256) (s : State) : Host.Outcome State Fault Refusal := s.finish (s.auClose f)

/-- No packet has matched an entry for 50 ms (R134). -/
def State.pathTimeout (s : State) (f : Nat) : State :=
  if s.on (ING_FLOW_STATUS_PATH_UP f) ∧ (s.flow f).lastMatch + 50000000 ≤ s.elapsed then
    (s.wr (ING_FLOW_STATUS_PATH_UP f) 0).wr (ING_FLOW_STATUS_PATH_DOWN f) 1
  else s

/-- PATH_TIMEOUT: of flow entry `f`. -/
def execPathTimeout (f : Fin 256) (s : State) : Host.Outcome State Fault Refusal := s.finish (s.pathTimeout f)

/-- The link state of a logical port (Table 3-2). -/
def State.linkChange (s : State) (lp : Nat) (link pcs fec : Bool) : State :=
  if s.portExists lp then
    let s := s.iff (s.on (ING_PORT_STATUS_LINK lp) != link) (·.wr (ING_PORT_STATUS_LINK_CHG lp) 1)
    ((s.wr (ING_PORT_STATUS_LINK lp) (b2n link)).wr (ING_PORT_STATUS_PCS_LOCK lp) (b2n pcs)).wr
      (ING_PORT_STATUS_FEC_LOCK lp) (b2n fec)
  else s

/-- ETH_LINK_CHANGE: link up, PCS block lock and FEC alignment of logical port `lp`. -/
def execEthLinkChange (lp : Fin 8) (link pcs fec : Bool) (s : State) : Host.Outcome State Fault Refusal :=
  s.finish (s.linkChange lp link pcs fec)

/-- A fence of ingest receive clears its queues (R45): packets held and waiting are gone, their bobbins go back. -/
def State.ingClear (s : State) : State :=
  s.each (s.ing.flows.map (·.1)) (fun f t =>
    let r := t.flow f
    ((t.dropWaits (forFlow f)).modFlow f (fun q => { lastMatch := q.lastMatch, last := q.last })).each r.bobs (fun b u => u.release mING b.1 b.2))

end Sys2Proof.Machine
end

