-- ==== Sys2Proof/Machine/Dma.lean ====
section
/-! DEFINITION. DMA channels (R426–R443, 11_host_interface_and_dma.md) and the access units of host-fed streams
(R153–R156). -/

namespace Sys2Proof.Machine

open R

/-! ### Channels -/

/-- Channel states of Table 11-6. -/
def dmaIDLE : Nat := 0
def dmaRUNNING : Nat := 1
def dmaSTOPPING : Nat := 2
def dmaHALTED : Nat := 3

/-- The record of a channel. -/
def State.chan (s : State) (c : Nat) : DmaSt := smGet {} s.dma c

/-- Change the record of a channel. -/
def State.modChan (s : State) (c : Nat) (f : DmaSt → DmaSt) : State := { s with dma := smSet {} s.dma c (f (s.chan c)) }

/-- The state of a channel. -/
def State.chanState (s : State) (c : Nat) : Nat := s.rd (DMA_STATUS_STATE c)

/-- The number of descriptors in a channel's ring. -/
def State.ringSize (s : State) (c : Nat) : Nat := 2 ^ s.rd (DMA_CTL_LOG2_SIZE c)

/-- The engine of a channel: the write engine for D2H (R436). -/
def State.engineOf (s : State) (c : Nat) : Nat := if s.rd (DMA_CTL_MODE c) = 1 then 0x29 else 0x28

/-- A channel works in STREAM mode. -/
def State.streams (s : State) (c : Nat) : Bool := s.rd (DMA_CTL_MODE c) == 2

/-- The function may issue requests on the link (R416). -/
def State.mastering (s : State) : Bool := s.pcie.bme && !s.pcie.d3

/-- Host bus address of descriptor `i` of a channel. -/
def State.descAddr (s : State) (c i : Nat) : Nat := 2 ^ 32 * s.rd (DMA_RING_HI c) + s.rd (DMA_RING_LO c) + 32 * i

/-- Enter a channel state; BUSY reads 1 while a STOP is in progress. -/
def State.setChan (s : State) (c v : Nat) : State :=
  (s.wr (DMA_STATUS_STATE c) v).wr (DMA_STATUS_BUSY c) (b2n (v == dmaSTOPPING))

/-- Reject a command or a write (R427). -/
def State.dmaReject (s : State) (c : Nat) : State := s.wr (DMA_STATUS_CMD_REJECT c) 1

/-- A write of the ring base or the completion record address: only in IDLE (R427). -/
def State.dmaSetup (s : State) (c : Nat) (F : Fld) (v : Nat) : State :=
  if s.chanState c = dmaIDLE then s.wr F v else s.dmaReject c

/-- ENABLE (R427, Table 11-7). -/
def State.dmaEnable (s : State) (c : Nat) : State :=
  let n := s.rd (DMA_CTL_LOG2_SIZE c)
  if s.chanState c ≠ dmaIDLE ∨ n < 4 ∨ 16 < n ∨ s.rd (DMA_CTL_MODE c) = 3 ∨ s.rd (DMA_RING_LO c) % 64 ≠ 0 ∨
      s.rd (DMA_CREC_LO c) % 16 ≠ 0 then s.dmaReject c
  else
    let s := ((s.wr (DMA_HEAD c) 0).wr (DMA_TAIL c) 0).wr (DMA_STATUS_CAUSE c) 0
    (s.modChan c (fun _ => {})).setChan c dmaRUNNING

/-- STOPPING ends when nothing started is left (R443). -/
def State.stopEnd (s : State) (c : Nat) : State :=
  if s.chanState c = dmaSTOPPING ∧ (s.chan c).started = [] then s.setChan c dmaIDLE else s

/-- STOP (R443). -/
def State.dmaStop (s : State) (c : Nat) : State :=
  if s.chanState c = dmaRUNNING ∨ s.chanState c = dmaHALTED then (s.setChan c dmaSTOPPING).stopEnd c else s.dmaReject c

/-- RESUME (R441): the descriptors from HEAD on are fetched again. -/
def State.dmaResume (s : State) (c : Nat) : State :=
  if s.chanState c = dmaHALTED then
    let h := s.rd (DMA_HEAD c)
    (s.modChan c (fun r => { r with nextIdx := h, stopAt := none })).setChan c dmaRUNNING
  else s.dmaReject c

/-- A write of `DMA_CTL`: rejected while BUSY; else LOG2_SIZE and MODE are stored in IDLE, elsewhere a write without a command that would
change them is rejected, and a command is taken as the command (R427). (DEDUCED, log entry 43.) -/
def State.dmaCtl (s : State) (c w cmd : Nat) : State :=
  let n := bitsOf w 16 5
  let m := bitsOf w 0 2
  let differs := n != s.rd (DMA_CTL_LOG2_SIZE c) || m != s.rd (DMA_CTL_MODE c)
  let idle := s.chanState c = dmaIDLE
  if s.on (DMA_STATUS_BUSY c) then s.dmaReject c
  else
  let s := if idle then (s.wr (DMA_CTL_LOG2_SIZE c) n).wr (DMA_CTL_MODE c) m else s
  match cmd with
    | 0 => if ¬ idle ∧ differs then s.dmaReject c else s
    | 1 => s.dmaEnable c
    | 2 => s.dmaStop c
    | 3 => s.dmaResume c
    | _ => s.dmaReject c

/-- DMA_NOP: `w` carries the other fields of the word written. -/
def execDmaNop (c : Fin 64) (w : Word) (s : State) : Host.Outcome State Fault Refusal := s.finish (s.dmaCtl c w.toNat 0)
/-- DMA_ENABLE. -/
def execDmaEnable (c : Fin 64) (w : Word) (s : State) : Host.Outcome State Fault Refusal := s.finish (s.dmaCtl c w.toNat 1)
/-- DMA_STOP. -/
def execDmaStop (c : Fin 64) (w : Word) (s : State) : Host.Outcome State Fault Refusal := s.finish (s.dmaCtl c w.toNat 2)
/-- DMA_RESUME. -/
def execDmaResume (c : Fin 64) (w : Word) (s : State) : Host.Outcome State Fault Refusal := s.finish (s.dmaCtl c w.toNat 3)

/-- A write of TAIL (R428, R429). -/
def State.dmaTail (s : State) (c w : Nat) : State :=
  if s.ringSize c ≤ w % 65536 then s.dmaReject c
  else
    let v := s.stamp
    (v.2.wr (DMA_TAIL c) w).modChan c (fun r => { r with bells := r.bells ++ [(w % 65536, v.1)] })

/-- DMA_TAIL_WRITE: the word written. -/
def execDmaTailWrite (c : Fin 64) (w : Word) (s : State) : Host.Outcome State Fault Refusal := s.finish (s.dmaTail c w.toNat)

/-! ### Access units of a STREAM channel -/

/-- Change the chain of a host-fed job wherever the job stands. -/
def State.jobChain (s : State) (n seq : Nat) (f : Chain → Chain) : State :=
  let g := fun (j : Job) => if j.ctx = n ∧ j.chain.host ∧ j.chain.auSeq = seq then { j with chain := f j.chain } else j
  let h := fun (r : RunJob) => { r with job := g r.job }
  let s := s.modCtx n (fun c => { c with
    toPost := c.toPost.map (fun t => { t with job := g t.job }), posted := c.posted.map g })
  { s with spds := s.spds.map (fun e => (e.1, { e.2 with
      cur := e.2.cur.map h, next := e.2.next.map h, suspended := e.2.suspended.map h })) }

/-- A job for the access unit is still to read it. -/
def State.jobLeft (s : State) (n seq : Nat) : Bool :=
  let g := fun (j : Job) => j.ctx == n && j.chain.host && j.chain.auSeq == seq
  let h := fun (r : RunJob) => g r.job && !r.parsed
  (s.ctx n).toPost.any (fun t => g t.job) || (s.ctx n).posted.any g ||
    s.spds.any (fun e => (e.2.cur.map h).getD false || (e.2.next.map h).getD false || e.2.suspended.any h)

/-- Change an access unit of a channel, and the chain that its posted job holds. -/
def State.modAu (s : State) (c n seq : Nat) (f : Chain → Chain) : State :=
  (s.modChan c (fun r => { r with aus := r.aus.map (fun a =>
    if a.chain.auSeq = seq then { a with chain := f a.chain } else a) })).jobChain n seq f

/-- The payload of an OBU that carries its size. -/
def obuBody (o : List Byte) : List Byte :=
  let ext := byteAt o 0 / 4 % 2
  o.drop (1 + ext + (readLeb 8 0 (o.drop (1 + ext))).2)

/-- The first frame of an AV1 temporal unit is a key frame with show_frame 1; with reduced_still_picture_header every frame is. -/
def av1Rap (data : List Byte) : Bool :=
  let l := obus data.length data
  let kind := fun (o : List Byte) => byteAt o 0 / 8 % 16
  let still := match l.find? (fun o => kind o == 1) with
    | none => false
    | some o => byteAt (obuBody o) 0 / 8 % 2 == 1
  match l.find? (fun o => kind o == 3 || kind o == 6) with
  | none => false
  | some o => still || byteAt (obuBody o) 0 / 16 == 1

/-- Host-fed data begin with a random-access point of Table 5-3. (DEDUCED, log entry 43.) -/
def hostRap (std : Nat) (data : List Byte) : Bool :=
  if std = 3 then av1Rap data
  else (nalUnits [] data).any (unitRap std)

/-- Post an access unit without waiting for the copy (R154). -/
def State.postHost (s : State) (c n seq : Nat) : State :=
  match (s.chan c).aus.find? (fun a => a.chain.auSeq == seq) with
  | none => s
  | some a =>
    (s.modChan c (fun r => { r with aus := r.aus.map (fun x => if x.chain.auSeq = seq then { x with posted := true } else x) })).queueAu n
      { master := 0x28 } a.chain a.size

/-- The bobbin size of a context's access-unit pool. -/
def State.auSize (s : State) (n : Nat) : Nat := s.poolSize (s.rd (STC_POOLS_AU n))

/-- An access unit is complete: its header is written with COMPLETE and its bobbins are shared; one for which no job is left,
or that a context waiting for a random-access point discards, is released (R129, R130, R156). -/
def State.hostComplete (s : State) (c n : Nat) (a : HostAu) : State :=
  let d := s.readChain 0x28 a.chain
  let ch := { a.chain with complete := true, rap := hostRap (s.ctxStd n) d.1 }
  let s := d.2.modAu c n ch.auSeq (fun _ => ch)
  let s := (s.writeHeaders 0x28 (s.auSize n) ch).shareChain 0x28 0 ch
  let drop := fun (s : State) => s.modChan c (fun r => { r with aus := r.aus.filter (fun x => x.chain.auSeq != ch.auSeq) })
  if a.posted then
    let s := if s.jobLeft n ch.auSeq then s else s.releaseChain 0x28 ch
    drop s
  else if s.rapHolds n ch.rap then drop (s.releaseChain 0x28 ch)
  else
    let s := s.wr (STC_DAMAGE_RAP_WAIT n) 0
    let next := ((s.chan c).aus.filter (fun x => x.whole && !x.posted && x.chain.auSeq != ch.auSeq)).map (fun x => x.chain.auSeq)
    (drop (s.postHost c n ch.auSeq)).each next (fun q t => t.postHost c n q)

/-- Close an access unit with LOSS at the bytes copied (R153, R440). -/
def State.hostLoss (s : State) (c n seq : Nat) : State :=
  let s := s.modAu c n seq (fun ch => { ch with loss := true })
  match (s.chan c).aus.find? (fun a => a.chain.auSeq == seq) with
  | none => s
  | some a => s.hostComplete c n a

/-- Bobbins for an access unit, one after the other, each with one WAIT allocation: `some true` when there are enough,
`some false` when one was refused, `none` while one is parked. -/
def State.hostBobs (s : State) (c n seq need : Nat) : Nat → Option Bool × State
  | 0 => (some true, s)
  | k + 1 =>
    match (s.chan c).aus.find? (fun a => a.chain.auSeq == seq) with
    | none => (some false, s)
    | some a =>
      if need ≤ a.chain.bobs.length then (some true, s)
      else
        let s := if (s.chan c).asked then s
          else (s.modChan c (fun r => { r with asked := true })).poolRequest {
            master := 0x28, op := 1, pool := s.rd (STC_POOLS_AU n), wait := true
            timeoutUs := max 1 (s.rd ING_RX_CTL_WAIT_TO), forWhom := .stream c }
        match s.takeAnswer (.stream c) with
        | (none, _) => (none, s)
        | (some r, t) =>
          let t := t.modChan c (fun r => { r with asked := false })
          if r.code = 0 then
            (t.modAu c n seq (fun ch => { ch with bobs := ch.bobs ++ [(r.addr, r.word / 2 ^ 32)] })).hostBobs c n seq need k
          else (some false, t)

/-- Append bytes to an access unit's chain as far as its bobbins and the 64 MiB of R127 have room; how many. The header is
written with the payload (R439). -/
def State.hostAppend (s : State) (c n seq : Nat) (data : List Byte) : Nat × State :=
  match (s.chan c).aus.find? (fun a => a.chain.auSeq == seq) with
  | none => (0, s)
  | some a =>
    let size := s.auSize n
    let room := min auMax ((size - 64) * a.chain.bobs.length) - a.chain.bytes
    let part := data.take room
    let s := s.writePayload 0x28 size a.chain.bobs a.chain.bytes part
    let trunc := decide (auMax < a.chain.bytes + data.length)
    let s := s.modAu c n seq (fun ch => { ch with bytes := ch.bytes + part.length, trunc := ch.trunc || trunc })
    let ch := (((s.chan c).aus.find? (fun a => a.chain.auSeq == seq)).map (·.chain)).getD a.chain
    (part.length, s.writeHeaders 0x28 size ch)

/-! ### Fetching (R430–R432, R437) -/

/-- A descriptor from its 32 bytes. -/
def descOf (i : Nat) (l : List Byte) : Desc :=
  { index := i, hostAddr := leNat (slice l 0 8), devAddr := leNat (slice l 8 8), len := leNat (slice l 16 4)
    word := leNat (slice l 20 4) }

/-- The flags of a descriptor (Table 11-8). -/
def Desc.own (d : Desc) : Bool := bitSet d.word 0
def Desc.barrier (d : Desc) : Bool := bitSet d.word 1
def Desc.ns (d : Desc) : Bool := bitSet d.word 2
def Desc.eoau (d : Desc) : Bool := bitSet d.word 3
def Desc.irq (d : Desc) : Bool := bitSet d.word 4
def Desc.crec (d : Desc) : Bool := bitSet d.word 5

/-- The descriptor is invalid, or not the device's (R430, R432). (DEDUCED, log entry 43.) -/
def badDesc (stream : Bool) (d : Desc) : Bool :=
  !d.own || d.len == 0 || decide (2 ^ 24 ≤ d.len) || d.word % 65536 / 64 != 0 || decide (2 ^ 64 < d.hostAddr + d.len) ||
    decide (2 ^ 41 ≤ d.devAddr) || (!stream && decide (winBase ≤ d.devAddr) && decide (d.devAddr < winEnd))

/-- The doorbell that made descriptor `i` visible: the first whose TAIL lies beyond it, in the ring's order from HEAD. -/
def State.bellOf (s : State) (c i : Nat) : Nat :=
  let n := s.ringSize c
  let h := s.rd (DMA_HEAD c)
  let far := fun (t : Nat) => (t + n - h) % n
  match (s.chan c).bells.find? (fun b => decide ((i + n - h) % n < far b.1)) with
  | some b => b.2
  | none => s.devTime

/-- Forget the doorbells that fetching has passed. -/
def State.dropBells (s : State) (c i : Nat) : State :=
  let n := s.ringSize c
  let h := s.rd (DMA_HEAD c)
  s.modChan c (fun r => { r with bells := r.bells.filter (fun b => decide ((i + n - h) % n < (b.1 + n - h) % n)) })

/-- An error ends a descriptor: no later one starts. (DEDUCED, log entry 43.) -/
def State.chanError (s : State) (c status addr access : Nat) : State :=
  s.modChan c (fun r => { r with stopAt := r.stopAt.orElse (fun _ => some (status, addr, access)) })

/-- A descriptor of a STREAM channel starts: it joins the access unit being built or begins one, and EOAU posts that; it is
discarded when no RUNNING context is bound (R153, R154, R431). (DESIGN CHOICE, log entry 76.) -/
def State.startStream (s : State) (c : Nat) (d : Desc) : State :=
  let put := fun (s : State) (d : Desc) => s.modChan c (fun r => { r with started := r.started ++ [d] })
  let discard := fun (s : State) => put s.stamp.2 { d with ended := some (1, d.len), tDone := s.stamp.1 }
  match s.chanCtx c with
  | none => discard s
  | some n =>
    if s.ctxState n ≠ ctxRUNNING then discard (s.modChan c (fun r => { r with skip := r.skip && !d.eoau }))
    else if (s.chan c).skip then discard (s.modChan c (fun r => { r with skip := !d.eoau }))
    else
      let s := match (s.chan c).aus.find? (fun a => !a.whole) with
        | some _ => s
        | none =>
          let seq := (s.ctx n).auSeq + 1
          let v := s.stamp
          let a : HostAu := { chain := { host := true, complete := false, auSeq := seq, tFirst := v.1 } }
          (v.2.modCtx n (fun x => { x with auSeq := seq })).modChan c (fun r => { r with aus := r.aus ++ [a] })
      let seq := (((s.chan c).aus.find? (fun a => !a.whole)).map (fun a => a.chain.auSeq)).getD 0
      let bell := s.bellOf c d.index
      let s := s.modAu c n seq (fun ch => { ch with pkts := ch.pkts + 1, tRelease := bell })
      let s := s.modChan c (fun r => { r with aus := r.aus.map (fun a => if a.chain.auSeq = seq then { a with size := a.size + d.len } else a) })
      let s := put s { d with au := seq }
      if d.eoau then
        let s := s.modChan c (fun r => { r with aus := r.aus.map (fun a => if a.chain.auSeq = seq then { a with whole := true } else a) })
        if s.on (STC_DAMAGE_RAP_WAIT n) then s else s.postHost c n seq
      else s

/-- One fetched descriptor ends BAD_DESC or starts. -/
def State.descStart (s : State) (c : Nat) (d : Desc) : State :=
  let s := s.modChan c (fun r => { r with nextIdx := (d.index + 1) % s.ringSize c })
  if badDesc (s.streams c) d then
    let a := s.descAddr c d.index
    let v := s.stamp
    (v.2.modChan c (fun r => { r with started := r.started ++ [{ d with ended := some (3, 0), tDone := v.1 }] })).chanError c 3 a 3
  else if s.streams c then (s.startStream c d).dropBells c d.index
  else (s.modChan c (fun r => { r with started := r.started ++ [d] })).dropBells c d.index

/-- The channel belongs to a LIVE host-fed context. -/
def State.liveFed (s : State) (c : Nat) : Bool :=
  s.streams c && (match s.chanCtx c with | none => false | some n => s.ctxClass n == 0)

/-- The read engine serves the channels of LIVE host-fed contexts that have such work ahead of the others (R155): this one's turn has
come. (DEDUCED, log entry 61.) -/
def State.ahead (s : State) (c : Nat) (work : Nat → Bool) : Bool :=
  s.engineOf c == 0x29 || s.liveFed c || !(s.dma.any (fun e => work e.1 && s.liveFed e.1))

/-- The channel has descriptors to fetch: RUNNING, mastering, its engine not fenced, no error has ended a descriptor, fewer than 16
started and TAIL not reached. -/
def State.canFetch (s : State) (c : Nat) : Bool :=
  s.chanState c == dmaRUNNING && s.mastering && s.unitUp (s.engineOf c) && (s.chan c).stopAt.isNone &&
    decide ((s.chan c).started.length < 16) && (s.chan c).nextIdx != s.rd (DMA_TAIL c)

/-- The channel may fetch now. -/
def State.mayFetch (s : State) (c : Nat) : Bool := s.canFetch c && s.ahead c s.canFetch

/-- Fetched descriptors start in ring order while the channel may take more. -/
def State.descsIn (s : State) (c : Nat) : List (List Byte) → State
  | [] => s
  | l :: r => if s.mayFetch c then (s.descStart c (descOf (s.chan c).nextIdx l)).descsIn c r else s

/-! ### Write-back (R433, R440) -/

/-- A write-back in ring order: bytes 24–31, then bytes 20–23 with OWN 0, HEAD, the completion record, DONE. -/
def State.writeBack (s : State) (c : Nat) (d : Desc) (status len : Nat) : State :=
  let a := s.descAddr c d.index
  let head := (d.index + 1) % s.ringSize c
  let s := s.hostWrite (a + 24) (natLe 4 (status + len * 256) ++ natLe 4 (d.tDone % 2 ^ 32))
  let s := s.hostWrite (a + 20) (natLe 4 (withoutBit d.word 0))
  let s := s.wr (DMA_HEAD c) head
  let s := s.iff d.crec (fun t => t.hostWrite (2 ^ 32 * t.rd (DMA_CREC_HI c) + t.rd (DMA_CREC_LO c))
    (natLe 4 head ++ natLe 4 (status + d.word / 65536 * 65536) ++ natLe 8 d.tDone))
  let s := s.iff d.irq (·.wr (DMA_STATUS_DONE c) 1)
  let moved := (s.chan c).rest + (if status = 1 then 0 else len)
  let s := ((s.bump (DMA_DESC_CNT c)).bump (DMA_BYTES c) (moved / 64)).modChan c (fun r => { r with rest := moved % 64 })
  s.countUnit 0x090 (s.engineOf c) 1

/-- Write back every ended descriptor at the front. -/
def State.writeBacks (s : State) (c : Nat) : Nat → State
  | 0 => s
  | k + 1 =>
    match (s.chan c).started with
    | [] => s
    | d :: rest =>
      match d.ended with
      | none => s
      | some e => ((s.modChan c (fun r => { r with started := rest })).writeBack c d e.1 e.2).writeBacks c k

/-- Close every access unit of a channel with LOSS. (DEDUCED, log entry 43.) -/
def State.closeHostAus (s : State) (c : Nat) : State :=
  match s.chanCtx c with
  | none => s
  | some n =>
    let s := s.modChan c (fun r => { r with aus := r.aus.map (fun a => { a with whole := true }) })
    s.each ((s.chan c).aus.map (fun a => a.chain.auSeq)) (fun q t => t.hostLoss c n q)

/-- With nothing started left, an error halts the channel (R440) and a STOP ends. -/
def State.chanSettle (s : State) (c : Nat) : State :=
  let s := s.writeBacks c (s.chan c).started.length
  if (s.chan c).started ≠ [] then s
  else match (s.chan c).stopAt with
    | none => s.stopEnd c
    | some e =>
      let n := s.chanCtx c
      let s := (s.iff (s.streams c) (·.closeHostAus c)).wr (DMA_STATUS_CAUSE c) e.1
      let s := (s.modChan c (fun r => { r with stopAt := none })).wr (DMA_STATUS_HALT c) 1
      let f : FaultReq := { cls := 11, level := some 1, master := s.engineOf c, access := e.2.2, addr := e.2.1 }
      let s := s.raise (match n with
        | some m => if s.streams c then { f with level := some 2, ctx := m, names := true } else f
        | none => f)
      if s.chanState c = dmaSTOPPING then s.setChan c dmaIDLE else s.setChan c dmaHALTED

/-- The read of the descriptors from the next index towards TAIL: up to 8, not past the ring's end nor the 16 started, with No Snoop clear
(R432, R434, R437). -/
def State.descAsk (s : State) (c : Nat) : State :=
  let n := s.ringSize c
  let i := (s.chan c).nextIdx
  let k := min 8 (min (n - i) (min (16 - (s.chan c).started.length) ((s.rd (DMA_TAIL c) + n - i) % n)))
  s.hostAsk (s.descAddr c i) (32 * k) false

/-- Fetched descriptors arrive; a fetch that failed on the link halts the channel at HEAD with HOST_ERROR. -/
def State.descFetched (s : State) (c : Nat) (err : Bool) (l : List (List Byte)) : State :=
  if ¬ s.mayFetch c then s
  else if err then ((s.descAsk c).chanError c 4 (s.descAddr c (s.chan c).nextIdx) 3).chanSettle c
  else ((s.descAsk c).descsIn c (l.take 8)).chanSettle c

/-- DESC_FETCHED: channel, whether the read failed, and the 32-byte descriptors from the next index on, up to 8. -/
def execDescFetched (c : Fin 64) (err : Bool) (descs : List (List Byte)) (s : State) : Host.Outcome State Fault Refusal :=
  s.finish (s.descFetched c err descs)

/-! ### Transfers (R433–R438) -/

/-- Copy bytes into the bobbin address space in pieces that do not cross 4 KiB; the code, how many went in, and where it
failed. -/
def State.copyIn (s : State) (master : Nat) : Nat → Nat → List Byte → Nat → Nat × Nat × Nat × State
  | 0, a, _, n => (0, n, a, s)
  | k + 1, a, l, n =>
    if l.isEmpty then (0, n, a, s)
    else
      let m := min l.length (4096 - a % 4096)
      let o := s.busWrite master a (l.take m)
      if o.1 = 0 then o.2.copyIn master k (a + m) (l.drop m) (n + m) else (o.1, n, a, o.2)

/-- Read bytes out of the bobbin address space in the same pieces. -/
def State.copyOut (s : State) (master : Nat) : Nat → Nat → Nat → List Byte → Nat × List Byte × Nat × State
  | 0, a, _, acc => (0, acc, a, s)
  | k + 1, a, n, acc =>
    if n = 0 then (0, acc, a, s)
    else
      let m := min n (4096 - a % 4096)
      let o := s.busRead master 0 a m
      if o.1 = 0 then o.2.2.copyOut master k (a + m) (n - m) (acc ++ o.2.1) else (o.1, acc, a, o.2.2)

/-- A descriptor's transfer ends. (DEDUCED, log entry 43.) -/
def State.descEnd (s : State) (c idx status len : Nat) : State :=
  let v := s.stamp
  v.2.modChan c (fun r => { r with started := r.started.map (fun d =>
    if d.index = idx then { d with ended := some (status, len), tDone := v.1 } else d) })

/-- An H2D descriptor: the host's bytes go to the bobbin address space. -/
def State.xferH2D (s : State) (c : Nat) (d : Desc) (data : List Byte) (err : Bool) : State :=
  let data := data.take d.len
  let s := s.hostAsk d.hostAddr d.len d.ns
  let o := s.copyIn 0x28 (data.length / 4096 + 2) d.devAddr data 0
  let s := o.2.2.2
  if o.1 ≠ 0 then (s.descEnd c d.index 5 o.2.1).chanError c 5 o.2.2.1 1
  else if err ∨ data.length < d.len then (s.descEnd c d.index 4 data.length).chanError c 4 (d.hostAddr + data.length) 0
  else s.descEnd c d.index 0 d.len

/-- A D2H descriptor: bobbin bytes go to the host; how much of a write that failed on the link was moved is a free value. -/
def State.xferD2H (s : State) (c : Nat) (d : Desc) (err : Bool) : State :=
  let o := s.copyOut 0x29 (d.len / 4096 + 2) d.devAddr d.len []
  let s := o.2.2.2
  if err then
    let v := s.free
    let n := v.1 % (d.len + 1)
    ((v.2.hostWrite d.hostAddr (o.2.1.take n) d.ns).descEnd c d.index 4 n).chanError c 4 (d.hostAddr + n) 1
  else
    let s := s.hostWrite d.hostAddr o.2.1 d.ns
    if o.1 ≠ 0 then (s.descEnd c d.index 5 o.2.1.length).chanError c 5 o.2.2.1 0
    else s.descEnd c d.index 0 d.len

/-- A STREAM descriptor: its bytes join the access unit; without a bobbin the access unit is closed with LOSS, and the rest of
it is discarded. -/
def State.xferStream (s : State) (c : Nat) (d : Desc) (data : List Byte) (err : Bool) : State :=
  match s.chanCtx c, (s.chan c).aus.find? (fun a => a.chain.auSeq == d.au) with
  | some n, some a =>
    let data := data.take d.len
    let need := cdiv (min auMax (a.chain.bytes + data.length)) (s.auSize n - 64)
    let o := s.hostBobs c n d.au need (need + 1)
    match o.1 with
    | none => o.2
    | some ok =>
      let w := (o.2.hostAsk d.hostAddr d.len d.ns).hostAppend c n d.au data
      let s := w.2
      if ¬ ok then
        let s := s.iff (!a.whole) (·.modChan c (fun r => { r with skip := true }))
        (s.hostLoss c n d.au).descEnd c d.index 2 w.1
      else if err ∨ data.length < d.len then
        let s := s.modAu c n d.au (fun ch => { ch with loss := true })
        (s.descEnd c d.index 4 data.length).chanError c 4 (d.hostAddr + data.length) 0
      else
        let s := s.descEnd c d.index 0 d.len
        if d.eoau then
          match (s.chan c).aus.find? (fun a => a.chain.auSeq == d.au) with
          | some a => s.hostComplete c n a
          | none => s
        else s
  | _, _ => s.descEnd c d.index 1 d.len

/-- The transfer of a descriptor can go on: mastering, its engine up, and what comes before it has ended where a barrier or
the order of a STREAM channel asks for it. -/
def State.canMove (s : State) (c : Nat) (d : Desc) : Bool :=
  s.mastering && s.unitUp (s.engineOf c) &&
    (!(d.barrier || s.streams c) || ((s.chan c).started.takeWhile (fun x => x.index != d.index)).all (fun x => x.ended.isSome))

/-- The transfer of a descriptor may go on now. A channel whose allocation is parked stalls alone (R153). -/
def State.mayMove (s : State) (c : Nat) (d : Desc) : Bool :=
  s.canMove c d && s.ahead c (fun k => !(s.chan k).asked && (s.chan k).started.any (fun x => x.ended.isNone && s.canMove k x))

/-- A descriptor's transfer completes, and what is complete at the front of the ring is written back. -/
def State.descComplete (s : State) (c idx : Nat) (data : List Byte) (err : Bool) : State :=
  match (s.chan c).started.find? (fun d => d.index == idx && d.ended.isNone) with
  | none => s
  | some d =>
    if s.mayMove c d then
      let s := match s.rd (DMA_CTL_MODE c) with
        | 0 => s.xferH2D c d data err
        | 1 => s.xferD2H c d err
        | _ => s.xferStream c d data err
      s.chanSettle c
    else s

/-- DESC_COMPLETE: channel, ring index, the bytes that the host's completions brought (H2D and STREAM), and whether the link
failed. -/
def execDescComplete (c : Fin 64) (idx : Fin 65536) (data : List Byte) (err : Bool) (s : State) :
    Host.Outcome State Fault Refusal :=
  s.finishOnce (s.descComplete c idx data err) id

/-- A fence of an engine (R442), or an FLR: descriptors in flight are abandoned and open access units are closed with
LOSS. -/
def State.abandonChan (s : State) (c : Nat) : State :=
  (((s.dropWait (.stream c)).modChan c (fun r => { r with started := [], stopAt := none, asked := false })).closeHostAus c)

/-- After the fence of an engine lifts, its RUNNING channels are HALTED with CAUSE 5 (R442); a STOP that waited ends. (DEDUCED, log entry 43.) -/
def State.fenceChans (s : State) (engine : Nat) : State :=
  s.each ((List.range 64).filter (fun c => s.engineOf c == engine &&
      (s.chanState c == dmaRUNNING || s.chanState c == dmaSTOPPING))) (fun c t =>
    let t := t.abandonChan c
    if t.chanState c = dmaRUNNING then
      ((t.wr (DMA_STATUS_CAUSE c) 5).wr (DMA_STATUS_HALT c) 1).setChan c dmaHALTED
    else t.stopEnd c)

end Sys2Proof.Machine
end

