-- ==== Sys2Proof/Machine/Signals.lean ====
section
/-! DEFINITION. Interrupt sources and targets (12_interrupt_controller.md): the condition of each source, the level the
controller sees, arbitration, messages and the commands of the controller. -/

namespace Sys2Proof.Machine

open R

/-- Some field of a list reads 1. -/
def State.anyOn (s : State) (l : List Fld) : Bool := l.any s.on

/-- The W1C status bits of a context's group source (Table 12-1, source 216 + g). -/
def ctxEvents (n : Nat) : List Fld :=
  [STC_STATUS_FAULT n, STC_STATUS_GANG_SERIAL n, STC_STATUS_OVERRUN n, STC_STATUS_LATE n, STC_STATUS_ADMIT_FAIL n,
   STC_STATUS_CMD_REJECT n, STC_DAMAGE_CONCEAL_EVT n, STC_DAMAGE_REJECT_EVT n]

/-- The W1C bits of a session's source. -/
def encEvents (s : Nat) : List Fld :=
  [ENC_STATUS_CMD_REJECT s, ENC_STATUS_ADMIT_FAIL s, ENC_STATUS_CAP_REPEAT s, ENC_STATUS_FLOOR s, ENC_STATUS_SKIP s,
   ENC_STATUS_OUT_LOST s, ENC_STATUS_HOST_OVERRUN s, ENC_STATUS_FAULT s]

/-- The W1C bits of a port's source. -/
def blkEvents (p : Nat) : List Fld :=
  [BLK_STATUS_UP p, BLK_STATUS_CHAIN_CHG p, BLK_STATUS_AUTH_FAIL p, BLK_STATUS_MGMT_FAIL p, BLK_STATUS_RL_LOSS p,
   BLK_STATUS_SHOW_SHORT p, BLK_STATUS_CMD_REJECT p, BLK_STATUS_TEST_DONE p, BLK_HM_STATUS_DONE p]

/-- The bits of a pool's group source. -/
def poolEvents (p : Nat) : List Fld :=
  [POOL_STATUS_LOW p, POOL_STATUS_HIGH p, POOL_STATUS_EMPTY p, POOL_STATUS_READY p, POOL_STATUS_BROKEN p]

/-- A source's condition in its own unit (Table 12-1); a source whose condition lies in an island in RETENTION or OFF
is not asserted (R447). (DEDUCED, log entry 47.) -/
def State.srcCond (s : State) (n : Nat) : Bool :=
  if n < 136 then
    let t := n / 8
    if n % 8 = 4 then decide (t < 16) && s.on (SEC_MB_CTL_IN_VALID t)
    else if n % 8 = 5 then decide (t < 16) && s.on (SEC_MB_CTL_FREE t)
    else false
  else if n < 200 then s.anyOn [DMA_STATUS_DONE (n - 136), DMA_STATUS_HALT (n - 136)]
  else if n < 216 then
    let p := n - 200
    decide (s.isl (22 + p / 4) ≤ islDRAINING) && s.anyOn (blkEvents p)
  else if n < 224 then (List.range 16).any (fun i => s.anyOn (ctxEvents (16 * (n - 216) + i)))
  else if n < 240 then
    let k := n - 224
    s.anyOn (encEvents k) || s.rd (ENC_OUT_SEQ k) != s.rd (ENC_OUT_ACK k)
  else if n = 240 then s.anyOn [SPE_CARD_STATUS_DONE, SPE_CARD_STATUS_SUBMIT_LOST]
  else if n < 243 then
    let e := n - 241
    decide (s.isl (20 + e) ≤ islDRAINING) &&
      s.anyOn [PLY_STATUS_LATE e, PLY_STATUS_COMMIT_REJECT e, PLY_STATUS_COMMITTED e]
  else if n = 243 then s.on PLY_CANVAS_STATUS_FRAME
  else if n = 244 then
    s.anyOn [PLY_CANVAS_STATUS_WSYNC_EARLY, PLY_CANVAS_STATUS_WSYNC_LOST, PLY_CANVAS_STATUS_BAD_RATE,
      PLY_CANVAS_STATUS_SHORT_SKIP]
  else if n = 245 then s.on PTP_STATE_CHANGED
  else if n < 254 then
    let lp := n - 246
    s.anyOn [ING_PORT_STATUS_OLD_QUERIER lp, ING_PORT_STATUS_PAUSE_SEEN lp, ING_PORT_STATUS_LINK_CHG lp]
  else if n = 254 then (List.range 256).any (fun i => s.on (ING_FLOW_STATUS_PATH_DOWN i))
  else if n < 263 then (List.range 8).any (fun i => s.anyOn (poolEvents (8 * (n - 255) + i)))
  else if n = 263 then s.on PWR_STATUS_DONE
  else if n = 264 then s.on PWR_STATUS_ABANDONED
  else if n = 265 then s.on PWR_STATUS_FORCED
  else if n = 266 then s.on PWR_STATUS_REJECTED
  else if n = 267 then s.on MEM_STATUS_CE
  else if n = 268 then s.on MEM_STATUS_UE
  else if n = 269 then s.on MEM_STATUS_RETRAIN_FAIL
  else if n = 270 then s.on MEM_TEST_STATUS_DONE
  else if n = 271 then s.on HIF_STATUS_LINK_CHG
  else if n = 272 then s.on HIF_STATUS_XLAT
  else if n = 273 then s.on HIF_STATUS_FLR
  else if n = 274 then s.on HIF_STATUS_BAD_ACCESS
  else if n = 275 then s.on HIF_STATUS_CMD_REJECT
  else if n < 281 then
    (List.range 24).any (fun c => s.on (FLT_CLASS_RAISED c) && s.rd (FLT_CLASS_LEVEL c) == n - 276)
  else if n = 281 then
    (List.range 32).any (fun i => bitSet (s.rd CNT_STATUS_OVF) i && s.on (CNT_CTL_OVF_INT i))
  else if n = 282 then s.anyOn [WRP_STATUS_DONE, WRP_STATUS_FAIL]
  else false

/-- The source is pending (R445): a latched one by its stored bit, a level one by the level as it has arrived. (DEDUCED, log entry 47.) -/
def State.srcPending (s : State) (n : Nat) : Bool :=
  if s.on (INT_SRC_LATCHED n) then s.on (INT_SRC_PENDING n) else s.on (INT_SRC_LEVEL n)

/-- The target a source is delivered to (R454): its TARGET, or the alternate while it is redirected. -/
def State.srcTarget (s : State) (n : Nat) : Nat :=
  if s.on (INT_SRC_REDIR n) then smGet 0 s.intr.redirTo n else s.rd (INT_SRC_TARGET n)

/-- The candidate of a target: priority and number (R454). Pending, enabled, not ACTIVE, delivered to it; lowest
priority value first, then lowest number. -/
def State.candidate (s : State) (t : Nat) : Option (Nat × Nat) :=
  (List.range 320).foldl (fun best n =>
    if s.srcTarget n = t ∧ s.srcPending n ∧ s.on (INT_SRC_EN n) ∧ ¬ s.on (INT_SRC_ACTIVE n) then
      let p := s.rd (INT_SRC_PRIORITY n)
      match best with
      | none => some (p, n)
      | some (q, m) => if p < q then some (p, n) else some (q, m)
    else best) none

/-- The running-priority stack of a target, top first. -/
def State.intStack (s : State) (t : Nat) : List (Nat × Nat) := smGet [] s.intr.stack t

/-- The running priority: 16 with an empty stack (Table 12-3). -/
def State.runPri (s : State) (t : Nat) : Nat :=
  match s.intStack t with
  | [] => 16
  | (p, _) :: _ => p

/-- The candidate of a target that is signalled (R454). -/
def State.signal (s : State) (t : Nat) : Option (Nat × Nat) :=
  if s.on (INT_TGT_CTL_EN t) ∧ (t < 16 → ¬ s.on INT_GCTL_HOST_DIS) then
    match s.candidate t with
    | some (p, n) => if p < s.runPri t then some (p, n) else none
    | none => none
  else none

/-- Write a target's stack and the register that shows it. -/
def State.setStack (s : State) (t : Nat) (st : List (Nat × Nat)) : State :=
  let s := { s with intr := { s.intr with stack := smSet [] s.intr.stack t st } }
  ((s.wr (INT_RUNPRI_RUNNING t) (s.runPri t)).wr (INT_RUNPRI_DEPTH t) st.length).wr (INT_RUNPRI_TOP t)
    (match st with | [] => 0x3FF | (_, n) :: _ => n)

/-- A condition of R462 holds for a vector: mastering off, D3hot, MSI-X off, or a mask. -/
def State.vectorMasked (s : State) (v : Nat) : Bool :=
  !s.pcie.bme || s.pcie.d3 || !s.pcie.msixEn || s.pcie.fnMask || s.on (MSIX_CTRL_MASK v)

/-- The vectors of a target whose messages are held. -/
def State.heldOf (s : State) (t : Nat) : List Nat := smGet [] s.intr.heldVec t

/-- Send the message of target `t` for priority `p`, or hold it with its pending bit (R461, R462). -/
def State.sendMsg (s : State) (t p : Nat) : State :=
  let v := 32 * t + p
  let s := { s with intr := { s.intr with lastMsg := smSet 16 s.intr.lastMsg t p } }
  if s.vectorMasked v then
    let s := { s with intr := { s.intr with heldVec := smSet [] s.intr.heldVec t (v :: (s.heldOf t).filter (· != v)) } }
    (s.setBit (MSIX_PBA (v / 32)) (v % 32)).wr (INT_TGT_STATUS_MSG_HELD t) 1
  else
    let a := 2 ^ 32 * s.rd (MSIX_ADDR_HI v) + s.rd (MSIX_ADDR_LO v)
    ((s.count 0x0A0 1).emit (.msix v a (s.rd (MSIX_DATA v))))

/-- Clear the held messages of a target that nothing masks now, with their pending bits (R462). -/
def State.dropHeld (s : State) (t : Nat) : State :=
  let gone := (s.heldOf t).filter (fun v => !s.vectorMasked v)
  let left := (s.heldOf t).filter s.vectorMasked
  let s := { s with intr := { s.intr with heldVec := smSet [] s.intr.heldVec t left } }
  (s.each gone (fun v u => u.clrBit (MSIX_PBA (v / 32)) (v % 32))).wr (INT_TGT_STATUS_MSG_HELD t) (b2n (left != []))

/-- Evaluate one target (R461): `force` asks for a message whenever it is signalled. TS gets no message. -/
def State.evalTarget (s : State) (t : Nat) (force : Bool) : State :=
  let was := smGet false s.intr.signalled t
  match s.signal t with
  | none => { s with intr := { s.intr with signalled := smSet false s.intr.signalled t false } }
  | some (p, _) =>
    let s1 := { s with intr := { s.intr with signalled := smSet false s.intr.signalled t true } }
    if t < 16 ∧ ¬ s.on (INT_TGT_CTL_PARKED t) ∧ (force ∨ ¬ was ∨ p < smGet 16 s.intr.lastMsg t) then s1.sendMsg t p
    else s1

/-- Evaluate every host target. -/
def State.arbitrate (s : State) : State := s.each (List.range 17) (fun t u => u.evalTarget t false)

/-- The level of one source, as its unit drives it, reaches the controller. (DEDUCED, log entry 47.) -/
def State.levelIn (s : State) (n : Nat) : State := s.wr (INT_SRC_LEVEL n) (b2n (s.srcCond n))

/-- A latched source's event occurs (R445). -/
def State.latch (s : State) (n : Nat) : State := s.wr (INT_SRC_PENDING n) 1

/-- SOURCE_LEVEL_CHANGE: a level change has crossed to the controller, which acts on it as it has arrived (R446). -/
def execSourceLevelChange (n : Fin 320) (s : State) : Host.Outcome State Fault Refusal :=
  s.finish (s.levelIn n).arbitrate

/-- A software interrupt (R448): `host` says that host inbound writes it. -/
def State.sgi (s : State) (host : Bool) (t k : Nat) : State :=
  if 16 < t ∨ (host ∧ t = 16) then s.wr INT_STATUS_TGT_REJECT 1
  else (s.latch (8 * t + k)).arbitrate

/-- INT_SGI. -/
def execIntSgi (host : Bool) (t : Fin 32) (k : Fin 4) (s : State) : Host.Outcome State Fault Refusal :=
  s.finish (s.sgi host t k)

/-- The compare value of a target's timer. -/
def State.timerAt (s : State) (t : Nat) : Nat := 2 ^ 32 * s.rd (INT_TGT_TIMER_HI t) + s.rd (INT_TGT_TIMER_LO t)

/-- The timer of an armed target fires once device time has reached its compare value (R449). -/
def State.timerFire (s : State) (t : Nat) : State :=
  if smGet false s.intr.timerArmed t ∧ s.timerAt t ≤ s.devTime then
    let s := { s with intr := { s.intr with timerArmed := smSet false s.intr.timerArmed t false } }
    (s.latch (8 * t + 6)).arbitrate
  else s

/-- Arm a target's timer; a value in the past fires at once (R449). -/
def State.timerArm (s : State) (t hi : Nat) : State :=
  let s := s.wr (INT_TGT_TIMER_HI t) hi
  let s := { s with intr := { s.intr with timerArmed := smSet false s.intr.timerArmed t true } }
  s.timerFire t

/-- TIMER_ARM: a write of `INT_TGT_TIMER_HI`. -/
def execTimerArm (t : Fin 17) (hi : Word) (s : State) : Host.Outcome State Fault Refusal :=
  s.finish (s.timerArm t hi.toNat)

/-- TIMER_FIRE. -/
def execTimerFire (t : Fin 17) (s : State) : Host.Outcome State Fault Refusal := s.finish (s.timerFire t)

/-- A claim (R454): the word read, and the state after it. -/
def State.claim (s : State) (t : Nat) : Nat × State :=
  match s.signal t with
  | none => (0x3FF, s)
  | some (p, n) =>
    let s := s.wr (INT_SRC_ACTIVE n) 1
    let s := s.iff (s.on (INT_SRC_LATCHED n)) (·.wr (INT_SRC_PENDING n) 0)
    let s := s.setStack t ((p, n) :: s.intStack t)
    (65536 * p + n, s.arbitrate)

/-- A read of `INT_CLAIM[t]` (R454): the register keeps what it returned. -/
def State.claimRead (s : State) (t : Nat) : Nat × State :=
  let r := s.claim t
  (r.1, (r.2.wr (INT_CLAIM_SOURCE t) (r.1 % 1024)).wr (INT_CLAIM_PRIORITY t) (r.1 / 65536))

/-- INT_CLAIM: the target whose `INT_CLAIM` is read. -/
def execIntClaim (t : Fin 17) (s : State) : Host.Outcome State Fault Refusal := s.finish (s.claimRead t).2

/-- An end of interrupt (R455): the top of the stack pops, 0x3FF is ignored, anything else sets BAD_EOI. -/
def State.eoi (s : State) (t n : Nat) : State :=
  if n = 0x3FF then s
  else match s.intStack t with
    | [] => s.wr (INT_TGT_STATUS_BAD_EOI t) 1
    | (_, m) :: rest =>
      if m = n then
        let s := (s.setStack t rest).wr (INT_SRC_ACTIVE n) 0
        (s.each (List.range 17) (fun u v => v.evalTarget u (u == t)))
      else s.wr (INT_TGT_STATUS_BAD_EOI t) 1

/-- INT_EOI. -/
def execIntEoi (t : Fin 17) (n : Fin 1024) (s : State) : Host.Outcome State Fault Refusal := s.finish (s.eoi t n)

/-- ALT names a target from 0 to 15 other than `t`; for TS it has no effect (Table 12-3). -/
def State.altValid (s : State) (t : Nat) : Bool :=
  decide (t < 16) && decide (s.rd (INT_TGT_WAKE_ALT t) < 16) && s.rd (INT_TGT_WAKE_ALT t) != t

/-- Redirect a shared source to an alternate (R458). -/
def State.redirect (s : State) (n alt : Nat) : State :=
  let s := { s with intr := { s.intr with redirTo := smSet 0 s.intr.redirTo n alt } }
  s.wr (INT_SRC_REDIR n) 1

/-- A write of `INT_SRC[n]` (R452, R460): `host` for host inbound; `w` is the word. A reweave that holds the source ignores an EN
of 1 (R506). -/
def State.srcWrite (s : State) (host : Bool) (n w : Nat) : State :=
  let tgt := bitsOf w 16 5
  let cur := s.rd (INT_SRC_TARGET n)
  let sharedSrc := decide (136 ≤ n)
  if host ∧ (cur = 16 ∨ (sharedSrc ∧ tgt = 16)) then s.wr INT_STATUS_TGT_REJECT 1
  else if host ∧ sharedSrc ∧ 16 < tgt then s.wr INT_STATUS_TGT_REJECT 1
  else
    let s := s.iff (!s.on WRP_STATUS_LOCKED) (·.wr (INT_SRC_PRIORITY n) (bitsOf w 8 4))
    let s := s.iff (!(bitSet w 0 && s.wrp.hold.sources.contains n)) (·.wr (INT_SRC_EN n) (bitOf w 0))
    let s :=
      if sharedSrc ∧ 16 < tgt then s.wr INT_STATUS_TGT_REJECT 1
      else if sharedSrc then
        let s := (s.wr (INT_SRC_TARGET n) tgt).wr (INT_SRC_REDIR n) 0
        if s.on (INT_TGT_STATUS_REDIRECTED tgt) then
          s.redirect n (smGet 0 s.intr.redirAlt tgt)
        else s
      else s
    s.arbitrate

/-- INT_SRC_WRITE. -/
def execIntSrcWrite (host : Bool) (n : Fin 320) (w : Word) (s : State) : Host.Outcome State Fault Refusal :=
  s.finish (s.srcWrite host n w.toNat)

/-- Setting PARKED starts the park time (R457); TS cannot be parked. -/
def State.park (s : State) (t : Nat) : State :=
  if t < 16 ∧ ¬ s.on (INT_TGT_CTL_PARKED t) then
    let s := { s with intr := { s.intr with parkedAt := smSet 0 s.intr.parkedAt t s.devTime } }
    s.wr (INT_TGT_CTL_PARKED t) 1
  else s

/-- TARGET_PARK. -/
def execTargetPark (t : Fin 17) (s : State) : Host.Outcome State Fault Refusal := s.finish (s.park t)

/-- The shared sources whose TARGET is `t`. -/
def State.sharedOf (s : State) (t : Nat) : List Nat :=
  ((List.range 184).map (· + 136)).filter (fun n => s.rd (INT_SRC_TARGET n) == t)

/-- Clearing PARKED ends the redirect and re-evaluates the target (R459, R461). -/
def State.unpark (s : State) (t : Nat) : State :=
  if s.on (INT_TGT_CTL_PARKED t) then
    let s := (s.wr (INT_TGT_CTL_PARKED t) 0).wr (INT_TGT_STATUS_REDIRECTED t) 0
    let s := s.each (s.sharedOf t) (fun n u => u.wr (INT_SRC_REDIR n) 0)
    s.each (List.range 17) (fun u v => v.evalTarget u (u == t))
  else s

/-- TARGET_UNPARK. -/
def execTargetUnpark (t : Fin 17) (s : State) : Host.Outcome State Fault Refusal := s.finish (s.unpark t)

/-- The park of `t` has lasted longer than TIMEOUT_US (R458); a TIMEOUT_US of 0 redirects at the first microsecond. -/
def State.parkDue (s : State) (t : Nat) : Bool :=
  s.on (INT_TGT_CTL_PARKED t) && s.on (INT_TGT_WAKE_EN t) && s.altValid t && !s.on (INT_TGT_STATUS_REDIRECTED t) &&
    decide (s.rd (INT_TGT_WAKE_TIMEOUT_US t) < (s.devTime - smGet 0 s.intr.parkedAt t) / 1000)

/-- PARK_REDIRECT: every shared source of a long-parked target goes to ALT (R458). -/
def State.parkRedirect (s : State) (t : Nat) : State :=
  if s.parkDue t then
    let alt := s.rd (INT_TGT_WAKE_ALT t)
    let s := { s with intr := { s.intr with redirAlt := smSet 0 s.intr.redirAlt t alt } }
    let s := s.each ((s.sharedOf t).filter (fun n => !s.on (INT_SRC_REDIR n))) (fun n u => u.redirect n alt)
    ((s.wr (INT_TGT_STATUS_REDIRECTED t) 1).latch (8 * alt + 7)).arbitrate
  else s

/-- PARK_REDIRECT. -/
def execParkRedirect (t : Fin 16) (s : State) : Host.Outcome State Fault Refusal := s.finish (s.parkRedirect t)

/-- A condition of R462 may have ended: a target with a held message whose vector is free now is evaluated again, and its current
candidate settles it. -/
def State.settleHeld (s : State) : State :=
  s.each (List.range 16) (fun t u =>
    if (u.heldOf t).all u.vectorMasked then u else (u.dropHeld t).evalTarget t true)

/-- What ends in MSIX_UNMASK: a vector's mask, the MSI-X Enable bit, the function mask. -/
def State.msixUnmask (s : State) (what : Nat) : State :=
  let s :=
    if what < 512 then s.wr (MSIX_CTRL_MASK what) 0
    else if what = 512 then { s with pcie := { s.pcie with msixEn := true } }
    else if what = 513 then { s with pcie := { s.pcie with fnMask := false } }
    else s
  s.settleHeld

/-- MSIX_UNMASK: operand 0–511 a vector's mask, 512 MSI-X Enable, 513 Function Mask, 514 another condition. -/
def execMsixUnmask (what : Fin 515) (s : State) : Host.Outcome State Fault Refusal := s.finish (s.msixUnmask what)

/-- A write of HOST_DIS (R464): on its return to 0 each signalled host target receives one message. -/
def State.hostDis (s : State) (v : Nat) : State :=
  let was := s.on INT_GCTL_HOST_DIS
  let s := s.wr INT_GCTL_HOST_DIS v
  s.each (List.range 17) (fun t u => u.evalTarget t (was && !u.on INT_GCTL_HOST_DIS && decide (t < 16)))

/-- HOST_DIS_WRITE. -/
def execHostDisWrite (v : Bool) (s : State) : Host.Outcome State Fault Refusal := s.finish (s.hostDis (b2n v))

/-- What a Function Level Reset or PERST_N does to the host targets and to MSI-X (R465). -/
def State.intFlr (s : State) : State :=
  let s := s.each (List.range 16) (fun t u =>
    let u := u.each (u.intStack t) (fun e v => v.wr (INT_SRC_ACTIVE e.2) 0)
    let u := u.iff (u.on (INT_TGT_STATUS_REDIRECTED t)) (fun v =>
      v.each (v.sharedOf t) (fun n w => w.wr (INT_SRC_REDIR n) 0))
    let u := u.rstAll (regsIntTgt t)
    { u with intr := { u.intr with
        stack := smSet [] u.intr.stack t [], signalled := smSet false u.intr.signalled t false,
        lastMsg := smSet 16 u.intr.lastMsg t 16, timerArmed := smSet false u.intr.timerArmed t false,
        heldVec := smSet [] u.intr.heldVec t [] } })
  let s := s.each (List.range 512) (fun v u => u.rstAll (regsMsix v))
  let s := s.rstAll regsPba
  { s with pcie := { s.pcie with msixEn := false, fnMask := false } }

end Sys2Proof.Machine
end

