-- ==== Sys2Proof/Machine/HostLink.lean ====
section
/-! DEFINITION. The PCIe link (R413–R424): resets of the endpoint, link and mastering changes, apertures and the host
window. -/

namespace Sys2Proof.Machine

open R

/-- Show Bus Master Enable and the power state in `HIF_LINK`. -/
def State.showLink (s : State) : State := (s.wr HIF_LINK_BME (b2n s.pcie.bme)).wr HIF_LINK_D3 (b2n s.pcie.d3)

/-- What an FLR and PERST_N reset (R417, R465): configuration space, apertures, outbound table, every DMA channel, the host
targets and MSI-X. -/
def State.endpointReset (s : State) : State :=
  let s := s.each (List.range 64) (fun c t => ((t.abandonChan c).rstAll (regsDma c)).modChan c (fun _ => {}))
  let s := s.each (List.range 16) (fun i t => t.rst (HIF_AP_SEG i))
  let s := s.each (List.range 256) (fun n t => t.rstAll (regsHifOb n))
  let s := s.intFlr
  let s := { s with pcie := { s.pcie with bme := false, d3 := false, mps := 128, mrrs := 512, cplTimeout := 10000000, waiting := [] } }
  s.showLink

/-- FLR: it completes within 100 ms. -/
def State.flr (s : State) : State :=
  let now := s.elapsed
  let s := s.endpointReset
  { s with pcie := { s.pcie with flrSince := some now } }

/-- FLR. -/
def execFlr (s : State) : Host.Outcome State Fault Refusal := s.finish s.flr

/-- FLR_COMPLETE: `HIF_STATUS.FLR` sets. -/
def execFlrComplete (s : State) : Host.Outcome State Fault Refusal :=
  s.finish (match s.pcie.flrSince with
    | none => s
    | some _ => ({ s with pcie := { s.pcie with flrSince := none } }).wr HIF_STATUS_FLR 1)

/-- CK_PIPE in `WRP_CLK` while a clock plan is in force (Table 14-3): 1 GHz at generation 5, stopped without a link; what a lower
generation sets it to is a free value (DESIGN CHOICE, log entry 4). -/
def State.showPipe (s : State) : State :=
  if ¬ s.on WRP_STATUS_LOCKED then s
  else if s.rd HIF_LINK_SPEED = 5 then s.wr (WRP_CLK 28) 1000000
  else if s.rd HIF_LINK_SPEED = 0 then s.wr (WRP_CLK 28) 0
  else s.free.2.wr (WRP_CLK 28) s.free.1

/-- The link trains, or changes speed or width (R413). -/
def State.pcieLink (s : State) (speed width : Nat) : State :=
  if s.rd HIF_LINK_SPEED = speed ∧ s.rd HIF_LINK_WIDTH = width then s
  else (((s.wr HIF_STATUS_LINK_CHG 1).wr HIF_LINK_SPEED speed).wr HIF_LINK_WIDTH width).showPipe

/-- PERST_N_ASSERT: as an FLR, and no more (R513); the link goes down with it. -/
def State.perst (s : State) : State :=
  let s := s.endpointReset
  let s := { s with pcie := { s.pcie with flrSince := none } }
  s.pcieLink 0 0

/-- PERST_N_ASSERT. -/
def execPerstNAssert (s : State) : Host.Outcome State Fault Refusal := s.finish s.perst

/-- PCIE_LINK_CHANGE: generation 0–5 and width. -/
def execPcieLinkChange (speed : Fin 6) (width : Fin 17) (s : State) : Host.Outcome State Fault Refusal :=
  s.finish (s.pcieLink speed width)

/-- Bus Master Enable or D3hot changes (R416): what was stalled goes on when mastering is allowed again, and held messages
are settled (R462). -/
def State.masterChange (s : State) (bme : Bool) (d : PcieCfg) : State :=
  (({ s with pcie := { s.pcie with bme := bme, d3 := d.d3, mps := d.mps, mrrs := d.mrrs, cplTimeout := d.cplTimeout } }).showLink).settleHeld

/-- BUS_MASTER_ENABLE: the new value of Bus Master Enable, and what else configuration space holds then: D3hot, and the sizes and the
timeout that the host programmed with it. (DESIGN CHOICE, log entry 44.) -/
def execBusMasterEnable (bme : Bool) (d3 : PcieCfg) (s : State) : Host.Outcome State Fault Refusal := s.finish (s.masterChange bme d3)

/-- A write to `HIF_AP[i]` (R419, R421). -/
def State.apWrite (s : State) (i w : Nat) : State := if 0x100 ≤ w then s.wr HIF_STATUS_CMD_REJECT 1 else s.wr (HIF_AP_SEG i) w

/-- HIF_AP_WRITE: aperture and the word written. -/
def execHifApWrite (i : Fin 16) (w : Word) (s : State) : Host.Outcome State Fault Refusal := s.finish (s.apWrite i w.toNat)

/-- The bobbin address of a fabric address below the register space. -/
def inWindow (a : Nat) : Bool := decide (winBase ≤ a) && decide (a < winEnd)

/-- A unit's access to the host window (R416, R422, R423): translated and carried out, or answered with an ERROR and
HOST_XLAT. A read's data are what the host answers. (DEDUCED, log entry 45.) -/
def State.windowAccess (s : State) (r : FabReq) (data : List Byte) : State :=
  if ¬ inWindow r.addr ∨ ¬ s.unitUp r.master then s
  else
    let c := s.pathCode r.addr
    if c ≠ 0 then (s.respFault r.master r.access r.addr c).respond r c []
    else
      let h := (s.winHost r.addr).getD 0
      match r.kind with
      | .read n => (s.hostAsk h n (s.winNs r.addr)).respond r 0 (data.take n)
      | .write d => (s.hostWrite h d (s.winNs r.addr)).respond r 0 []
      | .atomic _ => (s.respFault r.master r.access r.addr 5).respond r 5 []

/-- HOST_WINDOW_ACCESS: the request, and the bytes that the host's completion brings to a read. -/
def execHostWindowAccess (r : FabReq) (data : List Byte) (s : State) : Host.Outcome State Fault Refusal :=
  s.finish (s.windowAccess r data)

/-- A host-window read gets no completion in time, or one with UR, CA or poisoned data (R415, R423). -/
def State.completionTimeout (s : State) (r : FabReq) : State :=
  if inWindow r.addr ∧ s.pathCode r.addr = 0 then ((s.hostAsk ((s.winHost r.addr).getD 0) (FabKind.len r.kind) (s.winNs r.addr)).respFault r.master r.access r.addr 5).respond r 5 [] else s

/-- COMPLETION_TIMEOUT: the read that fails. -/
def execCompletionTimeout (r : FabReq) (s : State) : Host.Outcome State Fault Refusal := s.finish (s.completionTimeout r)

end Sys2Proof.Machine
end

