-- ==== Sys2Proof/Machine/Mem.lean ====
section
/-! DEFINITION. The HBM memory controller (10_memory_controller.md): address mapping, queues and the pick, ordering,
refresh, retraining, error correction, scrubbing, the test engine and error injection. -/

namespace Sys2Proof.Machine

open R

/-- CK_MCk in kHz: domains 23 and 24 of `WRP_CLK`; its maximum before a clock plan is in force (DESIGN CHOICE, log entry 6). -/
def State.mcKhz (s : State) (k : Nat) : Nat :=
  let f := s.rd (WRP_CLK (23 + k))
  if f = 0 then 1000000 else f

/-- CK_MC cycles of a time span in nanoseconds. -/
def State.mcCycles (s : State) (k ns : Nat) : Nat := ns * s.mcKhz k / 1000000

/-! ### Address mapping (Table 10-1, R392) -/

/-- Where an atom lies within its stack. -/
structure Cell where
  pch : Nat
  sid : Nat
  bank : Nat
  row : Nat
  col : Nat
  deriving DecidableEq, Repr

/-- The offset of a bobbin address within its stack. -/
def stackOffset (a : Nat) : Nat := if a < hbmSplit then a else a - hbmSplit

/-- The stack of an HBM address. -/
def stackNo (a : Nat) : Nat := if a < hbmSplit then 0 else 1

/-- The pseudo-channel (0–31) of an offset under grain `g`. -/
def pchOf (g a : Nat) : Nat := a / g % 32

/-- The local offset within a pseudo-channel. -/
def localOffset (g a : Nat) : Nat := a / (32 * g) * g + a % g

/-- The cell of an offset under grain `g`: the bank is numbered SID × 16 + bank group × 4 + bank. -/
def cellOf (g a : Nat) : Cell :=
  let o := localOffset g a
  let v := o / 16384
  let row := v % 24576
  let bg := (bitsOf o 10 2).xor (bitsOf row 0 2)
  let bk := (bitsOf o 12 2).xor (bitsOf row 2 2)
  { pch := pchOf g a, sid := v / 24576, bank := v / 24576 * 16 + bg * 4 + bk, row := row, col := bitsOf o 6 4 }

/-- The interleave grain in bytes. -/
def State.grain (s : State) : Nat := 2 ^ (8 + s.rd MEM_CTL_GRAIN)

/-- The cell of a bobbin address. -/
def State.cell (s : State) (a : Nat) : Cell := cellOf s.grain (stackOffset a)

/-- The global pseudo-channel of a bobbin address: 32 × s + p. -/
def State.gpch (s : State) (a : Nat) : Nat := 32 * stackNo a + (s.cell a).pch

/-! ### Queues (R393, R397–R399) -/

/-- The record of a pseudo-channel. -/
def State.pch (s : State) (p : Nat) : PchSt := smGet {} s.mem.pch p

/-- Write the record of a pseudo-channel. -/
def State.setPch (s : State) (p : Nat) (c : PchSt) : State :=
  { s with mem := { s.mem with pch := smSet {} s.mem.pch p c } }

/-- The crossing queue of a controller half. -/
def State.xq (s : State) (k : Nat) : List FabReq := smGet [] s.mem.xq k

/-- Write the crossing queue of a half. -/
def State.setXq (s : State) (k : Nat) (l : List FabReq) : State :=
  { s with mem := { s.mem with xq := smSet [] s.mem.xq k l } }

/-- The record of a bank. -/
def bankOf (c : PchSt) (b : Nat) : BankSt := smGet {} c.banks b

/-- Write the record of a bank. -/
def setBank (c : PchSt) (b : Nat) (k : BankSt) : PchSt := { c with banks := smSet {} c.banks b k }

/-- A request enters its bank's queue: a read of the row of a pending write puts the bank in in-order mode until every
write pending now has been performed (R397). -/
def State.enterBank (s : State) (c : PchSt) (m : MemReq) : PchSt :=
  let x := s.cell m.addr
  let same := c.entries.filter (fun e => (s.cell e.addr).bank == x.bank)
  let writes := same.filter (fun e => !FabKind.isRead e.req.kind)
  let c := { c with entries := c.entries ++ [m] }
  if m.mode = 0 ∧ FabKind.isRead m.req.kind ∧ writes.any (fun e => (s.cell e.addr).row == x.row) then
    setBank c x.bank { bankOf c x.bank with inOrder := (bankOf c x.bank).inOrder ++ writes.map (·.seq) }
  else c

/-- Move requests from the input queue to the bank queues while one of the 64 entries is free. -/
def State.refill (s : State) (c : PchSt) : Nat → PchSt
  | 0 => c
  | n + 1 =>
    match c.input with
    | [] => c
    | m :: rest =>
      if c.entries.length < 64 then s.refill (s.enterBank { c with input := rest } m) n else c

/-- Split a list at the first element that passes a test. -/
def takeFirst {α : Type} (f : α → Bool) : List α → Option (α × List α)
  | [] => none
  | a :: r => if f a then some (a, r) else (takeFirst f r).map (fun x => (x.1, a :: x.2))

/-- MEM_REQUEST: the first request of the crossing queue whose pseudo-channel's input queue has room leaves it; one
whose queue is full does not hold back requests for the others (R393). -/
def State.memRequest (s : State) (k : Nat) : State :=
  match takeFirst (fun r => decide ((s.pch (s.gpch r.addr)).input.length < 16)) (s.xq k) with
  | none => s
  | some (r, rest) =>
    let p := s.gpch r.addr
    let m : MemReq := { req := r, addr := r.addr, since := s.elapsed, mode := s.rd MEM_MODE_MODE, seq := s.mem.seq }
    let s := s.setXq k rest
    let s := { s with mem := { s.mem with seq := s.mem.seq + 1 } }
    let c := s.pch p
    s.setPch p (s.refill { c with input := c.input ++ [m] } 17)

/-- MEM_REQUEST of controller half `k`. -/
def execMemRequest (k : Fin 2) (s : State) : Host.Outcome State Fault Refusal := s.finish (s.memRequest k)

/-! ### The pick (R394, R395) -/

/-- The latency target of a request's port in CK_MC cycles; values below 64 act as 64. -/
def State.target (s : State) (m : MemReq) : Nat := max 64 (s.rd (MEM_PORT_TARGET (s.tcOf m.req.master % 8)))

/-- The age of a request in CK_MC cycles. -/
def State.age (s : State) (m : MemReq) : Nat := s.mcCycles (stackNo m.addr) (s.elapsed - m.since)

/-- The urgency step of a request (Table 10-2). -/
def State.urgency (s : State) (m : MemReq) : Nat :=
  let a := s.age m
  let t := s.target m
  if 2 * a < t then 0 else if a < t then 1 else if a < 2 * t then 2 else 3

/-- The last atom that a request touches. -/
def MemReq.lastAtom (a : MemReq) : Nat := (a.addr + (FabKind.len a.req.kind - 1)) / 64

/-- Two requests touch a common atom. -/
def sameAtom (a b : MemReq) : Bool := decide (a.addr / 64 ≤ b.lastAtom) && decide (b.addr / 64 ≤ a.lastAtom)

/-- A request may not pass an older one (R397 in mode NORMAL; in the other modes one master's requests to one bank stay
in order, R398). -/
def State.blockedBy (s : State) (m old : MemReq) : Bool :=
  decide (old.seq < m.seq) &&
    (if m.mode = 0 then sameAtom m old && !(FabKind.isRead m.req.kind && FabKind.isRead old.req.kind)
     else m.req.master == old.req.master && (s.cell m.addr).bank == (s.cell old.addr).bank)

/-- The requests of a bank that may be performed now. -/
def State.ready (s : State) (c : PchSt) (b : Nat) : List MemReq :=
  let l := c.entries.filter (fun e => (s.cell e.addr).bank == b)
  let l := if (bankOf c b).inOrder.isEmpty then l else l.take 1
  l.filter (fun m => !c.entries.any (fun o => s.blockedBy m o))

/-- The candidate of a bank (R395): in in-order mode the oldest; else the oldest URGENT one; else the oldest to the
open row unless 16 hits ran while others wait; else the oldest. -/
def State.bankPick (s : State) (c : PchSt) (b : Nat) : Option MemReq :=
  let l := s.ready c b
  let k := bankOf c b
  let hit := l.filter (fun m => (s.cell m.addr).row + 1 == k.row)
  let miss := l.filter (fun m => (s.cell m.addr).row + 1 != k.row)
  if !k.inOrder.isEmpty then l.head?
  else match l.find? (fun m => s.urgency m == 3) with
    | some m => some m
    | none => if hit.isEmpty || (decide (16 ≤ k.hits) && !miss.isEmpty) then l.head? else hit.head?

/-- The bank the scheduler picks: highest urgency, then first in rotating order after the bank issued to last. (DEDUCED, log entry 62.) -/
def State.pick (s : State) (c : PchSt) : Option MemReq :=
  let cands := (List.range 48).filterMap (s.bankPick c)
  minBy (fun m => (3 - s.urgency m) * 64 + ((s.cell m.addr).bank + 47 - c.lastBank) % 48) cands

/-- Perform a request on HBM (R397, R407, R408); `f` is a finding of the stack itself: 0 none, 1 single-bit, 2
double-bit, 3 on-die correction. (DEDUCED, log entry 14.) -/
def State.perform (s : State) (m : MemReq) (f : Nat) : State :=
  let r := m.req
  match r.kind with
  | .read n =>
    let bad := decide (n ≠ 0) && worse (s.findingOf m.addr n) f == 2
    let s := (s.findings r.master r.access m.addr n f).countReq 0x020 r (atomsFrom m.addr n).length
    s.respond r (if bad then 5 else 0) (if bad then [] else memBytes s.hbm m.addr n)
  | .write d =>
    let o := s.hbmWrite r.master m.addr d
    (o.2.countReq 0x021 r (atomsFrom m.addr d.length).length).respond r o.1 []
  | .atomic d =>
    let a := m.addr / 8 * 8
    let old := memBytes s.hbm a 8
    let bad := worse (s.findingOf a 8) f == 2
    let s := s.findings r.master 2 a 8 f
    if bad then s.respond r 5 []
    else ((s.hbmWrite r.master a (d.take 8)).2).respond r 0 old

/-- An older request of the same bank waits for another row (R395). -/
def State.olderMiss (s : State) (c : PchSt) (m : MemReq) : Bool :=
  c.entries.any (fun e => decide (e.seq < m.seq) && (s.cell e.addr).bank == (s.cell m.addr).bank && (s.cell e.addr).row != (s.cell m.addr).row)

/-- MEM_ISSUE on pseudo-channel `p`: the picked request is performed and leaves its bank's queue. (DEDUCED, log entry 62.) -/
def State.memIssue (s : State) (p f : Nat) : State :=
  let c := s.pch p
  if c.pausing ∨ s.isl (28 + p / 32) ≥ islRETENTION then s
  else match s.pick c with
    | none => s
    | some m =>
      let x := s.cell m.addr
      let k := bankOf c x.bank
      let hit := k.row == x.row + 1
      let k := { k with row := x.row + 1, hits := if hit && s.olderMiss c m then k.hits + 1 else 0, inOrder := k.inOrder.filter (· != m.seq) }
      let c := { (setBank c x.bank k) with entries := c.entries.filter (fun e => e.seq != m.seq), lastBank := x.bank }
      let s := s.countReq (if hit then 0x022 else 0x023) m.req 1
      let s := s.iff (s.urgency m == 3) (·.countReq 0x024 m.req 1)
      let s := s.countReq 0x025 m.req (s.age m)
      (s.setPch p (s.refill c 80)).perform m f

/-- MEM_ISSUE: `f` is what the stack's own cells add to the read's finding (Table 10-5). -/
def execMemIssue (p : Fin 64) (f : Fin 4) (s : State) : Host.Outcome State Fault Refusal := s.finish (s.memIssue p f)

/-! ### Refresh (R400) -/

/-- REFRESH_DUE of a bank: postponed while it holds DUE, LATE or URGENT requests, at most 8 times; else issued with
those postponed. (DEDUCED, log entry 62.) -/
def State.refreshDue (s : State) (p b : Nat) : State :=
  let c := s.pch p
  let k := bankOf c b
  let busy := c.entries.any (fun m => (s.cell m.addr).bank == b && decide (1 ≤ s.urgency m))
  let k' := if busy ∧ k.postponed < 8 then { k with postponed := k.postponed + 1 }
    else { k with postponed := 0, refreshed := k.refreshed + k.postponed + 1, row := 0, hits := 0 }
  if s.isl (28 + p / 32) ≤ islDRAINING then s.setPch p (setBank c b k') else s

/-- REFRESH_DUE. -/
def execRefreshDue (p : Fin 64) (b : Fin 48) (s : State) : Host.Outcome State Fault Refusal := s.finish (s.refreshDue p b)

/-! ### Retraining (R404–R406) -/

/-- A trigger of R404 for pseudo-channel `p`: the interval has elapsed, or the temperature has stepped. -/
def State.retrainTrigger (s : State) (p : Nat) : Bool :=
  let c := s.pch p
  let ms := max 10 (s.rd MEM_RETRAIN_INTERVAL_MS)
  let step := s.rd MEM_RETRAIN_TEMP_STEP
  s.on (MEM_STATUS_TRAINED (p / 32)) &&
    (decide (1000000 * ms ≤ s.elapsed - c.trainedAt) ||
     (step != 0 && c.trainedTemp.any (fun t => decide (step ≤ (s.memTemp (p / 32) - t).natAbs))))

/-- RETRAIN_DUE. -/
def State.retrainDue (s : State) (p : Nat) : State :=
  if s.retrainTrigger p then s.setPch p { s.pch p with trainAsked := true } else s

/-- RETRAIN_DUE (R404). -/
def execRetrainDue (p : Fin 64) (s : State) : Host.Outcome State Fault Refusal := s.finish (s.retrainDue p)

/-- RETRAIN_NOW: every pseudo-channel of a trained stack is asked for once (R404). -/
def State.retrainNow (s : State) : State :=
  let l := (List.range 64).filter (fun p => s.on (MEM_STATUS_TRAINED (p / 32)))
  let s := s.each l (fun p t => t.setPch p { t.pch p with trainAsked := true })
  s.wr MEM_RETRAIN_NOW (b2n (!l.isEmpty))

/-- RETRAIN_NOW. -/
def execRetrainNow (s : State) : Host.Outcome State Fault Refusal := s.finish s.retrainNow

/-- RETRAIN_PAUSE: one pseudo-channel of a half at a time; with an URGENT request the pause is put off by at most 256
CK_MC cycles (R404, R405). -/
def State.retrainPause (s : State) (p : Nat) : State :=
  let c := s.pch p
  let other := (List.range 32).any (fun i => (s.pch (p / 32 * 32 + i)).pausing)
  let urgent := (c.input ++ c.entries).any (fun m => s.urgency m == 3)
  if ¬ c.trainAsked ∨ other then s
  else match c.deferred with
    | none =>
      if urgent then s.setPch p { c with deferred := some s.elapsed }
      else s.setPch p { c with pausing := true, trainAsked := false }
    | some t =>
      if urgent ∧ s.mcCycles (p / 32) (s.elapsed - t) < 256 then s
      else s.setPch p { c with pausing := true, trainAsked := false, deferred := none }

/-- RETRAIN_PAUSE (R405). -/
def execRetrainPause (p : Fin 64) (s : State) : Host.Outcome State Fault Refusal := s.finish (s.retrainPause p)

/-- RETRAIN_DONE: the pause ends; a failure keeps the old values and raises MEM_TRAIN (R406). -/
def State.retrainDone (s : State) (p : Nat) (ok : Bool) : State :=
  let c := s.pch p
  if c.pausing then
    let k := p / 32
    let s := s.setPch p { c with pausing := false, trainedAt := s.elapsed, trainedTemp := some (s.memTemp k) }
    let s := s.bump (MEM_RETRAIN_CNT k)
    let busy := (List.range 64).any (fun i => (s.pch i).trainAsked || (s.pch i).pausing)
    let s := s.iff (!busy) (·.wr MEM_RETRAIN_NOW 0)
    if ok then s
    else ((s.wr MEM_STATUS_RETRAIN_FAIL 1).bump (MEM_RETRAIN_FAIL_CNT k)).raise
      { cls := 15, level := some 1, master := 0xFF, access := 6, addr := p }
  else s

/-- RETRAIN_DONE: `ok` says whether the retraining succeeded. -/
def execRetrainDone (p : Fin 64) (ok : Bool) (s : State) : Host.Outcome State Fault Refusal := s.finish (s.retrainDone p ok)

/-! ### Scrubbing (R409) -/

/-- Atoms of a stack: 36 GiB in 64-byte atoms. -/
def stackAtoms : Nat := 603979776

/-- SCRUB_DUE: the scrubber of a trained stack reads its next atom, writes corrected words back, and counts a pass at
the end of the stack. -/
def State.scrubDue (s : State) (k f : Nat) : State :=
  if s.rd MEM_SCRUB_HOURS = 0 ∨ ¬ s.on (MEM_STATUS_TRAINED k) then s
  else
    let i := smGet 0 s.mem.scrub k
    let a := (if k = 0 then 0 else hbmSplit) + 64 * i
    let s := s.findings 0xFF 0 a 64 f
    let s := s.each (wordsOf a 64) (fun w t => t.iff (t.eccOf (8 * w) == 1) (·.setEcc (8 * w) 0))
    let s := { s with mem := { s.mem with scrub := smSet 0 s.mem.scrub k ((i + 1) % stackAtoms) } }
    s.iff (i + 1 == stackAtoms) (·.bump (MEM_SCRUB_PASS k))

/-- SCRUB_DUE. -/
def execScrubDue (k : Fin 2) (f : Fin 4) (s : State) : Host.Outcome State Fault Refusal := s.finish (s.scrubDue k f)

/-! ### Modes (R399) -/

/-- A write of `MEM_MODE.MODE`: NORMAL in TEST with the engine idle, TEST in NORMAL, and NORMAL in STARTUP by the
service controller alone; anything else sets MODE_REJECT. -/
def State.memMode (s : State) (svc : Bool) (m : Nat) : State :=
  let cur := s.rd MEM_MODE_MODE
  if (m = 0 ∧ cur = 2 ∧ ¬ s.on MEM_TEST_CTL_GO) ∨ (m = 2 ∧ cur = 0) ∨ (svc ∧ m = 0 ∧ cur = 1) then s.wr MEM_MODE_MODE m
  else s.wr MEM_STATUS_MODE_REJECT 1

/-- MEM_MODE_WRITE: `svc` for the service controller. -/
def execMemModeWrite (svc : Bool) (m : Fin 4) (s : State) : Host.Outcome State Fault Refusal := s.finish (s.memMode svc m)

/-! ### The test engine (R410) -/

/-- The next state of the PRBS31 register x^31 + x^28 + 1 (DEDUCED, log entry 21). -/
def prbs31Next (r : Nat) : Nat := (r * 2 + (bitOf r 30 + bitOf r 27) % 2) % 2 ^ 31

/-- `n` output bits of PRBS31, as a number with the first bit lowest, and the register after them. (DEDUCED, log entry 21.) -/
def prbs31Bits (r : Nat) : Nat → Nat × Nat
  | 0 => (0, r)
  | n + 1 =>
    let t := prbs31Bits (prbs31Next r) n
    (bitOf r 30 + 2 * t.1, t.2)

/-- A PRBS31 seed: 31 bits, 0 acts as 1. (DEDUCED, log entry 21.) -/
def prbs31Seed (v : Nat) : Nat := if v % 2 ^ 31 = 0 then 1 else v % 2 ^ 31

/-- The 8 words of an atom of a pattern, as bytes, and the generator after it (R410). (DEDUCED, log entry 21.) -/
def patternAtom (pat a reg : Nat) : List Byte × Nat :=
  match pat with
  | 0 => (natLe 64 0, reg)
  | 1 => (natLe 64 (2 ^ 512 - 1), reg)
  | 2 => ((List.range 8).flatMap (fun w => natLe 8 (a + 8 * w)), reg)
  | _ => let p := prbs31Bits reg 512; (natLe 64 p.1, p.2)

/-- The pattern over `n` atoms from an address. -/
def patternRun (pat a reg : Nat) : Nat → List (Nat × List Byte)
  | 0 => []
  | n + 1 => (a, (patternAtom pat a reg).1) :: patternRun pat (a + 64) (patternAtom pat a reg).2 n

/-- Every byte inverted. -/
def complement (d : List Byte) : List Byte := d.map (fun b => ~~~b)

/-- The test engine writes an atom. -/
def State.testWrite (s : State) (e : Nat × List Byte) : State := (s.hbmWrite 0xFF e.1 e.2).2

/-- The test engine reads an atom and compares it: a miscompare or an uncorrectable word counts, and the first one of the operation is
recorded. -/
def State.testCheck (s : State) (e : Nat × List Byte) : State :=
  let r := s.hbmRead 0xFF 0 e.1 64
  let t := r.2.2
  if r.1 = 5 ∨ r.2.1 ≠ e.2 then
    let t := t.bump MEM_TEST_ERR_CNT
    if s.rd MEM_TEST_ERR_CNT ≠ 0 then t
    else ((t.wr MEM_TEST_STATUS_FAIL 1).wr MEM_TEST_FAIL_ADDR_LO (e.1 / 64)).wr MEM_TEST_FAIL_ADDR_HI (e.1 / 2 ^ 32)
  else t

/-- One element of March C−: check against one background, then write the other. -/
def State.marchElt (s : State) (l : List (Nat × List Byte × List Byte)) : State :=
  s.each l (fun e t => (t.testCheck (e.1, e.2.1)).testWrite (e.1, e.2.2))

/-- March C− with a pattern and its complement: up write, up (r0 w1), up (r1 w0), down (r0 w1), down (r1 w0), read. -/
def State.march (s : State) (l : List (Nat × List Byte)) : State :=
  let zo := l.map (fun e => (e.1, e.2, complement e.2))
  let oz := l.map (fun e => (e.1, complement e.2, e.2))
  let s := s.each l (fun e t => t.testWrite e)
  let s := ((s.marchElt zo).marchElt oz).marchElt zo.reverse
  (s.marchElt oz.reverse).each l (fun e t => t.testCheck e)

/-- The range of the test engine: first and last atom. -/
def State.testRange (s : State) : Nat × Nat :=
  (2 ^ 32 * s.rd MEM_TEST_START_HI + s.rd MEM_TEST_START_LO * 64, 2 ^ 32 * s.rd MEM_TEST_END_HI + s.rd MEM_TEST_END_LO * 64)

/-- The range lies in one present stack whose island is ON, END not below START (R410, R412). -/
def State.testRangeOk (s : State) : Bool :=
  let r := s.testRange
  decide (r.1 ≤ r.2) && decide (r.2 < hbmEnd) && (stackNo r.1 == stackNo r.2) && (s.stackOf r.1).isSome &&
    s.islOn (28 + stackNo r.1)

/-- The operation of Table 10-6 over the range. -/
def State.testOp (s : State) : State :=
  let r := s.testRange
  let l := patternRun (s.rd MEM_TEST_CTL_PATTERN) r.1 (prbs31Seed (s.rd MEM_TEST_SEED)) ((r.2 - r.1) / 64 + 1)
  match s.rd MEM_TEST_CTL_OP with
  | 0 => s.each l (fun e t => t.testWrite e)
  | 1 => s.each l (fun e t => t.testCheck e)
  | 2 => (s.each l (fun e t => t.testWrite e)).each l (fun e t => t.testCheck e)
  | _ => s.march l

/-- A write of `MEM_TEST_CTL` (R410): OP and PATTERN are stored, and GO runs the operation in mode TEST. A GO while the
engine runs is not valid and is rejected. -/
def State.testCtl (s : State) (w : Nat) : State :=
  let s := if s.on MEM_TEST_CTL_GO then s
    else (s.wr MEM_TEST_CTL_OP (bitsOf w 0 2)).wr MEM_TEST_CTL_PATTERN (bitsOf w 4 2)
  if bitSet w 31 then
    if s.rd MEM_MODE_MODE = 2 ∧ s.testRangeOk ∧ ¬ s.on MEM_TEST_CTL_GO then
      ((s.wr MEM_TEST_ERR_CNT 0).wr MEM_TEST_CTL_GO 1).testOp
    else s.wr MEM_TEST_STATUS_REJECT 1
  else s

/-- MEM_TEST_GO: a write of `MEM_TEST_CTL` with GO 1. -/
def execMemTestGo (op : Fin 4) (pattern : Fin 4) (s : State) : Host.Outcome State Fault Refusal :=
  s.finish (s.testCtl (2 ^ 31 + 16 * pattern + op))

/-- MEM_TEST_DONE: a running operation ends and DONE sets. -/
def State.testDone (s : State) : State :=
  if s.on MEM_TEST_CTL_GO then (s.wr MEM_TEST_CTL_GO 0).wr MEM_TEST_STATUS_DONE 1 else s

/-- MEM_TEST_DONE. -/
def execMemTestDone (s : State) : Host.Outcome State Fault Refusal := s.finish s.testDone

/-! ### Error injection (R411) -/

/-- A write of `MEM_INJECT_HI`: ARM arms with TYPE CE or UE; TYPE 3 acts as 0, and 0 arms nothing. -/
def State.injectHi (s : State) (w : Nat) : State :=
  let s := (s.wr MEM_INJECT_HI_ADDR (bitsOf w 0 9)).wr MEM_INJECT_HI_TYPE (bitsOf w 16 2)
  if bitSet w 31 ∧ (bitsOf w 16 2 = 1 ∨ bitsOf w 16 2 = 2) then s.wr MEM_INJECT_HI_ARM 1 else s

/-- MEM_INJECT_ARM: a write of `MEM_INJECT_HI` with ARM 1. -/
def execMemInjectArm (w : Word) (s : State) : Host.Outcome State Fault Refusal :=
  s.finish (s.injectHi (w.toNat % 2 ^ 31 + 2 ^ 31))

end Sys2Proof.Machine
end

