-- ==== Sys2Proof/Machine/Carding.lean ====
section
/-! DEFINITION. Carding mode (R263–R272, 06_encode_spindles.md): descriptors, patterns, correlation and measurement, and the
queue of jobs with their stripes. -/

namespace Sys2Proof.Machine

open R

/-! ### The descriptor (Table 6-14) -/

/-- A carding descriptor. -/
structure CardDesc where
  type : Nat := 0
  pattern : Nat := 0
  log2B : Nat := 0
  opt : Nat := 0
  wx : Nat := 0
  wy : Nat := 0
  src : Nat := 0
  ref : Nat := 0
  list : Nat := 0
  out : Nat := 0
  nx : Nat := 0
  ny : Nat := 0
  orgX : Nat := 0
  orgY : Nat := 0
  stepX : Nat := 0
  stepY : Nat := 0
  param : Nat := 0
  level : Nat := 0
  seed : Nat := 0
  deriving DecidableEq, Repr

/-- Read a descriptor from its 64 bytes; addresses occupy bits [40:0]. -/
def cardDesc (d : List Byte) : CardDesc :=
  let f := recField d
  { type := f 0 1, pattern := f 1 1, log2B := f 2 1, opt := f 3 1, wx := f 4 2, wy := f 6 2
    src := f 8 8 % 2 ^ 41, ref := f 0x10 8 % 2 ^ 41, list := f 0x18 8 % 2 ^ 41, out := f 0x20 8 % 2 ^ 41
    nx := f 0x28 2, ny := f 0x2A 2, orgX := f 0x2C 2, orgY := f 0x2E 2, stepX := f 0x30 2, stepY := f 0x32 2
    param := f 0x34 2, level := f 0x36 2, seed := f 0x38 4 }

/-- The position list is used (OPT bit 0). -/
def CardDesc.listed (d : CardDesc) : Bool := bitSet d.opt 0

/-- Records of a job, or picture rows for GENERATE. (DESIGN CHOICE, log entry 60.) -/
def CardDesc.units (d : CardDesc) : Nat := if d.type = 0 then d.ny else d.nx * d.ny

/-- Records or rows of one stripe (R272). -/
def CardDesc.stripeLen (d : CardDesc) : Nat := if d.type = 0 then 64 else 4096

/-- Every field lies in its range (R265, Table 6-14). -/
def CardDesc.ok (d : CardDesc) : Bool :=
  decide (d.nx * d.ny ≤ 2 ^ 24 - 1) &&
    (match d.type with
    | 0 => decide (d.pattern ≤ 3) && decide (d.level ≤ 1023)
    | 1 => decide (d.pattern ≤ 1) && decide (3 ≤ d.log2B) && decide (d.log2B ≤ 6) && decide (d.wx ≤ 256) &&
        decide (d.wy ≤ 128) && (d.pattern != 1 || (decide (1 ≤ d.param) && decide (d.param ≤ 255)))
    | 2 => d.listed && decide (d.param ≤ 15)
    | _ => false)

/-- The luma plane of a picture as its record describes it (R266). -/
structure Plane where
  base : Nat := 0
  w : Nat := 0
  h : Nat := 0
  depth : Nat := 8
  bytes : Nat := 1
  pitch : Nat := 0
  /-- bytes between one sample and the next of the plane (Cb and Cr of the semi-planar layout) -/
  gap : Nat := 0
  deriving DecidableEq, Repr

/-- The plane a record describes. -/
def planeOf (addr : Nat) (rec : List Byte) : Plane :=
  let depth := recField rec 0x21 1
  { base := addr + recField rec 0x30 4, w := recField rec 0x14 2, h := recField rec 0x16 2, depth := depth
    bytes := if 8 < depth ∨ bitSet (recField rec 0x22 1) 1 then 2 else 1, pitch := recField rec 0x24 4 }

/-- The record is consistent with R266. -/
def Plane.ok (p : Plane) : Bool :=
  decide (1 ≤ p.w) && decide (1 ≤ p.h) && decide (8 ≤ p.depth) && decide (p.depth ≤ 10) && decide (p.w * p.bytes ≤ p.pitch)

/-! ### GENERATE (Table 6-15) -/

/-- Output bit `n` of the PRBS31 sequence loaded with a seed. -/
def prbsBitAt (seed n : Nat) : Nat := bitOf (prbs31Bits (prbs31Seed seed) (n + 1)).1 n

/-- A lamp is lit. -/
def CardDesc.lit (d : CardDesc) (x y : Nat) : Bool :=
  let p := if d.param = 0 then 1 else d.param
  match d.pattern with
  | 0 => true
  | 1 => x % p == d.seed % 256 % p && y % p == d.seed / 256 % 256 % p
  | 2 => (x / p + y / p) % 2 == 0
  | _ => prbsBitAt d.seed (y / p * cdiv d.nx p + x / p) == 1

/-- The record of a generated picture (R266). -/
def CardDesc.genRecord (d : CardDesc) : List Byte :=
  let l := layoutOf d.nx d.ny 3 10 true false true
  natLe 0x14 0 ++ natLe 2 d.nx ++ natLe 2 d.ny ++ natLe 8 0 ++ natLe 1 3 ++ natLe 1 10 ++ natLe 2 1 ++
    natLe 4 l.pitchY ++ natLe 4 l.pitchC ++ natLe 4 0 ++ natLe 4 l.offY ++ natLe 4 l.offCb ++ natLe 4 l.offCr ++
    natLe 4 l.offMeta ++ natLe 0x30 0 ++ natLe 1 1 ++ natLe 1 13 ++ natLe 1 0 ++ natLe 1 1 ++ natLe 0x8C 0

/-- One row of one plane: the channel's enable bit is OPT bit `ch` (1 R, 2 G, 3 B). -/
def CardDesc.genRow (d : CardDesc) (ch y : Nat) : List Byte :=
  (List.range d.nx).flatMap (fun x => natLe 2 (if bitSet d.opt ch && d.lit x y then d.level else 0))

/-- Perform writes; whether one received an ERROR response. -/
def State.writeAll (s : State) (master : Nat) : List (Nat × List Byte) → Bool × State
  | [] => (false, s)
  | w :: r =>
    let o := s.busWrite master w.1 w.2
    let q := o.2.writeAll master r
    (o.1 != 0 || q.1, q.2)

/-- GENERATE, rows [lo, hi): the planes hold G, B and R (R266); the record goes with the first stripe. -/
def State.cardGenerate (s : State) (master : Nat) (d : CardDesc) (lo hi : Nat) : Bool × State :=
  let l := layoutOf d.nx d.ny 3 10 true false true
  let rows := (List.range (hi - lo)).map (· + lo)
  let plane := fun (off pitch ch : Nat) => rows.map (fun y => (d.src + off + y * pitch, d.genRow ch y))
  s.writeAll master ((if lo = 0 then [(d.src, d.genRecord)] else []) ++
    plane l.offY l.pitchY 2 ++ plane l.offCb l.pitchC 3 ++ plane l.offCr l.pitchC 1)

/-! ### Samples -/

/-- The rows of a plane that cover an area, clamped to the picture: for each row its samples from column `x0`; whether a
read received an ERROR response, which leaves the row's samples free (R200). Areas are given by signed corners, inclusive. -/
def State.readRows (s : State) (master : Nat) (p : Plane) (x0 x1 : Nat) : List Nat → Bool × List (Nat × List Byte) × State
  | [] => (false, [], s)
  | y :: r =>
    let n := (x1 - x0) * (p.bytes + p.gap) + p.bytes
    let o := s.busRead master 0 (p.base + y * p.pitch + x0 * (p.bytes + p.gap)) n
    let d := if o.1 = 0 then o.2 else o.2.2.freeBytes n
    let q := d.2.readRows master p x0 x1 r
    (o.1 != 0 || q.1, (y, d.1) :: q.2.1, q.2.2)

/-- An area of samples in hand. -/
structure Area where
  plane : Plane := {}
  x0 : Nat := 0
  rows : List (Nat × List Byte) := []
  deriving DecidableEq, Repr

/-- A sample of an area, by signed coordinates. -/
def Area.at (a : Area) (x y : Int) : Nat :=
  let cx := clampTo a.plane.w x
  let cy := clampTo a.plane.h y
  leNat (slice (smGet [] a.rows cy) ((cx - a.x0) * (a.plane.bytes + a.plane.gap)) a.plane.bytes)

/-- Read the samples with corners (xa, ya) to (xb, yb), inclusive. -/
def State.readArea (s : State) (master : Nat) (p : Plane) (xa ya xb yb : Int) : Bool × Area × State :=
  let x0 := clampTo p.w xa
  let y0 := clampTo p.h ya
  let rows := (List.range (clampTo p.h yb + 1 - y0)).map (· + y0)
  let o := s.readRows master p x0 (clampTo p.w xb) rows
  (o.1, { plane := p, x0 := x0, rows := o.2.1 }, o.2.2)

/-- Some coordinate of a range lies outside the picture. -/
def Plane.beyond (p : Plane) (xa ya xb yb : Int) : Bool :=
  decide (xa < 0) || decide (ya < 0) || decide ((p.w : Int) ≤ xb) || decide ((p.h : Int) ≤ yb)

/-! ### CORRELATE (R267–R269) -/

/-- Integer square root, one bit at a time from bit `k`. -/
def isqrtFrom (n : Nat) : Nat → Nat → Nat
  | 0, r => if (r + 1) * (r + 1) ≤ n then r + 1 else r
  | k + 1, r => isqrtFrom n k (if (r + 2 ^ (k + 1)) * (r + 2 ^ (k + 1)) ≤ n then r + 2 ^ (k + 1) else r)

/-- Integer square root of a number below 2^400. -/
def isqrt (n : Nat) : Nat := isqrtFrom n 200 0

/-- The samples of a block of side `b` whose centre lies at (x, y) (R267). -/
def Area.block (a : Area) (b : Nat) (x y : Int) : List Nat :=
  (List.range b).flatMap (fun (j : Nat) => (List.range b).map (fun (i : Nat) =>
    a.at (x - b / 2 + i) (y - b / 2 + j)))

/-- Sum and sum of squares. -/
def sums (l : List Nat) : Nat × Nat := l.foldl (fun a v => (a.1 + v, a.2 + v * v)) (0, 0)

/-- Sum of products. -/
def dot (l m : List Nat) : Nat := (l.zip m).foldl (fun a p => a + p.1 * p.2) 0

/-- Zero-mean normalised cross-correlation in units of 2^−64 (R268); none where a variance is 0. -/
def ncc (l m : List Nat) : Option Int :=
  let n := l.length
  let a := sums l
  let b := sums m
  let num : Int := n * dot l m - a.1 * b.1
  let den := (n * a.2 - a.1 * a.1) * (n * b.2 - b.1 * b.1)
  if den = 0 then none
  else
    let r : Int := isqrt (num.natAbs * num.natAbs * 2 ^ 128 / den)
    some (if num < 0 then -r else r)

/-- e^x in units of 2^−96 for x = p / q below 8, by its series. -/
def expUp (p q : Nat) : Nat :=
  ((List.range 90).foldl (fun (a : Nat × Nat) k => (a.1 + a.2, a.2 * p / (q * (k + 1)))) (0, 2 ^ 96)).1

/-- The SPOT template (R267). -/
def spotTemplate (b sigma : Nat) : List Nat :=
  (List.range b).flatMap (fun (j : Nat) => (List.range b).map (fun (i : Nat) =>
    let dx := if i < b / 2 then b / 2 - i else i - b / 2
    let dy := if j < b / 2 then b / 2 - j else j - b / 2
    let p := 128 * (dx * dx + dy * dy)
    let q := sigma * sigma
    if 8 * q ≤ p then 0 else (2 * 1023 * 2 ^ 96 / expUp p q + 1) / 2))

/-- Round a quotient to the nearest integer, ties away from zero. -/
def roundAway (n d : Int) : Int :=
  let q : Int := (2 * n.natAbs + d.natAbs) / (2 * d.natAbs)
  if (n < 0) = (d < 0) then q else -q

/-- The parabola's offset in eighths (R268); none where the parabola is flat. -/
def parabola (m z p : Int) : Option Int :=
  let d := m - 2 * z + p
  if d = 0 then none else some (max (-4) (min 4 (roundAway (4 * (m - p)) d)))

/-- Signed integers from −n to n. -/
def window (n : Nat) : List Int := (List.range (2 * n + 1)).map (fun (i : Nat) => (i : Int) - n)

/-- A match: displacement, ρ, and the best ρ outside its 3 × 3 neighbourhood. -/
structure Match where
  dx : Int := 0
  dy : Int := 0
  rho : Int := 0
  second : Option Int := none
  deriving DecidableEq, Repr

/-- The score of a block against a template; where a variance is 0 the spec states no ρ and it is a free value from −1 to 1
(DESIGN CHOICE, log entry 22). -/
def score (l m : List Nat) : Int :=
  match ncc l m with
  | some r => r
  | none => ((Config.cardValue 0 l m % (2 ^ 65 + 1) : Nat) : Int) - 2 ^ 64

/-- Score displacements at a level: the block and the template subsampled by 2^`sh`. -/
def Area.scores (a : Area) (b sh : Nat) (x y : Int) (t : List Nat) (l : List (Int × Int)) : List (Int × Int × Int) :=
  let at_ := fun (m : List Nat) => if sh = 0 then m else Config.subsampled sh m
  l.map (fun d => (d.1, d.2, score (at_ (a.block b (x + d.1) (y + d.2))) (at_ t)))

/-- The best of the scores of a search; among equal scores the choice is a free value. (DESIGN CHOICE, log entry 22.) -/
def bestOf (blk t : List Nat) (l : List (Int × Int × Int)) : Match :=
  let top := l.foldl (fun m e => max m e.2.2) (-(2 ^ 65 : Int))
  let ties := l.filter (fun e => e.2.2 == top)
  let e := (ties[if ties.length ≤ 1 then 0 else Config.cardValue 1 blk t % ties.length]?).getD (0, 0, 0)
  let rest := l.filter (fun f => !(decide ((f.1 - e.1).natAbs ≤ 1) && decide ((f.2.1 - e.2.1).natAbs ≤ 1)))
  let second := rest.foldl (fun (m : Option Int) f => some (match m with | none => f.2.2 | some k => max k f.2.2)) none
  { dx := e.1, dy := e.2.1, rho := e.2.2, second := second }

/-- The displacements of half-windows `nx` and `ny` in steps of `st` around a centre, kept within the window of the descriptor. -/
def CardDesc.around (d : CardDesc) (c : Int × Int) (nx ny : Nat) (st : Int) : List (Int × Int) :=
  let keep := fun (n : Nat) (v : Int) => max (-(n : Int)) (min (n : Int) v)
  ((window ny).flatMap (fun dy => (window nx).map (fun dx => (keep d.wx (c.1 + st * dx), keep d.wy (c.2 + st * dy))))).eraseDups

/-- The best match in a window (R268): exhaustive for half-windows up to 16, else the three levels of Table 6-9, the coarsest over the whole
window and 5 × 5 positions at each of the others, as the cost of R271 counts them. (DEDUCED, log entry 22.) -/
def CardDesc.search (d : CardDesc) (a : Area) (b : Nat) (x y : Int) (t : List Nat) : Match :=
  let blk := a.block b x y
  if d.wx ≤ 16 ∧ d.wy ≤ 16 then bestOf blk t (a.scores b 0 x y t (d.around (0, 0) d.wx d.wy 1))
  else
    let m4 := bestOf blk t (a.scores b 2 x y t (d.around (0, 0) (cdiv d.wx 4) (cdiv d.wy 4) 4))
    let m2 := bestOf blk t (a.scores b 1 x y t (d.around (m4.dx, m4.dy) 2 2 2))
    bestOf blk t (a.scores b 0 x y t (d.around (m2.dx, m2.dy) 2 2 1))

/-- A parabola offset, free where the fit gives none. (DESIGN CHOICE, log entry 22.) -/
def offsetOf (blk t : List Nat) (m z p : Int) : Int :=
  match parabola m z p with
  | some v => v
  | none => ((Config.cardValue 2 blk t % 9 : Nat) : Int) - 4

/-- RATIO (Table 6-17): 255 for ρ ≤ 0; a free value where there is no ρ₂ or it is negative. (DESIGN CHOICE, log entry 22.) -/
def ratioOf (blk t : List Nat) (m : Match) : Nat :=
  if m.rho ≤ 0 then 255
  else match m.second with
    | some r => if 0 ≤ r then ((2 * 255 * r + m.rho) / (2 * m.rho)).toNat % 256 else Config.cardValue 3 blk t % 256
    | none => Config.cardValue 3 blk t % 256

/-- The FLAGS byte of a record (R269). -/
def cardFlags (valid edge low amb sat err : Bool) : Nat :=
  b2n (valid && !edge && !low && !amb) + 2 * b2n edge + 4 * b2n low + 8 * b2n amb + 16 * b2n sat + 32 * b2n err

/-- A record whose samples could not all be read: MEM_ERROR set, what the samples decide free values. (DESIGN CHOICE, log entry 22.) -/
def State.errRecord (s : State) (d : CardDesc) (index : Nat) : List Byte × State :=
  let v := s.free
  let bit := fun (i : Nat) => bitSet v.1 (96 + i)
  if d.type = 2 then (natLe 4 index ++ natLe 8 v.1 ++ natLe 3 0 ++ natLe 1 (cardFlags true (bit 1) false false (bit 4) true), v.2)
  else
    (natLe 4 index ++ natLe 11 v.1 ++
      natLe 1 (cardFlags (bit 0) (bit 1) (bit 2) (decide (230 ≤ v.1 / 2 ^ 80 % 256)) (bit 4) true), v.2)

/-- One CORRELATE record at position (x, y). -/
def State.cardCorrelate (s : State) (master : Nat) (d : CardDesc) (p q : Plane) (index : Nat) (x y : Int) :
    Bool × List Byte × State :=
  let b : Nat := 2 ^ d.log2B
  let h : Int := ((b / 2 : Nat) : Int)
  let o := s.readArea master p (x - h - d.wx - 1) (y - h - d.wy - 1) (x + h + d.wx) (y + h + d.wy)
  let r := if d.pattern = 0 then o.2.2.readArea master q (x - h) (y - h) (x + h - 1) (y + h - 1) else (false, {}, o.2.2)
  if o.1 || r.1 then
    let e := r.2.2.errRecord d index
    (true, e.1, e.2)
  else
    let t := if d.pattern = 0 then r.2.1.block b x y else spotTemplate b d.param
    let a := o.2.1
    let m := d.search a b x y t
    let cx := x + m.dx
    let cy := y + m.dy
    let blk := a.block b cx cy
    let ox := offsetOf blk t (score (a.block b (cx - 1) cy) t) m.rho (score (a.block b (cx + 1) cy) t)
    let oy := offsetOf blk t (score (a.block b cx (cy - 1)) t) m.rho (score (a.block b cx (cy + 1)) t)
    let rt := ratioOf blk t m
    let sm := sums blk
    let n := b * b
    let edge := m.dx.natAbs == d.wx || m.dy.natAbs == d.wy || p.beyond (cx - h) (cy - h) (cx + h - 1) (cy + h - 1)
    let low := decide (n * sm.2 - sm.1 * sm.1 < d.level * d.level * n * n)
    let sat := blk.any (fun v => v == 2 ^ p.depth - 1)
    let peak := ofSign 16 ((2 * 32767 * m.rho + 2 ^ 64) / 2 ^ 65)
    (false, natLe 4 index ++ natLe 2 (ofSign 16 (8 * cx + ox)) ++ natLe 2 (ofSign 16 (8 * cy + oy)) ++
      natLe 2 (ofSign 16 (8 * m.dx + ox)) ++ natLe 2 (ofSign 16 (8 * m.dy + oy)) ++ natLe 2 peak ++
      natLe 1 rt ++ natLe 1 (cardFlags (decide (0 < m.rho)) edge low (decide (230 ≤ rt)) sat false), r.2.2)

/-! ### MEASURE (R270) -/

/-- One MEASURE record at a listed position, in eighths of a sample. -/
def State.cardMeasure (s : State) (master : Nat) (d : CardDesc) (p : Plane) (index px py : Nat) :
    Bool × List Byte × State :=
  let a : Int := d.param
  let cx : Int := px / 8
  let cy : Int := py / 8
  let near := (window (d.param + 1)).flatMap (fun dy => (window (d.param + 1)).map (fun dx => (cx + dx, cy + dy)))
  let pts := near.filter (fun (q : Int × Int) =>
    decide ((8 * q.1 - (px : Int)) ^ 2 + (8 * q.2 - (py : Int)) ^ 2 ≤ (8 * a) ^ 2))
  let o := s.readArea master p (cx - a - 1) (cy - a - 1) (cx + a + 1) (cy + a + 1)
  if o.1 then
    let e := o.2.2.errRecord d index
    (true, e.1, e.2)
  else
    let v := pts.map (fun q => o.2.1.at q.1 q.2)
    let edge := pts.any (fun q => p.beyond q.1 q.2 q.1 q.2)
    let sat := v.any (fun x => x == 2 ^ p.depth - 1)
    (false, natLe 4 index ++ natLe 4 (v.foldl (fun t x => t + (x - d.level)) 0) ++ natLe 2 (v.foldl max 0) ++
      natLe 2 v.length ++ natLe 3 0 ++ natLe 1 (cardFlags true edge false false sat false), o.2.2)

/-! ### Records and stripes -/

/-- A listed coordinate in eighths, rounded to the nearest sample; a tie goes either way, by a free value. (DESIGN CHOICE, log entry 22.) -/
def roundPos (v : Nat) : Nat := if v % 8 = 4 then v / 8 + Config.cardValue 4 [v] [] % 2 else (v + 4) / 8

/-- One record: its position, its contents, its write; whether an access received an ERROR response, and whether it was written. -/
def State.cardRecord (s : State) (master : Nat) (d : CardDesc) (p q : Plane) (index : Nat) : Bool × Bool × State :=
  let e := if d.listed then s.busRead master 0 (d.list + 4 * index) 4 else (0, [], s)
  let lx := leNat (e.2.1.take 2)
  let ly := leNat (e.2.1.drop 2)
  let r :=
    if e.1 ≠ 0 then
      let x := e.2.2.errRecord d index
      (true, x.1, x.2)
    else if d.type = 2 then e.2.2.cardMeasure master d p index lx ly
    else if d.listed then
      e.2.2.cardCorrelate master d p q index (roundPos lx) (roundPos ly)
    else s.cardCorrelate master d p q index (d.orgX + index % d.nx * d.stepX : Nat) (d.orgY + index / d.nx * d.stepY : Nat)
  let w := r.2.2.busWrite master (d.out + 16 * index) r.2.1
  (r.1 || w.1 != 0, w.1 == 0, w.2)

/-- The records of a stripe, in order: whether an access received an ERROR response, and how many were written. -/
def State.cardRecords (s : State) (master : Nat) (d : CardDesc) (p q : Plane) : List Nat → Bool × Nat × State
  | [] => (false, 0, s)
  | i :: r =>
    let o := s.cardRecord master d p q i
    let t := o.2.2.cardRecords master d p q r
    (o.1 || t.1, b2n o.2.1 + t.2.1, t.2.2)

/-- Read a picture's record and the plane it describes. -/
def State.cardPlane (s : State) (master addr : Nat) : Bool × Plane × State :=
  let o := s.busRead master 0 addr 256
  (o.1 != 0, planeOf addr o.2.1, o.2.2)

/-- Do the work of a stripe: whether an access received an ERROR response, and the records written. -/
def State.cardStripe (s : State) (master : Nat) (d : CardDesc) (i : Nat) : Bool × Nat × State :=
  let lo := i * d.stripeLen
  let hi := min d.units (lo + d.stripeLen)
  if d.type = 0 then ((s.cardGenerate master d lo hi).1, 0, (s.cardGenerate master d lo hi).2)
  else
    let p := s.cardPlane master d.src
    let q : Bool × Plane × State := if d.type = 1 ∧ d.pattern = 0 then p.2.2.cardPlane master d.ref else (false, {}, p.2.2)
    let o := q.2.2.cardRecords master d p.2.1 q.2.1 ((List.range (hi - lo)).map (· + lo))
    (p.1 || q.1 || o.1, o.2.1, o.2.2)

/-! ### The queue (R263, R272) -/

/-- Show how many jobs are queued or running. -/
def State.showCard (s : State) : State := s.wr SPE_CARD_STATUS_QUEUED s.card.jobs.length

/-- Change the job with a number. -/
def State.modCard (s : State) (num : Nat) (f : CardJob → CardJob) : State :=
  { s with card := { s.card with jobs := s.card.jobs.map (fun j => if j.num = num then f j else j) } }

/-- A write of `SPE_CARD_SUBMIT_HI` (R263). -/
def State.cardSubmit (s : State) (held : Bool) (hi : Nat) : State :=
  let addr := 2 ^ 32 * (hi % 512) + s.rd SPE_CARD_SUBMIT_LO
  if 16 ≤ s.card.jobs.length ∨ held then s.wr SPE_CARD_STATUS_SUBMIT_LOST 1
  else
    ({ s with card := { jobs := s.card.jobs ++ [{ num := s.card.num, addr := addr }], num := s.card.num + 1 } } : State).showCard

/-- A job ends (R265): RESULT is written, then DONE sets. -/
def State.cardEnd (s : State) (master : Nat) (j : CardJob) : State :=
  let s := s.store master (j.addr + 0x3C) (natLe 4 (j.code + j.records * 256))
  let s := ({ s with card := { s.card with jobs := s.card.jobs.filter (fun k => k.num != j.num) } } : State).showCard
  (s.wr SPE_CARD_STATUS_DONE 1).bump SPE_CARD_DONE_CNT

/-- The job begins on a spindle: its descriptor is read once and checked (R264, R265). -/
def State.cardBegin (s : State) (master : Nat) (j : CardJob) : State :=
  let o := s.busRead master 3 j.addr 64
  let d := cardDesc o.2.1
  if o.1 ≠ 0 then o.2.2.cardEnd master { j with code := 2 }
  else if ¬ d.ok then o.2.2.cardEnd master { j with code := 1 }
  else
    let p : Bool × Plane × State := if d.type = 0 then ((false, {}, o.2.2) : Bool × Plane × State) else o.2.2.cardPlane master d.src
    let q : Bool × Plane × State := if d.type = 1 ∧ d.pattern = 0 then p.2.2.cardPlane master d.ref else (false, {}, p.2.2)
    let s := q.2.2
    if p.1 ∨ q.1 then s.cardEnd master { j with code := 2 }
    else if (d.type ≠ 0 ∧ ¬ p.2.1.ok) ∨ (d.type = 1 ∧ d.pattern = 0 ∧ ¬ q.2.1.ok) then s.cardEnd master { j with code := 1 }
    else
      let n := cdiv d.units d.stripeLen
      if n = 0 then s.cardEnd master { j with code := 0 }
      else s.modCard j.num (fun k => { k with began := true, desc := o.2.1, stripes := n })

/-- The next stripe to dispatch: one to run again first, else the next of the first job not wholly dispatched (R272). -/
def CardSt.nextStripe (c : CardSt) : Option Stripe :=
  match c.jobs.findSome? (fun j => j.again.head?) with
  | some t => some t
  | none => (c.jobs.find? (fun j => j.began && decide (j.next < j.stripes))).map (fun j => { job := j.num, idx := j.next })

/-- Every stripe of the jobs before the first one not begun has been dispatched, so it may begin. -/
def CardSt.toBegin (c : CardSt) : Option CardJob :=
  if c.nextStripe.isSome then none else c.jobs.find? (fun j => !j.began)

/-- Begin jobs until a stripe can be dispatched: at most as many as are queued. A job whose descriptor read meets RETRY waits (R16). -/
def State.cardReady (s : State) (master : Nat) : Nat → State
  | 0 => s
  | n + 1 => match s.card.toBegin with
    | none => s
    | some j => if s.unitCode j.addr = 1 then s else (s.cardBegin master j).cardReady master n

/-- The record of an encode spindle. -/
def State.spe (s : State) (k : Nat) : Spe := smGet {} s.spes k

/-- Bring `SPE_STATUS` in line with the record (Tables 6-1 and 6-2). -/
def State.showSpe (s : State) (k : Nat) : State :=
  let r := s.spe k
  let busy := r.cur.isSome || r.stripe.isSome
  let st :=
    if s.fenced (0x10 + k) then 6
    else if busy && s.isl (16 + k) == islDRAINING && !r.held then 5
    else match r.cur with
      | some j => if j.phase = .coding then 1 else 3
      | none => if r.stripe.isSome then 2 else 0
  let s := (s.wr (SPE_STATUS_STATE k) st).wr (SPE_STATUS_CARDING k) (b2n r.stripe.isSome)
  match r.cur with
  | some j => s.wr (SPE_STATUS_SESSION k) j.session
  | none => s

/-- Change the record of an encode spindle, and what its status register shows. -/
def State.modSpe (s : State) (k : Nat) (f : Spe → Spe) : State :=
  ({ s with spes := smSet {} s.spes k (f (s.spe k)) }).showSpe k

/-- A free spindle of the CARDING mask takes a stripe (R272). -/
def State.cardTake (s : State) (k : Nat) : State :=
  if bitSet (s.rd (STC_CLASSMAP_ENC_MASK 3)) k then
    let s := s.cardReady (0x10 + k) s.card.jobs.length
    match s.card.nextStripe with
    | none => s
    | some t =>
      let s := s.modCard t.job (fun j =>
        if j.again.contains t then { j with again := j.again.erase t } else { j with next := j.next + 1 })
      s.modSpe k (fun r => { r with stripe := some t })
  else s

/-- A stripe has ended; the job ends with its last one. -/
def State.stripeEnd (s : State) (master job : Nat) (code records : Nat) : State :=
  let s := s.modCard job (fun j => { j with ended := j.ended + 1, records := j.records + records, code := max j.code code })
  match s.card.jobs.find? (fun j => j.num == job && j.ended == j.stripes) with
  | none => s
  | some j => s.cardEnd master j

/-- The stripe on spindle `k` completes. -/
def State.stripeDone (s : State) (k : Nat) : State :=
  let r := s.spe k
  match r.stripe with
  | none => s
  | some t =>
    match s.card.jobs.find? (fun j => j.num == t.job) with
    | none => s.modSpe k (fun x => { x with stripe := none })
    | some j =>
      let d := cardDesc j.desc
      let o := s.cardStripe (0x10 + k) d t.idx
      let n := if d.type = 0 then 0 else min d.units ((t.idx + 1) * 4096) - t.idx * 4096
      let s := (o.2.2.modSpe k (fun x => { x with stripe := none })).bump (SPE_STRIPES k)
      (s.countUnit 0x052 (0x10 + k) n).stripeEnd (0x10 + k) t.job (if o.1 then 2 else 0) o.2.1

/-- A stripe is cut by a fence or a forced power-down: it runs again once; the second time its job ends ABORTED, once the stripes that run
have ended, and no other is dispatched (R272). -/
def State.stripeCut (s : State) (k : Nat) : State :=
  match (s.spe k).stripe with
  | none => s
  | some t =>
    let s := s.modSpe k (fun x => { x with stripe := none, held := false })
    let spent := s.card.jobs.any (fun j => j.num == t.job && j.code == 3)
    if t.cuts = 0 ∧ ¬ spent then s.modCard t.job (fun j => { j with again := j.again ++ [{ t with cuts := 1 }] })
    else (s.modCard t.job (fun j => { j with again := [], stripes := j.next - j.again.length })).stripeEnd (0x10 + k) t.job 3 0

end Sys2Proof.Machine
end

