-- ==== Sys2Proof/Machine/PlyPixel.lean ====
section
/-! DEFINITION. The arithmetic of a lamp (07_ply_engines.md): scaling positions and filters (R298–R300), the colour transform
(R302, R303), composition (R280), tile matrix, gains, curve, dither and code (R304–R313). Pure functions of samples. -/

namespace Sys2Proof.Machine

/-! ### Fractions -/

/-- A fraction with a positive denominator. -/
structure Frac where
  n : Int := 0
  d : Nat := 1
  deriving DecidableEq, Repr

/-- Sum. -/
def Frac.add (a b : Frac) : Frac := ⟨a.n * b.d + b.n * a.d, a.d * b.d⟩
/-- Difference. -/
def Frac.sub (a b : Frac) : Frac := ⟨a.n * b.d - b.n * a.d, a.d * b.d⟩
/-- Product with p / q. -/
def Frac.scale (a : Frac) (p q : Nat) : Frac := ⟨a.n * p, a.d * q⟩
/-- The fraction brought into [0, 1]. (DEDUCED, log entry 55.) -/
def Frac.clamp01 (a : Frac) : Frac := if a.n < 0 then ⟨0, 1⟩ else if (a.d : Int) < a.n then ⟨1, 1⟩ else a

/-- An integer brought into [0, 65535]. -/
def clamp16 (v : Int) : Nat := min 65535 v.toNat

/-- p / q rounded to one of its two neighbours, by a free bit where the spec does not say which (DESIGN CHOICE, log entry 32). -/
def roundBy (u : Nat) (p : Int) (q : Nat) : Int := if p % q = 0 then p / q else p / q + (u % 2 : Nat)

/-! ### Scaling (R298–R300) -/

/-- One direction of a window's scaling: the source interval, the destination length, the decimation exponent m and the
coefficient of a phase and a tap. -/
structure Axis where
  src : Nat := 0
  sw : Nat := 1
  dw : Nat := 1
  m : Nat := 0

/-- The smallest m ≤ 3 with SRC ≤ 2^(m+1) × DST (R299). -/
def decimation (sw dw : Nat) : Nat := if sw ≤ 2 * dw then 0 else if sw ≤ 4 * dw then 1 else if sw ≤ 8 * dw then 2 else 3

/-- The ratio that leaves a window nothing to draw (R299). -/
def overRatio (sw dw : Nat) : Bool := decide (16 * dw < sw)

/-- The integer part and the phase of a position p / q (R299). -/
def phaseOf (p : Int) (q : Nat) : Int × Nat :=
  let i := p / q
  let ph := ((p - i * q) * 128 + q) / (2 * q)
  if ph = 64 then (i + 1, 0) else (i, ph.toNat)

/-- The position of destination lamp `u` on the averaged grid: s = SRC / 2^m + (u + 1/2) × SRC_W / 2^m / DST_W − 1/2. -/
def Axis.pos (a : Axis) (u : Nat) : Int × Nat :=
  phaseOf (2 * a.src * a.dw + (2 * u + 1) * a.sw - (a.dw * 2 ^ a.m : Nat)) (2 * a.dw * 2 ^ a.m)

/-- The source samples, first and last, that lamp `u` reads after the clamping of R300. -/
def Axis.foot (a : Axis) (u : Nat) : Nat × Nat :=
  let i := (a.pos u).1
  let lo := ((i - 3) * (2 ^ a.m : Nat)).toNat
  let hi := ((i + 4) * (2 ^ a.m : Nat) + (2 ^ a.m - 1 : Nat)).toNat
  let last := a.src + a.sw - 1
  (max a.src (min lo last), min last (max hi a.src))

/-- A sample position brought into the source interval (R300). (DEDUCED, log entry 55.) -/
def Axis.clampAt (a : Axis) (v : Int) : Int := max (a.src : Int) (min ((a.src + a.sw - 1 : Nat) : Int) v)

/-- The 16 bits carried from a pass: x rounded half up (R300). The place of the binary point and the sign are free
(DESIGN CHOICE, log entry 31). `a` is how many fraction bits the numerator has already. -/
def carry16 (depth a : Nat) (p : Int) (q : Nat) : Int :=
  let v := (p * (2 ^ (Config.plyCarryShift depth + 1) : Nat) + (q * 2 ^ a : Nat)) / (2 * q * 2 ^ a : Nat)
  if Config.plyCarrySigned then max (-32768) (min 32767 v) else max 0 (min 65535 v)

/-- One pass in one direction at position (i, phase): eight taps over boxes of 2^m samples. -/
def tapPass (depth a : Nat) (ax : Axis) (coef : Nat → Nat → Int) (pos : Int × Nat) (f : Int → Int) : Int :=
  let q := 2 ^ ax.m
  let box := fun (i : Int) => (List.range q).foldl (fun (t : Int) (k : Nat) => t + f (ax.clampAt (i * (q : Int) + (k : Int)))) 0
  let sum := (List.range 8).foldl (fun (t : Int) (j : Nat) => t + coef pos.2 j * box (pos.1 - 3 + (j : Int))) 0
  carry16 depth a sum (1024 * q)

/-- A sample scaled in both directions. The result has the carried format. (DESIGN CHOICE, log entry 31.) -/
def scale2 (depth a : Nat) (hx vy : Axis) (hc vc : Nat → Nat → Int) (hp vp : Int × Nat) (get : Int → Int → Int) : Int :=
  let sh := Config.plyCarryShift depth
  if Config.plyVertFirst then tapPass depth sh hx hc hp (fun x => tapPass depth a vy vc vp (fun y => get x y))
  else tapPass depth sh vy vc vp (fun y => tapPass depth a hx hc hp (fun x => get x y))

/-- Offset of the chroma sample grid in halves of a luma sample, horizontal and vertical, by chroma_sample_loc_type
(H.273; PRESUMED, log entry 33). Types 6 and 7 act as 0. -/
def chromaOff (loc : Nat) : Nat × Nat :=
  match loc with
  | 1 => (1, 1)
  | 2 => (0, 0)
  | 3 => (1, 0)
  | 4 => (0, 2)
  | 5 => (1, 2)
  | _ => (0, 1)

/-- Chroma at a luma position (R300): a plane subsampled by sx, sy is resampled with the same banks; a direction that is
not subsampled needs no pass. `a` is 0, and the result has the carried format. (DEDUCED, log entry 55.) -/
def chromaAt (depth sx sy loc : Nat) (hx vy : Axis) (hc vc : Nat → Nat → Int) (get : Int → Int → Int) (x y : Int) : Int :=
  let o := chromaOff loc
  let cx : Axis := { src := hx.src / sx, sw := (hx.src + hx.sw - 1) / sx - hx.src / sx + 1 }
  let cy : Axis := { src := vy.src / sy, sw := (vy.src + vy.sw - 1) / sy - vy.src / sy + 1 }
  let px := phaseOf (2 * x - o.1) (2 * sx)
  let py := phaseOf (2 * y - o.2) (2 * sy)
  if sx = 1 then get x y * (2 ^ Config.plyCarryShift depth : Nat)
  else if sy = 1 then tapPass depth 0 cx hc px (fun i => get i y)
  else scale2 depth 0 cx cy hc vc px py get

/-! ### Colour transform (R302, R303, Table 7-10) -/

/-- Luma and chroma as fractions of full scale. Values have the carried format of `depth`. -/
def expandRange (depth : Nat) (full : Bool) (chroma : Bool) (v : Int) : Frac :=
  let s := 2 ^ Config.plyCarryShift depth
  let k := 2 ^ (depth - 8)
  if full then
    if chroma then ⟨v - (2 ^ (depth - 1) * s : Nat), (2 ^ depth - 1) * s⟩ else ⟨v, (2 ^ depth - 1) * s⟩
  else if chroma then ⟨v - (128 * k * s : Nat), 224 * k * s⟩ else ⟨v - (16 * k * s : Nat), 219 * k * s⟩

/-- K_R and K_B in units of 1 / 10000, by MatrixCoefficients: BT.709, BT.601, BT.2020 (the standards' constants; PRESUMED,
PRESUMED, log entry 33). -/
def lumaWeights (matrix : Nat) : Nat × Nat :=
  if matrix = 5 ∨ matrix = 6 then (2990, 1140) else if matrix = 9 then (2627, 593) else (2126, 722)

/-- Y′CbCr to R′G′B′; `mono` for 4:0:0. The values lie in the carried format. (DEDUCED, log entry 55.) -/
def toRgb (depth matrix : Nat) (full mono : Bool) (y cb cr : Int) : Frac × Frac × Frac :=
  let fy := (expandRange depth full false y)
  if mono then (fy, fy, fy)
  else if matrix = 0 then (expandRange depth full false cr, fy, expandRange depth full false cb)
  else
    let w := lumaWeights matrix
    let kg := 10000 - w.1 - w.2
    let b := expandRange depth full true cb
    let r := expandRange depth full true cr
    (fy.add (r.scale (2 * (10000 - w.1)) 10000),
     (fy.sub (b.scale (2 * w.2 * (10000 - w.2)) (10000 * kg))).sub (r.scale (2 * w.1 * (10000 - w.1)) (10000 * kg)),
     fy.add (b.scale (2 * (10000 - w.2)) 10000))

/-- V^2.4 in units of 1 / 65535, rounded to nearest, for V = n / d in [0, 1]. -/
def power24 (n d : Nat) : Nat := (rootFrom 5 (2 ^ 5 * 65535 ^ 5 * n ^ 12 / d ^ 12) 17 0 + 1) / 2

/-- 1.0 of the fixed-point numbers that the transfer functions are worked out in: 64 fraction bits, far below the 2 units of R303
(PRESUMED, log entry 33). -/
def one64 : Nat := 2 ^ 64

/-- x^(p / q) of a fixed-point number in [0, 2). -/
def pow64 (p q x : Nat) : Nat := rootFrom q (x ^ p * one64 ^ q / one64 ^ p) 65 0

/-- The linear value of IEC 61966-2-1 (sRGB) for V = n / d in [0, 1], in units of 1 / 65535 (PRESUMED, log entry 33). -/
def srgbOf (n d : Nat) : Nat :=
  if 100000 * n ≤ 4045 * d then (2 * 65535 * 100 * n + 1292 * d) / (2 * 1292 * d) else power24 (200 * n + 11 * d) (211 * d)

/-- SMPTE ST 2084: luminance / 10000 cd/m² for V = n / d in [0, 1], as a fixed-point number (PRESUMED, log entry 33). -/
def pqOf (n d : Nat) : Nat :=
  let e := pow64 32 2523 (one64 * n / d)
  pow64 8192 1305 ((128 * e - 107 * one64) * one64 / (2413 * one64 - 2392 * e))

/-- exp(x) of a fixed-point number below 4, by its series. -/
def exp64 (x : Nat) : Nat :=
  ((List.range 48).foldl (fun (a : Nat × Nat) k => (a.1 + a.2, a.2 * x / (one64 * (k + 1)))) (0, one64)).1

/-- The inverse OETF of BT.2100 HLG for V = n / d in [0, 1], as a fixed-point number (PRESUMED, log entry 33). -/
def hlgScene (n d : Nat) : Nat :=
  if 2 * n ≤ d then one64 * n ^ 2 / (3 * d ^ 2)
  else min one64 ((exp64 (one64 * (100000000 * n - 55991073 * d) / (17883277 * d)) + one64 * 28466892 / 100000000) / 12)

/-- One colour of BT.2100 HLG with the reference OOTF and system gamma 1.2: E × Y^0.2, in units of 1 / 65535 (PRESUMED, log entry 33). -/
def hlgOf (e r g b : Nat) : Nat :=
  let y := (2627 * r + 6780 * g + 593 * b) / 10000
  (65535 * (e * pow64 1 5 y / one64) * 2 + one64) / (2 * one64)

/-- The exact 16-bit linear value of one colour `c` of a window (Table 7-10). (PRESUMED, log entry 33.) -/
def linearOf (transfer peak c : Nat) (r g b : Frac) : Nat :=
  let pick := (if c = 0 then r else if c = 1 then g else b).clamp01
  let n := pick.n.toNat
  let d := pick.d
  match transfer with
  | 13 => srgbOf n d
  | 16 => min 65535 ((2 * 65535 * 10000 * pqOf n d + one64 * peak) / (2 * one64 * peak))
  | 18 =>
    let scene := fun (v : Frac) => hlgScene v.clamp01.n.toNat v.d
    hlgOf (hlgScene n d) (scene r) (scene g) (scene b)
  | 8 => (2 * 65535 * n + d) / (2 * d)
  | _ => power24 n d

/-- The linearised value lies within 2 units of the exact one (R303): which value is free (DESIGN CHOICE, log entry 32). -/
def within2 (u v : Nat) : Nat := clamp16 ((v : Int) + (u % 5 : Nat) - 2)

/-- The nine coefficients of five matrix words, signed S2.13 (Table 7-3). -/
def matrixOf (words : List Nat) : List Int :=
  ((words.flatMap (fun w => [w % 65536, w / 65536 % 65536])).take 9).map (signOf 16)

/-- One row of a matrix over three colours, clamped to [0, 65535]. -/
def matRow (u : Nat) (m : List Int) (i : Nat) (r g b : Nat) : Nat :=
  let at' := fun j => (m[3 * i + j]?).getD 0
  clamp16 (roundBy u (at' 0 * r + at' 1 * g + at' 2 * b) 8192)

/-- Three colours. -/
abbrev Rgb := Nat × Nat × Nat

/-- Apply a matrix; `u` numbers the free rounding choices. -/
def matMul (u : Nat) (m : List Int) (p : Rgb) : Rgb :=
  (matRow (Config.freeValue u) m 0 p.1 p.2.1 p.2.2, matRow (Config.freeValue (u + 1)) m 1 p.1 p.2.1 p.2.2,
   matRow (Config.freeValue (u + 2)) m 2 p.1 p.2.1 p.2.2)

/-- The canvas sample of a window from its scaled components; `u` numbers the free values drawn. -/
def canvasSample (u depth matrix transfer peak : Nat) (full mono : Bool) (m : List Int) (y cb cr : Int) : Rgb :=
  let p := toRgb depth matrix full mono y cb cr
  let l := fun c => within2 (Config.freeValue (u + c)) (linearOf transfer peak c p.1 p.2.1 p.2.2)
  matMul (u + 3) m (l 0, l 1, l 2)

/-- A fill colour, value / 1023, as a 16-bit canvas sample; the rounding is free (Table 7-3, DESIGN CHOICE, log entry 32). -/
def fillSample (u fill : Nat) : Rgb :=
  let f := fun k => (roundBy (Config.freeValue (u + k)) (65535 * (fill / 1024 ^ k % 1024) : Nat) 1023).toNat
  (f 0, f 1, f 2)

/-! ### Composition and calibration (R280, R304, R308, R311, R313) -/

/-- Blend one colour (R280). -/
def blend (alpha s c : Nat) : Nat := (alpha * s + (255 - alpha) * c + 127) / 255

/-- Blend a sample over a value. -/
def blendRgb (alpha : Nat) (s c : Rgb) : Rgb := (blend alpha s.1 c.1, blend alpha s.2.1 c.2.1, blend alpha s.2.2 c.2.2)

/-- A 4.12 gain, rounded half up as the example of R312 does (R308). -/
def gain (g v : Nat) : Nat := (v * g + 2048) / 4096

/-- Gains of three colours. -/
def gainRgb (g v : Rgb) : Rgb := (gain g.1 v.1, gain g.2.1 v.2.1, gain g.2.2 v.2.2)

/-- The aging gains, whose product is clamped to 65535 (R311). -/
def agedRgb (g v : Rgb) : Rgb :=
  let w := gainRgb g v
  (min 65535 w.1, min 65535 w.2.1, min 65535 w.2.2)

/-- The square-root code of R313: ⌊65535 × √(v / 65535) + 1/2⌋. -/
def curveOf (v : Nat) : Nat := (rootFrom 2 (4 * 65535 * v) 18 0 + 1) / 2

/-- The dither matrix (Table 7-14), by row and column. -/
def ditherB (row col : Nat) : Nat :=
  (([0, 8, 2, 10, 12, 4, 14, 6, 3, 11, 1, 9, 15, 7, 13, 5] : List Nat)[4 * (row % 4) + col % 4]?).getD 0

/-- The dither offset of a frame (R313). -/
def ditherOff (k : Nat) : Nat × Nat :=
  match k % 4 with
  | 0 => (0, 0)
  | 1 => (2, 1)
  | 2 => (1, 3)
  | _ => (3, 2)

/-- The 12-bit field of one colour (R313): DEPTH code, curve, dither, native column and row, frame number. -/
def lampCode (depth : Nat) (curve dither : Bool) (c r k v : Nat) : Nat :=
  let d := 8 + 2 * depth
  let s := 16 - d
  let v := if curve then curveOf v else v
  let o := ditherOff k
  let t := if dither then (2 * ditherB (r + o.2) (c + o.1) + 1) * 2 ^ s / 32 else 2 ^ (s - 1)
  min (2 ^ d - 1) ((v + t) / 2 ^ s) * 2 ^ (12 - d)

/-! ### Tile geometry (R307) -/

/-- The canvas lamp of native lamp (c, r) (Table 7-13), relative to the footprint's corner; `w` and `h` are native. -/
def orientAt (o w h c r : Nat) : Nat × Nat :=
  match o with
  | 0 => (c, r)
  | 1 => (h - 1 - r, c)
  | 2 => (w - 1 - c, h - 1 - r)
  | 3 => (r, w - 1 - c)
  | 4 => (w - 1 - c, r)
  | 5 => (h - 1 - r, w - 1 - c)
  | 6 => (c, h - 1 - r)
  | _ => (r, c)

/-- The size of a footprint (R307). -/
def orientSize (o w h : Nat) : Nat × Nat := if o % 2 = 0 then (w, h) else (h, w)

/-! ### Row packets (R330) -/

/-- Bits of a number, least significant first. -/
def bitsLe (n v : Nat) : List Nat := (List.range n).map (fun i => v / 2 ^ i % 2)

/-- Lamps of 36 bits each, packed into ⌈9w/2⌉ bytes. -/
def packLamps (l : List Rgb) : List Byte :=
  let v := (l.zipIdx).foldl (fun a p => a + (p.1.1 + p.1.2.1 * 4096 + p.1.2.2 * 4096 ^ 2) * 2 ^ (36 * p.2)) 0
  natLe (cdiv (9 * l.length) 2) v

end Sys2Proof.Machine
end

