-- ==== Sys2Proof/Machine/Parse.lean ====
section
/-! DEFINITION. What the parse sequencer makes of an access unit's headers: the tools of Tables 4-3 to 4-6 (R160), the violations of
Table 5-1 (R197), the parameter sets a context holds (R198), sequence starts (R162), the regions of Table 4-16 (R185, R186) and
the split of a ganged picture (R181–R183). -/

namespace Sys2Proof.Machine

open R

/-! ### Tools (R160) -/

/-- The treatments of Tables 4-3 to 4-6. -/
inductive Treatment where
  | decoded
  | dropped
  | rejected
  deriving DecidableEq, Repr

/-- Tables 4-3 to 4-6. -/
def treatment : Tool → Treatment
  | .avcProfile | .avcSliceOrder | .avcCoding => .decoded
  | .avcOtherProfile | .avcFields | .avcSliceGroups | .avcSpSiPartition | .avcBypass => .rejected
  | .avcRedundant | .avcLayers => .dropped
  | .hevcMain | .hevcRextTools | .fieldSeq => .decoded
  | .hevcRext d => if d ≤ 10 then .decoded else .rejected
  | .hevcPrecision | .hevcOtherProfile => .rejected
  | .hevcLayers | .vvcLayers => .dropped
  | .vvcMain => .decoded
  | .vvcOtherProfile => .rejected
  | .av1Profile p d c422 => if p ≤ 1 ∧ (d = 8 ∨ d = 10) ∧ c422 = false then .decoded else .rejected
  | .av1Coding => .decoded
  | .av1Layers | .av1TileList => .dropped

/-- Some item is Rejected. -/
def rejected (l : List Tool) : Bool := l.any (fun t => treatment t == .rejected)

/-! ### The units of an access unit (R197, R198) -/

/-- A set of this kind and id is held. -/
def holdsSet (l : List ParamSet) (q : Nat × Nat) : Bool := l.any (fun p => p.kind == q.1 && p.id == q.2)

/-- A parameter set arrives: a valid one takes its id's place; a damaged one makes the id not held, but the active AV1 sequence
header stays (R198). -/
def takeSet (std : Nat) (l : List ParamSet) (p : ParamSet) : List ParamSet :=
  let others := l.filter (fun q => !(q.kind == p.kind && q.id == p.id))
  if p.ok then others ++ [p] else if std = 3 then l else others

/-- Table 5-1 for one unit of the access unit. (DEDUCED, log entry 72.) -/
def ParseSt.add (std : Nat) (p : ParseSt) (i : AuItem) : ParseSt :=
  if p.past then p
  else match i with
    | .badUnit vcl => if vcl then { p with causes := p.causes ++ [0x07] } else p
    | .reserved => p
    | .named t => if treatment t = .dropped then p else { p with tools := p.tools ++ [t] }
    | .set q => { p with sets := takeSet std p.sets q, causes := if q.ok then p.causes else p.causes ++ [0x05] }
    | .slice h =>
      if h.picture ≠ 0 then { p with past := true, causes := p.causes ++ [0x04] }
      else if ¬ h.needs.all (holdsSet p.sets) then { p with causes := p.causes ++ [0x06], lost := p.lost ++ [(h.first, h.count)] }
      else if ¬ h.ok then { p with causes := p.causes ++ [0x07], lost := p.lost ++ [(h.first, h.count)] }
      else { p with parses := true, covered := p.covered ++ [(h.first, h.count)] }

/-- The access unit's headers, read from its first unit on. -/
def Ctx.parse (c : Ctx) (std : Nat) (f : PicFacts) : ParseSt := f.items.foldl (ParseSt.add std) { sets := c.sets }

/-- The SPS or sequence header that the picture activates. -/
def ParseSt.sps (p : ParseSt) (f : PicFacts) : Option ParamSet := p.sets.find? (fun q => q.kind == 1 && q.id == f.spsId)

/-- The picture begins a sequence (R162); the first picture since OPEN does (DEDUCED, log entry 72). -/
def Ctx.seqStart (c : Ctx) (std : Nat) (f : PicFacts) (p : ParamSet) : Bool :=
  c.active.isNone || (match std with
    | 0 => f.point == 1 || c.active != some p.body
    | 1 => f.point == 1 && f.noRasl
    | 2 => (f.point == 1 || f.point == 3) && f.noRasl
    | _ => (f.point == 1 || f.point == 2) && c.active != some p.body)

/-- What the sequence signals, when this picture begins one. -/
def Ctx.newSeq (c : Ctx) (std : Nat) (f : PicFacts) : Option ParamSet :=
  ((c.parse std f).sps f).filter (fun p => c.seqStart std f p)

/-- The picture is a RASL picture of an IRAP picture with NoOutputBeforeRecoveryFlag 1, and is skipped (R206). -/
def Ctx.skips (c : Ctx) (std : Nat) (f : PicFacts) : Bool := (std == 1 || std == 2) && f.rasl && c.raslSkip

end Sys2Proof.Machine

namespace Sys2Proof

open Machine

/-- The reorder depth of R170: AVC without the VUI field takes 0 for pic_order_cnt_type 2 and the DPB size otherwise. -/
def SeqFacts.reorder (q : SeqFacts) (std : Nat) : Nat :=
  match q.reorderSent with
  | some n => n
  | none => if std = 0 ∧ q.pocType ≠ 2 then q.dpb else 0

end Sys2Proof

namespace Sys2Proof.Machine

open R

/-- The picture that a reference names: an AV1 slot that a frame occupies, else a reference picture of that order. -/
def Ctx.refOf (c : Ctx) (std : Nat) (r : Int) : Option Pic :=
  c.pics.find? (fun p => if std = 3 then p.slots.contains r.toNat else p.isRef && p.order == r)

/-! ### Regions (R185, R186, Table 4-16) -/

/-- Intervals of consecutive lengths. -/
def spansOf (at_ : Nat) : List Nat → List (Nat × Nat)
  | [] => []
  | n :: r => (at_, n) :: spansOf (at_ + n) r

end Sys2Proof.Machine

namespace Sys2Proof

open Machine

/-- The tiles of a picture, row by row. -/
def PicFacts.tileGrid (f : PicFacts) : List Rect :=
  (spansOf 0 f.tileH).flatMap (fun r => (spansOf 0 f.tileW).map (fun c => { x := c.1, y := r.1, w := c.2, h := r.2 }))

end Sys2Proof

namespace Sys2Proof.Machine

open R

/-- A rectangle lies inside another. -/
def rectIn (a b : Rect) : Bool :=
  decide (b.x ≤ a.x) && decide (a.x + a.w ≤ b.x + b.w) && decide (b.y ≤ a.y) && decide (a.y + a.h ≤ b.y + b.h)

end Sys2Proof.Machine

namespace Sys2Proof

open Machine

/-- The MCTS SEI message meets Table 4-16 for a tile grid. -/
def MctsSei.meets (m : MctsSei) (grid : List Rect) : Bool :=
  (m.eachTile || grid.all (fun t => m.sets.any (rectIn t))) && (m.allExact || m.setExact.all id)

end Sys2Proof

namespace Sys2Proof.Machine

open R

/-- A metadata payload of type 24 asserts the contract of R187 (Table 4-17); other tags and versions are ignored (R186). -/
def assertsCp (l : List Byte) : Bool :=
  l.take 5 == [0x4B#8, 0x52#8, 0x43#8, 0x50#8, 1#8] && bitSet ((l.getD 5 0).toNat) 0

/-- The regions of Table 4-16 in a picture, the conditions aside. -/
def Ctx.regionsOf (c : Ctx) (std : Nat) (f : PicFacts) : List Rect :=
  match std with
  | 0 => []
  | 1 => match c.mcts with
    | none => []
    | some m => if m.eachTile then f.tileGrid else m.sets
  | 2 => if 2 ≤ f.subs.length ∧ f.subs.all (fun q => q.treated && !q.loopAcross) then f.subs.map (·.rect) else []
  | _ => f.tileGrid

/-- What a picture does to engagement (HEVC and AV1): a random-access point that meets Table 4-16 begins it with its tile grid, and
another grid or a PPS that filters across tiles ends it. `cp`: `STC_PIC_FMT.AV1_CP`. -/
def Ctx.vsdUpdate (c : Ctx) (std : Nat) (cp : Bool) (f : PicFacts) : Ctx :=
  let c := if std = 1 ∧ f.point = 1 ∧ (f.noRasl ∨ f.mcts.isSome) then { c with mcts := f.mcts } else c
  let tiles := (f.tileW, f.tileH)
  let asserted := cp || f.meta24.any assertsCp
  let meets := match std with
    | 1 => !f.ppsLoop && (match c.mcts with | none => false | some m => m.meets f.tileGrid)
    | 3 => asserted
    | _ => false
  if f.point ≠ 0 then { c with vsdOn := meets, tiles := tiles }
  else if f.ppsLoop ∨ c.tiles ≠ tiles then { c with vsdOn := false }
  else c

/-- The picture meets Table 4-16, once the context has taken it into account. -/
def Ctx.vsdMeets (c : Ctx) (std : Nat) (f : PicFacts) : Bool :=
  !(c.regionsOf std f).isEmpty && (std == 2 || (c.vsdOn && !(std == 3 && f.refMvs)))

/-! ### Units (R192, R197) -/

end Sys2Proof.Machine

namespace Sys2Proof

open Machine

/-- Units in a row, rows, and units of the picture. -/
def PicFacts.cols (f : PicFacts) : Nat := cdiv f.width f.unitSize
def PicFacts.rows (f : PicFacts) : Nat := cdiv f.height f.unitSize
def PicFacts.units (f : PicFacts) : Nat := f.cols * f.rows

/-- The raster index of a unit. -/
def PicFacts.raster (f : PicFacts) (u : Nat) : Nat := (f.scan[u]?).getD u

/-- The samples of a unit inside the picture. -/
def PicFacts.unitRect (f : PicFacts) (u : Nat) : Rect :=
  let r := f.raster u
  let x := r % f.cols * f.unitSize
  let y := r / f.cols * f.unitSize
  { x := x, y := y, w := min f.unitSize (f.width - x), h := min f.unitSize (f.height - y) }

end Sys2Proof

namespace Sys2Proof.Machine

open R

/-! ### Ganging (R181–R183) -/

end Sys2Proof.Machine

namespace Sys2Proof

open Machine

/-- The units at which parts of these kinds begin, in decode order. (DEDUCED, log entry 70.) -/
def PicFacts.startsOf (f : PicFacts) (kinds : List EntryKind) : List Nat :=
  let l := (f.entries.filter (fun e => kinds.contains e.kind)).map (·.start)
  (List.range f.units).filter (fun u => u == 0 || l.contains u)

/-- Table 4-15: where the parts begin, and whether they are wavefront rows. (DEDUCED, log entry 70.) -/
def PicFacts.parts (std : Nat) (f : PicFacts) : List Nat × Bool :=
  let l := f.startsOf (match std with
    | 0 => [.slice] | 1 => [.tile, .slice] | 2 => [.subpicture, .tile, .slice] | _ => [.tile])
  if 2 ≤ l.length ∨ std = 0 ∨ std = 3 then (l, false) else (f.startsOf [.row], true)

end Sys2Proof

namespace Sys2Proof.Machine

open R

/-- The split point (R182): the part that begins nearest to half of the units, the earlier of two. -/
def splitPoint (starts : List Nat) (units : Nat) : Nat :=
  (minBy (fun p => 2 * p - units + (units - 2 * p)) (starts.filter (· != 0))).getD units

/-- The half of a ganged job that decodes a unit (R182, R183): 0 the lead, 1 the odd spindle. -/
def RunJob.half (j : RunJob) (u : Nat) : Nat :=
  if ¬ j.ganged ∨ j.serial then 0
  else if j.wave then j.facts.raster u / j.facts.cols % 2
  else if u < j.split then 0 else 1

/-- A CTU row may start or go on: the row above has completed two CTUs, or all it has (R183). -/
def rowReady (cols : Nat) (rows : List Nat) (r : Nat) : Bool := r == 0 || decide (min 2 cols ≤ rows.getD (r - 1) 0)

/-- One half of a wavefront job completes up to `n` units, row by row, as far as the rows above allow (R183). -/
def advanceRows (cols half : Nat) (rows : List Nat) : Nat → List Nat
  | 0 => rows
  | n + 1 =>
    match (List.range rows.length).find? (fun r => r % 2 == half && decide (rows.getD r 0 < cols)) with
    | none => rows
    | some r => if rowReady cols rows r then advanceRows cols half (rows.set r (rows.getD r 0 + 1)) n else rows

end Sys2Proof.Machine
end

