-- ==== Sys2Proof/Machine/Samples.lean ====
section
/-! DEFINITION. Samples in a picture bobbin: how they are packed (R166), what blocks are predicted from (R191, R199, R200), what
concealed units are filled with (R201, R202), and the writes of a spindle under the extent guard (R195, R214, R215). -/

namespace Sys2Proof.Machine

open R

/-! ### Packing (R165, R166) -/

/-- Where the samples of a picture lie: its layout, planar or not, the bytes of a sample, and its size and format. -/
structure Geo where
  l : Layout := {}
  planar : Bool := false
  b : Nat := 1
  w : Nat := 0
  h : Nat := 0
  chroma : Nat := 1
  depth : Nat := 8
  deriving DecidableEq, Repr

/-- The geometry of a picture of a size and format. -/
def geoOf (w h chroma depth : Nat) (planar c16 motion : Bool) : Geo :=
  { l := layoutOf w h chroma depth planar c16 motion, planar := planar, b := if 8 < depth ∨ c16 then 2 else 1, w := w, h := h
    chroma := chroma, depth := depth }

/-- The geometry of a context's picture. -/
def State.geo (s : State) (n w h chroma depth : Nat) : Geo :=
  geoOf w h chroma depth (s.on (STC_PIC_FMT_PLANAR n)) (s.on (STC_PIC_FMT_C16 n)) true

/-- Horizontal and vertical subsampling of a plane. -/
def Geo.sx (g : Geo) (plane : Nat) : Nat := if plane = 0 ∨ g.chroma = 3 then 1 else 2
def Geo.sy (g : Geo) (plane : Nat) : Nat := if plane ≠ 0 ∧ g.chroma = 1 then 2 else 1

/-- Columns and rows of a plane inside the picture. -/
def Geo.planeW (g : Geo) (plane : Nat) : Nat := cdiv g.w (g.sx plane)
def Geo.planeH (g : Geo) (plane : Nat) : Nat := cdiv g.h (g.sy plane)

/-- Columns and rows of a plane that are stored: up to W_a and H_a. -/
def Geo.storedW (g : Geo) (plane : Nat) : Nat := alignUp g.w 128 / g.sx plane
def Geo.storedH (g : Geo) (plane : Nat) : Nat := alignUp g.h 128 / g.sy plane

/-- The picture has the plane. -/
def Geo.hasPlane (g : Geo) (plane : Nat) : Bool := plane == 0 || (g.chroma != 0 && decide (plane ≤ 2))

/-- The offset of a sample: in the semi-planar layout Cb stands at the lower address and Cr at the next position. -/
def Geo.off (g : Geo) (plane x y : Nat) : Nat :=
  if plane = 0 then g.l.offY + y * g.l.pitchY + x * g.b
  else if g.planar then (if plane = 1 then g.l.offCb else g.l.offCr) + y * g.l.pitchC + x * g.b
  else g.l.offCb + y * g.l.pitchC + (2 * x + (plane - 1)) * g.b

/-- The value that stands for samples that are not there: 1 << (depth − 1). -/
def Geo.neutral (g : Geo) : Nat := 2 ^ (g.depth - 1)

/-- The luma position of a sample of a plane. -/
def Geo.lumaAt (g : Geo) (plane x y : Nat) : Rect := { x := x * g.sx plane, y := y * g.sy plane, w := 1, h := 1 }

/-! ### Reading a reference (R191, R199, R200) -/

/-- The samples of a row of a reference from `x0` on, for the spindle with master ID `k`: padded outside the picture, neutral where
the reference was not reconstructed (R191) and where its read receives an ERROR response (R200). Whether one did. -/
def State.refRow (s : State) (k : Nat) (g : Geo) (p : Pic) (plane : Nat) (x0 y : Int) (n : Nat) : Bool × List Nat × State :=
  if p.addr = 0 then (false, List.replicate n g.neutral, s)
  else
    let col := fun (i : Nat) => clampTo (g.planeW plane) (x0 + i)
    let yy := clampTo (g.planeH plane) y
    let lo := g.off plane (col 0) yy
    let o := s.busRead k 0 (p.addr + lo) (g.off plane (col (n - 1)) yy + g.b - lo)
    let known := fun (x : Nat) => match p.area with | none => true | some l => l.any (rectIn (g.lumaAt plane x yy))
    (o.1 != 0, (List.range n).map (fun i =>
      if o.1 = 0 ∧ known (col i) = true then leNat (slice o.2.1 (g.off plane (col i) yy - lo) g.b) else g.neutral), o.2.2)

/-- Vector components wrap to the width of the standard's vector arithmetic (R199). (PRESUMED, log entry 73.) -/
def wrapMv (std : Nat) (v : Int) : Int := let w := if std = 2 then 18 else 16; signOf w (ofSign w v)

/-- Coefficients clip to the standard's range (R199). (PRESUMED, log entry 73.) -/
def clipCoef (std depth : Nat) (c : Int) : Int :=
  let m : Int := if std = 0 ∨ std = 3 then 2 ^ (7 + depth) else 2 ^ 15
  max (-m) (min (m - 1) c)

/-- A shift to the right with rounding. -/
def roundShift (v : Int) (n : Nat) : Int := if n = 0 then v else (v + 2 ^ (n - 1)) / 2 ^ n

/-- Add two rows, sample by sample. -/
def addRows (a b : List Int) : List Int := List.zipWith (· + ·) a b

/-- One row of a prediction: the interpolation's taps over rows of the reference. -/
def State.predRow (s : State) (k std : Nat) (g : Geo) (p : Pic) (q : Pred) (plane x y n : Nat) : Bool × List Int × State :=
  let vx := wrapMv std q.mvx / 2 ^ q.frac
  let vy := wrapMv std q.mvy / 2 ^ q.frac
  let z := q.taps.foldl (fun (a : Bool × List Int × State) t =>
      let o := a.2.2.refRow k g p plane (x + vx + t.1) (y + vy + t.2.1) n
      (a.1 || o.1, addRows a.2.1 (o.2.1.map (fun (v : Nat) => (v : Int) * t.2.2)), o.2.2))
    (false, List.replicate n 0, s)
  (z.1, z.2.1.map (fun v => roundShift v q.shift), z.2.2)

/-- One row of all predictions of a block: their mean, rounded up. -/
def State.predRows (s : State) (k n std : Nat) (g : Geo) (b : SampleBlock) (row : Nat) : Bool × List Int × State :=
  let c := s.ctx n
  let z := b.preds.foldl (fun (a : Bool × List Int × State) q =>
      let o := a.2.2.predRow k std g ((c.refOf std q.ref).getD {}) q b.plane b.x (b.y + row) b.w
      (a.1 || o.1, addRows a.2.1 o.2.1, o.2.2))
    (false, List.replicate b.w 0, s)
  let m : Int := b.preds.length
  (z.1, if b.preds.isEmpty then z.2.1 else z.2.1.map (fun v => (v + m / 2) / m), z.2.2)

end Sys2Proof.Machine

namespace Sys2Proof

open Machine

/-- The residual of sample `i` of a block. -/
def SampleBlock.resid (b : SampleBlock) (std depth i : Nat) : Int :=
  roundShift ((List.zipWith (· * ·) (b.basis.getD i []) (b.coefs.map (clipCoef std depth))).foldl (· + ·) 0) b.shift

end Sys2Proof

namespace Sys2Proof.Machine

open R

/-! ### Concealment (R201, R202) -/

/-- The picture that the samples of a concealed unit come from (Table 5-2); none: the constant. -/
def Ctx.concealFrom (c : Ctx) (std : Nat) (f : PicFacts) : Option Pic :=
  let p := match f.list0 with
    | some r => c.refOf std r
    | none => minBy (fun (p : Pic) => 2 ^ 64 - p.decSeq) (c.pics.filter (fun p => !p.syn && p.decSeq != 0 && decide (p.outcome ≤ 1)))
  p.filter (fun p => p.width == f.width && p.height == f.height && p.chroma == f.chroma && p.addr != 0)

end Sys2Proof.Machine

namespace Sys2Proof

open Machine

/-- The entry points of the picture with the units up to the next one. -/
def PicFacts.spans (f : PicFacts) : List (EntryKind × Nat × Nat) :=
  let es := if f.entries.any (fun e => e.start == 0) then f.entries else { start := 0 } :: f.entries
  let ends := (es.map (·.start)).drop 1 ++ [f.units]
  List.zipWith (fun e n => (e.kind, e.start, n)) es ends

end Sys2Proof

namespace Sys2Proof.Machine

open R

/-- R201 over the entry points: `sound` is how many units of the last one were decoded, none when it had no damage. A dependent
segment depends on the segment before it, and a wavefront row on the first two units of the row above. -/
def concealSpans (dam : List Nat) : Option Nat → List (EntryKind × Nat × Nat) → List Nat
  | _, [] => []
  | sound, (kind, a, e) :: r =>
    let hit := (List.range (e - a)).find? (fun i => dam.contains (a + i))
    let from_ := match sound, kind with
      | some _, .dependent => some 0
      | some m, .row => if m < 2 then some 0 else hit
      | _, _ => hit
    match from_ with
    | none => concealSpans dam none r
    | some i => (List.range (e - a - i)).map (· + a + i) ++ concealSpans dam (some i) r

end Sys2Proof.Machine

namespace Sys2Proof

open Machine

/-- The units that damage conceals. -/
def PicFacts.concealed (f : PicFacts) (dam : List Nat) : List Nat := concealSpans dam none f.spans

end Sys2Proof

namespace Sys2Proof.Machine

open R

/-- The job reconstructs the unit: viewport-scoped decode does not skip it. -/
def RunJob.works (j : RunJob) (u : Nat) : Bool :=
  let r := j.facts.unitRect u
  !j.engaged || j.regs.any (fun i => rectIn { r with w := 1, h := 1 } ((j.grid[i]?).getD {}))

/-- A luma sample lies in a concealed unit. -/
def RunJob.hides (j : RunJob) (r : Rect) : Bool := j.conc.any (fun u => rectIn r (j.facts.unitRect u))

/-- A luma sample lies where the job writes: in a region it reconstructs (R191). -/
def RunJob.draws (j : RunJob) (r : Rect) : Bool := !j.engaged || j.regs.any (fun i => rectIn r ((j.grid[i]?).getD {}))

/-! ### The writes of a block -/

/-- The value of sample `i` of a row: predicted, or taken from the concealment source in a concealed unit (no filter acts there); it
is clipped to the depth. Beyond the picture's edge it is a free value (R166). -/
def State.rowBytes (s : State) (j : RunJob) (std : Nat) (g : Geo) (b : SampleBlock) (row : Nat) (pred : List Int) (src : List Nat) :
    List (Nat × List Byte) × State :=
  let y := b.y + row
  let z := (List.range b.w).foldl (fun (a : List (Nat × List Byte) × State) i =>
    let x := b.x + i
    let at_ := g.lumaAt b.plane x y
    if ¬ (g.hasPlane b.plane ∧ x < g.storedW b.plane ∧ y < g.storedH b.plane) then a
    else if g.planeW b.plane ≤ x ∨ g.planeH b.plane ≤ y then
      let v := a.2.freeBytes g.b
      (a.1 ++ [(g.off b.plane x y, v.1)], v.2)
    else if ¬ j.draws at_ then a
    else
      let n := row * b.w + i
      let v := if j.hides at_ then (src.getD i g.neutral : Int) else b.base.getD n 0 + pred.getD i 0 + b.resid std g.depth n
      (a.1 ++ [(g.off b.plane x y, natLe g.b (max 0 (min (2 ^ g.depth - 1) v)).toNat)], a.2)) ([], s)
  z

end Sys2Proof.Machine

namespace Sys2Proof

open Machine

/-- The rows of a block. -/
def SampleBlock.rows (b : SampleBlock) : Nat := cdiv (max b.base.length b.basis.length) b.w

end Sys2Proof

namespace Sys2Proof.Machine

open R

/-- The writes that store a block, and whether a read received an ERROR response. -/
def State.blockWrites (s : State) (k : Nat) (j : RunJob) (std : Nat) (g : Geo) (odd : Bool) (b : SampleBlock) :
    Bool × List PicWrite × State :=
  let n := j.job.ctx
  let from_ := (s.ctx n).concealFrom std j.facts
  (List.range b.rows).foldl (fun (a : Bool × List PicWrite × State) row =>
    let o := a.2.2.predRows k n std g b row
    let q := match from_ with
      | none => (false, [], o.2.2)
      | some p => if j.conc.isEmpty then (false, [], o.2.2) else o.2.2.refRow k g p b.plane b.x (b.y + row) b.w
    let v := q.2.2.rowBytes j std g b row o.2.1 q.2.1
    (a.1 || o.1 || q.1, a.2.1 ++ v.1.map (fun x => { kind := .sample, off := x.1, data := x.2, odd := odd }), v.2))
    (false, [], s)

/-- The motion data of 8 × 8 blocks: those of a concealed unit say a zero vector or intra (Table 5-2), and
those outside the regions reconstructed are not written (R191). (DESIGN CHOICE, log entry 73.) -/
def motionBytes (j : RunJob) (g : Geo) (w : PicWrite) : List PicWrite :=
  let i := (w.off - g.l.offMeta).toNat / 16
  let cols := alignUp g.w 128 / 8
  let r : Rect := { x := i % cols * 8, y := i / cols * 8, w := 1, h := 1 }
  if j.hides r then [{ w with data := (List.range w.data.length).map (fun m => Config.motionByte j.facts.list0.isNone (m % 16)) }]
  else if j.draws r then [w] else []

/-- The writes of a list as the fabric port issues them. -/
def State.allWrites (s : State) (k : Nat) (j : RunJob) (std : Nat) (g : Geo) (ws : List PicWrite) : Bool × List PicWrite × State :=
  ws.foldl (fun (a : Bool × List PicWrite × State) w =>
    match w.block with
    | some b =>
      let o := a.2.2.blockWrites (if w.odd then k + 1 else k) j std g w.odd b
      (a.1 || o.1, a.2.1 ++ o.2.1, o.2.2)
    | none => (a.1, a.2.1 ++ (if w.kind = .motion then motionBytes j g w else [w]), a.2.2)) (false, [], s)

/-! ### The guard (R195, R200, R214, R215) -/

/-- A write whose area is undefined when it receives an ERROR response (R200). -/
def State.openWrite (s : State) (master a : Nat) (data : List Byte) : Nat × State :=
  let o := s.busWrite master a data
  if 2 ≤ o.1 ∧ a < winBase then
    let v := o.2.freeBytes data.length
    (o.1, { v.2 with hbm := memStore v.2.hbm a v.1 })
  else o

/-- Perform writes under the guard up to the first blocked one: whether a write met an ERROR response, the blocked
write's offset and whether the odd spindle of a pair issued it, and the state after those before it (R195, R215). -/
def State.guarded (s : State) (master base size : Nat) (l : Layout) : List PicWrite → Bool × Option (Int × Bool) × State
  | [] => (false, none, s)
  | w :: r =>
    if guardOk l size w then
      let o := s.openWrite (if w.odd then master + 1 else master) (base + w.off.toNat) w.data
      let q := o.2.guarded master base size l r
      (o.1 != 0 || q.1, q.2)
    else (false, some (w.off, w.odd), s)

end Sys2Proof.Machine
end

