-- ==== Sys2Proof/Machine/EncSearch.lean ====
section
/-! DEFINITION. Motion search, interpolation and mode decision of an encode spindle (R237, R240–R243, 06_encode_spindles.md), over
the samples of the source (R233) and of its references. -/

namespace Sys2Proof.Machine

open R

/-! ### Interpolation (R242) -/

/-- A plane as prediction sees it: a sample for each position, padded beyond the edges. -/
abbrev Sampler := Int → Int → Int

/-- A value kept to the depth. -/
def clipTo (depth : Nat) (v : Int) : Int := max 0 (min (2 ^ depth - 1) v)

/-- Weights over the samples from displacement `d0` on. -/
def taps (w : List Int) (d0 : Int) (f : Int → Int) : Int :=
  w.zipIdx.foldl (fun a t => a + t.1 * f (d0 + t.2)) 0

/-- The 6-tap half-sample filter of AVC. (PRESUMED, log entry 84.) -/
def avcTaps : List Int := [1, -5, 20, 20, -5, 1]

/-- AVC luma at quarter-sample fractions: half positions by the 6-tap filter, quarter positions as rounded averages. (PRESUMED, log entry 84.) -/
def avcLuma (depth : Nat) (p : Sampler) (x y : Int) (fx fy : Nat) : Int :=
  let raw := fun (dy : Int) => taps avcTaps (-2) (fun d => p (x + d) (y + dy))
  let hor := fun (dy : Int) => clipTo depth ((raw dy + 16) / 32)
  let ver := fun (dx : Int) => clipTo depth ((taps avcTaps (-2) (fun d => p (x + dx) (y + d)) + 16) / 32)
  let mid := clipTo depth ((taps avcTaps (-2) raw + 512) / 1024)
  let avg := fun (a b : Int) => (a + b + 1) / 2
  match fx, fy with
  | 0, 0 => p x y
  | 1, 0 => avg (p x y) (hor 0)
  | 2, 0 => hor 0
  | 3, 0 => avg (hor 0) (p (x + 1) y)
  | 0, 1 => avg (p x y) (ver 0)
  | 0, 2 => ver 0
  | 0, 3 => avg (ver 0) (p x (y + 1))
  | 2, 1 => avg (hor 0) mid
  | 2, 2 => mid
  | 2, 3 => avg mid (hor 1)
  | 1, 2 => avg (ver 0) mid
  | 3, 2 => avg mid (ver 1)
  | 1, 1 => avg (hor 0) (ver 0)
  | 3, 1 => avg (hor 0) (ver 1)
  | 1, 3 => avg (ver 0) (hor 1)
  | _, _ => avg (ver 1) (hor 1)

/-- The luma filters of HEVC by quarter-sample phase. (PRESUMED, log entry 84.) -/
def hevcTaps (f : Nat) : List Int :=
  match f with
  | 0 => [0, 0, 0, 64, 0, 0, 0, 0]
  | 1 => [-1, 4, -10, 58, 17, -5, 1, 0]
  | 2 => [-1, 4, -11, 40, 40, -11, 4, -1]
  | _ => [0, 1, -5, 17, 58, -10, 4, -1]

/-- The chroma filters of HEVC by eighth-sample phase, in the place of the four middle taps. (PRESUMED, log entry 84.) -/
def hevcChroma (f : Nat) : List Int :=
  let w := ([[0, 64, 0, 0], [-2, 58, 10, -2], [-4, 54, 16, -2], [-6, 46, 28, -4], [-4, 36, 36, -4], [-4, 28, 46, -6], [-2, 16, 54, -4],
    [-2, 10, 58, -2]] : List (List Int))
  [0, 0] ++ (w[f]?).getD [] ++ [0, 0]

/-- The EIGHTTAP regular filter of AV1 by sixteenth-sample phase. (PRESUMED, log entry 84.) -/
def av1Taps (f : Nat) : List Int :=
  let w := ([[0, 0, 0, 128, 0, 0, 0, 0], [0, 2, -6, 126, 8, -2, 0, 0], [0, 2, -10, 122, 18, -4, 0, 0], [0, 2, -12, 116, 28, -8, 2, 0],
    [0, 2, -14, 110, 38, -10, 2, 0], [0, 2, -14, 102, 48, -12, 2, 0], [0, 2, -16, 94, 58, -12, 2, 0], [0, 2, -14, 84, 66, -12, 2, 0],
    [0, 2, -14, 76, 76, -14, 2, 0]] : List (List Int))
  if f ≤ 8 then (w[f]?).getD [] else ((w[16 - f]?).getD []).reverse

/-- A separable filter: rows by `wx` with shift `s1`, then columns by `wy` with shift `s2`, each rounding when `rnd`. A filter for
phase 0 passes its sample on, scaled as the other stage needs it. -/
def separable (p : Sampler) (x y : Int) (wx wy : List Int) (s1 s2 : Nat) (rnd : Bool) : Int :=
  let sh := fun (v : Int) (n : Nat) => if rnd then roundShift v n else v / 2 ^ n
  sh (taps wy (-3) (fun dy => sh (taps wx (-3) (fun dx => p (x + dx) (y + dy))) s1)) s2

/-- HEVC: the 14-bit intermediate value at a position (luma phases in quarters, chroma in eighths). -/
def hevcMid (depth : Nat) (p : Sampler) (x y : Int) (wx wy : List Int) (fx fy : Nat) : Int :=
  if fx = 0 ∧ fy = 0 then p x y * 2 ^ (14 - depth)
  else if fy = 0 then taps wx (-3) (fun d => p (x + d) y) / 2 ^ (depth - 8)
  else if fx = 0 then taps wy (-3) (fun d => p x (y + d)) / 2 ^ (depth - 8)
  else separable p x y wx wy (depth - 8) 6 false

/-- The precision of vectors: units of 1/4 sample, 1/8 for AV1. -/
def mvUnit (std : Nat) : Nat := if std = 3 then 8 else 4

/-- The luma prediction at a position from one or two planes displaced by vectors (R242). (PRESUMED, log entry 84.) -/
def lumaPred (std depth : Nat) (l : List (Sampler × (Int × Int))) (x y : Int) : Int :=
  let u : Int := mvUnit std
  let at_ := fun (f : Sampler → Int → Int → Nat → Nat → Int) (q : Sampler × (Int × Int)) =>
    f q.1 (x + q.2.1 / u) (y + q.2.2 / u) (q.2.1 % u).toNat (q.2.2 % u).toNat
  match std with
  | 0 =>
    let v := l.map (at_ (avcLuma depth))
    roundShift (v.foldl (· + ·) 0) (v.length - 1)
  | 3 =>
    let s2 := if l.length = 1 then 11 else 7
    let v := l.map (at_ (fun p a b fx fy => separable p a b (av1Taps (2 * fx)) (av1Taps (2 * fy)) 3 s2 true))
    clipTo depth (if l.length = 1 then v.foldl (· + ·) 0 else roundShift (v.foldl (· + ·) 0) 5)
  | _ =>
    let v := l.map (at_ (fun p a b fx fy => hevcMid depth p a b (hevcTaps fx) (hevcTaps fy) fx fy))
    clipTo depth (roundShift (v.foldl (· + ·) 0) (13 - depth + l.length))

/-- The chroma prediction at a position of a plane subsampled by `sx` and `sy`, by the standard's chroma interpolation. (PRESUMED, log entry
82.) (PRESUMED, log entry 84.) -/
def chromaPred (std depth sx sy : Nat) (l : List (Sampler × (Int × Int))) (x y : Int) : Int :=
  let u := mvUnit std
  let at_ := fun (f : Sampler → Int → Int → Nat → Nat → Int) (q : Sampler × (Int × Int)) =>
    let ux : Int := u * sx
    let uy : Int := u * sy
    f q.1 (x + q.2.1 / ux) (y + q.2.2 / uy) (q.2.1 % ux).toNat (q.2.2 % uy).toNat
  let ph := fun (n s : Nat) (f : Nat) => f * n / (u * s)
  match std with
  | 0 =>
    let v := l.map (at_ (fun p a b fx fy =>
      let i : Int := ph 8 sx fx
      let j : Int := ph 8 sy fy
      ((8 - i) * (8 - j) * p a b + i * (8 - j) * p (a + 1) b + (8 - i) * j * p a (b + 1) + i * j * p (a + 1) (b + 1) + 32) / 64))
    roundShift (v.foldl (· + ·) 0) (v.length - 1)
  | 3 =>
    let s2 := if l.length = 1 then 11 else 7
    let v := l.map (at_ (fun p a b fx fy => separable p a b (av1Taps (ph 16 sx fx)) (av1Taps (ph 16 sy fy)) 3 s2 true))
    clipTo depth (if l.length = 1 then v.foldl (· + ·) 0 else roundShift (v.foldl (· + ·) 0) 5)
  | _ =>
    let v := l.map (at_ (fun p a b fx fy =>
      hevcMid depth p a b (hevcChroma (ph 8 sx fx)) (hevcChroma (ph 8 sy fy)) fx fy))
    clipTo depth (roundShift (v.foldl (· + ·) 0) (13 - depth + l.length))

/-! ### Distances -/

/-- One stage of a Hadamard transform over 8 values: sums and differences of values `k` apart. -/
def butterfly (k : Nat) (l : List Int) : List Int :=
  (List.range 8).map (fun i => if i / k % 2 = 0 then l.getD i 0 + l.getD (i + k) 0 else l.getD (i - k) 0 - l.getD i 0)

/-- The Hadamard transform of 8 values. -/
def hadamard8 (l : List Int) : List Int := butterfly 4 (butterfly 2 (butterfly 1 l))

/-- The SATD of an 8 × 8 block of differences. -/
def satd8 (d : Nat → Nat → Int) : Nat :=
  let rows := (List.range 8).map (fun j => hadamard8 ((List.range 8).map (fun i => d i j)))
  let cols := (List.range 8).map (fun i => hadamard8 (rows.map (fun r => r.getD i 0)))
  cols.flatten.foldl (fun a v => a + v.natAbs) 0

/-- The SATD of a rectangle of differences, in 8 × 8 blocks. -/
def satdOf (w h : Nat) (d : Nat → Nat → Int) : Nat :=
  (List.range (cdiv h 8)).foldl (fun a j => (List.range (cdiv w 8)).foldl (fun a i =>
    a + satd8 (fun x y => if 8 * i + x < w ∧ 8 * j + y < h then d (8 * i + x) (8 * j + y) else 0)) a) 0

/-- The sum of absolute differences of two lists. -/
def sadOf (a b : List Nat) : Nat := (List.zipWith (fun (x y : Nat) => (x : Int) - y) a b).foldl (fun s d => s + d.natAbs) 0

/-! ### Search (R241, R242, Table 6-9) -/

/-- The row of Table 6-9 of a preset: levels by the subsampling's exponent, ranges, positions after the coarsest (half-width), smallest
block. -/
structure SearchRow where
  levels : List Nat := []
  rx : Nat := 0
  ry : Nat := 0
  near : Nat := 0
  least : Nat := 0
  deriving DecidableEq, Repr

/-- Table 6-9. -/
def searchRow (preset : Nat) : SearchRow :=
  match preset with
  | 0 => { levels := [1, 0], rx := 64, ry := 32, near := 2, least := 16 }
  | 1 => { levels := [2, 1, 0], rx := 128, ry := 64, near := 2, least := 8 }
  | _ => { levels := [2, 1, 0], rx := 256, ry := 128, near := 3, least := 8 }

/-- What a block is searched with: standard, depth, preset, quantiser, its rectangle, the source's luma, the positions of a
reference that may be used (R240), and the standard's λ. -/
structure SearchCtx where
  std : Nat := 1
  depth : Nat := 8
  preset : Nat := 1
  q : Int := 0
  rect : Rect := {}
  tile : Option Rect := none
  w : Nat := 0
  h : Nat := 0

/-- A vector in whole samples, from one in the standard's units. -/
def wholeMv (std : Nat) (v : Int × Int) : Int × Int := (roundShift v.1 (if std = 3 then 3 else 2), roundShift v.2 (if std = 3 then 3 else 2))

/-- With MCTS, every sample that the prediction uses lies in the tile, 8 luma samples away from an edge that it shares (R240). -/
def SearchCtx.allows (c : SearchCtx) (v : Int × Int) : Bool :=
  match c.tile with
  | none => true
  | some t =>
    let u : Int := mvUnit c.std
    let ok := fun (size : Nat) (a n : Nat) (t0 tn : Nat) (m : Int) =>
      let lo : Int := (a : Int) + m / u - (if m % u = 0 then 0 else 3)
      let hi : Int := (a : Int) + n - 1 + m / u + (if m % u = 0 then 0 else 4)
      let t1 := t0 + tn
      decide ((if t0 = 0 then 0 else t0 + 8) ≤ clampTo size lo) && decide (clampTo size hi < (if size ≤ t1 then size else t1 - 8))
    ok c.w c.rect.x c.rect.w t.x t.w v.1 && ok c.h c.rect.y c.rect.h t.y t.h v.2

/-- The luma samples of the block in a plane, displaced by whole samples. -/
def SearchCtx.samples (c : SearchCtx) (p : Sampler) (v : Int × Int) : List Nat :=
  (List.range c.rect.h).flatMap (fun (j : Nat) => (List.range c.rect.w).map (fun (i : Nat) => (p (c.rect.x + i + v.1) (c.rect.y + j + v.2)).toNat))

/-- The positions searched at a level, in units of full-resolution samples: the coarsest over the whole range, the others around the best
vector of the coarser level and around the predicted vectors. -/
def SearchCtx.positions (c : SearchCtx) (near : List (Int × Int)) (best : Option (Int × Int)) (sh : Nat) : List (Int × Int) :=
  let r := searchRow c.preset
  let st : Int := 2 ^ sh
  let grid := fun (o : Int × Int) (nx ny : Nat) => (window ny).flatMap (fun dy => (window nx).map (fun dx => (o.1 + st * dx, o.2 + st * dy)))
  let snap := fun (o : Int × Int) => (roundShift o.1 sh * st, roundShift o.2 sh * st)
  let l := match best with
    | none => grid (0, 0) (r.rx / 2 ^ sh) (r.ry / 2 ^ sh)
    | some b => (b :: near.map (wholeMv c.std)).flatMap (fun o => grid (snap o) r.near r.near)
  (l.filter (fun v => c.allows (v.1 * mvUnit c.std, v.2 * mvUnit c.std))).eraseDups

/-- The integer search of a block in one reference: SAD plus λ times the vector's cost ranks the positions of each level (R241). Among equals
the first in raster order is taken. (DESIGN CHOICE, log entry 81.) -/
def SearchCtx.integer (c : SearchCtx) (src p : Sampler) (near : List (Int × Int)) : Option (Int × Int) :=
  let level := fun (best : Option (Int × Int)) (sh : Nat) =>
    let at_ := fun (m : List Nat) => if sh = 0 then m else Config.subsampled sh m
    let cost := fun (v : Int × Int) => sadOf (at_ (c.samples src (0, 0))) (at_ (c.samples p v)) +
      Config.vecCost c.std c.q near (v.1 * mvUnit c.std, v.2 * mvUnit c.std)
    minBy cost (c.positions near best sh)
  (searchRow c.preset).levels.foldl (fun (a : Option (Option (Int × Int))) sh =>
    match a with
    | none => some (level none sh)
    | some none => some none
    | some (some b) => some (level (some b) sh)) none |>.getD none

/-- The difference of the source and a luma prediction of the block. -/
def SearchCtx.diff (c : SearchCtx) (src : Sampler) (l : List (Sampler × (Int × Int))) (i j : Nat) : Int :=
  let x : Int := c.rect.x + i
  let y : Int := c.rect.y + j
  src x y - lumaPred c.std c.depth l x y

/-- One step of refinement: the eight positions at distance `st` around the best vector and the vector itself, ranked by SATD plus λ
times the vector's cost (R242). -/
def SearchCtx.refine (c : SearchCtx) (src p : Sampler) (near : List (Int × Int)) (v : Int × Int) (st : Int) : Int × Int :=
  let cost := fun (m : Int × Int) => satdOf c.rect.w c.rect.h (c.diff src [(p, m)]) + Config.vecCost c.std c.q near m
  let round := ((window 1).flatMap (fun dy => (window 1).map (fun dx => (v.1 + st * dx, v.2 + st * dy)))).filter (fun m => m != v && c.allows m)
  (minBy cost (v :: round)).getD v

/-- The vector of a block in one reference (R241, R242): searched and refined at half, quarter and, for AV1, eighth samples. A block smaller
than those searched takes its first predicted vector. -/
def SearchCtx.vector (c : SearchCtx) (src p : Sampler) (near : List (Int × Int)) : Option (Int × Int) :=
  if min c.rect.w c.rect.h < (searchRow c.preset).least then (near.head?).filter c.allows
  else
    (c.integer src p near).map (fun v =>
      let u : Int := mvUnit c.std
      let v := (v.1 * u, v.2 * u)
      let v := c.refine src p near (c.refine src p near v (u / 2)) (u / 4)
      if c.std = 3 then c.refine src p near v 1 else v)

/-! ### Tools (R237, Table 6-7) -/

/-- The rectangles of a block's inter partitions that a standard uses. -/
def partShapes (std : Nat) (r : Rect) : List (List Rect) :=
  let h2 : List Rect := [{ r with h := r.h / 2 }, { r with y := r.y + r.h / 2, h := r.h / 2 }]
  let v2 : List Rect := [{ r with w := r.w / 2 }, { r with x := r.x + r.w / 2, w := r.w / 2 }]
  let q4 := h2.flatMap (fun (t : Rect) => [{ t with w := t.w / 2 }, { t with x := t.x + t.w / 2, w := t.w / 2 }])
  match std with
  | 0 => [[r], h2, v2, q4]
  | _ => [[r], h2, v2]

/-- The sizes of blocks a standard codes: macroblocks, CUs of 8 × 8 to 64 × 64, AV1 blocks of 4 × 4 to 64 × 64 with their halves. -/
def blockOk (std : Nat) (r : Rect) : Bool :=
  match std with
  | 0 => r.w == 16 && r.h == 16
  | 1 => [8, 16, 32, 64].contains r.w && r.h == r.w
  | _ => [4, 8, 16, 32, 64].contains r.w && [4, 8, 16, 32, 64].contains r.h && (r.w == r.h || r.w == 2 * r.h || r.h == 2 * r.w)

/-- The transform sizes of a standard. -/
def txOk (std n : Nat) : Bool :=
  match std with
  | 0 => n == 4 || n == 8
  | 1 => [4, 8, 16, 32].contains n
  | _ => [4, 8, 16, 32, 64].contains n

/-- The intra modes of a standard: AVC 4 × 4, 8 × 8 and 16 × 16 modes; HEVC 35; AV1 directional, smooth, Paeth and CfL. -/
def intraOk (std m : Nat) : Bool := decide (m < (match std with | 0 => 22 | 1 => 35 | _ => 14))

end Sys2Proof.Machine

namespace Sys2Proof

open Machine

/-- A candidate uses only the tools of Table 6-7, and the references that its structure gives (Table 6-8). -/
def EncCand.ok (c : EncCand) (std struct : Nat) (intra : Bool) (refs : List Nat) (r : Rect) : Bool :=
  blockOk std r && c.tus.all (txOk std) &&
    (match c.intra with
    | some m => c.parts.isEmpty && intraOk std m
    | none => !intra && (partShapes std r).contains (c.parts.map (·.rect)) &&
        c.parts.all (fun p => !p.uses.isEmpty && decide (p.uses.length ≤ (if struct = 1 then 1 else 2)) &&
          p.uses.all (fun u => refs.contains u.ref)))

end Sys2Proof

namespace Sys2Proof.Machine

open R

/-! ### Mode decision (R243, Table 6-10) -/

/-- The planes of a picture. -/
structure Planes where
  y : Sampler := fun _ _ => 0
  cb : Sampler := fun _ _ => 0
  cr : Sampler := fun _ _ => 0

/-- A candidate as it is evaluated: its prediction in each plane, as rows over the block, and its rank. -/
structure Evaluated where
  cand : EncCand := {}
  y : List Int := []
  cb : List Int := []
  cr : List Int := []
  satd : Nat := 0
  deriving DecidableEq, Repr

/-- A rectangle in chroma samples. -/
def chromaRect (sx sy : Nat) (r : Rect) : Rect := { x := r.x / sx, y := r.y / sy, w := r.w / sx, h := r.h / sy }

/-- The values of a function over a rectangle, in rows. -/
def overRect (r : Rect) (f : Int → Int → Int) : List Int :=
  (List.range r.h).flatMap (fun (j : Nat) => (List.range r.w).map (fun (i : Nat) => f (r.x + i) (r.y + j)))

/-- The prediction of a position from the partition that covers it. -/
def byPart (l : List (Rect × (Int → Int → Int))) (x y : Int) : Int :=
  match l.find? (fun q => decide (q.1.x ≤ x) && decide (x < q.1.x + q.1.w) && decide (q.1.y ≤ y) && decide (y < q.1.y + q.1.h)) with
  | none => 0
  | some q => q.2 x y

/-- Evaluate a candidate: its vectors are searched and its prediction compared with the source in every plane; none where no vector is
allowed. Ranking takes the SATD over all planes. (DEDUCED, log entry 80.) -/
def SearchCtx.eval (c : SearchCtx) (sx sy : Nat) (src : Planes) (refs : Nat → Planes) (k : EncCand) : Option Evaluated :=
  let r := c.rect
  let cr := chromaRect sx sy r
  let done := fun (y cb cr' : List Int) =>
    let d := fun (p : Sampler) (r : Rect) (v : List Int) => satdOf r.w r.h (fun i j => p (r.x + i) (r.y + j) - v.getD (j * r.w + i) 0)
    ({ cand := k, y := y, cb := cb, cr := cr', satd := d src.y r y + d src.cb cr cb + d src.cr cr cr' } : Evaluated)
  match k.intra with
  | some _ => some (done k.luma.base k.cb.base k.cr.base)
  | none =>
    let parts := k.parts.map (fun p =>
      (p.rect, p.uses.map (fun u => ({ c with rect := p.rect }.vector src.y (refs u.ref).y u.near).map (fun v => (u.ref, v)))))
    if parts.any (fun p => p.2.any (·.isNone)) then none
    else
      let parts := parts.map (fun p => (p.1, p.2.filterMap id))
      let pred := fun (plane : Planes → Sampler) (q : Rect × List (Nat × (Int × Int))) => q.2.map (fun u => (plane (refs u.1), u.2))
      let chroma := fun (plane : Planes → Sampler) =>
        overRect cr (byPart (parts.map (fun q => (chromaRect sx sy q.1, chromaPred c.std c.depth sx sy (pred plane q)))))
      some (done (overRect r (byPart (parts.map (fun q => (q.1, lumaPred c.std c.depth (pred (·.y) q))))))
        (chroma (·.cb)) (chroma (·.cr)))

/-- Insert by SATD, ties behind. -/
def insertEval (e : Evaluated) : List Evaluated → List Evaluated
  | [] => [e]
  | f :: r => if e.satd < f.satd then e :: f :: r else f :: insertEval e r

/-- The candidate that mode decision takes (Table 6-10): the best by SATD, or the cheapest by full rate-distortion cost among the best 2
or 4. -/
def decideMode (preset : Nat) (l : List Evaluated) : Option Evaluated :=
  let l := l.foldl (fun a e => insertEval e a) []
  match preset with
  | 0 => l.head?
  | 1 => minBy (fun e => e.cand.rd) (l.take 2)
  | _ => minBy (fun e => e.cand.rd) (l.take 4)

end Sys2Proof.Machine
end

