-- ==== Sys2Proof/Machine/Encode.lean ====
section
/-! DEFINITION. Encode sessions and encode spindles (R222–R262, 06_encode_spindles.md), and the commands of the carding
queue. -/

namespace Sys2Proof.Machine

open R

/-! ### Records and sources -/

/-- Session states of Table 6-5. -/
def encIDLE : Nat := 0
def encOPEN : Nat := 1
def encRUNNING : Nat := 2
def encDRAINING : Nat := 3
def encFAULTED : Nat := 4

/-- The record of a session. -/
def State.enc (s : State) (e : Nat) : Enc := smGet {} s.encs e

/-- Change the record of a session, and the queue length it shows. -/
def State.modEnc (s : State) (e : Nat) (f : Enc → Enc) : State :=
  let r := f (s.enc e)
  ({ s with encs := smSet {} s.encs e r }).wr (ENC_SRC_STATUS_QUEUED e) r.srcs.length

/-- The state of a session. -/
def State.encState (s : State) (e : Nat) : Nat := s.rd (ENC_STATUS_STATE e)

/-- DIVIDER, 0 acting as 1. -/
def State.encDiv (s : State) (e : Nat) : Nat := max 1 (s.rd (ENC_GOP_DIVIDER e))

/-- T_e in ns (R244). -/
def State.encTe (s : State) (e : Nat) : Nat := s.rd (ENC_PERIOD_NS e) * s.encDiv e

/-- The length of a mini-GOP (Table 6-8). -/
def State.gopLen (s : State) (e : Nat) : Nat :=
  match s.rd (ENC_GOP_STRUCT e) with
  | 3 => 4
  | 4 => 8
  | _ => 1

/-- The coding order of a mini-GOP (Table 6-8). -/
def gopOrder (len : Nat) : List Nat :=
  match len with
  | 4 => [4, 2, 1, 3]
  | 8 => [8, 4, 2, 1, 3, 6, 5, 7]
  | _ => [1]

/-- The hierarchy level of a position (R238). -/
def gopLevel (len pos : Nat) : Nat :=
  if len = 1 ∨ pos % len = 0 then 0
  else if len = 4 then (if pos = 2 then 1 else 2)
  else if pos = 4 then 1
  else if pos % 2 = 0 then 2 else 3

/-- The source number of the next picture in coding order: the first source stands alone, mini-GOPs follow it. -/
def State.encTarget (s : State) (e : Nat) : Nat :=
  let r := s.enc e
  if r.base = 0 then 0 else r.base - 1 + ((gopOrder (s.gopLen e))[r.step]?).getD 1

/-- Release a source's reference (R236). -/
def State.releaseSrc (s : State) (x : Src) : State := s.iff (x.addr != 0 && !x.ask) (·.release mCTX x.addr x.gen)

/-- Queue a source, or skip it when 16 are queued (R231). -/
def State.queueSrc (s : State) (e : Nat) (x : Src) : State :=
  if 16 ≤ (s.enc e).srcs.length then
    ((s.releaseSrc x).wr (ENC_STATUS_SKIP e) 1).bump (ENC_SKIP_CNT e)
  else s.modEnc e (fun r => { r with srcs := r.srcs ++ [{ x with idx := r.taken }], taken := r.taken + 1 })

/-- What a picture's record says to a session: whether the coded area lies inside the conformance window (R232), whether it
is CONCEALED, its T_RELEASE and its RTP_TS. -/
def State.srcRecord (s : State) (e addr : Nat) : (Bool × Bool × Nat × Nat) × State :=
  let o := s.busRead (0x10 + s.rd (ENC_ADMIT_HOME e)) 0 addr 256
  let f := recField o.2.1
  let inside := decide (s.rd (ENC_CROP_XY_X e) + s.rd (ENC_CROP_WH_W e) + f 0x18 2 + f 0x1A 2 ≤ f 0x14 2) &&
    decide (s.rd (ENC_CROP_XY_Y e) + s.rd (ENC_CROP_WH_H e) + f 0x1C 2 + f 0x1E 2 ≤ f 0x16 2)
  ((o.1 == 0 && inside, f 0x0C 1 == 1, f 0x40 8, f 0x64 4), o.2.2)

/-- The capture time of a context source (R234). (DESIGN CHOICE, log entry 23.) -/
def State.captureOf (s : State) (e addr rel ts : Nat) : Nat :=
  let n := s.rd (ENC_CTL_CTX e)
  let first := (((s.ctx n).pics.find? (fun p => p.addr == addr)).map (·.tFirst)).getD rel
  if s.rd (STC_CTL_SOURCE n) = 0 ∧ s.on (ING_FLOW_CTL_ST2110 (s.rd (STC_CTL_FLOW n))) then refTime first ts else rel

/-- A list entry as a session sees it: the picture's bobbin and generation; address 0 for PIC 0. -/
structure ListEntry where
  addr : Nat := 0
  gen : Nat := 0
  deriving DecidableEq, Repr

/-- A source without a picture (R232). It has no record, so the capture time of a list entry is a free value (DESIGN CHOICE, log entry 23). -/
def State.srcGone (s : State) (e : Nat) (x : Src) : Src × State :=
  if s.rd (ENC_CTL_SOURCE e) = 1 then ({ x with addr := 0, missing := true, ask := false }, s)
  else ({ x with addr := 0, missing := true, ask := false, t := s.free.1 }, s.free.2)

/-- The hold that a session asks for a source (R230, R232, R234, R235), with what it makes of the source; it asks again while the metadata
answers RETRY. A host submission names no generation. -/
def State.askSrc (s : State) (e : Nat) (x : Src) : Src × State :=
  let host := s.rd (ENC_CTL_SOURCE e) == 1
  let r : PoolReq := { master := mCTX, op := 2, addr := x.addr, add := 1, genChk := !host, gen := x.gen }
  let o := (s.poolAsked r).poolOp r
  if x.addr = 0 ∧ ¬ host then s.srcGone e x
  else if o.1.code = poolWaits then ({ x with ask := true }, s)
  else if o.1.code = 0 then
    let r := o.2.srcRecord e x.addr
    ({ x with gen := if host then o.1.word / 2 ^ 32 else x.gen, missing := !r.1.1, concealed := r.1.2.1, ask := false
              t := if host then x.t else s.captureOf e x.addr r.1.2.2.1 r.1.2.2.2 }, r.2)
  else o.2.srcGone e x

/-- Ask for a source and queue it (R231). -/
def State.takeSrc (s : State) (e : Nat) (x : Src) : State :=
  let r := s.stamp.2.askSrc e { x with q := s.stamp.1 }
  (r.2.queueSrc e r.1).iff (r.1.ask && decide ((r.2.enc e).srcs.length < 16)) (·.again (.take e (r.2.enc e).taken))

/-- A source whose hold met RETRY is asked for again, unless the session has let it go. -/
def State.takeAgain (s : State) (e idx : Nat) : State :=
  match (s.enc e).srcs.find? (fun x => x.idx == idx && x.ask) with
  | none => s
  | some x =>
    let r := s.askSrc e x
    (r.2.modEnc e (fun n => { n with srcs := n.srcs.map (fun y => if y.idx = idx then r.1 else y) })).iff r.1.ask (·.again (.take e idx))

/-- A session considers a new entry of its source context's list (R230, R231). -/
def State.encConsider (s : State) (e : Nat) (x : ListEntry) : State :=
  let r := s.enc e
  let s1 := s.modEnc e (fun r => { r with seen := r.seen + 1 })
  if r.seen % s.encDiv e ≠ 0 then s1
  else if 16 ≤ r.srcs.length then (s1.wr (ENC_STATUS_SKIP e) 1).bump (ENC_SKIP_CNT e)
  else s1.takeSrc e { addr := x.addr, gen := x.gen }

/-- Every running session of a context considers a new entry of its list. -/
def State.encSources (s : State) (n : Nat) (x : ListEntry) : State :=
  s.each ((List.range 16).filter (fun e => s.encState e == encRUNNING && s.rd (ENC_CTL_SOURCE e) == 0 &&
    s.rd (ENC_CTL_CTX e) == n)) (fun e t => t.encConsider e x)

/-! ### Which picture comes next -/

/-- The picture of a session that can be coded now: its source and deadline (R238, R246). -/
def State.encNext (s : State) (e : Nat) : Option (Src × Nat) :=
  let r := s.enc e
  let k := s.encTarget e
  if r.busyOn = 0 ∧ (s.encState e = encRUNNING ∨ (s.encState e = encDRAINING ∧ r.redo)) ∧ k < r.taken then
    (r.srcs.find? (fun x => x.idx == k && !x.ask)).map (fun x => (x, x.q + s.encTe e))
  else none

/-- The class of a session. -/
def State.encClass (s : State) (e : Nat) : Nat := s.rd (ENC_CTL_CLASS e)

/-- A session's jobs may go to encode spindle `k` (R246). -/
def State.encOn (s : State) (e k : Nat) : Bool :=
  let h := s.rd (ENC_ADMIT_HOME e)
  if s.unitUp (0x10 + h) then k == h else bitSet (s.rd (STC_CLASSMAP_ENC_MASK (s.encClass e))) k

/-- The session whose picture spindle `k` takes next: PROGRAM before BACKGROUND, earliest deadline first (R246). -/
def State.encPick (s : State) (k : Nat) : Option (Nat × Src × Nat) :=
  let l := (List.range 16).filterMap (fun e => if s.encOn e k then (s.encNext e).map (fun x => (e, x)) else none)
  [1, 2].findSome? (fun c => minBy (fun x => x.2.2 * 16 + x.1) (l.filter (fun x => s.encClass x.1 == c)))

/-- An encode spindle is free. -/
def State.speFree (s : State) (k : Nat) : Bool :=
  (s.spe k).cur.isNone && (s.spe k).stripe.isNone && s.unitUp (0x10 + k)

/-! ### Beginning a picture -/

/-- Ask for a bobbin of an encode picture in WAIT mode (R258). -/
def State.encAsk (s : State) (k pool : Nat) (w : AllocFor) : State :=
  match (s.spe k).cur with
  | none => s
  | some j => s.allocWait { master := 0x10 + k, pool := pool, timeoutUs := j.allocTo, forWhom := w }

/-- The picture is an intra picture whatever its budget: first, scheduled or all-intra (R239, Table 6-8). -/
def State.encScheduled (s : State) (e idx : Nat) : Bool :=
  let p := s.rd (ENC_GOP_INTRA_PERIOD e)
  idx == 0 || s.rd (ENC_GOP_STRUCT e) == 0 || (p != 0 && idx % p == 0)

/-- Begin coding a picture on spindle `k`: its type is settled and its first bobbin is asked for. -/
def State.encBegin (s : State) (k e : Nat) (x : Src) (d : Nat) : State :=
  let r := s.enc e
  let len := s.gopLen e
  let anchor := x.idx % len == 0
  let level := gopLevel len (x.idx % len)
  let force := (anchor || r.deferring) && r.force
  let loss := (anchor || r.deferring) && r.loss
  let isRef := s.rd (ENC_GOP_STRUCT e) != 0 && (len == 1 || decide (level < (if len = 4 then 2 else 3)))
  let j : EncJob :=
    { session := e, src := x, d := d, intra := s.encScheduled e x.idx || force || loss || r.deferring, anchor := anchor
      level := level, isRef := isRef, force := force, loss := loss, began := s.stamp.1
      phase := if isRef then .waitRecon else .waitOut
      allocTo := max 1 (s.rd (SPE_CTL_ALLOC_TO k)), respTo := max 1 (s.rd (SPE_WDOG_RESP_TO k)), q := s.rd (ENC_Q_Q e) }
  let s := s.modEnc e (fun r => { r with busyOn := k + 1, redo := false, force := r.force && !force, loss := r.loss && !loss })
  let s := s.stamp.2.modSpe k (fun p => { p with cur := some j, held := false })
  if isRef then s.encAsk k (s.rd (ENC_POOLS_RECON e)) (.encRecon k) else s.encAsk k (s.rd (ENC_POOLS_OUT e)) (.encOut k)

/-- A free encode spindle takes the next encode job, or a carding stripe where none is eligible (R246, R272). -/
def State.serveSpe (s : State) (k : Nat) : State :=
  if s.speFree k then
    match s.encPick k with
    | some x => s.encBegin k x.1 x.2.1 x.2.2
    | none => s.cardTake k
  else s

/-- Every free encode spindle takes its next job. -/
def State.encDispatch (s : State) : State := s.each (List.range 4) (fun k t => t.serveSpe k)

/-! ### Admission (R244, R245) -/

/-- The encode spindles of a class's mask. -/
def State.encMask (s : State) (c : Nat) : List Nat :=
  (List.range 4).filter (fun k => bitSet (s.rd (STC_CLASSMAP_ENC_MASK c)) k)

/-- The maximum of CK_SPE in kHz; domain 16 + k of `WRP_CLK` (DESIGN CHOICE, log entry 6). -/
def State.speKhz (s : State) (k : Nat) : Nat :=
  let f := s.rd (WRP_CLK (16 + k))
  if f = 0 then 1600000 else f

/-- The lowest frequency of a mask. -/
def State.encKhz (s : State) (c : Nat) : Nat :=
  (s.encMask c).foldl (fun a k => if a = 0 then s.speKhz k else min a (s.speKhz k)) 0

/-- The picture cost (R244): c is 8/15, 4/5 or 8/5 cycles per sample by preset, times 5/4 for 4:2:2. (DESIGN CHOICE, log entry 60.) -/
def State.encCost (s : State) (e : Nat) : Nat :=
  let p := s.rd (ENC_CROP_WH_W e) * s.rd (ENC_CROP_WH_H e)
  let c := match s.rd (ENC_CODEC_PRESET e) with
    | 0 => (8, 15)
    | 1 => (4, 5)
    | _ => (8, 5)
  let k := if s.rd (ENC_CODEC_CHROMA e) = 0 then (1, 1) else (5, 4)
  cdiv (p * c.1 * k.1) (c.2 * k.2) + 16384

/-- The load in units of 2^−16 spindle (R244). -/
def State.encLoad (s : State) (e : Nat) : Nat :=
  cdiv (1000000 * (65536 * s.encCost e)) (s.encTe e * s.encKhz (s.encClass e))

/-- The admitted sessions. -/
def State.encAdmitted (s : State) : List Nat :=
  (List.range 16).filter (fun e => s.encState e == encRUNNING || s.encState e == encDRAINING)

/-- The loads of the sessions homed on an encode spindle. -/
def State.speLoad (s : State) (k : Nat) : Nat :=
  (s.encAdmitted.filter (fun e => s.rd (ENC_ADMIT_HOME e) == k)).foldl (fun a e => a + s.rd (ENC_ADMIT_LOAD e)) 0

/-- An encode spindle is powered. -/
def State.spePowered (s : State) (k : Nat) : Bool :=
  s.present (16 + k) && (s.isl (16 + k) == islON || s.isl (16 + k) == islRETENTION)

/-- The home of a session (R245). -/
def State.encHome (s : State) (e : Nat) : Option Nat :=
  let c := s.encClass e
  minBy s.speLoad ((s.encMask c).filter (fun k => s.spePowered k &&
    decide (s.speLoad k + s.encLoad e ≤ 65536 * s.limitOf c / 100)))

/-- The class test over the ENC_MASK (R245). -/
def State.encClassTest (s : State) (e : Nat) : Bool :=
  let c := s.encClass e
  let sum := (s.encAdmitted.filter (fun f => decide (s.encClass f ≤ c) &&
    (s.encMask (s.encClass f)).any (fun k => (s.encMask c).contains k))).foldl (fun a f => a + s.rd (ENC_ADMIT_LOAD f)) 0
  let n := ((s.encMask c).filter (fun k => !(s.fixedOff (16 + k)))).length
  decide (sum + s.encLoad e ≤ 65536 * n * s.limitOf c / 100)

/-- The coding units of a picture: their number (R251). -/
def State.encUnits (s : State) (e : Nat) : Nat :=
  let u := if s.rd (ENC_CODEC_STANDARD e) = 0 then 16 else 64
  cdiv (s.rd (ENC_CROP_WH_W e)) u * cdiv (s.rd (ENC_CROP_WH_H e)) u

/-- Slices or tiles of a picture. -/
def State.encSlices (s : State) (e : Nat) : Nat := (s.rd (ENC_TILES_COLS_M1 e) + 1) * (s.rd (ENC_TILES_ROWS_M1 e) + 1)

/-- The floor unit size (Table 6-11). -/
def floorUnit (std : Nat) (intra : Bool) : Nat :=
  match std with
  | 0 => if intra then 64 else 16
  | 1 => if intra then 128 else 32
  | _ => if intra then 160 else 96

/-- D, the bits drained per picture (R250). -/
def State.encDrain (s : State) (e : Nat) : Nat := 1000 * s.rd (ENC_CAP_RATE_KBPS e) * s.encTe e / 10 ^ 9

/-- The session is capped (R249). -/
def State.capped (s : State) (e : Nat) : Bool := s.rd (ENC_CAP_RATE_KBPS e) != 0

/-- The tests of START in the order of R69, the cap last (R245, R251): the first WHY code that applies, 0 for none. (DEDUCED, log entry 53.) -/
def State.encStartWhy (s : State) (e floorI rep : Nat) : Nat :=
  let c := s.encClass e
  let bit := s.rd (ENC_CODEC_STANDARD e)
  let able := (s.encMask c).filter (fun k => s.spePowered k && bitSet (s.rd (SPE_CAPS_STD k)) bit)
  if able.isEmpty then 6
  else if ¬ s.encClassTest e then 3
  else if (s.encHome e).isNone then 4
  else if s.capped e ∧ (s.rd (ENC_CAP_SIZE_BITS e) < floorI ∨ s.encDrain e < 2 * rep) then 5
  else 0

/-! ### Commands -/

/-- Reject a session command. -/
def State.encReject (s : State) (e why : Nat) : State :=
  (s.wr (ENC_STATUS_CMD_REJECT e) 1).wr (ENC_STATUS_WHY e) why

/-- The fields of `ENC_CTL` that a write stores in IDLE (R225). -/
def State.encFields (s : State) (e w : Nat) : State :=
  if s.encState e = encIDLE then
    s.each [ENC_CTL_CLASS e, ENC_CTL_SOURCE e, ENC_CTL_CTX e] (fun F t => t.wr F (bitsOf w F.lo F.width))
  else s

/-- The tile configuration keeps R240. -/
def State.tilesOk (s : State) (e : Nat) : Bool :=
  let c := s.rd (ENC_TILES_COLS_M1 e) + 1
  let r := s.rd (ENC_TILES_ROWS_M1 e) + 1
  let w := s.rd (ENC_CROP_WH_W e)
  let p := cdiv w 64
  match s.rd (ENC_CODEC_STANDARD e) with
  | 0 => c == 1 && r == 1
  | 1 => decide (c ≤ 20) && decide (r ≤ 22) && ((c == 1 && r == 1) || (List.range c).all (fun i =>
      decide (256 ≤ min w ((i + 1) * p / c * 64) - i * p / c * 64)))
  | _ => decide (c ≤ 64) && decide (c * r ≤ 128)

/-- The configuration passes R226. -/
def State.encOk (s : State) (e : Nat) : Bool :=
  let n := s.rd (ENC_CTL_CTX e)
  let std := s.rd (ENC_CODEC_STANDARD e)
  let chroma := s.rd (ENC_CODEC_CHROMA e)
  let w := s.rd (ENC_CROP_WH_W e)
  let h := s.rd (ENC_CROP_WH_H e)
  let fields := (s.encClass e == 1 || s.encClass e == 2) && decide (s.rd (ENC_CTL_SOURCE e) < 2) &&
    (std == 0 || std == 1 || std == 3) && decide (chroma < 2) && (chroma == 0 || std == 1) &&
    decide (s.rd (ENC_CODEC_DEPTH e) < 2) && decide (s.rd (ENC_CODEC_PRESET e) < 3)
  let size := decide (64 ≤ w) && decide (w ≤ 8192) && w % 2 == 0 && decide (64 ≤ h) && decide (h ≤ 4352) && h % 2 == 0
  let source := s.rd (ENC_CTL_SOURCE e) != 0 ||
    (s.ctxState n != ctxIDLE && (s.rd (STC_CODEC_CHROMA n) == chroma || s.rd (STC_CODEC_CHROMA n) == 0) &&
      decide (s.rd (ENC_CROP_XY_X e) + w ≤ s.rd (STC_PICSIZE_MAX_W n)) &&
      decide (s.rd (ENC_CROP_XY_Y e) + h ≤ s.rd (STC_PICSIZE_MAX_H n)) &&
      decide (((List.range 16).filter (fun f => s.encState f != encIDLE && s.rd (ENC_CTL_SOURCE f) == 0 &&
        s.rd (ENC_CTL_CTX f) == n)).length < 4))
  let gop := decide (s.rd (ENC_GOP_STRUCT e) ≤ 4) && s.rd (ENC_GOP_INTRA_PERIOD e) % s.gopLen e == 0
  fields && size && source && gop && decide (4000000 ≤ s.rd (ENC_PERIOD_NS e)) && s.tilesOk e &&
    (s.on (ENC_DEST_EGR_EN e) || s.on (ENC_DEST_HOST_EN e))

/-- The counters that OPEN clears (R224). -/
def encCounters (e : Nat) : List Fld :=
  [ENC_PICS_CNT e, ENC_SKIP_CNT e, ENC_REPEAT_CNT e, ENC_FLOOR_CNT e, ENC_DEFER_CNT e, ENC_LOST_CNT e,
   ENC_HOST_DROP_CNT e, ENC_OUT_SEQ e]

/-- OPEN (R226). -/
def State.encOpen (s : State) (e : Nat) : State :=
  if s.encState e ≠ encIDLE then s.encReject e 1
  else
    let s := s.iff (s.rd (ENC_CTL_SOURCE e) == 0) (fun t => t.wr (ENC_PERIOD_NS e) (t.rd (STC_PERIOD_PERIOD (t.rd (ENC_CTL_CTX e)))))
    if s.encOk e then
      let s := s.each (encCounters e) (fun F t => t.wr F 0)
      (s.modEnc e (fun r => { busyOn := r.busyOn })).wr (ENC_STATUS_STATE e) encOPEN
    else s.encReject e 2

/-- Release the reconstruction bobbins of a session. -/
def State.releaseRefs (s : State) (e : Nat) : State :=
  let l := (s.enc e).refs
  (s.modEnc e (fun r => { r with refs := [] })).each l (fun x t => t.release mCTX x.addr x.gen)

/-- Release the queued sources of a session, but the one in progress. -/
def State.dropSrcs (s : State) (e : Nat) : State :=
  let r := s.enc e
  let cur := if r.busyOn = 0 ∧ ¬ r.redo then none else some (s.encTarget e)
  let go := r.srcs.filter (fun x => some x.idx != cur)
  (s.modEnc e (fun r => { r with srcs := r.srcs.filter (fun x => some x.idx == cur) })).each go (fun x t => t.releaseSrc x)

/-- START (R251): `hdr` is the bits of an intra picture's headers and `rep` the exact size of a repeat picture, as the
spindle builds them. -/
def State.encStart (s : State) (e hdr rep : Nat) : State :=
  if s.encState e ≠ encOPEN ∨ s.wrp.hold.classes.contains (s.encClass e) then s.encReject e 1
  else
    let floorI := hdr + 64 * s.encSlices e + s.encUnits e * floorUnit (s.rd (ENC_CODEC_STANDARD e)) true
    let s1 := s.iff (s.capped e) (fun t => (t.wr (ENC_FLOOR_I_BITS e) floorI).wr (ENC_REPEAT_BITS e) rep)
    match s.encStartWhy e floorI rep with
    | 0 =>
      let home := (s.encHome e).getD 0
      let s := (s1.wr (ENC_ADMIT_LOAD e) (s.encLoad e)).wr (ENC_ADMIT_HOME e) home
      let s := (s.releaseRefs e).modEnc e (fun r => { busyOn := r.busyOn, auSeq := r.auSeq })
      (s.wr (ENC_BUCKET_BITS e) 0).wr (ENC_STATUS_STATE e) encRUNNING
    | w => (s1.wr (ENC_STATUS_ADMIT_FAIL e) 1).wr (ENC_STATUS_WHY e) w

/-- DRAINING ends once the picture in progress is delivered (R228). -/
def State.encDrainEnd (s : State) (e : Nat) : State :=
  let r := s.enc e
  if s.encState e = encDRAINING ∧ r.busyOn = 0 ∧ ¬ r.redo then
    let s := ((s.dropSrcs e).wr (ENC_ADMIT_LOAD e) 0).wr (ENC_ADMIT_HOME e) 0
    (s.wr (ENC_STATUS_STATE e) encOPEN).wr (ENC_STATUS_BUSY e) 0
  else s

/-- STOP (R227, R228). -/
def State.encStop (s : State) (e : Nat) : State :=
  if s.encState e = encRUNNING then
    let s := (s.dropSrcs e).wr (ENC_STATUS_STATE e) encDRAINING
    (s.wr (ENC_STATUS_BUSY e) 1).encDrainEnd e
  else s.encReject e 1

/-- CLOSE (R224): the reconstruction bobbins go back and the source is unbound. -/
def State.encClose (s : State) (e : Nat) : State :=
  if s.encState e = encOPEN ∨ s.encState e = encFAULTED then
    ((s.releaseRefs e).dropSrcs e).wr (ENC_STATUS_STATE e) encIDLE
  else s.encReject e 1

/-- FORCE_INTRA (Table 6-4). -/
def State.encForce (s : State) (e : Nat) : State :=
  if s.encState e = encRUNNING then s.modEnc e (fun r => { r with force := true }) else s.encReject e 1

/-- RECOVER (R227). -/
def State.encRecover (s : State) (e : Nat) : State :=
  if s.encState e = encFAULTED then
    if s.on (ENC_STATUS_FAULT e) then s.encReject e 7 else s.wr (ENC_STATUS_STATE e) encOPEN
  else s.encReject e 1

/-- A write of `ENC_CTL` with command `cmd` (R225, R227): one while BUSY is rejected, NOP too. -/
def State.encCmd (s : State) (e w cmd hdr rep : Nat) : State :=
  let s := s.encFields e w
  if s.on (ENC_STATUS_BUSY e) then s.encReject e 1
  else if cmd = 0 then s
  else
    let s := match cmd with
      | 1 => s.encOpen e
      | 2 => s.encStart e hdr rep
      | 3 => s.encStop e
      | 4 => s.encClose e
      | 5 => s.encForce e
      | 6 => s.encRecover e
      | _ => s.encReject e 1
    s.encDispatch

/-- ENC_NOP: `w` carries the other fields of the word written. -/
def execEncNop (e : Fin 16) (w : Word) (s : State) : Host.Outcome State Fault Refusal := s.finish (s.encCmd e w.toNat 0 0 0)
/-- ENC_OPEN. -/
def execEncOpen (e : Fin 16) (w : Word) (s : State) : Host.Outcome State Fault Refusal := s.finish (s.encCmd e w.toNat 1 0 0)
/-- ENC_START: with the header bits and the repeat size that the spindle finds for the coded geometry. -/
def execEncStart (e : Fin 16) (w : Word) (hdr rep : Nat) (s : State) : Host.Outcome State Fault Refusal :=
  s.finish (s.encCmd e w.toNat 2 hdr rep)
/-- ENC_STOP. -/
def execEncStop (e : Fin 16) (w : Word) (s : State) : Host.Outcome State Fault Refusal := s.finish (s.encCmd e w.toNat 3 0 0)
/-- ENC_CLOSE. -/
def execEncClose (e : Fin 16) (w : Word) (s : State) : Host.Outcome State Fault Refusal := s.finish (s.encCmd e w.toNat 4 0 0)
/-- FORCE_INTRA. -/
def execForceIntra (e : Fin 16) (w : Word) (s : State) : Host.Outcome State Fault Refusal := s.finish (s.encCmd e w.toNat 5 0 0)
/-- ENC_RECOVER. -/
def execEncRecover (e : Fin 16) (w : Word) (s : State) : Host.Outcome State Fault Refusal := s.finish (s.encCmd e w.toNat 6 0 0)

/-- A write of `ENC_SRC_HI` (R231, R235): ignored unless the session is RUNNING; the capture time is `ENC_SRC_TIME`. -/
def State.encSubmit (s : State) (e hi : Nat) : State :=
  let addr := 2 ^ 32 * (hi % 512) + s.rd (ENC_SRC_LO e)
  if s.encState e ≠ encRUNNING ∨ s.rd (ENC_CTL_SOURCE e) ≠ 1 then s
  else if 16 ≤ (s.enc e).srcs.length then (s.wr (ENC_STATUS_SKIP e) 1).bump (ENC_SKIP_CNT e)
  else
    (s.takeSrc e { addr := addr, t := 2 ^ 32 * s.rd (ENC_SRC_TIME_HI e) + s.rd (ENC_SRC_TIME_LO e) }).encDispatch

/-- ENC_SRC_SUBMIT. -/
def execEncSrcSubmit (e : Fin 16) (hi : Word) (s : State) : Host.Outcome State Fault Refusal := s.finish (s.encSubmit e hi.toNat)

/-! ### Rate control (R248–R257) -/

/-- The range of quantisers the standard has: AVC and HEVC, widened below 0 for 10 bits; AV1. (DEDUCED, log entry 53.) -/
def State.quantRange (s : State) (e : Nat) : Int × Int :=
  if s.rd (ENC_CODEC_STANDARD e) = 3 then (0, 255) else ((if s.rd (ENC_CODEC_DEPTH e) = 1 then -12 else 0), 51)

/-- The base quantiser of a picture with its offset, clamped (R248); `q` is `ENC_Q` as its coding began (R225). -/
def State.baseQuant (s : State) (e q : Nat) (intra : Bool) (level : Nat) : Int :=
  let off : Int := if intra then -2 else level
  let av1 := s.rd (ENC_CODEC_STANDARD e) = 3
  let base : Int := if av1 then max 1 ((2 * q * 255 + 63) / 126 : Nat) else ((2 * q * 51 + 63) / 126 : Nat)
  let r := s.quantRange e
  max r.1 (min r.2 (base + (if av1 then 4 * off else off)))

/-- 2^(−d/k) rounded to 16 fractional bits (R253). -/
def decay (k d : Nat) : Nat :=
  if 17 * k < d then 0 else (rootFrom k (2 ^ (17 * k - d)) 18 0 + 1) / 2

/-- The quantiser of a row (R253): the smallest Q from Q_p on whose estimate fits, else the maximum. -/
def rowQuant (k : Nat) (qp top : Int) (p up ul a : Nat) : Int :=
  let ds := (List.range ((top - qp).toNat + 1)).find? (fun d => decide (p * ul * decay k d ≤ a * up * 65536))
  match ds with
  | some d => qp + d
  | none => top

/-- The quantisers of a picture's rows: U allows the unit bits, `left` units are not yet coded. -/
def rowQuants (k : Nat) (top : Int) (u left : Nat) (q : Int) : List (List Nat) → List Int
  | [] => [q]
  | r :: rest =>
    let p := r.foldl (· + ·) 0
    let ul := left - r.length
    let a := u - p
    q :: (if rest.isEmpty then [] else rowQuants k top a ul (rowQuant k q top p r.length ul a) rest)

/-- Commit units while the rest of the picture still fits in floor mode (R254): the bits committed, and how many units floor mode codes
from the one it begins with on. `left` counts the units from the next one on. -/
def commitUnits (f u : Nat) : Nat → Nat → List Nat → Nat × Option Nat
  | _, done, [] => (done, none)
  | left, done, b :: r =>
    if done + b + (left - 1) * f ≤ u then commitUnits f u (left - 1) (done + b) r else (done, some left)

/-- What rate control makes of a picture: replaced by a repeat, or coded with these bits, floor mode or not. -/
structure Coded where
  isRepeat : Bool := false
  cap : Bool := false
  intra : Bool := false
  floor : Bool := false
  /-- the first unit that floor mode codes -/
  from_ : Option Nat := none
  bits : Nat := 0
  rowQ : List Int := []
  /-- the bucket before the picture (F' of R250) -/
  before : Nat := 0
  deriving DecidableEq, Repr

/-- Rate control of a picture from what coding brings (R249–R256). What floor mode and the ends of slices take lies within the bounds of
Table 6-11 and R252, so that b ≤ G (R257). -/
def State.rateControl (s : State) (j : EncJob) (c : CodedFacts) : Coded :=
  let e := j.session
  let base := s.baseQuant e j.q j.intra j.level
  let units := c.rows.flatten
  let plain := c.header + units.foldl (· + ·) 0 + c.trailing
  let rep := s.rd (ENC_REPEAT_BITS e)
  if ¬ s.capped e then
    if j.src.missing then { isRepeat := true, intra := j.intra, bits := rep } else { intra := j.intra, bits := plain, rowQ := c.rows.map (fun _ => base) }
  else
    let before := s.rd (ENC_BUCKET_BITS e) - s.encDrain e
    let g := s.rd (ENC_CAP_SIZE_BITS e) - before
    let f := floorUnit (s.rd (ENC_CODEC_STANDARD e)) j.intra
    let n := s.encUnits e
    let ovr := c.header + 64 * s.encSlices e
    if j.src.missing then { isRepeat := true, intra := j.intra, bits := rep, before := before }
    else if g < ovr + n * f then { isRepeat := true, cap := true, intra := j.intra, bits := rep, before := before }
    else
      let u := g - ovr
      let k := if s.rd (ENC_CODEC_STANDARD e) = 3 then 24 else 6
      let o := commitUnits f u n 0 units
      let low := (o.2.map (fun m => min c.floor (m * f))).getD 0
      { intra := j.intra, floor := o.2.isSome, from_ := o.2.map (n - ·), before := before
        rowQ := rowQuants k (s.quantRange e).2 u n base c.rows
        bits := c.header + o.1 + low + min c.trailing (64 * s.encSlices e) }

/-! ### Completing a picture (R258–R261) -/

/-- Bytes of a bobbin of a session's output pool that a chain can use. -/
def State.outSize (s : State) (e : Nat) : Nat := s.poolSize (s.rd (ENC_POOLS_OUT e))

/-- The picture leaves its spindle: the source goes back and coding order advances (R236, R238). -/
def State.encAdvance (s : State) (k : Nat) (j : EncJob) : State :=
  let e := j.session
  let len := s.gopLen e
  let s := s.modEnc e (fun r =>
    let last := r.base = 0 ∨ r.step + 1 = len
    { r with
      busyOn := 0, srcs := if j.stop then r.srcs else r.srcs.filter (fun x => x.idx != j.src.idx)
      base := if r.base = 0 then 1 else if last then r.base + len else r.base
      step := if last then 0 else r.step + 1 })
  let s := (s.releaseSrc j.src).modSpe k (fun p => { p with cur := none, held := false })
  s.bump (SPE_PICS k)

/-- Give back the bobbins of a picture on a spindle, and forget what it asked for. -/
def State.encBobsBack (s : State) (k : Nat) (j : EncJob) : State :=
  (((s.each (j.recon.toList ++ j.outs) (fun b t => t.release (0x10 + k) b.1 b.2)).dropWait (.encRecon k)).dropWait (.encOut k))

/-- The picture of a session that has entered FAULTED is dropped at its yield point (R58). -/
def State.encStopped (s : State) (k : Nat) (j : EncJob) : State :=
  let s := ((s.encBobsBack k j).releaseSrc j.src).modSpe k (fun p => { p with cur := none, held := false })
  s.modEnc j.session (fun r => { r with busyOn := 0 })

/-- A coded picture is lost (R261): its chain and its reconstruction are released, its bits are not added to the bucket, and the next
anchor is an intra. -/
def State.encLost (s : State) (k : Nat) (j : EncJob) : State :=
  if j.stop then s.encStopped k j
  else
    let e := j.session
    let s := (s.encBobsBack k j).iff (s.capped e) (·.wr (ENC_BUCKET_BITS e) (s.rd (ENC_BUCKET_BITS e) - s.encDrain e))
    let s := (s.wr (ENC_STATUS_OUT_LOST e) 1).bump (ENC_LOST_CNT e)
    (s.modEnc e (fun r => { r with loss := true })).encAdvance k j

/-- The references a session keeps after a picture: for one-picture structures the last REFS + 1, for mini-GOPs the newest
two anchors and the pictures after the older one (DEDUCED, log entry 24). -/
def State.keepRefs (s : State) (e : Nat) : State :=
  let r := s.enc e
  let len := s.gopLen e
  let newest := r.refs.foldl (fun m x => max m x.idx) 0
  let keep := fun (x : EncRef) =>
    if len = 1 then decide (newest ≤ x.idx + s.rd (ENC_GOP_REFS e)) else decide ((newest - 1) / len * len ≤ x.idx + len)
  let go := r.refs.filter (fun x => !keep x)
  (s.modEnc e (fun r => { r with refs := r.refs.filter keep })).each go (fun x t => t.release mCTX x.addr x.gen)

/-- A reconstruction joins the session's references. (DEDUCED, log entry 24.) -/
def State.addRef (s : State) (e : Nat) (x : EncRef) : State :=
  (s.modEnc e (fun r => { r with refs := r.refs ++ [x] })).keepRefs e

/-- The layout of a reconstruction: semi-planar, by the coded size, chroma and depth (R258). -/
def State.reconLayout (s : State) (e : Nat) : Layout :=
  layoutOf (s.rd (ENC_CROP_WH_W e)) (s.rd (ENC_CROP_WH_H e)) (s.rd (ENC_CODEC_CHROMA e) + 1)
    (if s.rd (ENC_CODEC_DEPTH e) = 1 then 10 else 8) false false true

/-! ### Samples of the source and of references (R233, R235, R241) -/

/-- A source sample at the coded depth (R233). -/
def convDepth (from_ to_ v : Nat) : Nat :=
  if from_ = to_ then v
  else if from_ = 8 ∧ to_ = 10 then v * 4
  else if from_ = 10 ∧ to_ = 8 then min 255 ((v + 2) / 4)
  else Config.depthConv from_ to_ v

/-- Plane `c` (0 luma, 1 Cb, 2 Cr) of a picture as its record describes it (R235, Table 4-10). -/
def recPlane (addr : Nat) (rec : List Byte) (c : Nat) : Plane :=
  let p := planeOf addr rec
  let planar := bitSet (recField rec 0x22 1) 0
  let chroma := recField rec 0x20 1
  if c = 0 then p
  else { p with
    base := addr + (if planar then recField rec (if c = 1 then 0x34 else 0x38) 4 else recField rec 0x34 4 + (c - 1) * p.bytes)
    w := if chroma = 3 then p.w else cdiv p.w 2, h := if chroma = 1 then cdiv p.h 2 else p.h
    pitch := recField rec 0x28 4, gap := if planar then 0 else p.bytes }

/-- Read a whole plane. -/
def State.wholePlane (s : State) (master : Nat) (p : Plane) : Area × State :=
  let o := s.readArea master p 0 0 (p.w - 1) (p.h - 1)
  (o.2.1, o.2.2)

/-- The samples of a session's source at the coded depth and format, by coordinates of the coded area (R233). A chroma row that the source
does not have is a free value of the rows about it (DESIGN CHOICE, log entry 81). -/
def State.srcPlanes (s : State) (k e addr : Nat) : Planes × State :=
  let m := 0x10 + k
  let r := s.busRead m 0 addr 256
  let rec_ := r.2.1
  let depth := if s.rd (ENC_CODEC_DEPTH e) = 1 then 10 else 8
  let have_ := recField rec_ 0x20 1
  let conv := fun (v : Nat) => (convDepth (recField rec_ 0x21 1) depth v : Int)
  let x0 := s.rd (ENC_CROP_XY_X e) + recField rec_ 0x18 2
  let y0 := s.rd (ENC_CROP_XY_Y e) + recField rec_ 0x1C 2
  let y := r.2.2.wholePlane m (recPlane addr rec_ 0)
  let cb := if have_ = 0 then ({}, y.2) else y.2.wholePlane m (recPlane addr rec_ 1)
  let cr := if have_ = 0 then ({}, cb.2) else cb.2.wholePlane m (recPlane addr rec_ 2)
  let want := s.rd (ENC_CODEC_CHROMA e) + 1
  let chroma := fun (a : Area) (x yy : Int) =>
    if have_ = 0 then (2 ^ (depth - 1) : Int)
    else if have_ = want then conv (a.at (x + x0 / 2) (yy + (y0 / (if want = 1 then 2 else 1) : Nat)))
    else if have_ = 1 ∧ yy % 2 = 0 then conv (a.at (x + x0 / 2) (yy / 2 + y0 / 2))
    else if have_ = 1 then conv (Config.chromaBetween (a.at (x + x0 / 2) (yy / 2 + y0 / 2)) (a.at (x + x0 / 2) (yy / 2 + 1 + y0 / 2)))
    else conv (Config.chromaBetween (a.at (2 * x + x0) (2 * yy + y0)) (a.at (2 * x + 1 + x0) (2 * yy + 1 + y0)))
  ({ y := fun x yy => conv (y.1.at (x + x0) (yy + y0)), cb := chroma cb.1, cr := chroma cr.1 }, cr.2)

/-- The geometry of a session's reconstructions: semi-planar, by the coded size, chroma and depth (R258). -/
def State.reconGeo (s : State) (e : Nat) : Geo :=
  geoOf (s.rd (ENC_CROP_WH_W e)) (s.rd (ENC_CROP_WH_H e)) (s.rd (ENC_CODEC_CHROMA e) + 1)
    (if s.rd (ENC_CODEC_DEPTH e) = 1 then 10 else 8) false false true

/-- A plane of a reconstruction. -/
def Geo.plane (g : Geo) (addr c : Nat) : Plane :=
  { base := addr + g.off c 0 0, w := g.planeW c, h := g.planeH c, depth := g.depth, bytes := g.b
    pitch := if c = 0 then g.l.pitchY else g.l.pitchC, gap := if c = 0 then 0 else g.b }

/-- The samples of a session's references, by source number. -/
def State.refPlanes (s : State) (k e : Nat) : (Nat → Planes) × State :=
  let g := s.reconGeo e
  (s.enc e).refs.foldl (fun (a : (Nat → Planes) × State) r =>
    let y := a.2.wholePlane (0x10 + k) (g.plane r.addr 0)
    let cb := y.2.wholePlane (0x10 + k) (g.plane r.addr 1)
    let cr := cb.2.wholePlane (0x10 + k) (g.plane r.addr 2)
    let f := fun (t : Area) (x yy : Int) => (t.at x yy : Int)
    (fun i => if i = r.idx then { y := f y.1, cb := f cb.1, cr := f cr.1 } else a.1 i, cr.2)) (fun _ => {}, s)

/-- The tile of a luma position: columns and rows uniformly spaced in coding units (R240). -/
def State.tileAt (s : State) (e x y : Nat) : Rect :=
  let part := fun (size n v : Nat) =>
    let p := cdiv size 64
    let i := ((List.range n).find? (fun i => decide (v < (i + 1) * p / n * 64))).getD (n - 1)
    (i * p / n * 64, min size ((i + 1) * p / n * 64) - i * p / n * 64)
  let c := part (s.rd (ENC_CROP_WH_W e)) (s.rd (ENC_TILES_COLS_M1 e) + 1) x
  let r := part (s.rd (ENC_CROP_WH_H e)) (s.rd (ENC_TILES_ROWS_M1 e) + 1) y
  { x := c.1, y := r.1, w := c.2, h := r.2 }

/-- What a block is reconstructed as in each plane, in rows: floor mode codes it as skip or DC without residual (R254), else mode decision
takes one of its candidates (R243), whose residual is added; none where the tools allow none. -/
def State.blockSamples (s : State) (j : EncJob) (o : Coded) (src : Planes) (refs : Nat → Planes) (b : EncBlock) : Option (List (List Int)) :=
  let e := j.session
  let g := s.reconGeo e
  let std := s.rd (ENC_CODEC_STANDARD e)
  let c := chromaRect (g.sx 1) (g.sy 1) b.rect
  let q := (o.rowQ.head?).getD 0
  let ctx : SearchCtx := {
    std := std, depth := g.depth, preset := s.rd (ENC_CODEC_PRESET e), q := q, rect := b.rect, w := g.w, h := g.h
    tile := if s.on (ENC_TILES_MCTS e) then some (s.tileAt e b.rect.x b.rect.y) else none }
  if (o.from_.map (fun n => decide (n ≤ b.unit))).getD false then
    match b.skip with
    | some v =>
      let p := refs v.1
      some [overRect b.rect (lumaPred std g.depth [(p.y, v.2)]), overRect c (chromaPred std g.depth (g.sx 1) (g.sy 1) [(p.cb, v.2)]),
        overRect c (chromaPred std g.depth (g.sx 1) (g.sy 1) [(p.cr, v.2)])]
    | none =>
      let flat := fun (r : Rect) (i : Nat) => overRect r (fun _ _ => b.dc.getD i 0)
      some [flat b.rect 0, flat c 1, flat c 2]
  else
    let l := (b.cands.filter (fun k => k.ok std (s.rd (ENC_GOP_STRUCT e)) j.intra ((s.enc e).refs.map (·.idx)) b.rect)).filterMap
      (ctx.eval (g.sx 1) (g.sy 1) src refs)
    (decideMode (s.rd (ENC_CODEC_PRESET e)) l).map (fun v =>
      let add := fun (base : List Int) (k : SampleBlock) => base.zipIdx.map (fun t => t.1 + k.resid std g.depth t.2)
      [add v.y v.cand.luma, add v.cb v.cand.cb, add v.cr v.cand.cr])

/-- The sample writes of a block. -/
def Geo.blockWrites (g : Geo) (r : Rect) (l : List (List Int)) : List PicWrite :=
  (List.range 3).flatMap (fun c =>
    let q := if c = 0 then r else chromaRect (g.sx c) (g.sy c) r
    (l.getD c []).zipIdx.filterMap (fun t =>
      let x := q.x + t.2 % max 1 q.w
      let y := q.y + t.2 / max 1 q.w
      if x < g.planeW c ∧ y < g.planeH c then
        some { kind := .sample, off := g.off c x y, data := natLe g.b (clipTo g.depth t.1).toNat }
      else none))

/-- The writes of a picture's reconstruction. -/
def State.reconOf (s : State) (k : Nat) (j : EncJob) (o : Coded) (c : CodedFacts) : List PicWrite × State :=
  let src := s.srcPlanes k j.session j.src.addr
  let refs := src.2.refPlanes k j.session
  let g := s.reconGeo j.session
  (c.blocks.flatMap (fun b => ((s.blockSamples j o src.1 refs.1 b).map (g.blockWrites b.rect)).getD []) ++
    c.recon.filter (fun w => w.kind == .motion), refs.2)

/-- Write the reconstruction under the guard (R262); a repeat's equals its reference (R255). The blocked write's offset, if
any. -/
def State.writeRecon (s : State) (k : Nat) (j : EncJob) (o : Coded) (c : CodedFacts) : Option Int × State :=
  match j.recon with
  | none => (none, s)
  | some b =>
    let l := s.reconLayout j.session
    let size := s.poolSize (s.rd (ENC_POOLS_RECON j.session))
    if o.isRepeat then
      let earlier := (s.enc j.session).refs.filter (fun x => decide (x.idx < j.src.idx))
      match minBy (fun x => j.src.idx - x.idx) earlier with
      | none => (none, s)
      | some r =>
        let o := s.busRead (0x10 + k) 0 (r.addr + l.offY) (l.planes - l.offY)
        let d := if o.1 = 0 then o.2 else o.2.2.freeBytes (l.planes - l.offY)
        let g := d.2.guarded (0x10 + k) b.1 size l [{ kind := .sample, off := l.offY, data := d.1 }]
        (g.2.1.map (·.1), g.2.2)
    else
      let w := s.reconOf k j o c
      let g := w.2.guarded (0x10 + k) b.1 size l w.1
      (g.2.1.map (·.1), g.2.2)

/-! ### What the stream holds (R233, R237–R240) -/

/-- The profile of Table 6-7: profile_idc of AVC and HEVC, seq_profile of AV1. (PRESUMED, log entry 71.) -/
def encProfile (std chroma depth : Nat) : Nat :=
  match std with
  | 0 => if depth = 8 then 100 else 110
  | 1 => if chroma = 1 then 4 else if depth = 8 then 1 else 2
  | _ => 0

/-- A level's number and limits: picture size and rate in the standard's units (macroblocks for AVC, luma samples else), bit rate and buffer in
units of 1000 bits, of the Main tier. -/
structure LevelRow where
  idc : Nat := 0
  size : Nat := 0
  rate : Nat := 0
  kbps : Nat := 0
  kbits : Nat := 0
  deriving DecidableEq, Repr

/-- The levels of AVC, HEVC and AV1, lowest first. (PRESUMED, log entry 71.) -/
def levelRows (std : Nat) : List LevelRow :=
  let rows : List (Nat × Nat × Nat × Nat × Nat) := match std with
  | 0 => [(10, 99, 1485, 64, 175), (11, 396, 3000, 192, 500), (12, 396, 6000, 384, 1000), (13, 396, 11880, 768, 2000),
      (20, 396, 11880, 2000, 2000), (21, 792, 19800, 4000, 4000), (22, 1620, 20250, 4000, 4000), (30, 1620, 40500, 10000, 10000),
      (31, 3600, 108000, 14000, 14000), (32, 5120, 216000, 20000, 20000), (40, 8192, 245760, 20000, 25000),
      (41, 8192, 245760, 50000, 62500), (42, 8704, 522240, 50000, 62500), (50, 22080, 589824, 135000, 135000),
      (51, 36864, 983040, 240000, 240000), (52, 36864, 2073600, 240000, 240000), (60, 139264, 4177920, 240000, 240000),
      (61, 139264, 8355840, 480000, 480000), (62, 139264, 16711680, 800000, 800000)]
  | 1 => [(30, 36864, 552960, 128, 350), (60, 122880, 3686400, 1500, 1500), (63, 245760, 7372800, 3000, 3000),
      (90, 552960, 16588800, 6000, 6000), (93, 983040, 33177600, 10000, 10000), (120, 2228224, 66846720, 12000, 12000),
      (123, 2228224, 133693440, 20000, 20000), (150, 8912896, 267386880, 25000, 25000), (153, 8912896, 534773760, 40000, 40000),
      (156, 8912896, 1069547520, 60000, 60000), (180, 35651584, 1069547520, 60000, 60000), (183, 35651584, 2139095040, 120000, 120000),
      (186, 35651584, 4278190080, 240000, 240000)]
  | _ => [(0, 147456, 4423680, 1500, 1500), (1, 278784, 8363520, 3000, 3000), (4, 665856, 19975680, 6000, 6000),
      (5, 1065024, 31950720, 10000, 10000), (8, 2359296, 70778880, 12000, 12000), (9, 2359296, 141557760, 20000, 20000),
      (12, 8912896, 267386880, 30000, 30000), (13, 8912896, 534773760, 40000, 40000), (14, 8912896, 1069547520, 60000, 60000),
      (16, 35651584, 1069547520, 60000, 60000), (17, 35651584, 2139095040, 100000, 100000), (18, 35651584, 4278190080, 160000, 160000)]
  rows.map (fun r => { idc := r.1, size := r.2.1, rate := r.2.2.1, kbps := r.2.2.2.1, kbits := r.2.2.2.2 })

/-- The lowest level whose limits cover the coded size, the picture rate and the cap (R237); the highest where none does. (PRESUMED, log entry
71.) -/
def State.encLevel (s : State) (e : Nat) : Nat :=
  let std := s.rd (ENC_CODEC_STANDARD e)
  let w := s.rd (ENC_CROP_WH_W e)
  let h := s.rd (ENC_CROP_WH_H e)
  let n := if std = 0 then cdiv w 16 * cdiv h 16 else w * h
  let side := if std = 0 then max (cdiv w 16) (cdiv h 16) else max w h
  let k := if std = 0 then (if s.rd (ENC_CODEC_DEPTH e) = 1 then 3000 else 1250)
    else if std = 1 ∧ s.rd (ENC_CODEC_CHROMA e) = 1 then 1667 else 1000
  let fits := fun (r : LevelRow) =>
    decide (n ≤ r.size) && decide (n * 10 ^ 9 ≤ r.rate * s.encTe e) && (std == 3 || decide (side * side ≤ 8 * r.size)) &&
      (!s.capped e || (decide (1000 * s.rd (ENC_CAP_RATE_KBPS e) ≤ r.kbps * k) && decide (s.rd (ENC_CAP_SIZE_BITS e) ≤ r.kbits * k)))
  let l := levelRows std
  (((l.find? fits).orElse (fun _ => l.getLast?)).map (·.idc)).getD 0

/-- The headers of a session's stream; the colour description is that of the record of its first coded picture (R233). -/
def State.encHeadOf (s : State) (k : Nat) (j : EncJob) : EncHead × State :=
  let e := j.session
  let r := s.busRead (0x10 + k) 0 j.src.addr 256
  let g := s.reconGeo e
  let mcts := s.on (ENC_TILES_MCTS e)
  ({ std := s.rd (ENC_CODEC_STANDARD e), profile := encProfile (s.rd (ENC_CODEC_STANDARD e)) (s.rd (ENC_CODEC_CHROMA e)) g.depth
     level := s.encLevel e, width := g.w, height := g.h, chroma := g.chroma, depth := g.depth
     cols := s.rd (ENC_TILES_COLS_M1 e) + 1, rows := s.rd (ENC_TILES_ROWS_M1 e) + 1, loopAcross := !mcts, refMvs := !mcts
     colour := (List.range 4).map (fun i => recField r.2.1 (0x70 + i) 1) }, r.2.2)

/-- What the access unit of a coded picture holds (R238–R240, R248, R253–R255): the quantisers of the rows, and the standard's maximum for
those that floor mode codes. -/
def State.descOf (s : State) (j : EncJob) (o : Coded) : CodedDesc :=
  let e := j.session
  let std := s.rd (ENC_CODEC_STANDARD e)
  let intra := o.intra && !o.isRepeat
  let len := s.gopLen e
  let open_ := !s.on (ENC_GOP_CLOSED e) && std != 3
  let inner := len != 1 && j.src.idx != 0 && std == 3
  let row := cdiv (s.rd (ENC_CROP_WH_W e)) (if std = 0 then 16 else 64)
  { idx := j.src.idx
    form := if !intra then .inter else if !open_ then .closed else if std = 0 then .recovery else .cra
    sets := intra, tileMessage := intra && s.on (ENC_TILES_MCTS e)
    shown := !inner || j.src.idx % 2 == 1, existing := if inner ∧ j.src.idx % 2 = 1 then some (j.src.idx + 1) else none
    quants := o.rowQ ++ (o.from_.map (fun n => List.replicate (s.encUnits e / row - n / row) (s.quantRange e).2)).getD []
    allSkip := o.isRepeat }

/-- The flags of a coded picture (Table 6-12). -/
def codedFlags (j : EncJob) (o : Coded) (closed deferred : Bool) : Nat :=
  let intra := o.intra && !o.isRepeat
  b2n intra + 2 * b2n (intra && closed) + 4 * b2n o.cap + 8 * b2n o.floor + 16 * b2n (intra && deferred) +
    32 * b2n j.src.missing + 64 * b2n (j.src.concealed && !j.src.missing) + 128 * b2n (intra && j.loss)

/-- Enter a chain in the host list, or withhold it (R260). -/
def State.encHostOut (s : State) (k e : Nat) (ch : Chain) (flags t : Nat) : State :=
  let seq := (s.rd (ENC_OUT_SEQ e) + 1) % 2 ^ 32
  if 16 < (seq + 2 ^ 32 - s.rd (ENC_OUT_ACK e)) % 2 ^ 32 then
    let s := s.releaseChain (0x10 + k) ch
    (s.wr (ENC_STATUS_HOST_OVERRUN e) 1).bump (ENC_HOST_DROP_CNT e)
  else
    let first := (ch.bobs.head?).getD (0, 0)
    let words := [seq, flags, ch.bytes, first.1 % 2 ^ 32, first.1 / 2 ^ 32, first.2, t % 2 ^ 32, t / 2 ^ 32 % 2 ^ 32]
    let s := s.each words.zipIdx (fun w u => u.wr (ENC_OUT_ENT e (8 * (seq % 16) + w.2)) w.1)
    s.wr (ENC_OUT_SEQ e) seq

/-- Deliver a complete chain to its destinations (R259). -/
def State.encDeliver (s : State) (k e : Nat) (ch : Chain) (flags t : Nat) : State :=
  let egr := s.on (ENC_DEST_EGR_EN e)
  let host := s.on (ENC_DEST_HOST_EN e)
  let s := s.shareChain (0x10 + k) (if egr ∧ host then 1 else 0) ch
  let s := s.iff egr (fun u => u.egressAu (u.rd (ENC_DEST_EGR e)) ch t)
  s.iff host (fun u => u.encHostOut k e ch flags t)

/-- Account for a coded picture in the session's counters, status and bucket (R250, R254–R256). -/
def State.encAccount (s : State) (j : EncJob) (o : Coded) : State :=
  let e := j.session
  let s := s.bump (ENC_PICS_CNT e)
  let s := s.iff (s.capped e) (·.wr (ENC_BUCKET_BITS e) (o.before + o.bits))
  let s := s.iff o.isRepeat (·.bump (ENC_REPEAT_CNT e))
  let s := s.iff o.cap (·.wr (ENC_STATUS_CAP_REPEAT e) 1)
  let s := s.iff o.floor (fun t => (t.wr (ENC_STATUS_FLOOR e) 1).bump (ENC_FLOOR_CNT e))
  let was := (s.enc e).deferring
  let s := s.iff (o.isRepeat && o.intra && !was) (·.bump (ENC_DEFER_CNT e))
  let late := o.isRepeat && o.intra
  s.modEnc e (fun r => { r with deferring := late, rowQ := o.rowQ, loss := r.loss || (late && j.loss), force := r.force || (late && j.force) })

/-- The bytes of the access unit. A repeat picture has the size of `ENC_REPEAT` (R255); which bytes make it up beyond those that the coder brought is
free (DESIGN CHOICE, log entry 81). -/
def State.codedData (s : State) (o : Coded) (c : CodedFacts) : List Byte × State :=
  if o.isRepeat then
    let n := cdiv o.bits 8
    let v := s.freeBytes (n - c.repeatData.length)
    ((c.repeatData ++ v.1).take n, v.2)
  else (c.data, s)

/-- A coded picture completes with every bobbin it needs in hand (R258, R259). (DEDUCED, log entry 53.) -/
def State.encFinish (s : State) (k : Nat) (j : EncJob) (c : CodedFacts) : State :=
  let e := j.session
  let o := s.rateControl j c
  let deferred := (s.enc e).deferring
  let w := s.writeRecon k j o c
  match w.1 with
  | some off =>
    let s := w.2.raise { cls := 8, master := 0x10 + k, access := 1, ctx := 0x80 + e, names := true
                         addr := (((j.recon.getD (0, 0)).1 : Int) + off).toNat }
    s.encLost k j
  | none =>
    let first := (s.enc e).head.isNone && !j.src.missing
    let h := if first then w.2.encHeadOf k j else ({}, w.2)
    let s := h.2.modEnc e (fun r => { r with head := if first then some h.1 else r.head, desc := some (s.descOf j o) })
    let d := s.codedData o c
    let s := d.2
    let data := d.1
    let need := max 1 (cdiv data.length (s.outSize e - 64))
    let seq := (s.enc e).auSeq + 1
    let intra := o.intra && !o.isRepeat
    let closed := s.on (ENC_GOP_CLOSED e) || s.rd (ENC_CODEC_STANDARD e) == 3
    let ch : Chain := { bobs := j.outs.take need, bytes := data.length, rap := intra, auSeq := seq
                        rtpTs := rtp90 j.src.t, tFirst := j.began, tRelease := s.stamp.1 }
    let s := s.stamp.2.each (j.outs.drop need) (fun b t => t.release (0x10 + k) b.1 b.2)
    let s := (s.writePayload (0x10 + k) (s.outSize e) ch.bobs 0 data).writeHeaders (0x10 + k) (s.outSize e) ch
    let s := (s.modEnc e (fun r => { r with auSeq := seq })).encAccount j o
    let s := match j.recon with
      | none => s
      | some b => (s.shareBy (0x10 + k) b.1 b.2 0).addRef e { idx := j.src.idx, addr := b.1, gen := b.2 }
    let s := s.encDeliver k e ch (codedFlags j o closed deferred) j.src.t
    ((s.countUnit 0x051 (0x10 + k) (o.bits / 1024)).encAdvance k j).encDrainEnd e

/-- Go on with a picture whose coding has ended: ask for another output bobbin, or finish. -/
def State.encProceed (s : State) (k : Nat) : State :=
  match (s.spe k).cur with
  | none => s
  | some j =>
    match j.facts with
    | none => s.modSpe k (fun p => { p with cur := p.cur.map (fun x => { x with phase := .coding }) })
    | some c =>
      let o := s.rateControl j c
      let need := max 1 (cdiv (s.codedData o c).1.length (s.outSize j.session - 64))
      if need ≤ j.outs.length then s.encFinish k j c
      else
        let s := s.modSpe k (fun p => { p with cur := p.cur.map (fun x => { x with phase := .waitOut }) })
        s.encAsk k (s.rd (ENC_POOLS_OUT j.session)) (.encOut k)

/-- A WAIT-mode allocation of spindle `k` is granted (R258); a spindle that a drain holds goes on when its island is ON again (R247). -/
def State.encGrant (s : State) (k : Nat) : State :=
  match (s.spe k).cur with
  | none => s
  | some j =>
    if (s.spe k).held ∨ ¬ s.unitUp (0x10 + k) then s
    else match j.phase with
    | .coding => s
    | .waitRecon =>
      match s.takeAnswer (.encRecon k) with
      | (some r, t) =>
        if r.code = 0 then
          let t := t.modSpe k (fun p => { p with cur := p.cur.map (fun x =>
            { x with recon := some (r.addr, r.word / 2 ^ 32), phase := .waitOut }) })
          t.encAsk k (t.rd (ENC_POOLS_OUT j.session)) (.encOut k)
        else s
      | _ => s
    | .waitOut =>
      match s.takeAnswer (.encOut k) with
      | (some r, t) =>
        if r.code = 0 then
          (t.modSpe k (fun p => { p with cur := p.cur.map (fun x =>
            { x with outs := x.outs ++ [(r.addr, r.word / 2 ^ 32)] }) })).encProceed k
        else s
      | _ => s

/-- ENC_ALLOC_DONE: on encode spindle `k`. -/
def execEncAllocDone (k : Fin 4) (s : State) : Host.Outcome State Fault Refusal := s.finishOnce (s.encGrant k) (·.encDispatch)

/-- An allocation of spindle `k` was answered without a bobbin: the coded picture is lost (R261). -/
def State.encTimeout (s : State) (k : Nat) : State :=
  match (s.spe k).cur with
  | none => s
  | some j =>
    let failed := fun (w : AllocFor) => s.pool.done.any (fun r => r.forWhom == w && r.code != 0)
    if (j.phase = .waitRecon ∧ failed (.encRecon k)) ∨ (j.phase = .waitOut ∧ failed (.encOut k)) then (s.encLost k j).encDrainEnd j.session else s

/-- ENC_ALLOC_TIMEOUT. -/
def execEncAllocTimeout (k : Fin 4) (s : State) : Host.Outcome State Fault Refusal := s.finish (s.encTimeout k).encDispatch

/-- A picture has been coded on spindle `k`, which is not held by a drain. -/
def State.encCoded (s : State) (k : Nat) (c : CodedFacts) : State :=
  match (s.spe k).cur with
  | none => s
  | some j =>
    if j.stop ∧ ¬ s.fenced (0x10 + k) then s.encStopped k j
    else if j.phase = .coding ∧ ¬ (s.spe k).held ∧ ¬ s.fenced (0x10 + k) then
      let s := s.modSpe k (fun p => { p with cur := p.cur.map (fun x => { x with facts := some c }) })
      s.encProceed k
    else s

/-- ENC_PIC_DONE: what coding brings comes with the command. -/
def execEncPicDone (k : Fin 4) (c : CodedFacts) (s : State) : Host.Outcome State Fault Refusal :=
  s.finishOnce (s.encCoded k c) (·.encDispatch)

/-- The picture on spindle `k` is cut: its source stays and it is coded again (R247). -/
def State.encCut (s : State) (k : Nat) : State :=
  match (s.spe k).cur with
  | none => s
  | some j =>
    if j.stop then s.encStopped k j
    else
    let s := (s.dropWait (.encRecon k)).dropWait (.encOut k)
    let s := s.modEnc j.session (fun r => { r with busyOn := 0, redo := true, force := r.force || j.force, loss := r.loss || j.loss })
    s.modSpe k (fun p => { p with cur := none, held := false })

/-- A session enters FAULTED (R58, R262): its queued sources and its load go back; the picture in progress is dropped at the spindle's next
yield point. (DEDUCED, log entry 53.) -/
def State.encFault (s : State) (e : Nat) : State :=
  let st := s.encState e
  if st = encIDLE then s
  else
    let s := s.wr (ENC_STATUS_FAULT e) 1
    if st = encRUNNING ∨ st = encDRAINING then
      let s := match (s.enc e).busyOn with
        | 0 => s
        | b + 1 => s.modSpe b (fun p => { p with cur := p.cur.map (fun (j : EncJob) => { j with stop := true }) })
      let s := (s.modEnc e (fun r => { r with redo := false })).dropSrcs e
      let s := s.modEnc e (fun r => { r with srcs := [] })
      let s := (s.wr (ENC_ADMIT_LOAD e) 0).wr (ENC_ADMIT_HOME e) 0
      (s.wr (ENC_STATUS_BUSY e) 0).wr (ENC_STATUS_STATE e) encFAULTED
    else s

/-! ### Carding commands -/

/-- CARD_SUBMIT: a write of `SPE_CARD_SUBMIT_HI` (R263); a reweave that holds class 3 refuses it (R506). -/
def execCardSubmit (hi : Word) (s : State) : Host.Outcome State Fault Refusal :=
  s.finish (s.cardSubmit (s.wrp.hold.classes.contains 3) hi.toNat).encDispatch

/-- CARD_STRIPE_DONE: on encode spindle `k`. -/
def execCardStripeDone (k : Fin 4) (s : State) : Host.Outcome State Fault Refusal :=
  s.finishOnce (if s.fenced (0x10 + k.val) ∨ (s.spe k).held then s else s.stripeDone k) (·.encDispatch)

end Sys2Proof.Machine
end

