-- ==== Sys2Proof/Machine/Publish.lean ====
section
/-! DEFINITION. The picture list (R170–R178): outputs in order, film grain, holds, and the entries of jobs that ended
without a picture. -/

namespace Sys2Proof.Machine

open R

/-! ### List entries -/

/-- Append an entry to a context's list (Table 4-13): the next OUT_SEQ, then `STC_PIC_OUT` (R170, R173). -/
def State.listPut (s : State) (n outcome cause : Nat) (pic : Bool) (flags addr gen t_ : Nat) : State :=
  let seq := (s.rd (STC_PIC_OUT n) + 1) % 2 ^ 32
  let i := seq % 64
  let s := s.each [(STC_ENT_OUT_SEQ n i, seq), (STC_ENT_OUTCOME n i, outcome), (STC_ENT_CAUSE n i, cause),
    (STC_ENT_PIC n i, b2n pic), (STC_ENT_FLAGS n i, flags), (STC_ENT_ADDR_LO n i, addr), (STC_ENT_ADDR_HI n i, addr / 2 ^ 32),
    (STC_ENT_GEN n i, gen), (STC_ENT_T_LO n i, t_), (STC_ENT_T_HI n i, t_ / 2 ^ 32)] (fun p t => t.wr p.1 p.2)
  s.wr (STC_PIC_OUT n) seq

/-- The entry of a job that ended DROPPED, ABORTED or REJECTED (R173). -/
def State.listGone (s : State) (n outcome cause : Nat) : State :=
  (s.stamp.2.listPut n outcome cause false 0 0 0 s.stamp.1).encSources n {}

/-! ### One output (R170, R175) -/

/-- Replace the bytes of a list from an offset on. -/
def patch (l : List Byte) (off : Nat) (b : List Byte) : List Byte := l.take off ++ b ++ l.drop (off + b.length)

/-- Enter a bobbin in the list as its context's newest output: the fields of its record first, then the entry, then the
handover of the newest picture, then the sessions that take the context as a source. `fl` is what the entry carries. A field whose
write receives an ERROR response is undefined (R169). -/
def State.enter (s : State) (k n : Nat) (p : Pic) (fl recFl : Nat) : State :=
  let seq := (s.rd (STC_PIC_OUT n) + 1) % 2 ^ 32
  let v := s.stamp
  let put := fun (s : State) off l => (s.openWrite k (p.addr + off) l).2
  let s := put (put v.2 4 (natLe 4 seq)) 0x50 (natLe 8 v.1)
  let s := s.iff (recFl != p.flags) (fun s => put s 0x10 (natLe 4 recFl))
  let s := s.listPut n p.outcome p.cause true fl p.addr p.gen v.1
  let s := s.modCtx n (fun c => { c with outSeq := seq, pics := c.pics.map (fun q =>
    { q with newest := q.addr == p.addr && q.gen == p.gen && !q.syn }) })
  (s.settlePics n).encSources n { addr := p.addr, gen := p.gen }

/-- The picture no longer awaits output. -/
def State.dequeue (s : State) (n dec : Nat) : State :=
  s.modCtx n (fun c => { c with outs := c.outs.drop 1, pics := c.pics.map (fun q =>
    if q.decSeq = dec ∧ ¬ q.syn then { q with awaits := false } else q) })

/-- A hidden key frame is shown: it is a random-access point now, so its regions are CLEAN, and TAINTED ends where it was
waited for (Table 5-3, R190, R209). (DEDUCED, log entry 39.) -/
def State.keyShown (s : State) (n : Nat) (p : Pic) : State :=
  if p.hidKey then
    let resync := (s.ctx n).hiddenKey.contains p.decSeq
    let s := s.modCtx n (fun c => { c with
      clean := c.clean ++ p.regs.filter (fun i => !c.clean.contains i), hiddenKey := c.hiddenKey.filter (· != p.decSeq) })
    s.iff (resync && s.on (STC_DAMAGE_TAINTED n)) (fun t => (t.wr (STC_DAMAGE_TAINTED n) 0).bump (STC_RESYNC_CNT n))
  else s

/-- Publish an output that names the decoded bobbin. REPEAT is bit 13, GRAIN_SKIPPED bit 6, RAP bit 0 (Table 4-12). -/
def State.publish (s : State) (n : Nat) (o : OutReq) (p : Pic) (skipped : Bool) : State :=
  let rp := if o.again ∧ ¬ bitSet p.flags 13 then 2 ^ 13 else 0
  let gs := if skipped ∧ ¬ bitSet p.flags 6 then 2 ^ 6 else 0
  let ra := if p.hidKey ∧ ¬ bitSet p.flags 0 then 1 else 0
  let s := s.dequeue n o.dec
  let s := s.iff (rp != 0) (·.modCtx n (fun c => { c with pics := c.pics.map (fun q =>
    if q.decSeq = p.decSeq ∧ ¬ q.syn then { q with flags := q.flags + rp } else q) }))
  (s.enter o.spd n p (p.flags + rp + gs + ra) (p.flags + rp)).keyShown n p

/-- The output needs a grain bobbin (R174). -/
def State.wantsGrain (s : State) (n : Nat) (p : Pic) : Bool :=
  p.grain && s.on (STC_PIC_FMT_GRAIN n) && s.rd (STC_CODEC_STANDARD n) == 3

/-- The picture of a context with this DEC_SEQ. -/
def State.picOf (s : State) (n dec : Nat) : Option Pic := (s.ctx n).pics.find? (fun p => p.decSeq == dec && !p.syn)

/-- Publish a context's waiting outputs in order, up to one that must wait for a grain bobbin. -/
def State.pump (s : State) (n : Nat) : Nat → State
  | 0 => s
  | m + 1 =>
    match (s.ctx n).outs with
    | [] => s
    | o :: _ =>
      match s.picOf n o.dec with
      | none => (s.dequeue n o.dec).pump n m
      | some p =>
        if s.wantsGrain n p ∧ s.unitUp o.spd then
          if (s.spd o.spd).grain.isSome then s
          else (s.modSpd o.spd (fun r => { r with grain := some n })).allocWait {
            master := o.spd, pool := s.rd (STC_POOLS_PIC n), timeoutUs := (s.spd o.spd).set.allocTo
            forWhom := .spdGrain o.spd }
        else (s.publish n o p (s.wantsGrain n p)).pump n m

/-- Publish what can be published in a context. -/
def State.pumpAll (s : State) (n : Nat) : State := s.pump n (s.ctx n).outs.length

/-- Outputs of other contexts that waited for the spindle's grain allocation to end. -/
def State.pumpSpd (s : State) (k : Nat) : State :=
  s.each ((List.range 128).filter (fun n => match (s.ctx n).outs with | [] => false | o :: _ => o.spd == k))
    (fun n t => if (t.spd k).grain.isSome then t else t.pumpAll n)

/-! ### Film grain (R174) -/

/-- Write the grain-applied picture and a copy of the record into a granted bobbin; the guard records it (R213). `none`
when the guard blocks a write. -/
def State.grainWrite (s : State) (k n : Nat) (p : Pic) (addr : Nat) (ws : List PicWrite) : Bool × State :=
  let size := s.poolSize (s.rd (STC_POOLS_PIC n))
  let geo := geoOf p.width p.height p.chroma p.depth (s.on (STC_PIC_FMT_PLANAR n)) (s.on (STC_PIC_FMT_C16 n)) false
  let j : RunJob := { job := { ctx := n }, facts := { width := p.width, height := p.height } }
  let a := s.allWrites k j (s.ctxStd n) geo ws
  let g := a.2.2.guarded k addr size geo.l a.2.1
  match g.2.1 with
  | some w =>
    (false, g.2.2.raise { cls := 6, master := k, access := 1, ctx := n, names := true, addr := ((addr : Int) + w.1).toNat })
  | none =>
    let o := g.2.2.busRead k 0 p.addr 256
    let copy := patch (patch o.2.1 0x10 (natLe 4 (withBit p.flags 5))) 0x3C (natLe 4 0)
    (true, o.2.2.store k addr copy)

/-- Publish an output whose grain bobbin has been granted. (DEDUCED, log entry 52.) -/
def State.publishGrain (s : State) (n : Nat) (o : OutReq) (p : Pic) (addr gen : Nat) (ws : List PicWrite) : State :=
  let g := s.grainWrite o.spd n p addr ws
  if g.1 then
    let s := (g.2.shareBy o.spd addr gen 0).dequeue n o.dec
    let fl := withBit (if o.again then withBit p.flags 13 else p.flags) 5
    let q : Pic := { addr := addr, gen := gen, outcome := p.outcome, cause := p.cause, flags := withBit p.flags 5
                     width := p.width, height := p.height, chroma := p.chroma, depth := p.depth, newest := true, area := p.area }
    let s := s.modCtx n (fun c => { c with pics := c.pics ++ [q] })
    (s.enter o.spd n q fl fl).keyShown n p
  else (g.2.release o.spd addr gen).publish n o p true

/-- The grain allocation of spindle `k` has been answered: the entry names the output bobbin, or the decoded one with
GRAIN_SKIPPED. -/
def State.grainDone (s : State) (k : Nat) (ws : List PicWrite) : State :=
  match (s.spd k).grain with
  | none => s
  | some n =>
    match s.takeAnswer (.spdGrain k) with
    | (none, _) => s
    | (some r, t) =>
      let t := t.modSpd k (fun x => { x with grain := none })
      let gen := r.word / 2 ^ 32
      match (t.ctx n).outs with
      | [] => if r.code = 0 then t.release k r.addr gen else t
      | o :: _ =>
        match t.picOf n o.dec with
        | none => ((t.iff (r.code == 0) (·.release k r.addr gen)).pumpAll n).pumpSpd k
        | some p =>
          let t := if r.code = 0 then t.publishGrain n o p r.addr gen ws else t.publish n o p true
          (t.pumpAll n).pumpSpd k

/-- GRAIN_ALLOC_DONE: on spindle `k`, with the writes of the grain-applied picture. -/
def execGrainAllocDone (k : Fin 16) (ws : List PicWrite) (s : State) : Host.Outcome State Fault Refusal :=
  s.finishOnce (s.grainDone k ws) (·.encDispatch)

/-- The spindle can no longer perform the output it began: the entry names the decoded bobbin. (DEDUCED, log entry 52.) -/
def State.grainLost (s : State) (k : Nat) : State :=
  match (s.spd k).grain with
  | none => s
  | some n =>
    let s := (s.dropWait (.spdGrain k)).modSpd k (fun x => { x with grain := none })
    match (s.ctx n).outs with
    | [] => s
    | o :: _ =>
      match s.picOf n o.dec with
      | none => (s.pumpAll n).pumpSpd k
      | some p => ((s.publish n o p true).pumpAll n).pumpSpd k

/-! ### Holds (R176) -/

/-- A write to `STC_PIC_HOLD`, evaluated at once, or once its reference no longer meets RETRY: DONE reads 0 until then. -/
def State.picHold (s : State) (n seq : Nat) : State :=
  let i := seq % 64
  let s := s.wr (STC_PIC_HOLD_RES_DONE n) 0
  let here := s.rd (STC_ENT_OUT_SEQ n i) == seq && s.on (STC_ENT_PIC n i)
  let h := if here then
      s.askRef mCTX (2 ^ 32 * s.rd (STC_ENT_ADDR_HI n i) + s.rd (STC_ENT_ADDR_LO n i)) (s.rd (STC_ENT_GEN n i))
    else (some false, s)
  match h.1 with
  | none => s.again (.hold n seq)
  | some got => (h.2.wr (STC_PIC_HOLD_RES_HELD n) (b2n got)).wr (STC_PIC_HOLD_RES_DONE n) 1

/-- PIC_HOLD: the word written. -/
def execPicHold (n : Fin 128) (seq : Word) (s : State) : Host.Outcome State Fault Refusal :=
  s.finish (s.picHold n seq.toNat)

end Sys2Proof.Machine
end

