-- ==== Sys2Proof/Machine/Tally.lean ====
section
/-! DEFINITION. Life tallies in MRAM (R312, R362, R543) and the aging gains computed from them (R310, R311). -/

namespace Sys2Proof.Machine

open R

/-! ### The tally table (R543) -/

/-- The MRAM offset of tally entry `i`. -/
def tallyOff (i : Nat) : Nat := 0x80000 + 64 * i

/-- A tally entry is valid: its flag and its CRC. -/
def State.tallyValid (s : State) (i : Nat) : Bool :=
  bitSet (leNat (s.mramBytes (tallyOff i + 0x30) 1)) 0 &&
    crc32 (s.mramBytes (tallyOff i) 0x3C) == leNat (s.mramBytes (tallyOff i + 0x3C) 4)

/-- The entry held under a serial. -/
def State.tallyFind (s : State) (serial : List Byte) : Option Nat :=
  (List.range 4096).find? (fun i => s.tallyValid i && s.mramBytes (tallyOff i) 16 == serial)

/-- The entry for a serial, or the one a new serial takes (R543). -/
def State.tallySlot (s : State) (serial : List Byte) : Nat :=
  match s.tallyFind serial with
  | some i => i
  | none =>
    match (List.range 4096).find? (fun i => !s.tallyValid i) with
    | some i => i
    | none => (minBy (fun i => leNat (s.mramBytes (tallyOff i + 0x28) 8)) (List.range 4096)).getD 0

/-- H_R, H_G, H_B held under a serial, in 1 / 65536 h; 0 when none are. -/
def State.tallyOf (s : State) (serial : List Byte) : Nat × Nat × Nat :=
  match s.tallyFind serial with
  | some i =>
    let h := fun (c : Nat) => leNat (s.mramBytes (tallyOff i + 0x10 + 8 * c) 8)
    (h 0, h 1, h 2)
  | none => (0, 0, 0)

/-- Write a serial's tally, with the start count and the CRC. -/
def State.tallyStore (s : State) (serial : List Byte) (h : Nat × Nat × Nat) : State :=
  let e := serial ++ natLe 8 h.1 ++ natLe 8 h.2.1 ++ natLe 8 h.2.2 ++ natLe 8 s.sec.startCnt ++ natLe 4 1 ++ natLe 8 0
  s.mramStore (tallyOff (s.tallySlot serial)) (e ++ natLe 4 (crc32 e))

/-! ### Tiles -/

/-- A port manager's record of the tile at a position. -/
def State.port (s : State) (p : Nat) : PortSt := smGet {} s.ports p

/-- Change a port manager's record. -/
def State.modPort (s : State) (p : Nat) (f : PortSt → PortSt) : State :=
  { s with ports := smSet {} s.ports p (f (s.port p)) }

/-- What port `p` knows of position `n`. -/
def State.tile (s : State) (p n : Nat) : TileSt := smGet {} (s.port p).tiles n

/-- Change what port `p` knows of position `n`. -/
def State.modTile (s : State) (p n : Nat) (f : TileSt → TileSt) : State :=
  s.modPort p (fun r => { r with tiles := smSet {} r.tiles n (f (smGet {} r.tiles n)) })

/-- The 16 bytes of a tile's SERIAL. -/
def State.tileSerial (s : State) (p n : Nat) : List Byte :=
  (List.range 4).flatMap (fun j => natLe 4 (s.rd (BLK_TILE_SERIAL p n j)))

/-- The life record is valid (R361); `page` is the identity page. -/
def lifeOk (page life : List Byte) : Bool :=
  bitSet (byteAt page 6) 1 && byteAt life 0 == 1 && crc32 (life.take 0x3C) == leNat (slice life 0x3C 4) &&
    (List.range 3).all (fun c => leNat (slice life (0x10 + 4 * c) 4) != 0 && byteAt life (0x1C + c) != 0)

/-- Seed the tally of an enumerated tile: per colour the larger of the tally held and, for a valid record, HOURS_c (R362). -/
def State.tallySeed (s : State) (p n : Nat) : State :=
  let serial := s.tileSerial p n
  let life := (s.tile p n).life
  let held := s.tallyOf serial
  let hours := fun (c : Nat) => if s.on (BLK_TILE_LIFE_VALID p n) then leNat (slice life (4 + 4 * c) 4) * 4096 else 0
  s.tallyStore serial (max held.1 (hours 0), max held.2.1 (hours 1), max held.2.2 (hours 2))

/-! ### Aging gains (R310, R311) -/

/-- The port that slot `sl` of engine `e` drives. -/
def State.slotPort (s : State) (e sl : Nat) : Nat := s.rd (PLY_PORTMAP e) / 16 ^ sl % 16

/-- Slot `sl` of engine `e` is in use. -/
def State.slotOn (s : State) (e sl : Nat) : Bool := bitSet (s.rd (PLY_PORTEN e)) sl

/-- The slots of engine `e` in use. -/
def State.slotsOf (s : State) (e : Nat) : List Nat := (List.range 8).filter (s.slotOn e)

/-- The engine and slot that drive a port. -/
def State.portSlot (s : State) (p : Nat) : Option (Nat × Nat) :=
  (([0, 1] : List Nat).flatMap (fun (e : Nat) => (s.slotsOf e).map (fun (sl : Nat) => (e, sl)))).find?
    (fun x => s.slotPort x.1 x.2 == p)

/-- x ≤ 2e × (256 / P)^(h / L) with x odd, by integer powers: the exact comparison behind the rounding of R310. -/
def gainAtLeast (e pc h l a : Nat) : Bool :=
  let g := Nat.gcd h l
  decide ((2 * a - 1) ^ (l / g) * pc ^ (h / g) ≤ (2 * e) ^ (l / g) * 256 ^ (h / g))

/-- The largest a below 2^16 that a decreasing test accepts, by bits. -/
def largestBy (f : Nat → Bool) : Nat → Nat → Nat
  | 0, r => r
  | b + 1, r => largestBy f b (if f (r + 2 ^ b) then r + 2 ^ b else r)

/-- E / η rounded to 4.12 with ties up, for η = P^(h / L) with h in 1 / 65536 h (R310), limited to A_max. -/
def agingGain (amax e pc life h : Nat) : Nat := largestBy (fun a => decide (a ≤ amax) && gainAtLeast e pc h (65536 * life) a) 16 0

/-- A larger gain than A_max would be needed. -/
def agingLimited (amax e pc life h : Nat) : Bool := gainAtLeast e pc h (65536 * life) (amax + 1)

/-- E_R, E_G, E_B (Table 7-5). -/
def State.ageTarget (s : State) (c : Nat) : Nat :=
  if c = 2 then s.rd PLY_AGE_TARGET_B else s.rd PLY_AGE_TARGET / 4096 ^ c % 4096

/-- Evaluate R310 for tile `t` of engine `e`. -/
def State.ageTile (s : State) (e t : Nat) : State :=
  let p := s.slotPort e (t / 64)
  let n := t % 64
  let amax := s.rd PLY_AGE_MAX
  let ok := s.on (BLK_TILE_LIFE_VALID p n)
  let life := (s.tile p n).life
  let tally := s.tallyOf (s.tileSerial p n)
  let h := fun (c : Nat) => if c = 0 then tally.1 else if c = 1 then tally.2.1 else tally.2.2
  let g := fun (c : Nat) =>
    if ok then agingGain amax (s.ageTarget c) (byteAt life (0x1C + c)) (leNat (slice life (0x10 + 4 * c) 4)) (h c)
    else min amax (s.ageTarget c)
  let lim := fun (c : Nat) =>
    if ok then agingLimited amax (s.ageTarget c) (byteAt life (0x1C + c)) (leNat (slice life (0x10 + 4 * c) 4)) (h c)
    else decide (amax < s.ageTarget c)
  ((((s.wr (PLY_AGE_A_R e t) (g 0)).wr (PLY_AGE_A_G e t) (g 1)).wr (PLY_AGE_A_B e t) (g 2)).wr (PLY_AGE_LIMIT e t)
    (b2n (lim 0 || lim 1 || lim 2))).wr (PLY_AGE_NO_RECORD e t) (b2n (!ok))

/-- The tiles of engine `e` that are driven: enabled, in a slot in use. -/
def State.drivenTiles (s : State) (e : Nat) : List Nat :=
  (s.slotsOf e).flatMap (fun (sl : Nat) => ((List.range 64).map (fun (n : Nat) => 64 * sl + n)).filter (fun t => s.on (TILEA_CTL_EN e t)))

/-- Evaluate R310 for every enabled tile of the engines whose registers can be reached. -/
def State.ageAll (s : State) : State :=
  s.each (([0, 1] : List Nat).filter (fun e => s.islOn (20 + e))) (fun e t => t.each (t.drivenTiles e) (fun k u => u.ageTile e k))

/-- Evaluate R310 for the tile at position `n` of port `p`. -/
def State.agePort (s : State) (p n : Nat) : State :=
  match s.portSlot p with
  | none => s
  | some x => s.iff (s.islOn (20 + x.1) && s.on (TILEA_CTL_EN x.1 (64 * x.2 + n))) (·.ageTile x.1 (64 * x.2 + n))

/-! ### The minute (R311, R312) and the registers -/

/-- A quotient rounded to one of its two neighbours by a free bit. (DESIGN CHOICE, log entry 32.) -/
def roundFree (u p q : Nat) : Nat := if p % q = 0 then p / q else p / q + u % 2

/-- Hours, in 1 / 65536 h, that an increase of a drive sum stands for (R312); its rounding is free. -/
def State.tallyHours (s : State) (ds w h : Nat) : Nat × State :=
  let c := s.canvasPeriod
  let v := s.free
  (roundFree v.1 (ds * c.1 * 65536) (65535 * w * h * 3600000000000 * c.2), v.2)

/-- Add the increase of one tile's accumulators to its tally. -/
def State.tallyTile (s : State) (e t : Nat) : State :=
  let y : PlySt := smGet {} s.plys e
  let new := smGet (0, 0, 0) y.tally t
  let old := smGet (0, 0, 0) y.tallyOld t
  let p := s.slotPort e (t / 64)
  let n := t % 64
  let d := fun (a b : Nat) => (a + 2 ^ 64 - b) % 2 ^ 64
  let w := s.rd (TILEA_SIZE_W_M1 e t) + 1
  let h := s.rd (TILEA_SIZE_H_M1 e t) + 1
  if new = old ∨ ¬ s.on (BLK_TILE_PRESENT p n) then s
  else
    let serial := s.tileSerial p n
    let held := s.tallyOf serial
    let r := s.tallyHours (d new.1 old.1) w h
    let g := r.2.tallyHours (d new.2.1 old.2.1) w h
    let b := g.2.tallyHours (d new.2.2 old.2.2) w h
    b.2.tallyStore serial (held.1 + r.1, held.2.1 + g.1, held.2.2 + b.1)

/-- Add the increases of every accumulator to the tallies. -/
def State.tallyAll (s : State) : State :=
  s.each [0, 1] (fun e t =>
    let y : PlySt := smGet {} t.plys e
    let t := t.each (y.tally.map (·.1)) (fun k u => u.tallyTile e k)
    { t with plys := smSet {} t.plys e { smGet ({} : PlySt) t.plys e with tallyOld := y.tally } })

/-- TALLY_MINUTE. -/
def execTallyMinute (s : State) : Host.Outcome State Fault Refusal := s.finish s.tallyAll.ageAll

/-- AGE_TARGET_WRITE: `PLY_AGE_TARGET` (0), `PLY_AGE_TARGET_B` (1) or `PLY_AGE_MAX` (2) and the word. -/
def execAgeTargetWrite (which : Fin 3) (w : Word) (s : State) : Host.Outcome State Fault Refusal :=
  let F := if which.val = 0 then PLY_AGE_TARGET else if which.val = 1 then PLY_AGE_TARGET_B else PLY_AGE_MAX
  s.finish (s.wr F w.toNat).ageAll

/-- Put a 64-bit value into a register pair: LO live, HI latched. (DEDUCED, log entry 17.) -/
def State.latchPair (s : State) (lo hi : Fld) (v : Nat) : State := (s.wr lo (v % 2 ^ 32)).wr hi (v / 2 ^ 32)

/-- A read of the LO word of colour `c` of accumulator `t`. -/
def State.tallyRead (s : State) (e t c : Nat) : State :=
  let v := smGet (0, 0, 0) (smGet ({} : PlySt) s.plys e).tally t
  match c with
  | 0 => s.latchPair (PLY_TALLY_R_LO e t) (PLY_TALLY_R_HI e t) v.1
  | 1 => s.latchPair (PLY_TALLY_G_LO e t) (PLY_TALLY_G_HI e t) v.2.1
  | _ => s.latchPair (PLY_TALLY_B_LO e t) (PLY_TALLY_B_HI e t) v.2.2

/-- TALLY_READ: engine, tile entry, colour. An island that is not ON, or a fence, answers in the engine's place, and nothing is read (R275, R158). -/
def execTallyRead (e : Fin 2) (t : Fin 512) (c : Fin 3) (s : State) : Host.Outcome State Fault Refusal :=
  s.finish (s.iff (s.unitUp (0x18 + e.val)) (·.tallyRead e t c))

/-- CANVAS_FRAME_READ: a read of `PLY_CANVAS_FRAME_LO`, or of `PLY_CANVAS_TSTART_LO` when `start`. -/
def execCanvasFrameRead (start : Bool) (s : State) : Host.Outcome State Fault Refusal :=
  s.finish (if start then s.latchPair PLY_CANVAS_TSTART_LO PLY_CANVAS_TSTART_HI s.canvas.tstart
    else s.latchPair PLY_CANVAS_FRAME_LO PLY_CANVAS_FRAME_HI s.canvas.k)

end Sys2Proof.Machine
end

