-- ==== Sys2Proof/Machine/PlyView.lean ====
section
/-! DEFINITION. What a ply engine takes at a frame start (07_ply_engines.md): windows, holds, fetch rectangles, tiles. -/

namespace Sys2Proof.Machine

open R

/-- The master ID of ply engine `e`. -/
def plyMaster (e : Nat) : Nat := 0x18 + e

/-- Read `n` bytes for a unit; an ERROR response leaves free bytes. -/
def State.readOr (s : State) (master a n : Nat) : List Byte × State :=
  let o := s.busRead master 0 a n
  if o.1 = 0 ∨ o.1 = 1 then (o.2.1, o.2.2) else o.2.2.freeBytes n

/-! ### Pictures and holds (R291–R294) -/

/-- What the engine takes from a picture record (R282, Table 4-10). -/
def picView (base : Nat) (rec : List Byte) : PicView :=
  let f := recField rec
  let depth := f 0x21 1
  let lay := f 0x22 1
  { base := base, w := f 0x14 2, h := f 0x16 2, cropL := f 0x18 2, cropR := f 0x1A 2, cropT := f 0x1C 2, cropB := f 0x1E 2
    chroma := f 0x20 1 % 4, depth := depth, planar := bitSet lay 0, bytes := if 8 < depth ∨ bitSet lay 1 then 2 else 1
    pitchY := f 0x24 4, pitchC := f 0x28 4, offY := f 0x30 4, offCb := f 0x34 4, offCr := f 0x38 4
    transfer := f 0x71 1, matrix := f 0x72 1, fullRange := f 0x73 1, vsd := bitSet (f 0x10 4) 2, tRelease := f 0x40 8 }

/-- The cropped picture's size. -/
def PicView.size (p : PicView) : Nat × Nat := (p.w - p.cropL - p.cropR, p.h - p.cropT - p.cropB)

/-- The candidate of a context: the entry named by `STC_PIC_OUT`, when it holds a picture; with its OUTCOME (R291). -/
def State.plyPick (s : State) (n : Nat) : Option (Shown × Nat) :=
  let seq := s.rd (STC_PIC_OUT n)
  let i := seq % 64
  if seq ≠ 0 ∧ s.rd (STC_ENT_OUT_SEQ n i) = seq ∧ s.on (STC_ENT_PIC n i) then
    let p : Shown := { ctx := n, seq := seq, addr := 2 ^ 32 * s.rd (STC_ENT_ADDR_HI n i) + s.rd (STC_ENT_ADDR_LO n i)
                       gen := s.rd (STC_ENT_GEN n i) }
    some (p, s.rd (STC_ENT_OUTCOME n i))
  else none

/-- The engine's hold on a picture (R292): one hold serves every window and frame. None while the metadata answers RETRY. -/
def State.plyHold (s : State) (e : Nat) (p : Shown) : Option Bool × State :=
  if (s.ply e).held.contains p then (some true, s)
  else
    let h := s.askRef mCTX p.addr p.gen
    match h.1 with
    | none => (none, h.2)
    | some true => (some true, h.2.modPly e (fun y => { y with held := y.held ++ [p] }))
    | some false => (some false, h.2.bump (PLY_HOLD_FAIL_CNT e))

/-- The window shows a picture from the frame that starts now, or the next one; WIN_SHOWN names it at a frame start. -/
def State.showIn (s : State) (e w : Nat) (p : Shown) : State := s.modPly e (fun y => { y with shown := smSet none y.shown w (some p) })

/-- What a hold that the sampling of a frame start asked for has come to; a refused one is evaluated once per frame start. -/
structure HoldsAsked where
  failed : List Shown := []
  waiting : List Shown := []

/-- Sample window `w` of engine `e`: HIDDEN, HOLD_FAIL and the picture shown (R291). A hold that meets RETRY is asked for again
(R16), and its window goes on showing what it showed. (DEDUCED, log entry 11.) -/
def State.sampleWin (s : State) (e w : Nat) (a : HoldsAsked) : HoldsAsked × State :=
  let n := s.rd (WINA_CTL_CTX e w)
  match s.plyPick n with
  | none => (a, s)
  | some (p, outcome) =>
    if outcome = 1 ∧ s.on (WINA_CTL_HIDE_CONCEALED e w) then (a, s.setBit (WIN_FLAGS e w) 2)
    else if a.failed.contains p then (a, s.setBit (WIN_FLAGS e w) 3)
    else if a.waiting.contains p then (a, s)
    else
      let h := s.plyHold e p
      match h.1 with
      | none => ({ a with waiting := a.waiting ++ [p] }, h.2.again (.show e p.ctx p.seq p.addr p.gen))
      | some true => (a, h.2.showIn e w p)
      | some false => ({ a with failed := a.failed ++ [p] }, h.2.setBit (WIN_FLAGS e w) 3)

/-- The hold of a picture that met RETRY at a frame start is asked for again: once it is granted, the windows that would have sampled the
picture show it from the next frame start. -/
def State.showAgain (s : State) (e : Nat) (p : Shown) : State :=
  let ws := (List.range 256).filter (fun w => s.on (WINA_CTL_EN e w) && s.rd (WINA_CTL_KIND e w) == 0 && s.rd (WINA_CTL_CTX e w) == p.ctx)
  match s.plyPick p.ctx with
  | none => s
  | some (q, outcome) =>
    let ws := ws.filter (fun w => !(outcome == 1 && s.on (WINA_CTL_HIDE_CONCEALED e w)))
    if q = p ∧ ¬ ws.isEmpty then
      let h := s.plyHold e p
      match h.1 with
      | none => h.2.again (.show e p.ctx p.seq p.addr p.gen)
      | some true => h.2.each ws (fun w t => t.showIn e w p)
      | some false => h.2.each ws (fun w t => t.setBit (WIN_FLAGS e w) 3)
    else s

/-- A frame start asks anew for every hold that still meets RETRY. -/
def State.showsGone (s : State) (e : Nat) : State :=
  { s with fab := { s.fab with retry := s.fab.retry.filter (fun q => match q.2 with | .show d _ _ _ _ => d != e | _ => true) } }

/-- Release the engine's holds on pictures that no window shows and no frame reads. -/
def State.plyRelease (s : State) (e : Nat) : State :=
  let y := s.ply e
  let keep := y.shown.filterMap (·.2) ++ y.frames.flatMap (·.uses)
  let gone := y.held.filter (fun p => !keep.contains p)
  let s := s.modPly e (fun y => { y with held := y.held.filter keep.contains })
  s.each gone (fun p t => t.release mCTX p.addr p.gen)

/-- Every window of engine `e` shows nothing. -/
def State.plyBlank (s : State) (e : Nat) : State :=
  let s := (s.showsGone e).each (List.range 256) (fun w t => (t.wr (WIN_SHOWN e w) 0).wr (WIN_FLAGS e w) 0)
  s.modPly e (fun y => { y with shown := [] })

/-- The engine's enabled windows. -/
def State.drawnWins (s : State) (e : Nat) : List Nat := (List.range 256).filter (fun w => s.on (WINA_CTL_EN e w))

/-- Sample every KIND 0 window that is enabled (R291). A window that is not, or is of another kind, shows no picture. -/
def State.sampleAll (s : State) (e : Nat) : State :=
  let s := (s.showsGone e).each (List.range 256) (fun w t => t.wr (WIN_FLAGS e w) 0)
  let ws := (s.drawnWins e).filter (fun w => s.rd (WINA_CTL_KIND e w) == 0)
  let s := s.modPly e (fun y => { y with shown := y.shown.filter (fun (q : Nat × Option Shown) => ws.contains q.1 &&
    (match q.2 with | none => false | some p => p.ctx == s.rd (WINA_CTL_CTX e q.1))) })
  let o := ws.foldl (fun (a : HoldsAsked × State) w => a.2.sampleWin e w a.1) ({}, s)
  o.2.each (List.range 256) (fun w t => t.wr (WIN_SHOWN e w) (match smGet none (t.ply e).shown w with | none => 0 | some p => p.seq))

/-! ### Windows of a frame -/

/-- The source rectangle in the cropped picture: 0 selects the whole of it (Table 7-3). -/
def srcRect (p : PicView) (x y w h : Nat) : Rect :=
  let c := p.size
  { x := if w = 0 then 0 else x, y := if h = 0 then 0 else y, w := max 1 (if w = 0 then c.1 else w), h := max 1 (if h = 0 then c.2 else h) }

/-- The part that two rectangles share; none when they share nothing. -/
def rectMeet (a b : Rect) : Option Rect :=
  let x := max a.x b.x
  let y := max a.y b.y
  let x1 := min (a.x + a.w) (b.x + b.w)
  let y1 := min (a.y + a.h) (b.y + b.h)
  if x < x1 ∧ y < y1 then some { x := x, y := y, w := x1 - x, h := y1 - y } else none

/-- The least rectangle around two. -/
def rectJoin (a b : Rect) : Rect :=
  let x := min a.x b.x
  let y := min a.y b.y
  { x := x, y := y, w := max (a.x + a.w) (b.x + b.w) - x, h := max (a.y + a.h) (b.y + b.h) - y }

/-- The safe rectangle of R297 from the recorded rectangles, oldest first; of width 0 when it is empty. (DEDUCED, log entry 55.) -/
def safeRect (l : List (Nat × Rect)) (tRelease : Nat) : Rect :=
  let old := (l.filter (fun q => decide (q.1 ≤ tRelease))).length
  match l.drop (old - 1) with
  | [] => { w := 0 }
  | q :: r => r.foldl (fun a b => (rectMeet a b.2).getD { w := 0 }) q.2

/-- The window's place on the canvas: its context's window as latched, or its own (R279). -/
def State.winDst (s : State) (e w : Nat) : Rect :=
  if s.rd (WINA_CTL_KIND e w) = 0 then
    let q := smGet (0, 0, 0, 0) s.canvas.wins (s.rd (WINA_CTL_CTX e w))
    { x := q.1, y := q.2.1, w := q.2.2.1 + 1, h := q.2.2.2 + 1 }
  else
    { x := s.rd (WINA_DST_XY_X e w), y := s.rd (WINA_DST_XY_Y e w), w := s.rd (WINA_DST_WH_W_M1 e w) + 1
      h := s.rd (WINA_DST_WH_H_M1 e w) + 1 }

/-- The address of the picture a window shows (R282, R291). -/
def State.winPic (s : State) (e w : Nat) : Option Nat :=
  match s.rd (WINA_CTL_KIND e w) with
  | 0 => (smGet none (s.ply e).shown w).map (·.addr)
  | 1 => some (2 ^ 32 * s.rd (WINA_PIC_HI e w) + s.rd (WINA_PIC_LO e w))
  | _ => none

/-- The record a window's picture carries, as the engine reads it. -/
def State.winRecord (s : State) (e w : Nat) : Option PicView × State :=
  match s.winPic e w with
  | none => (none, s)
  | some a =>
    let o := s.readOr (plyMaster e) a 0x100
    (some (picView a o.1), o.2)

/-- The code points of a window: `WIN_CODE` where it overrides the record (R302). -/
def State.winCode (s : State) (e w : Nat) (p : PicView) : Nat × Nat × Nat :=
  let m := s.rd (WINA_CODE_MATRIX e w)
  let t := s.rd (WINA_CODE_TRANSFER e w)
  let r := s.rd (WINA_CODE_RANGE e w)
  (if m = 0xFF then p.matrix else m, if t = 0xFF then p.transfer else t, if r = 1 then 0 else if r = 2 then 1 else p.fullRange)

/-- The window as this frame draws it. -/
def State.winView (s : State) (e w : Nat) : WinView × State :=
  let o := s.winRecord e w
  let kind := s.rd (WINA_CTL_KIND e w)
  let dst := s.winDst e w
  let p := o.1.getD {}
  let src := srcRect p (s.rd (WINA_SRC_XY_X e w)) (s.rd (WINA_SRC_XY_Y e w)) (s.rd (WINA_SRC_WH_W e w)) (s.rd (WINA_SRC_WH_H e w))
  let code := s.winCode e w p
  let n := s.rd (WINA_CTL_CTX e w)
  let v : WinView :=
    { w := w, ply := s.rd (WINA_CTL_PLY e w), kind := kind, alpha := s.rd (WINA_CTL_ALPHA e w)
      fillEmpty := s.on (WINA_CTL_FILL_EMPTY e w), fill := s.rd (WINA_FILL e w), dst := dst, src := src
      hbank := s.rd (WINA_FILT_HBANK e w), vbank := s.rd (WINA_FILT_VBANK e w), loc := s.rd (WINA_FILT_CHROMA_LOC e w)
      matrix := code.1, transfer := code.2.1, range := code.2.2
      mat := matrixOf ((List.range 5).map (fun (j : Nat) => s.rd (WINA_M e w j))), pic := o.1
      ratio := o.1.isSome && (overRatio src.w dst.w || overRatio src.h dst.h)
      safe := if kind = 0 ∧ p.vsd then some (safeRect (smGet [] s.canvas.rects n) p.tRelease) else none }
  (v, o.2)

/-- The scaling of a window in the horizontal direction. -/
def WinView.hx (v : WinView) : Axis := { src := v.src.x, sw := v.src.w, dw := v.dst.w, m := decimation v.src.w v.dst.w }

/-- The scaling of a window in the vertical direction. -/
def WinView.vy (v : WinView) : Axis := { src := v.src.y, sw := v.src.h, dw := v.dst.h, m := decimation v.src.h v.dst.h }

/-- The source samples that a part of the window reads; `part` lies on the canvas inside the window (R295). -/
def WinView.partSrc (v : WinView) (part : Rect) : Rect :=
  let u := part.x - v.dst.x
  let t := part.y - v.dst.y
  let x0 := (v.hx.foot u).1
  let x1 := (v.hx.foot (u + part.w - 1)).2
  let y0 := (v.vy.foot t).1
  let y1 := (v.vy.foot (t + part.h - 1)).2
  { x := x0, y := y0, w := x1 + 1 - x0, h := y1 + 1 - y0 }

/-! ### Tiles of a frame (R306, R307, R311) -/

/-- The tile as this frame drives it. -/
def State.tileView (s : State) (e t : Nat) : TileView :=
  let man := s.on (TILEA_CTL_AGE_MANUAL e t)
  let rg := s.rd (TILEA_AGE_RG e t)
  { t := t, x := s.rd (TILEA_ORG_X e t), y := s.rd (TILEA_ORG_Y e t), w := s.rd (TILEA_SIZE_W_M1 e t) + 1
    h := s.rd (TILEA_SIZE_H_M1 e t) + 1, orient := s.rd (TILEA_CTL_ORIENT e t), depth := s.rd (TILEA_CTL_DEPTH e t)
    curve := s.on (TILEA_CTL_CURVE e t), dither := s.on (TILEA_CTL_DITHER e t)
    mat := if s.on (TILEA_CTL_MAT_EN e t) then some (matrixOf ((List.range 5).map (fun (j : Nat) => s.rd (TILEA_MAT e t j)))) else none
    gmap := 2 ^ 32 * s.rd (TILEA_GMAP_HI e t) + s.rd (TILEA_GMAP_LO e t)
    age := if man then (rg % 65536, rg / 65536, s.rd (TILEA_AGE_B e t))
      else (s.rd (PLY_AGE_A_R e t), s.rd (PLY_AGE_A_G e t), s.rd (PLY_AGE_A_B e t)) }

/-- The canvas rectangle a tile shows. -/
def TileView.foot (t : TileView) : Rect :=
  let z := orientSize t.orient t.w t.h
  { x := t.x, y := t.y, w := z.1, h := z.2 }

/-- The rows of a slot's tiles in the order of R314: (tile, row). -/
def rowOrder (ts : List TileView) : List (Nat × Nat) :=
  let hmax := ts.foldl (fun (m : Nat) t => max m t.h) 0
  (List.range hmax).flatMap (fun (r : Nat) => (ts.filter (fun t => decide (r < t.h))).map (fun t => (t.t, r)))

/-- The parts of a window that lie on the engine's enabled tiles. -/
def WinView.parts (v : WinView) (ts : List TileView) : List Rect := ts.filterMap (fun t => rectMeet v.dst t.foot)

/-- The status word of a window (Table 7-3), over HIDDEN and HOLD_FAIL as sampling left them. -/
def WinView.flags (v : WinView) (ts : List TileView) (fl : Nat) : Nat :=
  let ps := v.parts ts
  let fl := if v.kind = 0 ∧ v.pic.isNone then withBit fl 0 else fl
  let fl := if v.ratio then withBit fl 1 else fl
  let cut := v.pic.isSome && !v.ratio && (match v.safe with | none => false | some q => ps.any (fun p => !rectIn (v.partSrc p) q))
  let fl := if cut then withBit fl 4 else fl
  if ps.isEmpty then withBit fl 5 else fl

/-- A new frame of an engine: tiles and rows, and the views of its windows unless it is the black frame after RUN 0. -/
def State.plyFrame (s : State) (e : Nat) (black last : Bool) : State :=
  let ts := (s.drivenTiles e).map (s.tileView e)
  let ws := if last then [] else s.drawnWins e
  let o := ws.foldl (fun (a : List WinView × State) w =>
    let v := a.2.winView e w
    (a.1 ++ [v.1], v.2.wr (WIN_FLAGS e w) (v.1.flags ts (v.2.rd (WIN_FLAGS e w))))) ([], s)
  let todo := (s.slotsOf e).map (fun (sl : Nat) => (sl, rowOrder (ts.filter (fun t => t.t / 64 == sl))))
  let f : PlyFrame := { ord := s.canvas.ord, k := s.canvas.k, black := black, wins := o.1, tiles := ts
                        todo := todo.filter (fun q => !q.2.isEmpty)
                        uses := (s.ply e).shown.filterMap (·.2) }
  o.2.modPly e (fun y => { y with frames := y.frames ++ [f] })

/-! ### Fetch rectangles (R295, R296) -/

/-- The part of a source rectangle that lies in the cropped picture (R295). -/
def PicView.clip (p : PicView) (r : Rect) : Option Rect := rectMeet r { x := 0, y := 0, w := p.size.1, h := p.size.2 }

/-- The fetch rectangle of engine `e` for a context, from the frame it began at this frame start. (DEDUCED, log entry 55.) -/
def State.engineRect (s : State) (e n : Nat) : Option Rect :=
  match (s.ply e).frames.find? (fun f => f.ord == s.canvas.ord) with
  | none => none
  | some f =>
    let vs := f.wins.filter (fun v => v.kind == 0 && v.pic.isSome && !v.ratio && s.rd (WINA_CTL_CTX e v.w) == n)
    (vs.flatMap (fun v => (v.parts f.tiles).filterMap (fun r => (v.pic.getD {}).clip (v.partSrc r)))).foldl (fun (a : Option Rect) r =>
      match a with
      | none => some r
      | some b => some (rectJoin b r)) none

/-- Write the union of both engines' rectangles for a context and record it (R295, R296). -/
def State.fetchWrite (s : State) (n : Nat) : State :=
  let r := match s.engineRect 0 n, s.engineRect 1 n with
    | none, none => ({ w := 0 } : Rect)
    | some a, none => a
    | none, some b => b
    | some a, some b => rectJoin a b
  let s := (((s.wr (STC_VSD_RECT_XY_X n) r.x).wr (STC_VSD_RECT_XY_Y n) r.y).wr (STC_VSD_RECT_WH_W n) r.w).wr (STC_VSD_RECT_WH_H n) r.h
  let l := smGet [] s.canvas.rects n ++ [(s.canvas.tstart, r)]
  { s with canvas := { s.canvas with rects := smSet [] s.canvas.rects n (l.drop (l.length - 8)) } }

/-! ### The end of a frame -/

/-- Add a frame's drive sums to the accumulators, which wrap at 2^64 (R312). -/
def addSums (acc sums : SMap (Nat × Nat × Nat)) : SMap (Nat × Nat × Nat) :=
  sums.foldl (fun (a : SMap (Nat × Nat × Nat)) q =>
    let v := smGet (0, 0, 0) a q.1
    smSet (0, 0, 0) a q.1 ((v.1 + q.2.1) % 2 ^ 64, (v.2.1 + q.2.2.1) % 2 ^ 64, (v.2.2 + q.2.2.2) % 2 ^ 64)) acc

/-- The oldest frame of engine `e` is complete when no row of it remains (Table 7-7 step 7); `again` bounds how many
complete frames are taken. -/
def State.frameDone (s : State) (e : Nat) : Nat → State
  | 0 => s
  | again + 1 =>
    match (s.ply e).frames with
    | [] => s
    | f :: r =>
      if f.todo.isEmpty then
        let s := (s.wr (PLY_LOAD e) (f.samples / 1024)).countUnit 0x060 (plyMaster e) (f.samples / 1024)
        let s := s.modPly e (fun y => { y with frames := r, tally := addSums y.tally f.sums })
        (s.plyRelease e).frameDone e again
      else s

end Sys2Proof.Machine
end

