-- ==== Sys2Proof/Machine/Canvas.lean ====
section
/-! DEFINITION. Commits (R276, R277), the canvas timing generator (R283–R288) and the frame start (R290–R297, R315, R316),
07_ply_engines.md. -/

namespace Sys2Proof.Machine

open R

/-! ### Commits -/

/-- The reset of a commit request. -/
def State.commitDrop (s : State) (e : Nat) : State :=
  (s.clrBit PLY_COMMIT e).modPly e (fun y => { y with asked := none, valid := false })

/-- A write of 1 to the engines' bits of `PLY_COMMIT`. -/
def State.commitAsk (s : State) (w : Nat) : State :=
  s.each (([0, 1] : List Nat).filter (fun e => bitSet w e && !bitSet (s.rd PLY_COMMIT) e)) (fun e t =>
    (t.setBit PLY_COMMIT e).modPly e (fun y => { y with asked := some t.elapsed, valid := false }))

/-- PLY_COMMIT: the word written. -/
def execPlyCommit (w : Word) (s : State) : Host.Outcome State Fault Refusal := s.finish (s.commitAsk w.toNat)

/-- A rectangle lies on the canvas of 65536 × 32768 lamps. -/
def onCanvas (r : Rect) : Bool := decide (r.x + r.w ≤ 65536) && decide (r.y + r.h ≤ 32768)

/-- The enabled entries of the shadow tile table. -/
def State.shadowTiles (s : State) (e : Nat) : List Nat := (List.range 512).filter (fun t => s.on (TILE_CTL_EN e t))

/-- A shadow tile entry's footprint. -/
def State.shadowFoot (s : State) (e t : Nat) : Rect :=
  let z := orientSize (s.rd (TILE_CTL_ORIENT e t)) (s.rd (TILE_SIZE_W_M1 e t) + 1) (s.rd (TILE_SIZE_H_M1 e t) + 1)
  { x := s.rd (TILE_ORG_X e t), y := s.rd (TILE_ORG_Y e t), w := z.1, h := z.2 }

/-- An enabled shadow window is refused (BAD_WINDOW). -/
def State.badWindow (s : State) (e w : Nat) : Bool :=
  let kind := s.rd (WIN_CTL_KIND e w)
  let r : Rect := { x := s.rd (WIN_DST_XY_X e w), y := s.rd (WIN_DST_XY_Y e w), w := s.rd (WIN_DST_WH_W_M1 e w) + 1
                    h := s.rd (WIN_DST_WH_H_M1 e w) + 1 }
  s.on (WIN_CTL_EN e w) && (kind == 3 || (kind != 0 && !onCanvas r))

/-- Column time in quarters of a ns, C and S of a generation (Table 8-1). -/
def genShape (g : Nat) : Nat × Nat × Nat := if g = 1 then (10, 4, 0) else if g = 2 then (33, 32, 28) else (33, 64, 60)

/-- Link time of a packet with a body of `b` bytes, in quarters of a ns (R337). -/
def linkTime (g b : Nat) : Nat :=
  let q := genShape g
  q.1 * (1 + cdiv (b - q.2.2) q.2.1)

/-- Bytes of the body of a row of `w` lamps (R337). -/
def rowBody (w : Nat) : Nat := 12 + cdiv (9 * w) 2

/-- Link time of one frame of shadow tiles on the port of slot `sl`, in quarters of a ns (R337). -/
def State.slotTime (s : State) (e sl : Nat) : Nat :=
  let g := s.rd (BLK_CTL_GEN (s.slotPort e sl))
  let ts := (s.shadowTiles e).filter (fun t => t / 64 == sl)
  ts.foldl (fun (a : Nat) t => a + (s.rd (TILE_SIZE_H_M1 e t) + 1) * linkTime g (rowBody (s.rd (TILE_SIZE_W_M1 e t) + 1))) (linkTime g 20)

/-- A slot's frame does not fit into T_c − 50 µs (R314). (DEDUCED, log entry 56.) -/
def State.slotFull (s : State) (e sl : Nat) : Bool :=
  let c := s.canvasPeriod
  s.rd (BLK_CTL_GEN (s.slotPort e sl)) != 0 && decide ((4 * c.1 : Int) - 200000 * (c.2 : Int) < (s.slotTime e sl * c.2 : Nat))

/-- The verdict of validation (Table 7-4), tested in the order of its codes. (DEDUCED, log entry 56.) -/
def State.commitWhy (s : State) (e : Nat) : Nat :=
  let ts := s.shadowTiles e
  if ts.any (fun t => !onCanvas (s.shadowFoot e t)) then 1
  else if ts.any (fun t => s.rd (TILE_CTL_DEPTH e t) == 3 || !s.slotOn e (t / 64)) then 2
  else if (List.range 256).any (s.badWindow e) then 3
  else if (s.slotsOf e).any (s.slotFull e) then 4
  else 0

/-- Validation ends. -/
def State.commitValidated (s : State) (e : Nat) : State :=
  if (s.ply e).asked.isSome && !(s.ply e).valid && s.unitUp (plyMaster e) then
    match s.commitWhy e with
    | 0 => s.modPly e (fun y => { y with valid := true })
    | w => ((s.commitDrop e).wr (PLY_STATUS_COMMIT_REJECT e) 1).wr (PLY_STATUS_WHY e) w
  else s

/-- COMMIT_VALIDATED: of engine `e`. -/
def execCommitValidated (e : Fin 2) (s : State) : Host.Outcome State Fault Refusal := s.finish (s.commitValidated e)

/-- Copy the fields of one area of BAR0 over those of another; `own` names offsets of the target that are not copied. -/
def State.copyArea (s : State) (src dst len : Nat) (own : Nat → Bool) : State :=
  let keep := s.flds.filter (fun (q : Nat × Nat) =>
    !(decide (dst * 32 ≤ q.1) && decide (q.1 < (dst + len) * 32) && !own (q.1 / 32 - dst)))
  let new := s.flds.filter (fun (q : Nat × Nat) => decide (src * 32 ≤ q.1) && decide (q.1 < (src + len) * 32))
  { s with flds := new.foldl (fun (m : SMap Nat) q => smInsert (q.1 + (dst - src) * 32) q.2 m) keep }

/-- The copy of R276: windows (their status words stay), tiles and coefficients. -/
def State.commitCopy (s : State) (e : Nat) : State :=
  let b := 0x00800000 + 0x100000 * e
  let s := s.copyArea (b + 0x10000) (b + 0x18000) 0x8000 (fun (o : Nat) => decide (0x40 ≤ o % 0x80))
  let s := s.copyArea (b + 0x20000) (b + 0x28000) 0x8000 (fun _ => false)
  let s := s.copyArea (b + 0x30000) (b + 0x32000) 0x2000 (fun _ => false)
  (s.commitDrop e).wr (PLY_STATUS_COMMITTED e) 1

/-! ### The frame start -/

/-- Latch the windows of every context (R279). -/
def State.latchWins (s : State) : State :=
  let l := (List.range 128).map (fun (n : Nat) => (n, (s.rd (STC_WIN_ORG_X n), s.rd (STC_WIN_ORG_Y n), s.rd (STC_WIN_SIZE_W_M1 n), s.rd (STC_WIN_SIZE_H_M1 n))))
  { s with canvas := { s.canvas with wins := l.filter (fun q => q.2 != (0, 0, 0, 0)) } }

/-- What a frame start does on an engine (R290–R292, R315, R316): a drawn frame, a black frame, or SYNC only. A black frame of R316 samples
its windows as any other; the one after RUN 0 keeps the holds until QUIESCED sets. (DEDUCED, log entry 55.) -/
def State.engineStart (s : State) (e : Nat) : State :=
  if !s.unitUp (plyMaster e) then s
  else
    let run := s.on (PLY_CTL_RUN e)
    let black := run && s.on FLT_STATE_DEVICE
    let last := !run && (s.ply e).sending
    let s := s.wr (PLY_STATUS_BLACK e) (b2n black)
    let s := s.wr (PLY_STATUS_QUIESCED e) (b2n (!run && !last))
    let s := if run then s.sampleAll e else if last then s else s.plyBlank e
    let s := s.iff (run || last) (·.plyFrame e (black || last) last)
    let due := s.elapsed + max 4000 (min 30000 (s.rd PLY_CANVAS_SYNC_DELAY))
    let s := s.modPly e (fun y => { y with sending := run, sync := some (s.canvas.k, s.canvas.ord, due), due := (s.canvas.ord, due) })
    (s.plyRelease e).frameDone e 3

/-- Frame k starts (R285, R290). (DEDUCED, log entry 56.) -/
def State.frameStart (s : State) (k : Nat) : State :=
  let v := s.stamp
  let s := { v.2 with canvas := { v.2.canvas with
    ord := s.canvas.ord + 1, k := k % 2 ^ 64, tstart := v.1, at_ := some s.elapsed, next := k + 1 } }
  let s := ((s.wr PLY_CANVAS_FRAME_LO k).wr PLY_CANVAS_TSTART_LO v.1).wr PLY_CANVAS_STATUS_FRAME 1
  let s := s.iff (s.on PLY_CANVAS_CTL_WSYNC_OUT_EN) (fun t =>
    ({ t with canvas := { t.canvas with outSince := some t.elapsed } }).emit (.pin "WSYNC_OUT" true))
  let s := s.iff (!s.on PLY_CANVAS_CTL_HOLD) (fun t =>
    t.latchWins.each (([0, 1] : List Nat).filter (fun e => (t.ply e).valid && t.unitUp (plyMaster e))) (fun e u => u.commitCopy e))
  let s := s.each [0, 1] (fun e t => t.engineStart e)
  s.each (List.range 128) (fun n t => t.fetchWrite n)

/-- Less than T_c / 2 has passed since the previous frame start (R286). -/
def State.tooEarly (s : State) : Bool :=
  match s.canvas.at_ with
  | none => false
  | some a =>
    let c := s.canvasPeriod
    decide (2 * (s.elapsed - a) * c.2 < c.1)

/-- Device time has reached a grid point under FREE or PTP (R285, R286): of several, the last one counts. -/
def State.canvasTick (s : State) : State :=
  if s.on PLY_CANVAS_CTL_EN && !s.onWsync && decide (s.gridAt s.canvas.next ≤ s.devTime) then
    let k := max s.canvas.next (s.gridFrom (s.devTime + 1) - 1)
    if s.tooEarly then
      ({ s with canvas := { s.canvas with next := k + 1 } }).wr PLY_CANVAS_STATUS_SHORT_SKIP 1
    else s.frameStart k
  else s

/-- CANVAS_FRAME_START. -/
def execCanvasFrameStart (s : State) : Host.Outcome State Fault Refusal := s.finish s.canvasTick

/-- A rising edge of `WSYNC_IN` (R287). While neither engine is ON no clock carries it. -/
def State.wsyncEdge (s : State) : State :=
  if s.on PLY_CANVAS_CTL_EN && s.onWsync && (s.islOn 20 || s.islOn 21) then
    if s.tooEarly then (s.wr PLY_CANVAS_STATUS_WSYNC_EARLY 1).wr PLY_CANVAS_STATUS_SHORT_SKIP 1
    else ({ s with canvas := { s.canvas with lost := false } }).frameStart s.canvas.next
  else s

/-- WSYNC_EDGE. -/
def execWsyncEdge (s : State) : Host.Outcome State Fault Refusal := s.finish s.wsyncEdge

/-- The flywheel (R287): 1.5 × T_c after a frame start that an edge began, T_c after one of its own. (DEDUCED, log entry 56.) -/
def State.wsyncFlywheel (s : State) : State :=
  let c := s.canvasPeriod
  let from_ := max (s.canvas.at_.getD 0) s.canvas.enAt
  let due := decide ((if s.canvas.lost then 2 else 3) * c.1 ≤ 2 * (s.elapsed - from_) * c.2)
  if s.on PLY_CANVAS_CTL_EN && s.onWsync && due then
    (({ s with canvas := { s.canvas with lost := true } }).wr PLY_CANVAS_STATUS_WSYNC_LOST 1).frameStart s.canvas.next
  else s

/-- WSYNC_FLYWHEEL. -/
def execWsyncFlywheel (s : State) : Host.Outcome State Fault Refusal := s.finish s.wsyncFlywheel

/-- `WSYNC_OUT` falls 1.0 µs after it rose (R288). -/
def State.wsyncOutEnd (s : State) : State :=
  match s.canvas.outSince with
  | none => s
  | some t =>
    if t + 1000 ≤ s.elapsed then ({ s with canvas := { s.canvas with outSince := none } }).emit (.pin "WSYNC_OUT" false) else s

/-- WSYNC_OUT_END. -/
def execWsyncOutEnd (s : State) : Host.Outcome State Fault Refusal := s.finish s.wsyncOutEnd

/-- EN goes to 1 (R284, R285, R287). -/
def State.canvasOn (s : State) : State :=
  if s.rateOk then
    let s := (s.wr PLY_CANVAS_CTL_EN 1).wr PLY_CANVAS_STATUS_RUNNING 1
    let k := if s.onWsync then 0 else s.gridFrom s.devTime
    { s with canvas := { s.canvas with enAt := s.elapsed, next := k, lost := false } }
  else s.wr PLY_CANVAS_STATUS_BAD_RATE 1

/-- A write of `PLY_CANVAS_CTL` (R284): SOURCE is ignored while EN is 1. -/
def State.canvasCtl (s : State) (w : Nat) : State :=
  let was := s.on PLY_CANVAS_CTL_EN
  let s := (s.wr PLY_CANVAS_CTL_HOLD (bitOf w 8)).wr PLY_CANVAS_CTL_WSYNC_OUT_EN (bitOf w 4)
  let s := s.iff (!was) (·.wr PLY_CANVAS_CTL_SOURCE (w % 4))
  if bitSet w 31 then (if was then s else s.canvasOn)
  else (s.wr PLY_CANVAS_CTL_EN 0).wr PLY_CANVAS_STATUS_RUNNING 0

/-- CANVAS_ENABLE: the word written to `PLY_CANVAS_CTL`. -/
def execCanvasEnable (w : Word) (s : State) : Host.Outcome State Fault Refusal := s.finish (s.canvasCtl w.toNat)

/-- A write of `PLY_CTL.RUN` (R315); a reweave that holds the engine ignores it (R506). -/
def State.plyRun (s : State) (e : Nat) (v : Bool) : State :=
  s.iff (s.unitUp (plyMaster e) && !(v && s.wrp.hold.engines.contains e)) (·.wr (PLY_CTL_RUN e) (b2n v))

/-- PLY_RUN: engine `e`, the value written. -/
def execPlyRun (e : Fin 2) (v : Bool) (s : State) : Host.Outcome State Fault Refusal := s.finish (s.plyRun e v)

end Sys2Proof.Machine
end

