-- ==== Sys2Proof/Machine/Brodys.lean ====
section
/-! DEFINITION. The Brodys link (08_brodys_link.md): columns and packets (R321–R326), electrical idle (R340, R341), SYNC
(R331) and ROW packets (R330, R344, R352, R359). -/

namespace Sys2Proof.Machine

open R

/-- Port states (Table 8-19). -/
def blkOFF : Nat := 0
def blkCLOCK : Nat := 1
def blkTRAIN : Nat := 2
def blkENUM : Nat := 3
def blkACTIVE : Nat := 4
def blkTEST : Nat := 5
def blkNOCHAIN : Nat := 6

/-- The master ID of port manager `p`. -/
def blkMaster (p : Nat) : Nat := 0x48 + p

/-- The state of a port. -/
def State.portState (s : State) (p : Nat) : Nat := s.rd (BLK_STATUS_STATE p)

/-- The generation of a port (R318). -/
def State.gen (s : State) (p : Nat) : Nat := s.rd (BLK_CTL_GEN p)

/-! ### Columns (R321–R324) -/

/-- Control symbols of Table 8-3, by their BL-2 and BL-3 block type. -/
def symIDLE : Nat := 0x1E
def symSTART : Nat := 0x78
def symTRAIN : Nat := 0xB4
def symEIDLE : Nat := 0xE1

/-- The symbol as the generation sends it: BL-1 uses the characters K28.5, K27.7, K28.1 and K28.3. -/
def symbol (g t : Nat) : Nat :=
  if g ≠ 1 then t else if t = symIDLE then 0xBC else if t = symSTART then 0xFB else if t = symTRAIN then 0x3C else 0x7C

/-- Bytes brought to a length with zeros. -/
def padTo (n : Nat) (l : List Byte) : List Byte := l ++ List.replicate (n - l.length) 0

/-- The columns of a packet body (R324). (DESIGN CHOICE, log entry 57.) -/
def packetCols (g : Nat) (body : List Byte) : List (Nat × List Byte) :=
  let q := genShape g
  let c := q.2.1
  let n := q.2.2
  (symbol g symSTART, padTo n (body.take n)) :: (pieces c (body.drop n)).map (fun d => (0, padTo c d))

/-- A control column that carries no packet: IDLE or EIDLE (R323). -/
def controlCol (g t : Nat) : Nat × List Byte := (symbol g t, List.replicate (genShape g).2.2 0)

/-- The training set of a generation (R323). -/
def trainCols (g : Nat) : List (Nat × List Byte) :=
  let lane := fun (l : Nat) (n : Nat) => natLe 1 l ++ natLe 1 g ++ List.replicate n (0x4A : Byte)
  if g = 1 then
    [(symbol g symTRAIN, []), (0, [0, 1, 2, 3]), (0, List.replicate 4 1)] ++
      List.replicate 13 (0, List.replicate 4 (0x4A : Byte))
  else
    let n := (genShape g).2.2 / 4 - 2
    [(symTRAIN, lane 0 n ++ lane 1 n ++ lane 2 n ++ lane 3 n)]

/-- A packet body: header, payload and CRC (R326); `spoil` is added to the CRC by exclusive or. -/
def packetBody (type addr word : Nat) (payload : List Byte) (spoil : Nat := 0) : List Byte :=
  let h := natLe 1 type ++ natLe 1 addr ++ natLe 2 payload.length ++ natLe 4 word ++ payload
  h ++ natLe 4 ((crc32 h).xor spoil)

/-- The time a body takes on the link, in whole ns (R337). -/
def bodyNs (g : Nat) (b : Nat) : Nat := cdiv (linkTime g b) 4

/-- Send a packet: the port leaves electrical idle, and its lanes are busy until the packet ends. Where the START does not follow the packet
before it, the column after that packet was IDLE (R324); the one that stands here stands for the run of them. (DESIGN CHOICE, log entry 57.) -/
def State.sendPacket (s : State) (p : Nat) (body : List Byte) : State :=
  let g := s.gen p
  let start := max s.elapsed (s.port p).lineBusy
  let s := s.iff (decide ((s.port p).lineBusy < s.elapsed) || (s.port p).burst.isSome) (·.emit (.brodys p [controlCol g symIDLE]))
  let s := s.modPort p (fun r => { r with lineBusy := start + bodyNs g body.length, idle := false, burst := none })
  s.emit (.brodys p (packetCols g body))

/-! ### Electrical idle (R340, R341) -/

/-- The elapsed time at which the port's next SYNC is due: that of the frame begun, or of the next one by the canvas's rate. -/
def State.nextSync (s : State) (p : Nat) : Option Nat :=
  match s.portSlot p with
  | none => none
  | some x =>
    let delay := max 4000 (min 30000 (s.rd PLY_CANVAS_SYNC_DELAY))
    match (s.ply x.1).sync with
    | some q => some q.2.2
    | none =>
      if !s.on PLY_CANVAS_CTL_EN then none
      else if s.onWsync then
        let c := s.canvasPeriod
        some (max (s.canvas.at_.getD 0) s.canvas.enAt + c.1 / c.2 + delay)
      else some (s.elapsed + (s.gridAt s.canvas.next - s.devTime) + delay)

/-- The port has a packet to send, or its engine a row to build for it. -/
def State.portPending (s : State) (p : Nat) : Bool :=
  let r := s.port p
  !r.rows.isEmpty || (match r.trans with | none => !r.tasks.isEmpty || r.host.isSome | some t => t.unsent) ||
    (match s.portSlot p with
    | none => false
    | some x => (s.ply x.1).frames.any (fun f => f.todo.any (fun q => q.1 == x.2)))

/-- Enter electrical idle when nothing is due soon enough (R340). -/
def State.idleCheck (s : State) (p : Nat) : State :=
  let r := s.port p
  let min_ := max 1000 (s.rd (BLK_IDLE_MIN_NS p))
  let free := match s.nextSync p with | none => true | some t => decide (max s.elapsed r.lineBusy + min_ ≤ t)
  if s.on (BLK_CTL_IDLE_EN p) && s.portState p == blkACTIVE && !r.idle && !s.portPending p && free then
    let s := s.modPort p (fun r => { r with idle := true, burst := none })
    (s.emit (.brodys p [controlCol (s.gen p) symEIDLE])).emit (.brodysDrive p true false)
  else s

/-- The port starts its burst: no packet starts within 200 ns of it (R341). -/
def State.fastExit (s : State) (p : Nat) : State :=
  if (s.port p).idle && (s.port p).burst.isNone then
    let s := s.modPort p (fun r => { r with burst := some s.elapsed, lineBusy := max r.lineBusy (s.elapsed + 200) })
    (s.emit (.brodysDrive p true true)).emit (.brodysBurst p)
  else s

/-- When the lanes can carry the next packet: after the packet on them, and 200 ns after a burst that ends electrical idle (R341). -/
def State.lineFree (s : State) (p : Nat) : Nat :=
  if (s.port p).idle && (s.port p).burst.isNone then max (s.port p).lineBusy (s.elapsed + 200) else max s.elapsed (s.port p).lineBusy

/-- FAST_EXIT_BURST: of port `p`. -/
def execFastExitBurst (p : Fin 16) (s : State) : Host.Outcome State Fault Refusal := s.finish (s.fastExit p)

/-- A packet may start: 200 ns have passed since the burst that ends electrical idle began (R341). -/
def State.awake (s : State) (p : Nat) : Bool :=
  let r := s.port p
  !r.idle || (match r.burst with | none => false | some t => decide (t + 200 ≤ s.elapsed))

/-! ### SYNC (R331, R336) -/

/-- The canvas period rounded to the nearest ns. -/
def State.periodNs (s : State) : Nat :=
  let c := s.canvasPeriod
  (2 * c.1 + c.2) / (2 * c.2)

/-- Send the SYNC of frame `k`. It waits for nothing (R344) but the 200 ns of a burst that started late (R341). -/
def State.sendSync (s : State) (p k : Nat) : State :=
  if s.portState p = blkACTIVE then
    let s := (s.fastExit p).modPort p (fun r => { r with lineBusy := min r.lineBusy (match r.burst with | some t => max s.elapsed (t + 200) | none => s.elapsed) })
    s.sendPacket p (packetBody 0x02 0xFE (k % 256) (natLe 4 (s.rd (BLK_TIMING_SHOW_NS p)) ++ natLe 4 s.periodNs))
  else s

/-! ### Rows -/

/-- The row can go to its tile (R352): PRESENT, neither LOST nor SIZE_MISMATCH. -/
def State.rowGoes (s : State) (p n : Nat) : Bool :=
  s.on (BLK_TILE_PRESENT p n) && !s.on (BLK_TILE_LOST p n) && !s.on (BLK_TILE_SIZE_MISMATCH p n)

/-- Discard a row for position `n` (R352). -/
def State.rowDrop (s : State) (p n : Nat) : State :=
  if s.on (BLK_TILE_PRESENT p n) then s.bump (BLK_TILE_ROW_DROP p n) else s.bump (BLK_ROW_DROP_CNT p)

/-- The ply engine hands a row to the port (R342, R352). -/
def State.handRow (s : State) (p : Nat) (w : RowPkt) : State :=
  if s.portState p ≠ blkACTIVE ∨ w.ord ≤ (s.port p).fromOrd then s.bump (BLK_ROW_DROP_CNT p)
  else
    let bad := s.on (BLK_TILE_PRESENT p w.pos) &&
      (w.w != s.rd (BLK_TILE_W_M1 p w.pos) + 1 || decide (s.rd (BLK_TILE_H_M1 p w.pos) < w.row))
    let s := s.iff bad (·.wr (BLK_TILE_SIZE_MISMATCH p w.pos) 1)
    if s.rowGoes p w.pos then s.modPort p (fun r => { r with rows := r.rows ++ [w] }) else s.rowDrop p w.pos

/-- Rows a port still holds when it stops taking them are discarded (R342). -/
def State.rowsGone (s : State) (p : Nat) : State :=
  (s.bump (BLK_ROW_DROP_CNT p) (s.port p).rows.length).modPort p (fun r => { r with rows := [] })

/-- The ROW packet; with AUTH_REQ the lamps of a tile that has not passed are 0 (R330, R359). -/
def State.rowPacket (s : State) (p : Nat) (w : RowPkt) : List Byte :=
  let dark := s.on (BLK_CTL_AUTH_REQ p) && s.rd (BLK_TILE_AUTH p w.pos) != 2
  packetBody 0x01 w.pos w.word (if dark then w.data.map (fun _ => 0) else w.data)

/-- The SYNC of the row's frame has gone, and the row ends before the next one (R344, Table 7-7). -/
def State.rowFits (s : State) (p : Nat) (w : RowPkt) : Bool :=
  let stop := s.elapsed + bodyNs (s.gen p) (rowBody w.w)
  match s.portSlot p with
  | none => true
  | some x =>
    (match (s.ply x.1).sync with | none => true | some q => decide (w.ord < q.2.1)) &&
      (match s.nextSync p with | none => true | some t => decide (stop ≤ t))

/-- A port sends the oldest row it holds, once its lanes are free (R344). (DEDUCED, log entry 58.) -/
def State.rowSend (s : State) (p : Nat) : State :=
  let r := s.port p
  match r.rows with
  | [] => s
  | w :: rest =>
    if s.portState p = blkACTIVE ∧ r.lineBusy ≤ s.elapsed ∧ s.awake p ∧ s.rowFits p w then
      let s := s.modPort p (fun r => { r with rows := rest })
      let s := if s.rowGoes p w.pos then s.sendPacket p (s.rowPacket p w) else s.rowDrop p w.pos
      s.idleCheck p
    else s

/-- ROW_SEND: on port `p`. -/
def execRowSend (p : Fin 16) (s : State) : Host.Outcome State Fault Refusal := s.finish (s.rowSend p)

end Sys2Proof.Machine
end

