-- ==== Sys2Proof/Machine/PlyRow.lean ====
section
/-! DEFINITION. Building a lamp row (R280, R281, R295–R313, 07_ply_engines.md), and the rows that are too late (R314). -/

namespace Sys2Proof.Machine

open R

/-! ### Source samples -/

/-- The samples of a rectangle of one component, as read: rows from `y0`, columns from `x0`. -/
structure Patch where
  x0 : Nat := 0
  y0 : Nat := 0
  /-- bytes from one sample to the next, bytes of a sample, and the byte at which the component begins -/
  step : Nat := 1
  bytes : Nat := 1
  at_ : Nat := 0
  rows : List (List Byte) := []

/-- A sample of a patch. -/
def Patch.get (q : Patch) (x y : Int) : Int :=
  let row := (q.rows[(y - q.y0).toNat]?).getD []
  let o := (x - q.x0).toNat * q.step + q.at_
  (leNat (slice row o q.bytes) : Nat)

/-- Read rows y0 to y1, columns x0 to x1, of a plane at `base`. -/
def State.readPatch (s : State) (master base pitch step bytes at_ x0 x1 y0 y1 : Nat) : Patch × State :=
  let o := ((List.range (y1 + 1 - y0)).map (fun (i : Nat) => y0 + i)).foldl (fun (a : List (List Byte) × State) y =>
    let r := a.2.readOr master (base + y * pitch + x0 * step) ((x1 + 1 - x0) * step)
    (a.1 ++ [r.1], r.2)) ([], s)
  ({ x0 := x0, y0 := y0, step := step, bytes := bytes, at_ := at_, rows := o.1 }, o.2)

/-- Subsampling of chroma, horizontal and vertical, by CHROMA. -/
def chromaSub (chroma : Nat) : Nat × Nat := if chroma = 1 then (2, 2) else if chroma = 2 then (2, 1) else (1, 1)

/-- What one strip of a window reads: luma, Cb and Cr. -/
structure WinData where
  y : Patch := {}
  cb : Patch := {}
  cr : Patch := {}

/-- Read the samples that a part of a window needs; positions are in the coded picture. -/
def State.readWin (s : State) (e : Nat) (v : WinView) (p : PicView) (part : Rect) : WinData × State :=
  let m := plyMaster e
  let r := v.partSrc part
  let x0 := min (p.w - 1) (r.x + p.cropL)
  let x1 := min (p.w - 1) (r.x + r.w - 1 + p.cropL)
  let y0 := min (p.h - 1) (r.y + p.cropT)
  let y1 := min (p.h - 1) (r.y + r.h - 1 + p.cropT)
  let a := s.readPatch m (p.base + p.offY) p.pitchY p.bytes p.bytes 0 x0 x1 y0 y1
  if p.chroma = 0 then ({ y := a.1 }, a.2)
  else
    let q := chromaSub p.chroma
    let sx1 := min (p.w - 1) (v.src.x + v.src.w - 1 + p.cropL)
    let sy1 := min (p.h - 1) (v.src.y + v.src.h - 1 + p.cropT)
    let lo := fun (a first sub : Nat) => max (first / sub) (a / sub - (if sub = 1 then 0 else 5))
    let hi := fun (a last sub : Nat) => min (last / sub) (a / sub + (if sub = 1 then 0 else 5))
    let cx0 := lo x0 (v.src.x + p.cropL) q.1
    let cx1 := hi x1 sx1 q.1
    let cy0 := lo y0 (v.src.y + p.cropT) q.2
    let cy1 := hi y1 sy1 q.2
    let step := if p.planar then p.bytes else 2 * p.bytes
    let off := if p.planar then p.offCr else p.offCb
    let at_ := if p.planar then 0 else p.bytes
    let b := a.2.readPatch m (p.base + p.offCb) p.pitchC step p.bytes 0 cx0 cx1 cy0 cy1
    let c := b.2.readPatch m (p.base + off) p.pitchC step p.bytes at_ cx0 cx1 cy0 cy1
    ({ y := a.1, cb := b.1, cr := c.1 }, c.2)

/-- A signed 12-bit tap of an active bank (R298). -/
def State.tap (s : State) (e b ph j : Nat) : Int :=
  signOf 12 (if j % 2 = 0 then s.rd (PLY_COEF_ACT_LO e b ph (j / 2)) else s.rd (PLY_COEF_ACT_HI e b ph (j / 2)))

/-- A bank that software has not loaded: it holds 0 throughout and draws black (R301). -/
def State.bankDark (s : State) (e b : Nat) : Bool :=
  decide (4 ≤ b) && (List.range 64).all (fun ph => (List.range 8).all (fun j => s.tap e b ph j == 0))

/-- The canvas sample of a window's picture at the lamp (u, t) of its rectangle (R299–R303). -/
def State.winSample (s : State) (e : Nat) (v : WinView) (p : PicView) (d : WinData) (fr u t : Nat) : Rgb :=
  let hx := v.hx
  let vy := v.vy
  let hc := s.tap e v.hbank
  let vc := s.tap e v.vbank
  let hp := hx.pos u
  let vp := vy.pos t
  let dep := p.depth
  let sh := Config.plyCarryShift dep
  let inX := fun (x : Int) => max 0 (min ((p.w - 1 : Nat) : Int) (x + p.cropL))
  let inY := fun (y : Int) => max 0 (min ((p.h - 1 : Nat) : Int) (y + p.cropT))
  let q := chromaSub p.chroma
  let lum := scale2 dep 0 hx vy hc vc hp vp (fun x y => d.y.get (inX x) (inY y))
  let chr := fun (c : Patch) =>
    scale2 dep sh hx vy hc vc hp vp (fun x y => chromaAt dep q.1 q.2 v.loc hx vy hc vc
      (fun i j => c.get (max 0 (min (((p.w - 1) / q.1 : Nat) : Int) (i + (p.cropL / q.1 : Nat))))
        (max 0 (min (((p.h - 1) / q.2 : Nat) : Int) (j + (p.cropT / q.2 : Nat))))) x y)
  let mono := p.chroma == 0
  if s.bankDark e v.hbank || s.bankDark e v.vbank then (0, 0, 0)
  else canvasSample fr dep v.matrix v.transfer (s.rd PLY_CANVAS_PEAK) (v.range == 1) mono v.mat lum
    (if mono then 0 else chr d.cb) (if mono then 0 else chr d.cr)

/-! ### Composition (R280, R281) -/

/-- What a window has at a lamp: nothing, its fill colour, or its picture. -/
inductive Draw where
  | none
  | fill
  | pic
  deriving DecidableEq, Repr

/-- The window covers a canvas lamp. -/
def WinView.covers (v : WinView) (x y : Nat) : Bool :=
  decide (v.dst.x ≤ x) && decide (x < v.dst.x + v.dst.w) && decide (v.dst.y ≤ y) && decide (y < v.dst.y + v.dst.h)

/-- The lamp's footprint lies inside the safe rectangle (R297). -/
def WinView.safeAt (v : WinView) (x y : Nat) : Bool :=
  match v.safe with
  | none => true
  | some q => rectIn (v.partSrc { x := x, y := y, w := 1, h := 1 }) q

/-- What the window draws at a lamp it covers (R281, R282). -/
def WinView.draw (v : WinView) (x y : Nat) : Draw :=
  if v.kind = 2 then .fill
  else if v.pic.isSome && !v.ratio && v.safeAt x y then .pic
  else if v.fillEmpty then .fill
  else .none

/-- The samples that a lamp costs (R305): one for each drawn window that covers it, from the ply of the topmost opaque one up; a window with
EN 1 is drawn (Table 7-3). -/
def lampCost (ws : List WinView) (x y : Nat) : Nat :=
  let on := ws.filter (fun v => v.covers x y)
  let top := (on.filter (fun v => v.alpha == 255)).foldl (fun (a : Nat) v => max a v.ply) 0
  max 1 (on.filter (fun v => decide (top ≤ v.ply))).length

/-- The windows that count at a lamp, bottom ply first: of each ply the lowest-numbered that covers it, when it draws there;
nothing below the topmost opaque one (R280, R305). -/
def lampStack (ws : List WinView) (x y : Nat) : List (WinView × Draw) :=
  let top := (List.range 16).filterMap (fun (k : Nat) => ws.find? (fun v => v.ply == k && v.covers x y))
  let l := (top.map (fun v => (v, v.draw x y))).filter (fun q => q.2 != .none)
  let above := (l.reverse.takeWhile (fun q => q.1.alpha != 255)).length
  l.drop (l.length - above - 1)

/-- The composed value of a lamp (R280); `fr` numbers the free values of the lamp. -/
def State.lampValue (s : State) (e fr : Nat) (data : List (Nat × WinData)) (st : List (WinView × Draw)) (x y : Nat) : Rgb :=
  st.foldl (fun (c : Rgb) q =>
    let v := q.1
    let n := fr + 8 * v.ply
    let sample := match q.2, v.pic with
      | .pic, some p => s.winSample e v p (smGet {} data v.w) n (x - v.dst.x) (y - v.dst.y)
      | _, _ => fillSample n v.fill
    blendRgb v.alpha sample c) (0, 0, 0)

/-- The three gains of a gain-map word (R308). -/
def gainWord (l : List Byte) : Rgb := (leNat (slice l 0 2), leNat (slice l 2 2), leNat (slice l 4 2))

/-- Codes of a lamp's three colours (R313). -/
def codes (t : TileView) (c r k : Nat) (v : Rgb) : Rgb :=
  let f := lampCode t.depth t.curve t.dither c r k
  (f v.1, f v.2.1, f v.2.2)

/-- The WORD field of a row (R330). -/
def rowWord (t : TileView) (r k : Nat) : Nat := r % 1024 + k % 256 * 1024 + t.depth % 4 * 2 ^ 18 + b2n t.curve * 2 ^ 20

/-- The canvas strip that a native row shows. -/
def rowStrip (t : TileView) (r : Nat) : Rect :=
  let a := orientAt t.orient t.w t.h 0 r
  let b := orientAt t.orient t.w t.h (t.w - 1) r
  rectJoin { x := t.x + a.1, y := t.y + a.2, w := 1, h := 1 } { x := t.x + b.1, y := t.y + b.2, w := 1, h := 1 }

/-- The row of a black frame (R315, R316): codes 0, nothing read. -/
def blackRow (f : PlyFrame) (t : TileView) (r : Nat) : RowPkt :=
  { ord := f.ord, pos := t.t % 64, row := r, w := t.w, word := rowWord t r f.k, data := List.replicate (cdiv (9 * t.w) 2) 0 }

/-- What the windows read for a row: those whose picture some lamp of it shows, and nothing under an opaque window (R305). -/
def State.rowData (s : State) (e : Nat) (f : PlyFrame) (strip : Rect) (stacked : List (List (WinView × Draw))) :
    List (Nat × WinData) × State :=
  f.wins.foldl (fun (a : List (Nat × WinData) × State) v =>
    match v.pic, rectMeet v.dst strip with
    | some p, some part =>
      if stacked.any (fun st => st.any (fun q => q.1.w == v.w && q.2 == .pic)) then
        let d := a.2.readWin e v p part
        (a.1 ++ [(v.w, d.1)], d.2)
      else a
    | _, _ => a) ([], s)

/-- The values of a row's lamps after the aging gain, and the samples it cost. -/
def State.rowValues (s : State) (e : Nat) (f : PlyFrame) (t : TileView) (r : Nat) : List Rgb × Nat × State :=
  let spots := (List.range t.w).map (fun (c : Nat) =>
    let o := orientAt t.orient t.w t.h c r
    (t.x + o.1, t.y + o.2))
  let stacked := spots.map (fun q => lampStack f.wins q.1 q.2)
  let d := s.rowData e f (rowStrip t r) stacked
  let g := if t.gmap = 0 then ([], d.2) else d.2.readOr (plyMaster e) (t.gmap + 8 * r * t.w) (8 * t.w)
  let u := g.2
  let lamps := ((spots.zip stacked).zipIdx).map (fun q =>
    let x := q.1.1.1
    let y := q.1.1.2
    let c := q.2
    let fr := u.fresh + 256 * c
    let v := u.lampValue e fr d.1 q.1.2 x y
    let v := match t.mat with | none => v | some m => matMul (fr + 200) m v
    let v := if t.gmap = 0 then v else gainRgb (gainWord (slice g.1 (8 * c) 8)) v
    (agedRgb t.age v, lampCost f.wins x y))
  (lamps.map (·.1), (lamps.map (·.2)).foldl (· + ·) 0, { u with fresh := u.fresh + 256 * t.w })

/-- Add a row's values to the drive sums of its tile (R312). -/
def sumRow (t : Nat) (vs : List Rgb) (m : SMap (Nat × Nat × Nat)) : SMap (Nat × Nat × Nat) :=
  smSet (0, 0, 0) m t (vs.foldl (fun (a : Rgb) v => (a.1 + v.1, a.2.1 + v.2.1, a.2.2 + v.2.2)) (smGet (0, 0, 0) m t))

/-- Build one row. (DEDUCED, log entry 55.) -/
def State.buildRow (s : State) (e : Nat) (f : PlyFrame) (t : TileView) (r : Nat) : RowPkt × PlyFrame × State :=
  if f.black then (blackRow f t r, f, s)
  else
    let o := s.rowValues e f t r
    let cs := (o.1.zipIdx).map (fun q => codes t q.2 r f.k q.1)
    ({ ord := f.ord, pos := t.t % 64, row := r, w := t.w, word := rowWord t r f.k, data := packLamps cs },
      { f with samples := f.samples + o.2.1, sums := sumRow t.t o.1 f.sums }, o.2.2)

/-- The rows still to be built of a slot, one fewer. -/
def dropRow (f : PlyFrame) (sl : Nat) (rest : List (Nat × Nat)) : PlyFrame :=
  { f with todo := if rest.isEmpty then f.todo.filter (fun q => q.1 != sl) else f.todo.map (fun q => if q.1 = sl then (sl, rest) else q) }

/-- Engine `e` finishes the next row of a slot, of its oldest frame that has one, and hands it to the port (R314). -/
def State.plyRowBuilt (s : State) (e sl : Nat) : State :=
  let y := s.ply e
  match s.unitUp (plyMaster e), y.frames.find? (fun f => f.todo.any (fun q => q.1 == sl)) with
  | true, some f =>
    match smGet [] f.todo sl with
    | [] => s
    | (t, r) :: rest =>
      match f.tiles.find? (fun v => v.t == t) with
      | none => s
      | some v =>
        let o := s.buildRow e f v r
        let f' := dropRow o.2.1 sl rest
        let s := o.2.2.modPly e (fun y => { y with frames := y.frames.map (fun g => if g.ord = f.ord then f' else g) })
        let s := (s.countUnit 0x061 (plyMaster e) 1).handRow (s.slotPort e sl) o.1
        s.frameDone e 3
  | _, _ => s

/-- PLY_ROW_BUILT: engine `e`, port slot. -/
def execPlyRowBuilt (e : Fin 2) (sl : Fin 8) (s : State) : Host.Outcome State Fault Refusal := s.finishOnce (s.plyRowBuilt e sl) id

/-- Rows of the frames before `ord` that engine `e` has not sent. -/
def State.staleRows (s : State) (e ord : Nat) : Nat :=
  let built := (s.slotsOf e).foldl (fun (a : Nat) sl => a + ((s.port (s.slotPort e sl)).rows.filter (fun w => decide (w.ord < ord))).length) 0
  let todo := ((s.ply e).frames.filter (fun f => decide (f.ord < ord))).foldl (fun (a : Nat) f =>
    a + f.todo.foldl (fun (b : Nat) q => b + q.2.length) 0) 0
  built + todo

/-- The rows of earlier frames still unsent at c_{k+1} + DELAY, with the DELAY of that frame start, are discarded (R314). -/
def State.rowDeadline (s : State) (e : Nat) : State :=
  let d := (s.ply e).due
  if s.unitUp (plyMaster e) && decide (d.2 ≤ s.elapsed) then
    let ord := d.1
    let n := s.staleRows e ord
    let s := s.each (s.slotsOf e) (fun sl t => t.modPort (t.slotPort e sl) (fun r => { r with rows := r.rows.filter (fun w => decide (ord ≤ w.ord)) }))
    let s := s.modPly e (fun y => { y with frames := y.frames.map (fun f => if f.ord < ord then { f with todo := [] } else f) })
    let s := s.iff (decide (0 < n)) (fun t =>
      ((t.wr (PLY_STATUS_LATE e) 1).bump (PLY_LATE_CNT e) n).countUnit 0x062 (plyMaster e) n)
    s.frameDone e 3
  else s

/-- ROW_DEADLINE: of engine `e`. -/
def execRowDeadline (e : Fin 2) (s : State) : Host.Outcome State Fault Refusal := s.finish (s.rowDeadline e)

end Sys2Proof.Machine
end

