-- ==== Sys2Proof/Machine/BrodysMgr.lean ====
section
/-! DEFINITION. The Brodys port manager (08_brodys_link.md): bring-up (R338, R342), management transactions (R343–R347),
polling (R349, R355), enumeration (R351–R354), authentication (R356–R359), life records (R360–R362), the port commands
(R363), host transactions (R364), tests and injection (R365–R367). -/

namespace Sys2Proof.Machine

open R

/-! ### Transactions (R343–R346) -/

/-- A request: its packet type, address, operation and arguments. -/
structure Req where
  type : Nat := 0x10
  addr : Nat := 0
  op : Nat := 0
  args : List Byte := []

/-- READ of `n` bytes at `off` of tile `a` (Table 8-9). -/
def readReq (a off n : Nat) : Req := { addr := a, op := 1, args := natLe 4 off ++ natLe 2 n }

/-- HOURS as the tally table holds them, for the life record (R362, R543). -/
def State.hoursArgs (s : State) (p n : Nat) : List Byte :=
  let h := s.tallyOf (s.tileSerial p n)
  let f := fun (v : Nat) => natLe 4 (min (2 ^ 32 - 1) (v / 4096))
  f h.1 ++ f h.2.1 ++ f h.2.2

/-- The request that a task of the port manager sends. -/
def State.taskReq (s : State) (p : Nat) (t : MgrTask) : Req :=
  match t with
  | .clear => { addr := 0xFE, op := 6 }
  | .hop => { type := 0x11, addr := 0xFE }
  | .ping n => { addr := n, op := 0 }
  | .ident n => readReq n 0 64
  | .life n => readReq n 0x100 64
  | .status n => { addr := n, op := 3 }
  | .cert n part => readReq n (0x1000 + 1024 * part) (min 1024 (7267 - 1024 * part))
  | .challenge n => { addr := n, op := 4, args := (((s.port p).auth).getD {}).nonce }
  | .sig n part => readReq n (0x3000 + 1024 * part) (min 1024 (4627 - 1024 * part))
  | .hours n => { addr := n, op := 2, args := natLe 4 0x104 ++ s.hoursArgs p n }
  | .host =>
    let h := (s.port p).host.getD {}
    { addr := h.addr, op := h.op, args := h.args }

/-- The request goes to every tile and has no answer. -/
def Req.broadcast (q : Req) : Bool := decide (0x40 ≤ q.addr)

/-- Copies of a request sent in succession: RETRIES + 1 for a broadcast (R346), one ENUM (R351). -/
def State.copies (s : State) (p : Nat) (q : Req) : Nat :=
  if q.type = 0x10 ∧ q.broadcast then s.rd (BLK_MGMT_RETRIES p) + 1 else 1

/-- A management packet may be sent in this state. -/
def State.mgmtState (s : State) (p : Nat) : Bool :=
  let q := s.portState p
  q == blkENUM || q == blkACTIVE || q == blkNOCHAIN

/-- The packet ends before the next SYNC is due (R344), which only a port in ACTIVE sends. -/
def State.mgmtFits (s : State) (p ns : Nat) : Bool :=
  s.portState p != blkACTIVE ||
    (match s.nextSync p with | none => true | some t => decide (s.lineFree p + ns ≤ t))

/-- Send one request packet; MGMT_CRC corrupts the CRC of an MREQ, and how is free (R367). -/
def State.sendReq (s : State) (p seq : Nat) (q : Req) : State :=
  let spoil := q.type == 0x10 && s.on (BLK_INJECT_MGMT_CRC p)
  let v := s.free
  let x := if spoil then 1 + v.1 % (2 ^ 32 - 1) else 0
  let s := if spoil then v.2.wr (BLK_INJECT_MGMT_CRC p) 0 else s
  s.sendPacket p (packetBody q.type q.addr (if q.type = 0x10 then seq + 256 * q.op else 0) q.args x)

/-- Send the copies of a request. -/
def State.sendCopies (s : State) (p seq : Nat) (q : Req) : State := s.each (List.range (s.copies p q)) (fun _ t => t.sendReq p seq q)

/-- The result of a host transaction (Table 8-20). -/
def State.hostEnd (s : State) (p result status : Nat) (payload : List Byte) : State :=
  let s := ((s.wr (BLK_HM_STATUS_RESULT p) result).wr (BLK_HM_STATUS_TILE_STATUS p) status).wr (BLK_HM_STATUS_RLEN p) payload.length
  let s := s.each (List.range (min 512 (cdiv payload.length 4))) (fun j t => t.wr (BLK_HM_RSP p j) (leNat (slice payload (4 * j) 4)))
  let s := (s.wr (BLK_HM_STATUS_DONE p) 1).wr (BLK_HM_CTL_GO p) 0
  s.modPort p (fun r => { r with host := none })

/-- Whose turn it is (R343): the manager's next task, or the host's request. -/
def PortSt.turn (r : PortSt) : Option MgrTask :=
  match r.tasks, r.host with
  | [], none => none
  | t :: _, none => some t
  | [], some _ => some .host
  | t :: _, some _ => if r.hostLast then some t else some .host

/-- Start the task whose turn it is, when no transaction is outstanding and it fits. -/
def State.startTask (s : State) (p : Nat) : State :=
  match (s.port p).trans, (s.port p).turn with
  | none, some t =>
    let q := s.taskReq p t
    let ns := s.copies p q * bodyNs (s.gen p) (12 + q.args.length)
    if !s.mgmtState p || !s.mgmtFits p ns then s
    else
      let s := s.fastExit p
      let seq := (s.port p).seq
      let s := s.sendCopies p seq q
      let host := t == .host
      let s := s.modPort p (fun r => { r with
        seq := if q.type = 0x10 then (seq + 1) % 256 else seq
        tasks := if host then r.tasks else r.tasks.drop 1
        hostLast := host })
      if q.broadcast then s.iff host (·.hostEnd p 0 0 [])
      else
        let tr : Trans := { task := t, seq := seq, op := q.op, addr := q.addr, args := q.args, left := s.rd (BLK_MGMT_RETRIES p)
                            endAt := (s.port p).lineBusy }
        s.modPort p (fun r => { r with trans := some tr })
  | _, _ => s

/-- Send the outstanding request again, with its SEQ (R345), as soon as it fits. -/
def State.resend (s : State) (p : Nat) (t : Trans) : State :=
  let q : Req := { addr := t.addr, op := t.op, args := t.args }
  if s.mgmtState p && s.mgmtFits p (bodyNs (s.gen p) (12 + t.args.length)) then
    let s := (s.fastExit p).sendReq p t.seq q
    s.modPort p (fun r => { r with trans := some { t with unsent := false, endAt := r.lineBusy } })
  else s.modPort p (fun r => { r with trans := some { t with unsent := true } })

/-- Everything the port manager can send now: a waiting retry, broadcasts, then a transaction; a port left with nothing to send may go
idle (R340). -/
def State.pumpPort (s : State) (p : Nat) : State :=
  (match (s.port p).trans with
  | some t => if t.unsent then s.resend p t else s
  | none => ((s.startTask p).startTask p).startTask p).idleCheck p

/-- Append tasks of the port manager. -/
def State.addTasks (s : State) (p : Nat) (l : List MgrTask) : State := s.modPort p (fun r => { r with tasks := r.tasks ++ l })

/-! ### Going down and coming up (R338, R342) -/

/-- The manager's own work ends; tiles whose authentication was not complete stay PENDING. -/
def State.mgrStop (s : State) (p : Nat) : State :=
  s.modPort p (fun r => { r with
    trans := match r.trans with | some t => if t.task = .host then some t else none | none => none
    tasks := [], enum := none, auth := none, authQ := [] })

/-- Any transaction in progress ends with result ABORTED (R342). -/
def State.mgmtAbort (s : State) (p : Nat) : State :=
  let busy := (s.port p).host.isSome
  let s := (s.mgrStop p).modPort p (fun r => { r with trans := none })
  s.iff busy (·.hostEnd p 3 0 [])

/-- The port goes to OFF: no clock on CL, L0–L3 in electrical idle (R342). -/
def State.portOff (s : State) (p : Nat) : State :=
  if s.portState p = blkOFF then s
  else
    let s := ((s.mgmtAbort p).rowsGone p).modPort p (fun r => { r with lock := false, lostAt := none, idle := false, burst := none, keep := false, testEnd := false })
    (((s.wr (BLK_STATUS_STATE p) blkOFF).wr (BLK_STATUS_BUSY p) 0).wr (BLK_STATUS_ATTN p) 0).emit (.brodysDrive p false false)

/-- The port may leave OFF (Table 8-19). -/
def State.portMay (s : State) (p : Nat) : Bool :=
  s.on (BLK_CTL_EN p) && s.gen p != 0 && s.unitUp (blkMaster p)

/-- Step 1 of Table 8-7: CL starts. A warm start's first bring-up takes the record of R354. -/
def State.portUpNow (s : State) (p : Nat) : State :=
  if s.portMay p && s.portState p == blkOFF then
    let w := smGet none s.sec.warmTopo p
    let s := { s with sec := { s.sec with warmTopo := smSet none s.sec.warmTopo p none } }
    let s := s.modPort p (fun r => { r with since := s.elapsed, lineBusy := s.elapsed, warm := w.isSome
                                            warmHash := (w.getD (0, [])).1, saved := (w.getD (0, [])).2 })
    (s.wr (BLK_STATUS_STATE p) blkCLOCK).emit (.brodysDrive p true false)
  else s

/-- A write of `BLK_CTL`: its RW fields, then EN (R338, R342). A reweave that holds the port ignores an EN of 1 (R506). -/
def State.blkCtl (s : State) (p w : Nat) : State :=
  if s.unitUp (blkMaster p) then
    let s := ((s.wr (BLK_CTL_AUTO_ENUM p) (bitOf w 5)).wr (BLK_CTL_AUTH_REQ p) (bitOf w 6)).wr (BLK_CTL_IDLE_EN p) (bitOf w 7)
    if s.wrp.hold.ports.contains p && bitSet w 4 then s
    else
      let s := s.wr (BLK_CTL_EN p) (bitOf w 4)
      if !bitSet w 4 then s.portOff p else if s.portState p = blkOFF then s.portUpNow p else s.idleCheck p
  else s

/-- PORT_ENABLE: port `p`, a word written to `BLK_CTL` whose EN is 1. -/
def execPortEnable (p : Fin 16) (w : Word) (s : State) : Host.Outcome State Fault Refusal :=
  s.finish (s.iff (bitSet w.toNat 4) (·.blkCtl p w.toNat))

/-- PORT_DISABLE: port `p`, a word written to `BLK_CTL` whose EN is 0. -/
def execPortDisable (p : Fin 16) (w : Word) (s : State) : Host.Outcome State Fault Refusal :=
  s.finish (s.iff (!bitSet w.toNat 4) (·.blkCtl p w.toNat))

/-- Step 2 of Table 8-7; `keep` when the tile addresses are kept (R342). A packet on the line ends first, and an IDLE column follows it (R324). -/
def State.toTrain (s : State) (p : Nat) (keep : Bool) : State :=
  let start := max s.elapsed (s.port p).lineBusy
  let after := decide (start != 0) && !(s.port p).idle && s.portState p != blkCLOCK && s.portState p != blkOFF
  let s := ((s.mgrStop p).rowsGone p).modPort p (fun r => { r with since := start, keep := keep, idle := false, burst := none, lineBusy := start })
  let s := (s.wr (BLK_STATUS_STATE p) blkTRAIN).emit (.brodysDrive p true true)
  s.emit (.brodys p ((if after then [controlCol (s.gen p) symIDLE] else []) ++ trainCols (s.gen p)))

/-- TRAIN_START: 50 µs after CL started. -/
def execTrainStart (p : Fin 16) (s : State) : Host.Outcome State Fault Refusal :=
  s.finish (s.iff (s.portState p == blkCLOCK && decide ((s.port p).since + 50000 ≤ s.elapsed)) (·.toTrain p false))

/-- A retrain: the addresses stay, unless the port has never enumerated. -/
def State.retrain (s : State) (p : Nat) : State :=
  s.toTrain p (if s.portState p = blkTRAIN ∨ s.portState p = blkENUM then (s.port p).keep else true)

/-! ### Enumeration (R351–R354) -/

/-- The tiles present on a port. -/
def State.tilesOf (s : State) (p : Nat) : List Nat := (List.range 64).filter (fun n => s.on (BLK_TILE_PRESENT p n))

/-- A round of R351: CLEAR_ADDR and ENUM unless it is a probe, then PING from 0. -/
def State.enumRound (s : State) (p : Nat) : State :=
  let e := (s.port p).enum.getD {}
  let s := s.modPort p (fun r => { r with enum := some { e with rounds := e.rounds + 1, reach := none } })
  (s.addTasks p ((if e.full then [.clear, .hop] else []) ++ [.ping 0])).pumpPort p

/-- Enumeration begins. (DEDUCED, log entry 58.) -/
def State.enumStart (s : State) (p : Nat) (full warm : Bool) : State :=
  let s := s.mgrStop p
  let pages := (List.range 64).map (fun (n : Nat) => (s.tile p n).page)
  (s.modPort p (fun r => { r with enum := some { full := full, warm := warm, pages := pages } })).enumRound p

/-- The RL check (R338): NO_CHAIN without symbol lock, else 1 µs of IDLE and enumeration, or the probe of R342 or R354. (DEDUCED, log entry 58.) -/
def State.rlCheck (s : State) (p : Nat) : State :=
  let r := s.port p
  let ns := 1000 * max 100 (s.rd (BLK_TIMING_TRAIN_US p))
  if s.portState p = blkTRAIN ∧ r.since + ns ≤ s.elapsed then
    if r.lock then
      let s := (s.emit (.brodys p [controlCol (s.gen p) symIDLE])).modPort p (fun r => { r with lineBusy := s.elapsed + 1000 })
      (s.wr (BLK_STATUS_STATE p) blkENUM).enumStart p (!r.keep && !r.warm) r.warm
    else
      let s := ((s.wr (BLK_STATUS_STATE p) blkNOCHAIN).wr (BLK_STATUS_RL_LOSS p) 1).wr (BLK_STATUS_BUSY p) 0
      (s.iff r.testEnd (·.wr (BLK_STATUS_TEST_DONE p) 1)).modPort p (fun r => { r with testEnd := false, warm := false })
  else s

/-- RL_CHECK: of port `p`. -/
def execRlCheck (p : Fin 16) (s : State) : Host.Outcome State Fault Refusal := s.finish (s.rlCheck p)

/-- Sum of HOP_NS over the enumerated tiles (R336). -/
def State.hopSum (s : State) (p n : Nat) : Nat :=
  (List.range n).foldl (fun (a : Nat) i => a + s.rd (BLK_TILE_HOP p i) % 65536) 0

/-- The hop delays of the first `n` tiles reach SHOW_NS (R336). -/
def State.showShort (s : State) (p n : Nat) : State :=
  s.iff (decide (s.rd (BLK_TIMING_SHOW_NS p) ≤ s.hopSum p n)) (·.wr (BLK_STATUS_SHOW_SHORT p) 1)

/-- Fill `BLK_TILE[n]` from the identity page (R351 step 4, Table 8-17); a page read again brings its HOP_NS (R355, R336). -/
def State.fillTile (s : State) (p n : Nat) (page : List Byte) : State :=
  let f := fun (o k : Nat) => leNat (slice page o k)
  let s := s.each (List.range 4) (fun j t => t.wr (BLK_TILE_SERIAL p n j) (f (0x10 + 4 * j) 4))
  let s := ((s.wr (BLK_TILE_W_M1 p n) (f 0x20 2)).wr (BLK_TILE_H_M1 p n) (f 0x22 2)).wr (BLK_TILE_CAPS p n) (f 0x24 4)
  let s := ((s.wr (BLK_TILE_HOP p n) (f 0x28 4)).wr (BLK_TILE_VENDOR_ID p n) (f 8 4)).wr (BLK_TILE_MODEL p n) (f 0xC 4)
  (s.modTile p n (fun t => { t with page := page })).iff (s.port p).enum.isNone (fun t => t.showShort p (t.rd (BLK_STATUS_TILES p)))

/-- A life record has been read (R361). -/
def State.fillLife (s : State) (p n : Nat) (life : List Byte) : State :=
  let ok := lifeOk (s.tile p n).page life
  (s.wr (BLK_TILE_LIFE_VALID p n) (b2n ok)).modTile p n (fun t => { t with life := life, cycles := if ok then some (leNat (slice life 0x20 4)) else t.cycles })

/-- The chain length is known: the positions that answered are PRESENT; LOST and SIZE_MISMATCH are cleared (Table 8-17). -/
def State.enumReach (s : State) (p n : Nat) : State :=
  let full := (s.port p).enum.any (fun e => e.full)
  let s := s.each (List.range 64) (fun (i : Nat) t =>
    let t := if i < n then t.wr (BLK_TILE_PRESENT p i) 1
      else ((t.rstAll (regsBlkTile p i)).modTile p i (fun _ => {}))
    ((t.wr (BLK_TILE_LOST p i) 0).wr (BLK_TILE_SIZE_MISMATCH p i) 0).modTile p i (fun r => { r with fails := 0, cycles := if full then none else r.cycles }))
  let s := s.wr (BLK_STATUS_TILES p) n
  let s := s.modPort p (fun r => { r with enum := r.enum.map (fun e => { e with reach := some n }) })
  (s.addTasks p ((List.range n).flatMap (fun (i : Nat) => [.ident i, .life i]))).pumpPort p

/-- The topology hash (R353). -/
def State.topoHash (s : State) (p n : Nat) : Nat :=
  leNat ((Config.sha3 (natLe 1 (s.gen p) ++ natLe 1 n ++ (List.range n).flatMap (fun (i : Nat) => padTo 64 ((s.tile p i).page)))).take 8)

/-- Set `BLK_TILE[n].AUTH`; a result other than PASS sets AUTH_FAIL (R358). -/
def State.authSet (s : State) (p n code : Nat) : State :=
  let s := s.wr (BLK_TILE_AUTH p n) code
  s.iff (code != 2 && code != 1 && code != 0) (·.wr (BLK_STATUS_AUTH_FAIL p) 1)

/-- Take up the next tile that waits for authentication (R357, R359): one without a certificate is NO_CERT at once. -/
def State.authNext (s : State) (p : Nat) : Nat → State
  | 0 => s
  | fuel + 1 =>
    match (s.port p).auth, (s.port p).authQ with
    | none, n :: rest =>
      let s := s.modPort p (fun r => { r with authQ := rest })
      if bitSet (byteAt (s.tile p n).page 6) 0 then
        let s := s.modPort p (fun r => { r with auth := some { n := n } })
        (s.addTasks p ((List.range 8).map (MgrTask.cert n))).pumpPort p
      else (s.authSet p n 3).authNext p fuel
    | _, _ => s

/-- Authenticate tiles; `show_` when they read PENDING meanwhile (R359). -/
def State.authTiles (s : State) (p : Nat) (l : List Nat) (show_ : Bool) : State :=
  let s := s.iff show_ (fun t => t.each l (fun n u => u.authSet p n 1))
  (s.modPort p (fun r => { r with authQ := r.authQ.filter (fun n => !l.contains n) ++ l })).authNext p 65

/-- Enumeration has ended with N tiles: hash, tallies, gains, the next state, authentication. -/
def State.enumEnd (s : State) (p n : Nat) : State :=
  let e := (s.port p).enum.getD {}
  let h := s.topoHash p n
  let old := (s.port p).hash
  let s := s.iff (h != old) (·.wr (BLK_STATUS_CHAIN_CHG p) 1)
  let s := (s.modPort p (fun r => { r with hash := h, enum := none, warm := false })).wr (BLK_TOPO_HASH_LO p) h
  let s := s.showShort p n
  let s := s.iff (e.full || e.warm) (fun t => t.each (List.range n) (fun i u => (u.tallySeed p i).agePort p i))
  let done := (s.port p).testEnd
  let s := ((s.wr (BLK_STATUS_BUSY p) 0).iff done (·.wr (BLK_STATUS_TEST_DONE p) 1)).modPort p (fun r => { r with testEnd := false })
  if n = 0 then (s.rowsGone p).wr (BLK_STATUS_STATE p) blkNOCHAIN
  else
    let up := s.portState p != blkACTIVE
    let s := s.iff up (fun t => (t.wr (BLK_STATUS_UP p) 1).modPort p (fun r => { r with fromOrd := t.canvas.ord }))
    let s := s.wr (BLK_STATUS_STATE p) blkACTIVE
    let s := s.iff (s.on (BLK_STATUS_ATTN p)) (fun t => t.addTasks p ((t.tilesOf p).map MgrTask.status))
    let changed := (List.range n).filter (fun (i : Nat) => (e.pages[i]?).getD [] != (s.tile p i).page || s.rd (BLK_TILE_AUTH p i) == 1)
    if e.warm then
      let saved := (s.port p).saved
      let s := s.each (List.range n) (fun i t => t.wr (BLK_TILE_AUTH p i) ((saved[i]?).getD 0))
      s.authTiles p (List.range n) false
    else if e.full then s.authTiles p (List.range n) true
    else s.authTiles p changed true

/-- Every tile has been read: another round while the chain is short (R351 step 5), the comparison of R354, or the end. -/
def State.enumRead (s : State) (p n : Nat) : State :=
  let e := (s.port p).enum.getD {}
  if n < s.rd (BLK_CHAIN_EXPECT p) ∧ e.rounds < 3 ∧ e.warm = false then s.enumRound p
  else if e.warm && s.topoHash p n != (s.port p).warmHash then
    (s.modPort p (fun r => { r with enum := some { full := true, pages := e.pages }, warm := false })).enumRound p
  else s.enumEnd p n

/-- The manager has no task left: enumeration goes on, or authentication does. -/
def State.mgrIdle (s : State) (p : Nat) : State :=
  let r := s.port p
  match r.trans, r.tasks, r.enum with
  | none, [], some e => match e.reach with | some n => s.enumRead p n | none => s
  | none, [], none => s.authNext p 65
  | _, _, _ => s

/-! ### Tiles that fail (R349) -/

/-- Begin ENUMERATE on a port in ACTIVE, whose STATE stays ACTIVE. -/
def State.enumCmd (s : State) (p : Nat) : State := (s.wr (BLK_STATUS_BUSY p) 1).enumStart p true false

/-- A transaction with tile `n` has failed: the third in a row marks it LOST (R349). -/
def State.tileFail (s : State) (p n : Nat) : State :=
  let s := s.modTile p n (fun t => { t with fails := t.fails + 1 })
  if (s.tile p n).fails = 3 ∧ s.on (BLK_TILE_PRESENT p n) ∧ ¬ s.on (BLK_TILE_LOST p n) ∧ (s.port p).enum.isNone then
    let s := ((s.wr (BLK_TILE_LOST p n) 1).wr (BLK_STATUS_CHAIN_CHG p) 1).raise { cls := 18, master := blkMaster p, addr := n }
    s.iff (s.on (BLK_CTL_AUTO_ENUM p) && s.portState p == blkACTIVE && !s.on (BLK_STATUS_BUSY p)) (·.enumCmd p)
  else s

/-! ### Authentication (R356–R359) -/

/-- A task of an authentication. -/
def MgrTask.isAuth : MgrTask → Bool
  | .cert _ _ => true
  | .challenge _ => true
  | .sig _ _ => true
  | _ => false

/-- Drop the authentication in progress and its tasks. -/
def State.authDrop (s : State) (p : Nat) : State :=
  s.modPort p (fun r => { r with auth := none, tasks := r.tasks.filter (fun t => !t.isAuth) })

/-- The authentication in progress ends with a result. (DEDUCED, log entry 58.) -/
def State.authEnd (s : State) (p code : Nat) : State :=
  match (s.port p).auth with
  | none => s
  | some a =>
    ((s.authDrop p).authSet p a.n code).authNext p 65

/-- The verdict on a certificate (R356, R357, Table 8-15): 2 when it verifies. -/
def State.certVerdict (s : State) (p : Nat) (a : AuthSt) : Nat :=
  let c := a.cert
  if c.take 4 ≠ [0x4B, 0x42, 0x54, 0x43] ∨ leNat (slice c 4 2) ≠ 1 then 3
  else if slice c 0x10 16 ≠ s.tileSerial p a.n then 4
  else
    match s.sec.issuers.find? (fun k => (Config.sha3 k).take 16 == slice c 0x20 16) with
    | none => 5
    | some k => if Config.mldsaVerify k (Config.sha3 (c.take 0xA50)) (slice c 0xA50 4627) then 2 else 4

/-- What a tile signs for a CHALLENGE (R357). -/
def challengeText (nonce serial : List Byte) : List Byte := Config.sha3 ([0x4B, 0x42, 0x41, 0x31] ++ nonce ++ serial)

/-- The security block completes a verification (R357). -/
def State.authVerifyDone (s : State) (p : Nat) : State :=
  match (s.port p).auth with
  | none => s
  | some a =>
    if a.verify = 1 then
      let v := s.certVerdict p a
      if v ≠ 2 then (s.authEnd p v).pumpPort p
      else
        let o := s.freeBytes 32
        let s := o.2.modPort p (fun r => { r with auth := some { a with verify := 0, nonce := o.1, since := s.elapsed } })
        (s.addTasks p [.challenge a.n]).pumpPort p
    else if a.verify = 2 then
      let ok := Config.mldsaVerify (slice a.cert 0x30 2592) (challengeText a.nonce (s.tileSerial p a.n)) a.sig
      (s.authEnd p (if ok then 2 else 6)).pumpPort p
    else s

/-- AUTH_VERIFY_DONE: on port `p`. -/
def execAuthVerifyDone (p : Fin 16) (s : State) : Host.Outcome State Fault Refusal := s.finish (s.authVerifyDone p)

/-- 1 ms after a BUSY answer: read again, or fail after 50 ms (R357). -/
def State.authPoll (s : State) (p : Nat) : State :=
  match (s.port p).auth with
  | none => s
  | some a =>
    match a.busyAt with
    | none => s
    | some t =>
      if s.elapsed < t + 1000000 then s
      else if a.since + 50000000 < s.elapsed then (s.authEnd p 6).pumpPort p
      else
        let s := s.modPort p (fun r => { r with auth := some { a with busyAt := none } })
        (s.addTasks p [.sig a.n (a.sig.length / 1024)]).pumpPort p

/-- AUTH_POLL: on port `p`. -/
def execAuthPoll (p : Fin 16) (s : State) : Host.Outcome State Fault Refusal := s.finish (s.authPoll p)

/-- An answer to a READ of the certificate, to CHALLENGE or to a READ of the signature. -/
def State.authAnswer (s : State) (p : Nat) (t : MgrTask) (status : Nat) (payload : List Byte) : State :=
  match (s.port p).auth, t with
  | some a, .cert _ part =>
    if status ≠ 0 then s.authEnd p 3
    else s.modPort p (fun r => { r with auth := some { a with cert := a.cert ++ payload, verify := if part = 7 then 1 else 0 } })
  | some a, .challenge n =>
    if status ≠ 0 then s.authEnd p 6
    else (s.modPort p (fun r => { r with auth := some { a with since := s.elapsed } })).addTasks p [.sig n 0]
  | some a, .sig n part =>
    if status = 3 then s.modPort p (fun r => { r with auth := some { a with busyAt := some s.elapsed } })
    else if status ≠ 0 then s.authEnd p 6
    else if part = 4 then s.modPort p (fun r => { r with auth := some { a with sig := a.sig ++ payload, verify := 2 } })
    else (s.modPort p (fun r => { r with auth := some { a with sig := a.sig ++ payload } })).addTasks p [.sig n (part + 1)]
  | _, _ => s

/-! ### Answers and failures -/

/-- A STATUS answer (R349, R355, Table 8-12). -/
def State.statusAnswer (s : State) (p n : Nat) (d : List Byte) : State :=
  let f := fun (o : Nat) => leNat (slice d o 4)
  let changed := f 0 != s.rd (BLK_TILE_SERIAL p n 0) || (s.tile p n).cycles.any (fun c => decide (c < f 4))
  let s := ((s.wr (BLK_TILE_TEMP p n) (f 8)).wr (BLK_TILE_ATTN p n) (b2n (f 0xC != 0))).wr (BLK_TILE_ROW_CRC_ERR p n) (f 0x10)
  let s := (s.wr (BLK_TILE_SYNC_MISSED p n) (f 0x14)).modTile p n (fun t => { t with cycles := some (f 4) })
  if changed then
    let mine := match (s.port p).auth with | some a => a.n == n | none => false
    let s := (((s.iff mine (·.authDrop p)).authSet p n 1).wr (BLK_STATUS_CHAIN_CHG p) 1).addTasks p [.ident n, .life n]
    s.modPort p (fun r => { r with authQ := r.authQ.filter (· != n) ++ [n] })
  else s

/-- The manager acts on an answer. -/
def State.taskAnswer (s : State) (p : Nat) (t : MgrTask) (status : Nat) (payload : List Byte) : State :=
  match t with
  | .ping n =>
    if (s.port p).enum.isNone then s else if n < 63 then s.addTasks p [.ping (n + 1)] else s.enumReach p 64
  | .ident n => s.fillTile p n (if status = 0 then payload else [])
  | .life n => s.fillLife p n (if status = 0 then payload else [])
  | .status n => if status = 0 then s.statusAnswer p n payload else s
  | .host => s.hostEnd p 0 status payload
  | .hours _ => s
  | .clear => s
  | .hop => s
  | t => s.authAnswer p t status payload

/-- The manager's transaction has failed. -/
def State.taskFail (s : State) (p : Nat) (t : MgrTask) : State :=
  match t with
  | .ping n => if (s.port p).enum.isNone then s else s.enumReach p n
  | .ident n => s.fillTile p n []
  | .life n => s.fillLife p n []
  | .cert _ _ => s.authEnd p 3
  | .challenge _ => s.authEnd p 6
  | .sig _ _ => s.authEnd p 6
  | .host => s.hostEnd p 1 0 []
  | .status _ => s
  | .hours _ => s
  | .clear => s
  | .hop => s

/-- An intact MRSP arrives (R343): it ends the outstanding transaction when it carries its SEQ. -/
def State.mrsp (s : State) (p seq status : Nat) (payload : List Byte) : State :=
  match (s.port p).trans with
  | none => s
  | some t =>
    if t.unsent ∨ t.seq ≠ seq ∨ 4608 < payload.length then s
    else
      let s := (s.modPort p (fun r => { r with trans := none })).iff (decide (t.addr < 64)) (·.modTile p t.addr (fun q => { q with fails := 0 }))
      ((s.taskAnswer p t.task status payload).mgrIdle p).pumpPort p

/-- MRSP_RECEIVED: port, SEQ, STATUS and payload of an intact response. -/
def execMrspReceived (p : Fin 16) (seq : Fin 256) (status : Fin 256) (payload : List Byte) (s : State) :
    Host.Outcome State Fault Refusal := s.finish (s.mrsp p seq status payload)

/-- The outstanding transaction has failed. -/
def State.transFail (s : State) (p : Nat) (t : Trans) : State :=
  let s := ((s.wr (BLK_STATUS_MGMT_FAIL p) 1).bump (BLK_MGMT_FAIL_CNT p)).modPort p (fun r => { r with trans := none })
  let s := s.taskFail p t.task
  let s := s.iff (decide (t.addr < 64)) (·.tileFail p t.addr)
  (s.mgrIdle p).pumpPort p

/-- No response within TO_US of the end of the request (R345). -/
def State.mgmtTimeout (s : State) (p : Nat) : State :=
  match (s.port p).trans with
  | none => s
  | some t =>
    if t.unsent ∨ s.elapsed < t.endAt + 1000 * max 1 (s.rd (BLK_MGMT_TO_US p)) then s
    else if t.left = 0 then s.transFail p t
    else (s.bump (BLK_MGMT_RETRY_CNT p)).resend p { t with left := t.left - 1 }

/-- MGMT_TIMEOUT: on port `p`. -/
def execMgmtTimeout (p : Fin 16) (s : State) : Host.Outcome State Fault Refusal := s.finish (s.mgmtTimeout p)

/-! ### RL and polling (R328, R342, R349) -/

/-- The RL receiver gains or loses symbol lock; it runs from step 1 of Table 8-7 on. -/
def State.rlLock (s : State) (p : Nat) (lock : Bool) : State :=
  let r := s.port p
  if s.portState p = blkOFF ∨ r.lock = lock then s
  else if lock then s.modPort p (fun r => { r with lock := true, lostAt := none })
  else (s.modPort p (fun r => { r with lock := false, lostAt := some s.elapsed })).wr (BLK_STATUS_RL_LOSS p) 1

/-- RL_SYMBOL_LOCK_CHANGE: port `p` gains (true) or loses lock, and the 8b/10b code and disparity errors since the last change. -/
def execRlSymbolLockChange (p : Fin 16) (lock : Bool) (errs : Word) (s : State) : Host.Outcome State Fault Refusal :=
  s.finish ((s.iff (s.portState p != blkOFF) (·.bump (BLK_RL_CODE_ERR p) errs.toNat)).rlLock p lock)

/-- Lock lost for 10 ms with AUTO_ENUM 1 (R342). -/
def State.rlLoss (s : State) (p : Nat) : State :=
  match (s.port p).lostAt with
  | none => s
  | some t =>
    if t + 10000000 ≤ s.elapsed ∧ s.on (BLK_CTL_AUTO_ENUM p) ∧ (s.portState p = blkACTIVE ∨ s.portState p = blkENUM) then s.retrain p
    else s

/-- RL_LOSS: of port `p`. -/
def execRlLoss (p : Fin 16) (s : State) : Host.Outcome State Fault Refusal := s.finish (s.rlLoss p)

/-- The next tile to poll, in turn (R349). (DEDUCED, log entry 58.) -/
def State.pollDue (s : State) (p : Nat) : State :=
  let l := s.tilesOf p
  if s.portState p ≠ blkACTIVE ∨ (s.port p).enum.isSome then s
  else
    match l.find? (fun n => decide ((s.port p).pollNext ≤ n)), l with
    | some n, _ => ((s.modPort p (fun r => { r with pollNext := n + 1 })).addTasks p [.status n]).pumpPort p
    | none, n :: _ => ((s.modPort p (fun r => { r with pollNext := n + 1 })).addTasks p [.status n]).pumpPort p
    | none, [] => s

/-- POLL_DUE: on port `p`. -/
def execPollDue (p : Fin 16) (s : State) : Host.Outcome State Fault Refusal := s.finish (s.pollDue p)

/-- ATTN in the idle sets on RL changes (R328); 1 starts a full round of STATUS (R349). -/
def State.attnSet (s : State) (p : Nat) (v : Bool) : State :=
  if s.portState p = blkOFF then s
  else
    let s := s.wr (BLK_STATUS_ATTN p) (b2n v)
    if v && s.portState p == blkACTIVE && (s.port p).enum.isNone then (s.addTasks p ((s.tilesOf p).map MgrTask.status)).pumpPort p
    else s

/-- ATTN_SET: port `p`, the level of ATTN. -/
def execAttnSet (p : Fin 16) (v : Bool) (s : State) : Host.Outcome State Fault Refusal := s.finish (s.attnSet p v)

/-! ### Port commands (R363, Table 8-18) -/

/-- A command is accepted: the block can be reached, BUSY is 0 and the state is one of the list. (DEDUCED, log entry 50.) -/
def State.cmdOk (s : State) (p : Nat) (l : List Nat) : Bool := !s.on (BLK_STATUS_BUSY p) && l.contains (s.portState p)

/-- Run a command, or reject it. An access that does not reach the block has no effect. -/
def State.blkCmd (s : State) (p : Nat) (ok : Bool) (f : State → State) : State :=
  if s.unitUp (blkMaster p) then (if ok then f s else s.wr (BLK_STATUS_CMD_REJECT p) 1) else s

/-- BLK_NOP: no action; rejected while BUSY is 1 as every command is. -/
def execBlkNop (p : Fin 16) (s : State) : Host.Outcome State Fault Refusal :=
  s.finish (s.blkCmd p (!s.on (BLK_STATUS_BUSY p)) id)

/-- RETRAIN. -/
def execRetrain (p : Fin 16) (s : State) : Host.Outcome State Fault Refusal :=
  s.finish (s.blkCmd p (s.cmdOk p [blkACTIVE, blkNOCHAIN]) (fun t => (t.wr (BLK_STATUS_BUSY p) 1).retrain p))

/-- ENUMERATE. -/
def execEnumerate (p : Fin 16) (s : State) : Host.Outcome State Fault Refusal :=
  s.finish (s.blkCmd p (s.cmdOk p [blkACTIVE]) (·.enumCmd p))

/-- REAUTH. -/
def execReauth (p : Fin 16) (s : State) : Host.Outcome State Fault Refusal :=
  s.finish (s.blkCmd p (s.cmdOk p [blkACTIVE]) (fun t => t.authTiles p (t.tilesOf p) true))

/-- The degree of a test pattern and its arguments (R365). -/
def State.testArgs (s : State) (p : Nat) : List Byte :=
  natLe 1 (s.rd (BLK_TEST_PATTERN p)) ++ natLe 1 (s.rd (BLK_TEST_LANES p)) ++
    natLe 2 (max 1 (s.rd (BLK_TEST_DURATION_US p))) ++ natLe 1 (if s.rd (BLK_TEST_MODE p) = 2 then s.rd (BLK_TEST_TILE p) else 0xFF)

/-- A test starts (R365, R366): the TEST broadcast in modes FAR and RL, then the pattern. -/
def State.testStart (s : State) (p : Nat) : State :=
  let mode := s.rd (BLK_TEST_MODE p)
  let us := max 1 (s.rd (BLK_TEST_DURATION_US p))
  let lanes := s.rd (BLK_TEST_LANES p)
  let s := (s.mgrStop p).rowsGone p
  let s := (s.each (List.range 5) (fun j t => t.wr (BLK_LANE_ERRCNT p j) 0)).wr (BLK_LANE_LOCK p) (if mode = 1 then lanes else 0)
  let seq := (s.port p).seq
  let s := if mode = 1 then s else
    ((s.fastExit p).sendCopies p seq { addr := 0xFE, op := 5, args := s.testArgs p }).modPort p (fun r => { r with seq := (seq + 1) % 256 })
  let start := max s.elapsed (s.port p).lineBusy + (if mode = 1 then 0 else 10000)
  let s := (s.modPort p (fun r => { r with testAt := start + 1000 * us, idle := false, burst := none })).wr (BLK_STATUS_STATE p) blkTEST
  let s := s.iff (mode == 1) (·.emit (.brodysDrive p true false))
  s.emit (.brodysTest p (if mode = 2 then 3 else s.rd (BLK_TEST_PATTERN p)) (if mode = 2 then 16 else if mode = 1 then 32 + lanes else lanes) us)

/-- TEST_START. -/
def execTestStart (p : Fin 16) (s : State) : Host.Outcome State Fault Refusal :=
  s.finish (s.blkCmd p (s.cmdOk p [blkACTIVE, blkNOCHAIN] && s.rd (BLK_TEST_MODE p) != 3) (·.testStart p))

/-- A test ends: what the RL checker found, when it locked, then the retrain (R365). -/
def State.testOver (s : State) (p : Nat) (rl : Option Nat) : State :=
  let s := match rl with
    | some n => if s.rd (BLK_TEST_MODE p) = 2 then (s.wr (BLK_LANE_ERRCNT p 4) (min n (2 ^ 32 - 1))).setBit (BLK_LANE_LOCK p) 4 else s
    | none => s
  ((s.wr (BLK_STATUS_BUSY p) 1).toTrain p true).modPort p (fun r => { r with testEnd := true })

/-- TEST_STOP: what the RL checker has counted, when it locked. -/
def execTestStop (p : Fin 16) (rl : Option Word) (s : State) : Host.Outcome State Fault Refusal :=
  s.finish (s.blkCmd p (s.cmdOk p [blkTEST]) (·.testOver p (rl.map BitVec.toNat)))

/-- TEST_END: DURATION_US has passed; what the RL checker has counted, when it locked. -/
def execTestEnd (p : Fin 16) (rl : Option Word) (s : State) : Host.Outcome State Fault Refusal :=
  s.finish (s.iff (s.portState p == blkTEST && decide ((s.port p).testAt ≤ s.elapsed)) (·.testOver p (rl.map BitVec.toNat)))

/-- A write of `BLK_TXCFG`; a change returns the port to training (R342). -/
def State.txcfg (s : State) (p w : Nat) : State :=
  if s.unitUp (blkMaster p) then
    let change := w % 16 != s.rd (BLK_TXCFG_SWING p) || w / 16 % 16 != s.rd (BLK_TXCFG_DEEMPH p)
    let s := (s.wr (BLK_TXCFG_SWING p) w).wr (BLK_TXCFG_DEEMPH p) (w / 16)
    let st := s.portState p
    s.iff (change && st != blkOFF && st != blkCLOCK) (fun t =>
      (t.iff (st == blkTEST) (·.modPort p (fun r => { r with testEnd := true }))).retrain p)
  else s

/-- TXCFG_WRITE: port `p`, the word written. -/
def execTxcfgWrite (p : Fin 16) (w : Word) (s : State) : Host.Outcome State Fault Refusal := s.finish (s.txcfg p w.toNat)

/-! ### Host transactions (R364) -/

/-- The device accepts the request. -/
def hostOpOk (op addr len : Nat) (args : List Byte) : Bool :=
  decide (len ≤ 1030) && (decide (addr < 0x40) || addr == 0xFE) &&
    (op == 0 || op == 1 || op == 3 || (decide (0x40 ≤ op) && decide (op < 0x80)) ||
     (op == 2 && decide (4 ≤ len) && decide (0x8000 ≤ leNat (args.take 4))))

/-- A write of `BLK_HM_CTL`. (DEDUCED, log entry 58.) -/
def State.hostMgmt (s : State) (p w : Nat) : State :=
  if s.on (BLK_HM_CTL_GO p) ∨ ¬ s.unitUp (blkMaster p) then s
  else
    let s := ((s.wr (BLK_HM_CTL_LEN p) (w / 65536)).wr (BLK_HM_CTL_OP p) (w / 256)).wr (BLK_HM_CTL_ADDR p) w
    if !bitSet w 31 then s
    else
      let len := w / 65536 % 2 ^ 13
      let buf := ((List.range 512).flatMap (fun (j : Nat) => natLe 4 (s.rd (BLK_HM_REQ p j))))
      let h : HostReq := { op := w / 256 % 256, addr := w % 256, args := buf.take len }
      if !hostOpOk h.op h.addr len h.args then s.hostEnd p 2 0 []
      else if s.portState p = blkOFF then s.hostEnd p 3 0 []
      else ((s.wr (BLK_HM_CTL_GO p) 1).modPort p (fun r => { r with host := some h })).pumpPort p

/-- HOST_MGMT: port `p`, the word written to `BLK_HM_CTL`. -/
def execHostMgmt (p : Fin 16) (w : Word) (s : State) : Host.Outcome State Fault Refusal := s.finish (s.hostMgmt p w.toNat)

/-! ### Injection (R367) -/

/-- Sixteenths of a ns in a UI. -/
def uiLen (g : Nat) : Nat := if g = 1 then 4 else if g = 2 then 2 else 1

/-- Invert one transmitted bit, which a NEAR checker counts. -/
def State.injectNow (s : State) (p : Nat) : State :=
  let l := s.rd (BLK_INJECT_LANE p)
  let st := s.portState p
  if l < 4 ∧ st ≠ blkOFF ∧ st ≠ blkCLOCK then
    let s := (s.modPort p (fun r => { r with injectAt := s.elapsed })).emit (.bitError p l)
    s.iff (st == blkTEST && s.rd (BLK_TEST_MODE p) == 1 && bitSet (s.rd (BLK_LANE_LOCK p)) l)
      (fun t => t.wr (BLK_LANE_ERRCNT p l) (min (2 ^ 32 - 1) (t.rd (BLK_LANE_ERRCNT p l) + 1)))
  else s

/-- A write of `BLK_INJECT`, or the next error of a periodic injection. -/
def State.inject (s : State) (p : Nat) (w : Option Nat) : State :=
  if !s.unitUp (blkMaster p) then s
  else
    match w with
    | some v =>
      let s := ((s.wr (BLK_INJECT_LANE p) v).wr (BLK_INJECT_MODE p) (v / 16)).wr (BLK_INJECT_PERIOD p) (v / 256)
      let s := s.iff (bitSet v 6) (·.wr (BLK_INJECT_MGMT_CRC p) 1)
      s.iff (s.rd (BLK_INJECT_MODE p) == 1 || s.rd (BLK_INJECT_MODE p) == 2) (·.injectNow p)
    | none =>
      let per := max 1024 (s.rd (BLK_INJECT_PERIOD p)) * uiLen (s.gen p)
      s.iff (s.rd (BLK_INJECT_MODE p) == 2 && decide (per ≤ 16 * (s.elapsed - (s.port p).injectAt))) (·.injectNow p)

/-- INJECT_ERROR: port `p`; the word written to `BLK_INJECT`, or none when a period has passed in mode 2. -/
def execInjectError (p : Fin 16) (w : Option Word) (s : State) : Host.Outcome State Fault Refusal :=
  s.finish (s.inject p (w.map BitVec.toNat))

/-- INJECT_MGMT_CRC: a write of 1 to `BLK_INJECT.MGMT_CRC`. -/
def execInjectMgmtCrc (p : Fin 16) (s : State) : Host.Outcome State Fault Refusal :=
  s.finish (s.iff (s.unitUp (blkMaster p)) (·.wr (BLK_INJECT_MGMT_CRC p) 1))

/-! ### Tallies, hash and SYNC -/

/-- Write the tallies into the life records of a port's tiles: those that answer and have HAS_LIFE (R360, R362). -/
def State.hoursOut (s : State) (p : Nat) : State :=
  let l := (s.tilesOf p).filter (fun n => bitSet (byteAt (s.tile p n).page 6) 1 && !s.on (BLK_TILE_LOST p n))
  if s.portState p = blkACTIVE then (s.addTasks p (l.map MgrTask.hours)).pumpPort p else s

/-- TALLY_WRITEBACK. -/
def execTallyWriteback (s : State) : Host.Outcome State Fault Refusal := s.finish (s.each (List.range 16) (fun p t => t.hoursOut p))

/-- TOPO_HASH_READ: a read of `BLK_TOPO_HASH_LO`. -/
def execTopoHashRead (p : Fin 16) (s : State) : Host.Outcome State Fault Refusal :=
  s.finish (s.latchPair (BLK_TOPO_HASH_LO p) (BLK_TOPO_HASH_HI p) (s.port p).hash)

/-- c_k + DELAY: late rows go, every port of the engine sends the SYNC of the frame (R314, R331), and waiting management
requests follow. (DEDUCED, log entry 56.) -/
def State.frameSync (s : State) (e : Nat) : State :=
  match (s.ply e).sync with
  | none => s
  | some q =>
    if s.elapsed < q.2.2 ∨ ¬ s.unitUp (plyMaster e) then s
    else
      let s := s.rowDeadline e
      let ps := (s.slotsOf e).map (s.slotPort e)
      let s := s.each ps (fun p t => t.sendSync p q.1)
      let s := s.modPly e (fun y => { y with sync := none })
      s.each ps (fun p t => (t.pumpPort p).idleCheck p)

/-- FRAME_SYNC_DUE: of engine `e`. -/
def execFrameSyncDue (e : Fin 2) (s : State) : Host.Outcome State Fault Refusal := s.finish (s.frameSync e)

end Sys2Proof.Machine
end

