-- ==== Sys2Proof/Machine/Refs.lean ====
section
/-! DEFINITION. Missing references and synthetic entries (R204–R206), and taint (R207, R209, Table 5-3). -/

namespace Sys2Proof.Machine

open R

/-! ### References (R204, R205) -/

/-- The context holds the reference: an AV1 slot that a frame occupies, else a reference picture of that order. -/
def Ctx.holdsRef (c : Ctx) (std : Nat) (r : Int) : Bool := (c.refOf std r).isSome

/-- The entry of a reference is synthetic. -/
def Ctx.synRef (c : Ctx) (std : Nat) (r : Int) : Bool :=
  c.pics.any (fun p => p.syn && (if std = 3 then p.slots.contains r.toNat else p.isRef && p.order == r))

/-- The picture a synthetic entry aliases: the latest in decode order that the context holds with outcome OK, provided that it has the
current size and chroma format; otherwise none. -/
def Ctx.aliasOf (c : Ctx) (f : PicFacts) : Option Pic :=
  (minBy (fun (p : Pic) => 2 ^ 64 - p.decSeq) (c.pics.filter (fun p => !p.syn && p.decSeq != 0 && p.outcome == 0))).filter
    (fun p => p.width == f.width && p.height == f.height && p.chroma == f.chroma)

/-- Create the synthetic entry of a missing reference, which taints the context (R207); without an alias it is a constant and has no
bobbin. -/
def State.synthOne (s : State) (n std : Nat) (f : PicFacts) (r : Int) : State :=
  let e : Pic := { order := r, slots := if std = 3 then [r.toNat] else [], isRef := true, syn := true, outcome := 1
                   width := f.width, height := f.height, chroma := f.chroma, depth := f.depth }
  let put := fun (s : State) (e : Pic) => (s.modCtx n (fun c => { c with pics := c.pics ++ [e] })).wr (STC_DAMAGE_TAINTED n) 1
  match (s.ctx n).aliasOf f with
  | none => put s e
  | some p =>
    let h := s.takeRef mCTX p.addr p.gen
    put h.2 (if h.1 then { e with addr := p.addr, gen := p.gen, area := p.area } else e)

/-- Create an entry for each reference that is not held; those created. -/
def State.synthRefs (s : State) (n std : Nat) (f : PicFacts) : List Int → List Int × State
  | [] => ([], s)
  | r :: l =>
    if (s.ctx n).holdsRef std r then s.synthRefs n std f l
    else
      let q := (s.synthOne n std f r).synthRefs n std f l
      (r :: q.1, q.2)

/-- A job that will be posted again leaves the decoded picture buffer as it was before it (R179): the entries that it created go. (DEDUCED, log entry 39.) -/
def State.undoSynth (s : State) (n : Nat) (l : List Int) : State :=
  let gone := fun (p : Pic) => p.syn && l.contains p.order
  let go := (s.ctx n).pics.filter (fun p => gone p && p.addr != 0)
  (s.modCtx n (fun c => { c with pics := c.pics.filter (fun p => !gone p) })).each go (fun p t => t.release mCTX p.addr p.gen)

/-! ### Taint (R207, R209) -/

/-- What a picture does to the taint of its context. -/
structure Taint where
  /-- TAINTED ends at this picture -/
  resync : Bool := false
  /-- the picture has no cause of its own and is CONCEALED all the same -/
  derived : Bool := false
  recovery : Option Int := none
  hiddenKey : List Nat := []
  craRasl : Bool := false
  deriving DecidableEq, Repr

/-- Table 5-3 applied to a picture; `own` says it has a concealing cause of its own, `dec` is its DEC_SEQ. -/
def taintOf (c : Ctx) (tainted own : Bool) (f : PicFacts) (dec : Nat) : Taint :=
  let rec' := if own then none else if tainted && f.point == 3 then (if c.recovery.isSome then c.recovery else f.recovery) else c.recovery
  let ends := tainted && !own && (f.point == 1 || rec' == some f.order)
  let rasl := c.craRasl && f.rasl
  { resync := ends, derived := !own && ((tainted && !ends) || rasl), recovery := if ends then none else rec'
    hiddenKey := if !own && f.point == 2 then c.hiddenKey ++ [dec] else c.hiddenKey
    craRasl := if ends then f.cra else if f.point == 1 then false else c.craRasl }

/-- The context's taint after a picture: a CONCEALED picture kept as a reference taints it, except the
RASL pictures of the CRA at which it ended. (DEDUCED, log entry 39.) -/
def State.applyTaint (s : State) (n : Nat) (t : Taint) (again : Bool) : State :=
  let s := s.modCtx n (fun c => { c with recovery := t.recovery, hiddenKey := t.hiddenKey, craRasl := t.craRasl })
  let s := s.iff t.resync (fun u => (u.wr (STC_DAMAGE_TAINTED n) 0).bump (STC_RESYNC_CNT n))
  s.iff again (·.wr (STC_DAMAGE_TAINTED n) 1)

end Sys2Proof.Machine
end

