-- ==== Sys2Proof/Machine/Spindle.lean ====
section
/-! DEFINITION. A job on a decode spindle up to the end of its parsing (R160–R193, 04_decode_spindles.md), the ends of a
job without a picture, yield points (R93–R98) and the stops of a job by a fault, a fence or a cut (R58, R82, R216). -/

namespace Sys2Proof.Machine

open R

/-! ### Outcomes and causes (Tables 4-11 and 5-5) -/

/-- Outcomes of Table 4-11. -/
def outOK : Nat := 0
def outCONCEALED : Nat := 1
def outNOOUTPUT : Nat := 2
def outDROPPED : Nat := 3
def outABORTED : Nat := 4
def outREJECTED : Nat := 5

/-- The lowest-valued of some causes, NONE when there is none (R218). (DEDUCED, log entry 39.) -/
def lowest (l : List Nat) : Nat := (minBy id l).getD 0

/-- Causes that lead to CONCEALED (Table 5-6). -/
def concealing (c : Nat) : Bool := (decide (1 ≤ c) && decide (c ≤ 12)) && c != 5

/-- The cause of units that no slice or tile covers (R208). (DEDUCED, log entry 39.) -/
def Chain.gapCause (c : Chain) : Nat := if c.trunc then 2 else if c.loss then 1 else 3

/-- The counters and events of a job that ends with an outcome (R219, R221, Table 5-6). -/
def State.countCauses (s : State) (n outcome : Nat) (causes : List Nat) (damaged : Nat) : State :=
  let s := s.iff (causes.any (fun c => decide (4 ≤ c) && decide (c ≤ 8))) (·.bump (STC_SYNTAX_CNT n))
  let s := s.iff (causes.contains 0x0B) (·.bump (STC_BUDGET_CNT n))
  let s := s.iff (causes.contains 0x0C) (·.bump (STC_MEMERR_CNT n))
  match outcome with
  | 1 => ((s.bump (STC_CONCEAL_CNT n)).bump (STC_UNITS_CNT n) damaged).wr (STC_DAMAGE_CONCEAL_EVT n) 1
  | 3 => s.bump (STC_DROP_CNT n)
  | 4 => s.bump (STC_ABORT_CNT n)
  | 5 => (s.bump (STC_REJECT_CNT n)).wr (STC_DAMAGE_REJECT_EVT n) 1
  | _ => s

/-- `SPD_LAST`, `SPD_PICS` and the counter event of an ended job. -/
def State.lastJob (s : State) (k n outcome cause : Nat) : State :=
  let s := ((s.wr (SPD_LAST_CTX k) n).wr (SPD_LAST_OUTCOME k) outcome).wr (SPD_LAST_CAUSE k) cause
  (s.bump (SPD_PICS k)).countUnit 0x042 k 1

/-! ### Leaving the spindle -/

/-- The job that spindle `k` leads and whose sequencer runs, in ON or on its way to a yield point in DRAINING: not held, not fenced. -/
def State.working (s : State) (k : Nat) : Option RunJob :=
  let r := s.spd k
  if r.held || s.fenced k || !(s.isl k == islON || s.isl k == islDRAINING) then none else r.cur

/-- The island of a spindle, or of the other half of its pair, is draining. -/
def State.drainsJob (s : State) (k : Nat) (j : RunJob) : Bool :=
  s.isl k == islDRAINING || (j.ganged && s.isl (k + 1) == islDRAINING)

/-- The job that spindle `k` leads and that goes on: while an island of it drains, its spindles issue no new request and do not
complete the picture (R33, R35). -/
def State.running (s : State) (k : Nat) : Option RunJob :=
  (s.working k).filter (fun j => !s.drainsJob k j)

/-- The spindle gives up its job, and the other half of a pair is free again. -/
def State.vacate (s : State) (k : Nat) : State :=
  let s := s.modSpd k (fun r => { r with cur := none, preempt := false, cancel := false, held := false })
  s.iff ((s.spd (k + 1)).gangLead == k + 1) (·.modSpd (k + 1) (fun r => { r with gangLead := 0 }))

/-- Give back what a job without a picture holds: its unread chain, its picture bobbin and a waiting allocation. -/
def State.dropJob (s : State) (k : Nat) (j : RunJob) : State :=
  let s := if j.parsed then s else s.releaseChain k j.job.chain
  match j.pic with
  | none => s
  | some p => s.release k p.1 p.2

/-- A job that left its spindle ends without a picture: counters, `SPD_LAST` and the list entry of R173. -/
def State.closeJob (s : State) (k : Nat) (j : RunJob) (outcome cause : Nat) (causes : List Nat) : State :=
  let n := j.job.ctx
  let s := (s.dropJob k j).modCtx n (fun c => { c with busyOn := 0, recovery := none })
  let s := (s.countCauses n outcome causes 0).bump (STC_SYNTH_CNT n) j.synths.length
  let s := s.lastJob k n outcome cause
  (s.listGone n outcome cause).drainEnd n

/-- The current job ends DROPPED, REJECTED or ABORTED; run-ahead is cancelled (R90, Table 5-6). -/
def State.endJob (s : State) (k outcome cause : Nat) : State :=
  match (s.spd k).cur with
  | none => s
  | some j =>
    let s := ((s.cancelAhead k).dropWait (.spdPic k)).vacate k
    s.closeJob k j outcome cause (cause :: j.causes)

/-- The extent guard of the spindle with master ID `m` blocked a write at an address: DEC_GUARD against the context, and the job that
spindle `k` leads ends ABORTED (R215, R216). -/
def State.guardTrip (s : State) (m k n addr : Nat) : State :=
  (s.raise { cls := 6, master := m, access := 1, ctx := n, names := true, addr := addr }).endJob k outABORTED 0x11

/-! ### The checks of a sequence (R160–R163) -/

/-- A picture exceeds Table 4-7. -/
def picOver (std : Nat) (f : PicFacts) : Bool :=
  let size := decide (8192 < f.width) || decide (4352 < f.height) || decide (35651584 < f.width * f.height)
  let parts := match std with
    | 0 => decide (1024 < f.slices)
    | 1 => decide (600 < f.slices) || decide (20 < f.tileW.length) || decide (22 < f.tileH.length)
    | 2 => decide (600 < f.slices) || decide (440 < f.tileW.length * f.tileH.length) || decide (20 < f.tileW.length) ||
      decide (600 < f.subs.length)
    | _ => decide (128 < f.tileW.length * f.tileH.length) || decide (64 < f.tileW.length)
  size || parts

/-- A sequence exceeds Table 4-7. -/
def seqOver (std : Nat) (q : SeqFacts) : Bool :=
  decide (8192 < q.maxW) || decide (4352 < q.maxH) || decide (35651584 < q.maxW * q.maxH) ||
    decide ((if std = 3 then 8 else 16) < q.dpb)

/-- A sequence exceeds the context's declaration (R162). -/
def State.declOver (s : State) (n : Nat) (q : SeqFacts) : Bool :=
  let decl := s.rd (STC_CODEC_CHROMA n) + 1
  let depth := if s.rd (STC_CODEC_DEPTH n) = 1 then 10 else 8
  let l := layoutOf q.maxW q.maxH q.chroma q.depth (s.on (STC_PIC_FMT_PLANAR n)) (s.on (STC_PIC_FMT_C16 n)) true
  !(q.chroma == decl || (q.chroma == 0 && decl == 1)) || decide (depth < q.depth) ||
    decide (s.rd (STC_PICSIZE_MAX_W n) < q.maxW) || decide (s.rd (STC_PICSIZE_MAX_H n) < q.maxH) ||
    decide (s.poolSize (s.rd (STC_POOLS_PIC n)) < l.total)

/-- The causes for which spindle `k` rejects the sequence of a picture: a Rejected item of Tables 4-3 to 4-6 or a standard without
microcode (R160), the declaration (R162), a limit (R161). What an SPS or sequence header signals is checked at the sequence start. -/
def State.rejects (s : State) (k n : Nat) (f : PicFacts) : List Nat :=
  let std := s.ctxStd n
  let p := (s.ctx n).parse std f
  let seq := (s.ctx n).newSeq std f
  let tools := rejected (f.tools ++ p.tools) || !bitSet (s.rd (SPD_CAPS_STD k)) std ||
    (match seq with | none => false | some q => rejected q.seq.tools)
  let decl := match seq with | none => false | some q => s.declOver n q.seq
  let limit := picOver std f || (match seq with | none => false | some q => seqOver std q.seq)
  (if tools then [0x0E] else []) ++ (if decl then [0x0F] else []) ++ (if limit then [0x10] else [])

/-- Apply the checks of a sequence start, or of a picture within a sequence (R161–R163): the cause for which the access
units of the sequence are rejected from here on, if any. A sequence start makes every region STALE (R190). The parameter sets of the
access unit take their places (R198), and an IRAP picture says what becomes of its RASL pictures (R206). -/
def State.seqCheck (s : State) (k n : Nat) (f : PicFacts) : State :=
  let std := s.ctxStd n
  let why := minBy id (s.rejects k n f)
  let sets := ((s.ctx n).parse std f).sets
  let skip := if f.point = 1 then f.noRasl else (s.ctx n).raslSkip
  match (s.ctx n).newSeq std f with
  | some q => s.modCtx n (fun c => { c with
      seq := q.seq, active := some q.body, grid := [], clean := [], rejecting := why, sets := sets, raslSkip := skip })
  | none => s.modCtx n (fun c => { c with rejecting := c.rejecting.orElse (fun _ => why), sets := sets, raslSkip := skip })

/-! ### Beginning a picture (R168 steps 2–4, R181, R185, R189, R204) -/

/-- Engagement after a picture's headers (Table 4-16). -/
def State.vsdUpdate (s : State) (n : Nat) (f : PicFacts) : State :=
  s.modCtx n (fun c => c.vsdUpdate (s.ctxStd n) (s.on (STC_PIC_FMT_AV1_CP n)) f)

/-- Whether viewport-scoped decode engages for a job's picture, the regions it reconstructs, and the regions of the picture: where it
does not engage those that the context keeps states for (R185, R189, R190). -/
def State.regionsFor (s : State) (j : RunJob) (f : PicFacts) : Bool × List Nat × List Rect :=
  let n := j.job.ctx
  let std := s.ctxStd n
  let c := s.ctx n
  let g := c.regionsOf std f
  if s.on (STC_CTL_VSD n) ∧ ¬ j.taken ∧ c.vsdMeets std f then
    (true, neededRegions g f.cropL f.cropT j.rect std (s.rd (STC_PIC_FMT_VSD_MARGIN n)), g)
  else
    let g := if c.grid.isEmpty ∨ f.point ≠ 0 then g else c.grid
    (false, List.range g.length, g)

/-- Ask for the picture bobbin in WAIT mode (R168 step 4). -/
def State.askPic (s : State) (k n : Nat) : State :=
  (s.modJob k (fun r => { r with phase := .waitBobbin })).allocWait {
    master := k, pool := s.rd (STC_POOLS_PIC n), timeoutUs := (s.spd k).set.allocTo, forWhom := .spdPic k }

/-- A picture begins: its missing references (R204), gang split (R84, R181–R183), regions, and its bobbin, which run-ahead may have
brought already (R89). -/
def State.beginPicture (s : State) (k : Nat) (j : RunJob) : State :=
  let n := j.job.ctx
  let f := j.facts
  let std := s.ctxStd n
  let y := s.synthRefs n std f f.refs
  let ps := f.parts std
  let serial := j.ganged && decide (ps.1.length < 2)
  let s := (y.2.vsdUpdate n f).iff serial (·.wr (STC_STATUS_GANG_SERIAL n) 1)
  let g := s.regionsFor j f
  let s := s.modJob k (fun r => { r with
    synths := y.1, serial := serial, wave := ps.2, split := splitPoint ps.1 f.units, rows := List.replicate f.rows 0
    engaged := g.1, regs := g.2.1, grid := g.2.2 })
  match j.pic with
  | some _ => s.modJob k (fun r => { r with phase := .recon })
  | none => s.askPic k n

/-- The headers of the current job have been read: checks, then the picture, or the wait for the end of parsing when there
is none. -/
def State.jobParse (s : State) (k : Nat) : State :=
  match (s.spd k).cur with
  | none => s
  | some j =>
    let n := j.job.ctx
    let f := j.facts
    let std := s.ctxStd n
    let p := (s.ctx n).parse std f
    let skip := (s.ctx n).skips std f
    let causes := j.causes ++ p.causes
    let s := (s.modJob k (fun r => { r with causes := causes, hdr := p, phase := .parse })).seqCheck k n f
    match (s.ctx n).rejecting with
    | some c => s.endJob k outREJECTED c
    | none =>
      if ¬ f.hasPicture ∨ skip then s
      else if p.parses then s.beginPicture k { j with causes := causes }
      else
        let l := if causes.isEmpty then [j.job.chain.gapCause] else causes
        (s.modJob k (fun r => { r with causes := l })).endJob k outDROPPED (lowest l)

/-- Run-ahead reads the headers of the next job (R86–R88): a picture that no check holds back gets a provisional bobbin at
once, or waits for commit when the pool has none. -/
def State.aheadStart (s : State) (k : Nat) (f : PicFacts) : State :=
  match (s.spd k).next with
  | none => s
  | some r =>
    if r.phase = .dispatched then
      let n := r.job.ctx
      let r := { r with facts := f, phase := .parse }
      let c := s.ctx n
      let ok := r.job.chain.complete && f.hasPicture && (c.parse (s.ctxStd n) f).parses && !c.skips (s.ctxStd n) f &&
        (s.rejects k n f).isEmpty && ((c.newSeq (s.ctxStd n) f).isSome || c.rejecting.isNone)
      if ok then
        let pool := s.rd (STC_POOLS_PIC n)
        let a := s.allocNow k pool true
        a.2.modSpd k (fun x => { x with next := some { r with pic := a.1, bobSize := a.2.poolSize pool } })
      else s.modSpd k (fun x => { x with next := some r })
    else s

/-- Parsing can go on: the chain is whole, or its first `n` bytes lie below FILL (R154). -/
def Chain.has (c : Chain) (n : Nat) : Bool := c.complete || (decide (0 < c.bytes) && decide (n ≤ c.bytes))

/-- A dispatched job reaches its spindle (R168 steps 1 and 2); one whose host-fed headers are still being copied waits
(R154). -/
def State.jobStart (s : State) (k : Nat) (f : PicFacts) : State :=
  match s.running k with
  | none => s
  | some j =>
    if j.phase = .dispatched then
      let s := s.modJob k (fun r => { r with facts := f, waitSince := s.elapsed })
      if j.job.chain.has f.headEnd then s.jobParse k
      else s.modJob k (fun r => { r with phase := .waitData, need := f.headEnd, back := .dispatched })
    else s.aheadStart k f

/-- JOB_START: on spindle `k`, with what the headers say. -/
def execJobStart (k : Fin 16) (f : PicFacts) (s : State) : Host.Outcome State Fault Refusal :=
  s.finishOnce (s.jobStart k f) (fun t => t.dispatch.encDispatch)

/-- The nanoseconds that a job has spent in WAIT_DATA (R211). -/
def State.waitedNs (s : State) (j : RunJob) : Nat := j.waited + (if j.phase = .waitData then s.elapsed - j.waitSince else 0)

/-- A job leaves WAIT_DATA: it reads its headers, or goes on where it stood. -/
def State.goOn (s : State) (k : Nat) (j : RunJob) : State :=
  let s := s.modJob k (fun r => { r with waited := s.waitedNs j })
  if j.back = .dispatched then s.jobParse k else s.modJob k (fun r => { r with phase := j.back })

/-- The host-fed data that a job in WAIT_DATA needs have been copied. -/
def State.dataArrived (s : State) (k : Nat) : State :=
  match s.running k with
  | none => s
  | some j => if j.phase = .waitData ∧ j.job.chain.has j.need then s.goOn k j else s

/-- DATA_ARRIVED: on spindle `k`. -/
def execDataArrived (k : Fin 16) (s : State) : Host.Outcome State Fault Refusal :=
  s.finishOnce (s.dataArrived k) (fun t => t.dispatch.encDispatch)

/-- The WAIT_DATA limit is exceeded (R211): the bytes not yet copied are absent, so that the headers and units are those of what has
been copied, and LOSS_AU is recorded. -/
def State.dataTimeout (s : State) (k : Nat) (f : PicFacts) : State :=
  match s.running k with
  | none => s
  | some j =>
    if j.phase = .waitData ∧ (s.spd k).set.dataTo * 1000 < s.waitedNs j then
      let p := (s.ctx j.job.ctx).parse (s.ctxStd j.job.ctx) f
      let s := s.modJob k (fun r => { r with
        causes := r.causes ++ [0x01], cutOff := true, hdr := { r.hdr with covered := p.covered }
        facts := if j.back = .dispatched then f else r.facts })
      s.goOn k j
    else s

/-- DATA_TIMEOUT: with what the headers say of the data that did arrive. -/
def execDataTimeout (k : Fin 16) (f : PicFacts) (s : State) : Host.Outcome State Fault Refusal :=
  s.finishOnce (s.dataTimeout k f) (fun t => t.dispatch.encDispatch)

/-! ### Reconstruction (R168 steps 4–6, R192, R193) -/

/-- The layout of a job's picture. -/
def State.picLayout (s : State) (n : Nat) (f : PicFacts) : Layout := (s.geo n f.width f.height f.chroma f.depth).l

/-- Writes of the reconstruction pipeline, under the guard: a blocked one ends the job, an ERROR response is recorded
(R200, R215, R216). Whether the job goes on. -/
def State.reconWrites (s : State) (k : Nat) (j : RunJob) (ws : List PicWrite) : Bool × State :=
  match j.pic with
  | none => (true, s)
  | some p =>
    let n := j.job.ctx
    let g := s.geo n j.facts.width j.facts.height j.facts.chroma j.facts.depth
    let a := s.allWrites k j (s.ctxStd n) g ws
    let o := a.2.2.guarded k p.1 j.bobSize g.l a.2.1
    match o.2.1 with
    | some w => (false, o.2.2.guardTrip (if w.2 then k + 1 else k) k n (((p.1 : Int) + w.1).toNat))
    | none => (true, if a.1 || o.1 then o.2.2.modJob k (fun r => { r with causes := r.causes ++ [0x0C] }) else o.2.2)

/-- The picture bobbin is granted: the guard records it, and reconstruction begins. -/
def State.picAllocDone (s : State) (k : Nat) (ws : List PicWrite) : State :=
  match s.running k with
  | none => s
  | some j =>
    if j.phase = .waitBobbin then
      match s.takeAnswer (.spdPic k) with
      | (some r, t) =>
        if r.code = 0 then
          let j := { j with phase := .recon, pic := some (r.addr, r.word / 2 ^ 32)
                            bobSize := t.poolSize (t.rd (STC_POOLS_PIC j.job.ctx)) }
          ((t.modJob k (fun _ => j)).reconWrites k j ws).2
        else s
      | _ => s
    else s

/-- PIC_ALLOC_DONE: on spindle `k`, with the first writes of the picture. -/
def execPicAllocDone (k : Fin 16) (ws : List PicWrite) (s : State) : Host.Outcome State Fault Refusal :=
  s.finishOnce (s.picAllocDone k ws) (fun t => t.dispatch.encDispatch)

/-- The allocation was answered without a bobbin: the job ends DROPPED with NO_BOBBIN. -/
def State.picAllocTimeout (s : State) (k : Nat) : State :=
  match s.running k with
  | none => s
  | some j =>
    if j.phase = .waitBobbin then
      match s.takeAnswer (.spdPic k) with
      | (some r, t) => if r.code = 0 then s else t.endJob k outDROPPED 0x0D
      | _ => s
    else s

/-- PIC_ALLOC_TIMEOUT: on spindle `k`. -/
def execPicAllocTimeout (k : Fin 16) (s : State) : Host.Outcome State Fault Refusal :=
  s.finish ((s.picAllocTimeout k).dispatch).encDispatch

/-- Run-ahead of the context's next job begins (R85, R86), with the test of R73. -/
def State.aheadBegin (s : State) (k n : Nat) : State :=
  let st := s.ctxState n
  match (s.ctx n).posted with
  | [] => s
  | j :: rest =>
    let cls := s.ctxClass n
    let ovr := s.overruns j
    if s.on (STC_CTL_RUNAHEAD n) ∧ ¬ s.ganged n ∧ (s.spd k).next.isNone ∧ s.unitUp k ∧
        (st = ctxRUNNING ∨ st = ctxPAUSED ∨ st = ctxDRAINING) ∧ ¬ (s.cands k).any (fun c => decide (c.cls < cls)) then
      let s := (s.iff ovr (·.countOver n)).modCtx n (fun c => { c with posted := rest })
      s.modSpd k (fun x => { x with next := some { job := { j with ovr := ovr }, rect := s.fetchRect n, taken := s.encTakes n, ahead := true } })
    else s

/-- A job that holds no picture ends (R168, R206): nothing is written. `PARSE_END` finds it, or the end of its headers. -/
def State.endNoOutput (s : State) (k : Nat) (j : RunJob) : State :=
  let n := j.job.ctx
  let s := (s.vacate k).modCtx n (fun c => { c with busyOn := 0 })
  (s.countCauses n outNOOUTPUT j.causes 0).lastJob k n outNOOUTPUT 0

/-- An AV1 access unit shows an existing frame (R170, R178): the slot's picture is output with REPEAT, and a shown key frame
refreshes the slots named. (DEDUCED, log entry 38.) -/
def State.showExisting (s : State) (k n : Nat) (f : PicFacts) : State :=
  match f.showSlot with
  | none => s
  | some slot =>
    match (s.ctx n).pics.find? (fun p => p.slots.contains slot && !p.syn) with
    | none => s
    | some p =>
      let s := s.modCtx n (fun c => { c with
        outs := c.outs ++ [{ dec := p.decSeq, again := true, spd := k }]
        pics := c.pics.map (fun q =>
          if q.decSeq = p.decSeq ∧ ¬ q.syn then
            { q with awaits := true, isRef := true, slots := q.slots ++ f.refresh.filter (fun i => !q.slots.contains i) }
          else
            let l := q.slots.filter (fun i => !f.refresh.contains i)
            { q with slots := l, isRef := if q.slots.isEmpty then q.isRef else !l.isEmpty }) })
      (s.pumpAll n).settlePics n

/-! ### Commit (R89) -/

/-- Another job with an earlier deadline, in the same class or a higher one, is eligible for the spindle. -/
def State.aheadBeaten (s : State) (k : Nat) (j : Job) : Bool :=
  let cls := if j.ovr then 1 else s.ctxClass j.ctx
  (s.cands k).any (fun c => c.job.ctx != j.ctx && decide (c.cls ≤ cls) && decide (c.job.d < j.d))

/-- Commit run-ahead: the flags are cleared and the job goes on as the current one. (DEDUCED, log entry 38.) -/
def State.aheadCommit (s : State) (k : Nat) (r : RunJob) : State :=
  let s := match r.pic with
    | none => s
    | some p => s.poolServe { master := k, op := 4, addr := p.1, newTag := k, clrProv := true }
  let s := (s.modSpd k (fun x => { x with next := none })).putOn k { r with waitSince := s.elapsed }
  let s := s.countUnit 0x044 k 1
  if r.phase = .dispatched then s
  else if r.job.chain.has r.facts.headEnd then s.jobParse k
  else s.modJob k (fun x => { x with phase := .waitData, need := r.facts.headEnd, back := .dispatched })

/-- The picture before it is ready: run-ahead is committed, or cancelled when its status invalidates what run-ahead read
or the commit condition fails (R89, R90). -/
def State.aheadEnd (s : State) (k : Nat) (bad : Bool) : State :=
  match (s.spd k).next with
  | none => s
  | some r => if bad || s.aheadBeaten k r.job || !s.unitUp k then s.cancelAhead k else s.aheadCommit k r

/-! ### The end of parsing (R168 step 6) -/

/-- What is left of some units (first and count) without those of another such span. -/
def cutSpan (l : List (Nat × Nat)) (c : Nat × Nat) : List (Nat × Nat) :=
  (l.flatMap (fun a =>
    let hi := max a.1 (c.1 + c.2)
    [(a.1, min a.2 (c.1 - a.1)), (hi, a.1 + a.2 - hi)])).filter (fun a => a.2 != 0)

/-- The units of some spans. -/
def unitsIn (l : List (Nat × Nat)) : List Nat := l.flatMap (fun a => (List.range a.2).map (· + a.1))

/-- The units of the picture that no slice or tile that parsed covers (R208). -/
def RunJob.uncovered (j : RunJob) : List Nat := unitsIn (j.hdr.covered.foldl cutSpan [(0, j.facts.units)])

/-- A unit that parsing still answers for: not skipped, and of a half whose budget has not run out. -/
def RunJob.open_ (j : RunJob) (u : Nat) : Bool := j.works u && !j.cut.contains (j.half u)

/-- What parsing found becomes part of the job (R197, R201, R208); `bad` are the units at which a read of the chain failed (R200).
Units that only slices discarded for a fault of their own would have covered are concealed without a further cause. (DEDUCED, log
entry 72.) -/
def withParse (j : RunJob) (p : ParseFacts) (bad : List Nat) : RunJob :=
  let damage := p.damage.filter j.open_
  let holes := j.uncovered.filter j.open_
  let gap := (unitsIn ((j.hdr.covered ++ j.hdr.lost).foldl cutSpan [(0, j.facts.units)])).any j.open_
  let conc := j.conc ++ (j.facts.concealed (damage ++ bad ++ holes)).filter j.open_
  { j with
    parsed := true, conc := conc, damaged := conc.length
    causes := j.causes ++ (if damage.isEmpty then [] else [0x08]) ++ (if bad.isEmpty then [] else [0x0C]) ++
      (if gap then [j.job.chain.gapCause] else []) }

/-- Read the chain as parsing does; the units being parsed at the bobbins whose read receives an ERROR response (R200). -/
def State.chainReads (s : State) (k : Nat) (p : ParseFacts) (size bytes : Nat) : Nat → List (Nat × Nat) → List Nat × State
  | _, [] => ([], s)
  | i, b :: r =>
    let o := s.busProbe k 0 b.1 (64 + min (size - 64) (bytes - i * (size - 64))) true
    let q := o.2.chainReads k p size bytes (i + 1) r
    (if o.1 = 0 then q.1 else p.reading.getD i 0 :: q.1, q.2)

/-- Parsing ends: the chain is released; a job without a picture ends, and run-ahead may begin. A chain still being copied has not been
parsed to its end. -/
def State.parseEnd (s : State) (k : Nat) (p : ParseFacts) : State :=
  match s.running k with
  | none => s
  | some j =>
    if j.parsed ∨ ¬ (j.job.chain.complete ∨ j.cutOff) then s
    else match j.phase with
      | .parse =>
        let s := ((s.releaseChain k j.job.chain).showExisting k j.job.ctx j.facts).endNoOutput k j
        (s.aheadEnd k (j.causes.any (fun c => decide (4 ≤ c) && decide (c ≤ 7)))).drainEnd j.job.ctx
      | .recon =>
        let o := s.chainReads k p (s.poolSize (s.rd (STC_POOLS_AU j.job.ctx))) j.job.chain.bytes 0 j.job.chain.bobs
        let s := (o.2.releaseChain k j.job.chain).modJob k (fun r => withParse r p o.1)
        s.aheadBegin k j.job.ctx
      | _ => s

/-- PARSE_END: on spindle `k`, with what parsing found. -/
def execParseEnd (k : Fin 16) (p : ParseFacts) (s : State) : Host.Outcome State Fault Refusal :=
  s.finishOnce (s.parseEnd k p) (fun t => t.dispatch.encDispatch)

/-! ### The cycle budget (R192, R193) -/

/-- The weight w of Table 4-8 as a fraction, by the record's chroma code. -/
def weightOf (chroma : Nat) : Nat × Nat :=
  match chroma with
  | 2 => (1, 1)
  | 3 => (4, 3)
  | _ => (4, 5)

/-- The allowance A: slack, coded bits, and the units started as pairs of how many and their luma samples. (DESIGN CHOICE, log entry 60.) -/
def allowance (set : SpdSet) (chroma bits : Nat) (units : List (Nat × Nat)) : Nat :=
  let w := weightOf chroma
  set.slack * 1024 + cdiv (set.mult * 4 * bits) 48 +
    units.foldl (fun a u => a + u.1 * cdiv (set.mult * u.2 * w.1) (16 * w.2)) 0

/-- The last `n` of the units that a half has to decode. -/
def RunJob.lastUnits (j : RunJob) (half n : Nat) : List Nat :=
  let l := (List.range j.facts.units).filter (fun u => j.half u == half && j.works u)
  l.drop (l.length - n)

/-- The cycle count of a spindle exceeds its allowance: it stops, and the remaining units of its own part are concealed; once no part
goes on, parsing has ended. -/
def State.budgetOut (s : State) (k cycles bits : Nat) (units : List (Nat × Nat)) (remaining : Nat) : State :=
  let lead := if (s.spd k).gangLead = 0 then k else (s.spd k).gangLead - 1
  let half := k - lead
  match s.running lead with
  | none => s
  | some j =>
    if j.phase = .recon ∧ ¬ j.cut.contains half ∧ (half = 0 ∨ ¬ j.serial) ∧
        allowance (s.spd k).set j.facts.chroma bits units < cycles then
      let cut := half :: j.cut
      let done := j.parsed || !j.ganged || j.serial || decide (2 ≤ cut.length)
      let s := if done ∧ ¬ j.parsed then s.releaseChain lead j.job.chain else s
      let conc := j.conc ++ (j.lastUnits half remaining).filter (fun u => !j.conc.contains u)
      s.modJob lead (fun r => { r with
        parsed := done, budget := true, cut := cut, causes := r.causes ++ [0x0B], conc := conc, damaged := conc.length })
    else s

/-- BUDGET_EXHAUSTED: on spindle `k`, with its cycle count C, the coded bits consumed, the units started and the units not
yet decoded. -/
def execBudgetExhausted (k : Fin 16) (cycles bits : Nat) (units : List (Nat × Nat)) (remaining : Nat) (s : State) :
    Host.Outcome State Fault Refusal :=
  s.finish (s.budgetOut k cycles bits units remaining)

/-! ### Yield points (R93–R98) -/

/-- The spindle suspends its job (R96, R97); its run-ahead is cancelled (R90). -/
def State.suspend (s : State) (k : Nat) (j : RunJob) : State :=
  let waited := s.waitedNs j
  let s := (s.cancelAhead k).vacate k
  let s := s.modSpd k (fun r => { r with suspended := r.suspended ++ [{ j with waited := waited }] })
  s.countUnit 0x046 k 1

/-- A request of the spindle for its picture bobbin is parked. -/
def State.picParked (s : State) (k : Nat) : Bool := s.pool.parked.any (fun p => p.req.forWhom == .spdPic k)

/-- The sequencer of spindle `k` goes on from a yield point: it waits for host-fed data that it needs and that lie beyond FILL
(R154), and of a wavefront picture the units that it has completed count (R183). -/
def State.passYield (s : State) (k : Nat) (y : YieldOp) : State :=
  let lead := if (s.spd k).gangLead = 0 then k else (s.spd k).gangLead - 1
  match s.running lead with
  | none => s
  | some j =>
    let s := if j.ganged ∧ j.wave ∧ ¬ j.serial then
        s.modJob lead (fun r => { r with rows := advanceRows j.facts.cols (k - lead) r.rows y.done })
      else s
    if (j.phase = .parse ∨ j.phase = .recon) ∧ ¬ j.parsed ∧ ¬ j.cutOff ∧ ¬ j.job.chain.has y.need then
      s.modJob lead (fun r => { r with phase := .waitData, need := y.need, back := j.phase, waitSince := s.elapsed })
    else s

/-- Decode spindle `k` reaches a yield point: a cancel, a drain or a preemption that is asked for takes effect, in this order where
several are (DESIGN CHOICE, log entry 69). A job that waits for its bobbin reaches none, but for a drain once its request has been
answered. (DEDUCED, log entry 38.) -/
def State.yieldDec (s : State) (k : Nat) (y : YieldOp) : State :=
  match s.working k with
  | none => s.passYield k y
  | some j =>
    if j.phase = .waitBobbin ∧ ¬ (s.drainsJob k j ∧ ¬ s.picParked k) then s
    else if (s.spd k).cancel then s.endJob k outABORTED 0x15
    else if s.drainsJob k j then s.modSpd k (fun r => { r with held := true })
    else if (s.spd k).preempt ∧ (s.spd k).suspended.length < 8 then s.suspend k j
    else s.passYield k y

/-- Encode spindle `k` reaches a yield point: the picture of a FAULTED session is dropped (R58), and a draining island holds its work
(R35). -/
def State.yieldEnc (s : State) (k : Nat) : State :=
  let p := s.spe k
  if (p.cur.map (·.stop)).getD false && !s.fenced (0x10 + k) then match p.cur with | some j => s.encStopped k j | none => s
  else if s.isl (16 + k) == islDRAINING && !s.fenced (0x10 + k) && (p.cur.isSome || p.stripe.isSome) then
    s.modSpe k (fun r => { r with held := true })
  else s

/-- YIELD_POINT_REACHED: by master ID, 0–15 decode and 16–19 encode spindles. -/
def execYieldPointReached (y : YieldOp) (s : State) : Host.Outcome State Fault Refusal :=
  s.finish (if y.m.val < 16 then ((s.yieldDec y.m y).dispatch).encDispatch else (s.yieldEnc (y.m - 16)).encDispatch)

/-! ### Stops from outside -/

/-- The suspended jobs of a context on a spindle end ABORTED with ABORT_FAULT. -/
def State.endSuspended (s : State) (k n : Nat) : State :=
  let l := (s.spd k).suspended.filter (fun r => r.job.ctx == n)
  let s := s.modSpd k (fun x => { x with suspended := x.suspended.filter (fun r => r.job.ctx != n) })
  s.each l (fun j t => t.closeJob k j outABORTED 0x15 (0x15 :: j.causes))

/-- A STREAM-level fault names a context (R58): from RUNNING, PAUSED or DRAINING it enters FAULTED, its pending work is
cancelled and its job in progress stops at the next yield point. BUSY of a DRAINING context, whose end at FAULTED R57 does not give,
reads 0 (DESIGN CHOICE, log entry 65). -/
def State.ctxFault (s : State) (n : Nat) : State :=
  let st := s.ctxState n
  if st = ctxIDLE then s
  else
    let s := s.wr (STC_STATUS_FAULT n) 1
    if st = ctxRUNNING ∨ st = ctxPAUSED ∨ st = ctxDRAINING then
      let s := ((s.cancelPending n false).dropBuilding n).returnLoad n
      let s := (s.wr (STC_STATUS_STATE n) ctxFAULTED).wr (STC_STATUS_BUSY n) 0
      match (s.ctx n).busyOn with
      | 0 => s
      | k + 1 =>
        let mine := match (s.spd k).cur with | none => false | some j => j.job.ctx == n
        let s := s.iff mine (·.modSpd k (fun r => { r with cancel := true }))
        s.endSuspended k n
    else s

/-- A job abandoned by a fence (cause 0x13) or a cut (0x14) is reported and posted again (R82, R219, R220); its chain is
gone when parsing had released it (DEDUCED, log entry 30). One that was to be cancelled ends instead. `swept`: the owner sweep that
follows returns the picture bobbin (R179). -/
def State.abandonJob (s : State) (k : Nat) (j : RunJob) (cause : Nat) (cancel swept : Bool) : State :=
  if cancel then s.closeJob k j outABORTED 0x15 (0x15 :: j.causes)
  else
    let n := j.job.ctx
    let s := match j.pic with
      | none => s
      | some p => s.iff (!swept) (·.release k p.1 p.2)
    let s := s.undoSynth n j.synths
    let s := (s.bump (STC_ABORT_CNT n)).lastJob k n outABORTED cause
    s.repost (if j.parsed then { j.job with chain := { j.job.chain with bobs := [] } } else j.job)

/-- A fence or a cut takes the job of spindle `k`, its run-ahead and its suspended jobs (R82, R98). -/
def State.abandonSpd (s : State) (k cause : Nat) : State :=
  let lead := if (s.spd k).gangLead = 0 then k else (s.spd k).gangLead - 1
  let s := (s.cancelAhead lead).grainLost k
  let s := match (s.spd lead).cur with
    | none => s
    | some j =>
      let cancel := (s.spd lead).cancel
      ((s.dropWait (.spdPic lead)).vacate lead).abandonJob lead j cause cancel (lead == k)
  let l := (s.spd k).suspended
  (s.modSpd k (fun x => { x with suspended := [] })).each l (fun j t => t.abandonJob k j cause false true)

end Sys2Proof.Machine
end

