-- ==== Sys2Proof/Machine/Ready.lean ====
section
/-! DEFINITION. A picture becomes ready (R168 steps 7–11): references and taint (R204–R209), marking and output order (R170,
R178), the record (Table 4-10), region states (R190), and what follows for the spindle. -/

namespace Sys2Proof.Machine

open R

/-! ### Marking and output order (R170, R178) -/

/-- Output order: picture order count, then decode order. -/
def Pic.key (p : Pic) : Nat := ((p.order + 2 ^ 33).toNat) * 2 ^ 64 + p.decSeq

/-- Pictures of the output process that have not been released by it. -/
def Ctx.waiting (c : Ctx) : List Pic := c.pics.filter (fun p => p.awaits && !c.outs.any (fun o => o.dec == p.decSeq))

/-- Release one picture to output: the first in output order. (PRESUMED, log entry 51.) -/
def Ctx.outputFirst (c : Ctx) (k : Nat) : Ctx :=
  match minBy Pic.key c.waiting with
  | none => c
  | some p => { c with outs := c.outs ++ [{ dec := p.decSeq, spd := k }] }

/-- Output pictures while a condition asks for it. (PRESUMED, log entry 51.) -/
def Ctx.outputWhile (c : Ctx) (k : Nat) (cond : Ctx → Bool) : Nat → Ctx
  | 0 => c
  | m + 1 => if cond c && !c.waiting.isEmpty then (c.outputFirst k).outputWhile k cond m else c

/-- Pictures that occupy the decoded picture buffer: references and those that await output. (PRESUMED, log entry 51.) -/
def Ctx.full (c : Ctx) : Bool :=
  decide (c.seq.dpb ≤ (c.pics.filter (fun p => p.isRef || c.waiting.contains p)).length)

/-- A picture that empties the buffer (R178): an IDR, an IRAP with NoOutputBeforeRecoveryFlag or NoRaslOutputFlag 1, or an AV1 key
frame that refreshes every slot. -/
def flushes (std : Nat) (f : PicFacts) : Bool :=
  match std with
  | 0 => f.point == 1
  | 3 => (f.point == 1 || f.point == 2) && (List.range 8).all (fun i => f.refresh.contains i)
  | _ => f.point == 1 && f.noRasl

/-- At such a picture those awaiting output are output first, or end without output (R178). -/
def Ctx.flush (c : Ctx) (std k : Nat) (f : PicFacts) : Ctx :=
  if ¬ flushes std f then c
  else if f.dropPrior then
    let gone := c.waiting.map (·.decSeq)
    { c with pics := c.pics.map (fun p => if gone.contains p.decSeq ∧ ¬ p.syn then { p with awaits := false } else p) }
  else c.outputWhile k (fun _ => true) c.waiting.length

/-- AVC: the reference that the sliding window ends, once max_num_ref_frames are held: the earliest short-term one. (PRESUMED, log
entry 51.) (PRESUMED, log entry 51.) -/
def Ctx.slides (c : Ctx) : Option Pic :=
  let refs := c.pics.filter (·.isRef)
  if max 1 c.seq.refFrames ≤ refs.length then refs.find? (fun p => !p.longTerm) else none

/-- A picture that was a reference stays one under the marking of the new one: MMCO or the sliding window in AVC, the RPS or RPL in
HEVC and VVC. (PRESUMED, log entry 51.) -/
def Ctx.stays (c : Ctx) (std : Nat) (f : PicFacts) (p : Pic) : Bool :=
  !flushes std f &&
    (if std = 0 then
      !f.isRef || (match f.mmco with
        | some m => !m.1.contains p.order
        | none => c.slides != some p)
    else f.refs.contains p.order)

/-- The standard's reference marking on the pictures held before the new one. An older picture of the same identity is no reference
any longer, and an AV1 frame whose last slot is refreshed can no longer be shown (R178). -/
def Ctx.mark (c : Ctx) (std : Nat) (f : PicFacts) : Ctx :=
  { c with pics := c.pics.map (fun p =>
      if std = 3 then
        let l := p.slots.filter (fun i => !f.refresh.contains i)
        { p with slots := l, isRef := !l.isEmpty }
      else
        let long := match f.mmco with | some m => m.2.contains p.order | none => false
        { p with isRef := p.isRef && c.stays std f p && p.order != f.order, longTerm := p.longTerm || long }) }

/-- Output that a new picture brings (Annex C of the standards named in R170): AV1 outputs a shown frame at once, the others
bump by reorder depth and latency. (PRESUMED, log entry 51.) -/
def Ctx.bumpOut (c : Ctx) (std k : Nat) (f : PicFacts) (dec : Nat) : Ctx :=
  if std = 3 then (if f.shown then { c with outs := c.outs ++ [{ dec := dec, spd := k }] } else c)
  else
    let late := fun (c : Ctx) => match c.seq.latency with
      | none => false
      | some m => c.waiting.any (fun p => decide (m ≤ p.age))
    c.outputWhile k (fun c => decide (c.seq.reorder std < c.waiting.length) || late c) c.waiting.length

/-- A new picture enters the buffer: flush, marking, room, the picture itself, output. -/
def Ctx.addPic (c : Ctx) (std k : Nat) (f : PicFacts) (p : Pic) : Ctx :=
  let c := (c.flush std k f).mark std f
  let c := if std = 3 then c else c.outputWhile k Ctx.full c.waiting.length
  let c := if f.shown then
      { c with pics := c.pics.map (fun q => if q.awaits ∧ f.order < q.order then { q with age := q.age + 1 } else q) }
    else c
  ({ c with pics := c.pics ++ [p] } : Ctx).bumpOut std k f p.decSeq

/-! ### Regions (R190) -/

/-- The region states after a picture, and whether it reconstructed a STALE region without being a random-access point. -/
def Ctx.regionsAfter (c : Ctx) (f : PicFacts) (grid : List Rect) (regs : List Nat) : Bool × Ctx :=
  if grid.isEmpty then (false, c)
  else
    let clean := if c.grid = grid then c.clean else []
    let rap := f.point = 1 ∨ f.point = 3
    let after := if rap then regs else clean.filter (fun i => regs.contains i)
    (!decide rap && regs.any (fun i => !clean.contains i), { c with grid := grid, clean := after })

/-! ### The record (Table 4-10) -/

/-- What a record holds beside the facts of the picture. -/
structure RecordOf where
  dec : Nat := 0
  outcome : Nat := 0
  cause : Nat := 0
  flags : Nat := 0
  spindle : Nat := 0
  std : Nat := 0
  layoutBits : Nat := 0
  regions : Nat := 0
  decoded : Nat := 0
  concealed : Nat := 0
  cycles : Nat := 0
  ready : Nat := 0
  deriving DecidableEq, Repr

/-- The first half of the record. -/
def recordHead (x : RecordOf) (j : Job) (f : PicFacts) (l : Layout) : List Byte :=
  natLe 4 x.dec ++ natLe 4 0 ++ natLe 4 j.chain.auSeq ++ natLe 1 x.outcome ++ natLe 1 x.cause ++ natLe 1 x.spindle ++
    natLe 1 x.std ++ natLe 4 x.flags ++ natLe 2 f.width ++ natLe 2 f.height ++ natLe 2 f.cropL ++ natLe 2 f.cropR ++
    natLe 2 f.cropT ++ natLe 2 f.cropB ++ natLe 1 f.chroma ++ natLe 1 f.depth ++ natLe 2 x.layoutBits ++ natLe 4 l.pitchY ++
    natLe 4 l.pitchC ++ natLe 4 0 ++ natLe 4 l.offY ++ natLe 4 l.offCb ++ natLe 4 l.offCr ++ natLe 4 l.offMeta

/-- The 24 bytes of MDCV. -/
def mdcvBytes (m : PicMeta) : List Byte := (m.mdcv ++ List.replicate 24 0).take 24

/-- The second half of the record. AV1 signals no sample aspect ratio (R167). -/
def recordTail (x : RecordOf) (j : Job) (f : PicFacts) : List Byte :=
  let m := f.info
  let sar := if x.std = 3 then (0, 0) else (m.sarW, m.sarH)
  natLe 8 j.r ++ natLe 8 x.ready ++ natLe 8 0 ++ natLe 8 j.d ++ natLe 4 (ofSign 32 f.order) ++ natLe 4 j.chain.rtpTs ++
    natLe 2 x.regions ++ natLe 2 x.decoded ++ natLe 4 x.concealed ++ natLe 1 m.primaries ++ natLe 1 m.transfer ++
    natLe 1 m.matrix ++ natLe 1 m.fullRange ++ natLe 2 sar.1 ++ natLe 2 sar.2 ++ natLe 4 x.cycles ++ natLe 4 0 ++
    mdcvBytes m ++ natLe 2 m.maxCll ++ natLe 2 m.maxFall ++ List.replicate 100 0

/-- The flags of a picture (Table 4-12) that are known at step 8. -/
def recordFlags (j : RunJob) (f : PicFacts) (syn vsd catchup skipped late field resized : Bool) : Nat :=
  b2n (f.point == 1 || f.point == 3) + 2 * b2n syn + 4 * b2n vsd + 8 * b2n catchup + 16 * b2n field +
    64 * b2n skipped + 128 * b2n late + 256 * b2n j.job.ovr + 512 * b2n (j.ganged && !j.serial) +
    1024 * b2n j.serial + 2048 * b2n j.ahead + 4096 * b2n resized + 16384 * b2n j.budget

/-! ### Step 8 -/

/-- The LIVE picture is late (R100). -/
def State.isLate (s : State) (j : Job) : Bool :=
  s.ctxClass j.ctx == 0 && decide (j.r + s.rd (STC_PERIOD_PERIOD j.ctx) + 1500000 < s.devTime)

/-- `STC_VSD_STAT`, `SPD_VSD_SKIP` and the sample counter of a picture. (DEDUCED, log entry 52.) -/
def State.vsdCount (s : State) (k : Nat) (j : RunJob) : State :=
  let n := j.job.ctx
  let f := j.facts
  let total := if j.engaged then regionSamples j.grid (List.range j.grid.length) else f.width * f.height
  let done := if j.engaged then regionSamples j.grid j.regs else total
  let s := (s.wr (STC_VSD_STAT_REGIONS n) (if j.engaged then j.grid.length else 0)).wr (STC_VSD_STAT_DECODED n)
    (if j.engaged then j.regs.length else 0)
  let s := (s.wr (STC_VSD_STAT_ENGAGED n) (b2n j.engaged)).bump (SPD_VSD_SKIP k) ((total - done) / 256)
  s.countUnit 0x043 k (done / 256)

/-- The picture is written, shared and entered in the context's buffer; `causes` are its own. -/
def State.step8 (s : State) (k cycles : Nat) (j : RunJob) (pic : Nat × Nat) (causes : List Nat) : State :=
  let n := j.job.ctx
  let f := j.facts
  let std := s.rd (STC_CODEC_STANDARD n)
  let c := s.ctx n
  let dec := c.decSeq + 1
  let syn := f.reads.any (fun r => c.synRef std r)
  let causes := if syn then causes ++ [0x09] else causes
  let own := causes.any concealing
  let t := taintOf c (s.on (STC_DAMAGE_TAINTED n)) own f dec
  let causes := if t.derived then causes ++ [0x0A] else causes
  let outcome := if causes.any concealing then outCONCEALED else outOK
  let cause := if outcome = outOK then lowest causes else lowest (causes.filter concealing)
  let r := c.regionsAfter f j.grid j.regs
  let late := s.isLate j.job
  let planar := s.on (STC_PIC_FMT_PLANAR n)
  let c16 := s.on (STC_PIC_FMT_C16 n)
  let vsd := j.engaged && decide (j.regs.length < j.grid.length)
  let flags := recordFlags j f syn vsd r.1 (f.grain && !s.on (STC_PIC_FMT_GRAIN n)) late
    (c.seq.tools.contains .fieldSeq) (2 ≤ std && (f.width != c.seq.maxW || f.height != c.seq.maxH))
  let x : RecordOf := { dec := dec, outcome := outcome, cause := cause, flags := flags, spindle := k, std := std
                        layoutBits := b2n planar + 2 * b2n c16, regions := if j.engaged then j.grid.length else 0
                        decoded := if j.engaged then j.regs.length else 0, concealed := j.damaged, cycles := cycles
                        ready := s.stamp.1 }
  let s := (s.stamp.2.openWrite k pic.1 (recordHead x j.job f (s.picLayout n f) ++ recordTail x j.job f)).2
  let s := s.shareBy k pic.1 pic.2 0
  let isRef := if std = 3 then !f.refresh.isEmpty else f.isRef
  let p : Pic := { addr := pic.1, gen := pic.2, order := f.order, decSeq := dec, slots := f.refresh, isRef := isRef
                   awaits := f.shown, outcome := outcome, cause := cause, flags := flags, width := f.width
                   height := f.height, chroma := f.chroma, depth := f.depth, grain := f.grain
                   hidKey := f.point == 2, regs := j.regs
                   tFirst := j.job.chain.tFirst
                   area := if j.engaged then some (j.regs.map (fun i => (j.grid[i]?).getD {})) else none }
  let s := s.modCtx n (fun _ => { r.2 with decSeq := dec }.addPic std k f p)
  let s := s.applyTaint n t (outcome == outCONCEALED && isRef && !(c.craRasl && f.rasl))
  let s := ((s.countCauses n outcome causes j.damaged).bump (STC_SYNTH_CNT n) j.synths.length).vsdCount k j
  let s := s.iff late (fun t => (t.wr (STC_STATUS_LATE n) 1).bump (STC_LATE_CNT n))
  s.lastJob k n outcome cause

/-- All writes of a picture have been answered: step 8 to step 11, then the next job (R77, R89). -/
def State.pictureReady (s : State) (k : Nat) (rf : ReconFacts) : State :=
  match s.running k with
  | none => s
  | some j =>
    match j.pic with
    | none => s
    | some pic =>
      if j.phase = .recon ∧ j.parsed ∧ ¬ (s.spd k).cancel then
        let n := j.job.ctx
        let w := s.reconWrites k j rf.writes
        if w.1 then
          let bad := rf.memError || decide (1 < w.2.pathCode pic.1)
          let causes := ((w.2.spd k).cur.getD j).causes ++ (if bad then [0x0C] else [])
          let s := (w.2.step8 k rf.cycles j pic causes).pumpAll n
          let s := ((s.settlePics n).vacate k).modCtx n (fun c => { c with busyOn := 0 })
          (s.aheadEnd k (causes.any (fun c => decide (4 ≤ c) && decide (c ≤ 7)))).drainEnd n
        else w.2
      else s

/-- PICTURE_READY: on spindle `k`, with what reconstruction ends with. -/
def execPictureReady (k : Fin 16) (rf : ReconFacts) (s : State) : Host.Outcome State Fault Refusal :=
  s.finishOnce (s.pictureReady k rf) (fun t => t.dispatch.encDispatch)

end Sys2Proof.Machine
end

