-- ==== Sys2Proof/Machine/Fence.lean ====
section
/-! DEFINITION. Fences (R43–R48, Table 1-14, 01_architecture.md), power requests (R29–R42) and the watchdogs and parity
errors that lead to a fence (R210, R262, R538). -/

namespace Sys2Proof.Machine

open R

/-! ### Requests in flight -/

/-- Change every request queued in the memory controller. -/
def State.mapQueued (s : State) (f : FabReq → FabReq) : State :=
  let g := fun (m : MemReq) => { m with req := f m.req }
  { s with mem := { s.mem with
      xq := s.mem.xq.map (fun q => (q.1, q.2.map f))
      pch := s.mem.pch.map (fun q => (q.1, { q.2 with input := q.2.input.map g, entries := q.2.entries.map g })) } }

/-- Responses to a master's requests are discarded from now on, and requests that wait to be issued again are gone, but those that the
bobbin pool has taken up (R386). -/
def State.markDead (s : State) (m : Nat) : State :=
  let s := s.mapQueued (fun r => if r.master = m then { r with dead := true } else r)
  { s with fab := { s.fab with retry := s.fab.retry.filter (fun q => q.2.master != m || q.2.pooled) } }

/-! ### Fences -/

/-- The units that may be reset (R43). -/
def resettable (m : Nat) : Bool :=
  decide (m < 0x14) || [0x18, 0x19, 0x20, 0x21, 0x28, 0x29].contains m || (decide (0x48 ≤ m) && decide (m < 0x58))

/-- A power request for the master's island is in progress. -/
def State.pwrBusy (s : State) (m : Nat) : Bool :=
  match s.pwr.req, masterIsland m with
  | some r, some i => r.island == i
  | _, _ => false

/-- The island of the master is ON, or it has none. -/
def State.masterOn (s : State) (m : Nat) : Bool := match masterIsland m with | none => true | some i => s.islOn i && s.present i

/-- Bring the status registers of a spindle up to date. -/
def State.showUnit (s : State) (m : Nat) : State :=
  if m < 0x10 then s.showSpd m else if m < 0x14 then s.showSpe (m - 0x10) else s

/-- Steps 1 to 3 of Table 1-14: the unit is fenced; the jobs it has fail with TARGET_RESET and go back to the scheduler. -/
def State.startFence (s : State) (m : Nat) (cause : FenceCause) : State :=
  let f : Fence := { phase := .waitReplies, cause := cause, since := s.elapsed }
  let s := { s with pwr := { s.pwr with fences := smSet none s.pwr.fences m (some f), held := s.pwr.held.filter (· != m), stopped := s.pwr.stopped.filter (· != m) } }
  let s := s.markDead m
  let s := if m < 0x10 then s.abandonSpd m 0x13
    else if m < 0x14 then (s.encCut (m - 0x10)).stripeCut (m - 0x10)
    else if 0x48 ≤ m ∧ m < 0x58 then s.portOff (m - 0x48)
    else s
  ((s.showUnit m).dispatch).encDispatch

/-- The UNIT-level reaction of R44: a fence that joins, begins or is held. For a unit whose island is OFF with no request for it in
progress R44 gives none, and the reaction is dropped, as at entry to OFF (DESIGN CHOICE, log entry 63). -/
def State.fenceReact (s : State) (m : Nat) : State :=
  if !resettable m || s.fenced m then s
  else if s.masterOn m && !s.pwrBusy m then s.startFence m .fault
  else
    match masterIsland m with
    | none => s
    | some i =>
      if s.isl i = islOFF ∧ ¬ s.pwrBusy m then s
      else { s with pwr := { s.pwr with held := s.pwr.held.filter (· != m) ++ [m] } }

/-- A write of `PWR_UNIT_RST` with GO (R43, R44). -/
def State.unitReset (s : State) (m : Nat) : State :=
  if s.on PWR_UNIT_RST_GO then s
  else
    let s := s.wr PWR_UNIT_RST_MASTER m
    if resettable m && s.masterOn m && !s.pwrBusy m && !s.fenced m then (s.wr PWR_UNIT_RST_GO 1).startFence m .unitReset
    else s.wr PWR_STATUS_REJECTED 1

/-- UNIT_RESET: the master ID written with GO. -/
def execUnitReset (m : Fin 256) (s : State) : Host.Outcome State Fault Refusal := s.finish (s.unitReset m)

/-- A held fence begins (R44). -/
def State.fenceHeldStart (s : State) (m : Nat) : State :=
  if s.pwr.held.contains m && s.masterOn m && !s.pwrBusy m && !s.fenced m then s.startFence m .fault else s

/-- FENCE_HELD_START: of the unit with master ID `m`. -/
def execFenceHeldStart (m : Fin 256) (s : State) : Host.Outcome State Fault Refusal := s.finish (s.fenceHeldStart m)

/-- Step 5 of Table 1-14 begins. -/
def State.fenceToReset (s : State) (m : Nat) (f : Fence) : State :=
  { s with pwr := { s.pwr with fences := smSet none s.pwr.fences m (some { f with phase := .inReset, since := s.elapsed }) } }

/-- Every response owed to the unit has arrived. -/
def State.fenceReplies (s : State) (m : Nat) : State :=
  match s.fence m with
  | some f => if f.phase = .waitReplies ∧ ¬ s.queued.any (fun r => r.master == m) then s.fenceToReset m f else s
  | none => s

/-- FENCE_REPLIES_DONE: of the unit with master ID `m`. -/
def execFenceRepliesDone (m : Fin 256) (s : State) : Host.Outcome State Fault Refusal := s.finish (s.fenceReplies m)

/-- 65536 CK_FAB cycles have passed (Table 1-14 step 4). -/
def State.fenceTimeout (s : State) (m : Nat) : State :=
  match s.fence m with
  | some f => if f.phase = .waitReplies ∧ f.since + s.fabNs 65536 ≤ s.elapsed then s.fenceToReset m f else s
  | none => s

/-- FENCE_WAIT_TIMEOUT: of the unit with master ID `m`. -/
def execFenceWaitTimeout (m : Fin 256) (s : State) : Host.Outcome State Fault Refusal := s.finish (s.fenceTimeout m)

/-- The clock of a unit in kHz: its entry of the clock plan, or the maximum of Table 1-4 before one is in force (DESIGN CHOICE, log entry 6). -/
def State.unitKhz (s : State) (m : Nat) : Nat :=
  let c := fun (d max_ : Nat) => if s.rd (WRP_CLK d) = 0 then max_ else s.rd (WRP_CLK d)
  if m < 0x10 then c m 1600000
  else if m < 0x14 then c m 1600000
  else if m = 0x18 ∨ m = 0x19 then c (20 + (m - 0x18)) 1400000
  else if 0x48 ≤ m ∧ m < 0x58 then c (32 + (m - 0x48) / 4) 500000
  else s.fabKhz

/-- What the reset of a ply engine clears: its frames, its holds (R292) and a validation in progress. (DEDUCED, log entry 49.) -/
def State.plyClear (s : State) (e : Nat) : State :=
  let s := (s.plyBlank e).modPly e (fun y => { y with frames := [], sync := none, sending := false, valid := false })
  (s.wr (PLY_STATUS_QUIESCED e) 1).plyRelease e

/-- What the reset clears of a unit's sequencers and queues (R45). (DEDUCED, log entry 49.) -/
def State.fenceClear (s : State) (m : Nat) : State :=
  if m = 0x18 ∨ m = 0x19 then s.plyClear (m - 0x18)
  else if m = 0x20 then s.ingClear
  else if m = 0x21 then
    s.each (List.range 8) (fun e t =>
      ((t.modEgr e (fun r => { r with queue := [] })).each (t.egr e).queue (fun a u => u.releaseChain mEGR a.chain)))
  else s

/-- A unit goes on after its fence. -/
def State.fenceAfter (s : State) (m : Nat) : State :=
  let s := if m = 0x28 then s.fenceChans 0x28 else if m = 0x29 then s.fenceChans 0x29
    else if 0x48 ≤ m ∧ m < 0x58 then s.portUpNow (m - 0x48) else s
  s.showUnit m

end Sys2Proof.Machine
end

