-- ==== Sys2Proof/Machine/Ucode.lean ====
section
/-! DEFINITION. Microstores and nanostores (R536, R537, R540, R541, 15_startup_microcode_security.md). -/

namespace Sys2Proof.Machine

open R

/-! ### Words (R537, Table 15-13) -/

/-- NANO and LIT of a microword. -/
def microFields (w : Nat) : Nat × Nat := (bitsOf w 13 11, bitsOf w 0 13)

/-- The bit that makes the number of ones odd. -/
def oddParity (w : Nat) : Nat := ((List.range (w.log2 + 1)).foldl (fun (n : Nat) i => n + bitOf w i) 1) % 2

/-- The parity bit stored beside a microword. -/
def microParity (w : Nat) : Nat := if Config.microOdd then oddParity w else 1 - oddParity w

/-- Field k of a nanoword: SEQ, COND, ALU_A, ALU_B, BITS, ENTROPY, FABRIC, LITROUTE. -/
def nanoField (w k : Nat) : Nat := bitsOf w (20 * k) 20

/-- A nanoword as it is stored: its fields, with PARITY in bits [167:160], one bit for each. -/
def nanoStored (w : Nat) : Nat :=
  w % 2 ^ 160 + 2 ^ 160 * (List.range 8).foldl (fun (n : Nat) k => n + 2 ^ k * oddParity (nanoField w k)) 0

/-- The next microstore address: the incrementer, unless SEQ selects a branch or call to PAGE × 0x2000 + LIT, a return or a dispatch. -/
def nextAddress (seq lit at_ ret target : Nat) : Nat :=
  let c := Config.seqControl seq
  match c.1 with
  | 1 => b2n c.2.1 * 0x2000 + lit
  | 2 => b2n c.2.1 * 0x2000 + lit
  | 3 => ret
  | 4 => target
  | _ => (at_ + 1) % 0x4000

/-! ### Stores -/

/-- The type of a sequencer (Table 15-12). -/
def seqType (q : Nat) : Nat := if q < 16 then 0 else if q < 20 then 1 else if q < 22 then 2 else 3

/-- The store of a sequencer. -/
def State.ucStore (s : State) (q : Nat) : UcStore := smGet {} s.sec.stores q

/-- The microword at an address of sequencer `q`. -/
def State.microAt (s : State) (q a : Nat) : Nat := (smGet none (s.ucStore q).micro a).getD (Config.microRom (seqType q) a % 2 ^ 24)

/-- Nanoword `i` of sequencer `q`, as it is stored. -/
def State.nanoAt (s : State) (q i : Nat) : Nat :=
  nanoStored ((smGet none (s.ucStore q).nano i).getD (Config.nanoRom (seqType q) i))

/-- The stored parity bit at an address of sequencer `q`. -/
def State.microParityAt (s : State) (q a : Nat) : Nat :=
  let p := microParity (s.microAt q a)
  if (s.ucStore q).bad.contains a then 1 - p else p

/-- The address that follows the microword at `a`; `ret` is the address a return goes to and `target` that of a dispatch. -/
def State.microNext (s : State) (q a ret target : Nat) : Nat :=
  let f := microFields (s.microAt q a)
  nextAddress (nanoField (s.nanoAt q f.1) 0) f.2 a ret target

/-- One patch record put into a store (Table 15-14): MICRO, NANO and HOOK. -/
def UcStore.patch (u : UcStore) (r : UcodePatch) : UcStore :=
  match r.kind with
  | 1 => { u with micro := (List.range r.count).foldl (fun (m : SMap (Option Nat)) i =>
      smSet none m (r.start + i) (some (recField r.data (4 * i) 3))) u.micro }
  | 2 => { u with nano := (List.range r.count).foldl (fun (m : SMap (Option Nat)) i =>
      smSet none m (r.start + i) (some (recField r.data (20 * i) 20))) u.nano }
  | 3 => { u with micro := (List.range r.count).foldl (fun (m : SMap (Option Nat)) i =>
      smSet none m (bitsOf (recField r.data (8 * i) 2) 0 14) (some (recField r.data (8 * i + 4) 3))) u.micro }
  | _ => u

/-- Load the stores of a sequencer from ROM and the patch records of its type, in container order (R541). -/
def State.loadStore (s : State) (q : Nat) : State :=
  let u := (s.sec.patches.filter (fun r => r.type == seqType q)).foldl UcStore.patch {}
  { s with sec := { s.sec with stores := smSet {} s.sec.stores q u } }

/-- A sequencer finds a parity error at an address of its microstore (R538). -/
def State.badWord (s : State) (q a : Nat) : State :=
  let u := s.ucStore q
  { s with sec := { s.sec with stores := smSet {} s.sec.stores q { u with bad := u.bad ++ [a], at_ := a } } }

/-- The sequencers of a unit. -/
def seqsOf (m : Nat) : List Nat := (List.range 24).filter (fun q => seqMaster q == m)

/-- Rewrite the stores of a unit in which a parity error was found (R538 step 3). -/
def State.rewriteStores (s : State) (m : Nat) : State :=
  s.each ((seqsOf m).filter (fun q => !(s.ucStore q).bad.isEmpty)) (fun q t => t.loadStore q)

end Sys2Proof.Machine
end

