-- ==== Sys2Proof/Machine/Power.lean ====
section
/-! DEFINITION. Power requests (R29–R42, 01_architecture.md), the end of a fence (Table 1-14 steps 5 to 7), and the watchdogs
and parity errors that lead to a fence (R210, R262, R538). -/

namespace Sys2Proof.Machine

open R

/-! ### What an island's state means for its units -/

/-- The interrupt sources whose condition lies in an island (R447). -/
def islandSources (i : Nat) : List Nat :=
  if 20 ≤ i ∧ i < 22 then [241 + (i - 20)]
  else if 22 ≤ i ∧ i < 26 then (List.range 4).map (fun (j : Nat) => 200 + 4 * (i - 22) + j)
  else if 26 ≤ i ∧ i < 28 then (List.range 4).map (fun (j : Nat) => 246 + 4 * (i - 26) + j)
  else []

/-- The controller sees the sources of an island anew. -/
def State.syncSources (s : State) (i : Nat) : State := (s.each (islandSources i) (fun n t => t.levelIn n)).arbitrate

/-- Jobs held for a drain go on, with the settings as they are now (R159); a unit whose fence is held waits for it (R44). -/
def State.resumeUnits (s : State) (i : Nat) : State :=
  let s := if i < 16 then
      let lead := if (s.spd i).gangLead = 0 then i else (s.spd i).gangLead - 1
      let up := fun (t : State) (k : Nat) => t.isl k == islON && !t.stayed k
      let both := up s lead && (!(match (s.spd lead).cur with | none => false | some j => j.ganged) || up s (lead + 1))
      ((s.iff both (fun t => (t.modSpd lead (fun r => { r with held := false, set := if r.held then t.settings lead else r.set })))).showSpd i)
    else if i < 20 then s.iff (!s.stayed i) (·.modSpe (i - 16) (fun r => { r with held := false, cur := if r.held then r.cur.map (fun j => { j with
        allocTo := max 1 (s.rd (SPE_CTL_ALLOC_TO (i - 16))), respTo := max 1 (s.rd (SPE_WDOG_RESP_TO (i - 16))) }) else r.cur }))
    else if 22 ≤ i ∧ i < 26 then s.each (List.range 4) (fun j t => t.portUpNow (4 * (i - 22) + j))
    else s
  (s.dispatch).encDispatch

/-- Return every register of an area of BAR0 to its reset value but those that `keep` names by offset and low bit. -/
def State.dropArea (s : State) (base len : Nat) (keep : Nat → Nat → Bool) : State :=
  { s with flds := s.flds.filter (fun (q : Nat × Nat) =>
      !(decide (base * 32 ≤ q.1) && decide (q.1 < (base + len) * 32) && !keep (q.1 / 32 - base) (q.1 % 32))) }

/-- Forget an HBM stack's contents and the state of its channels. -/
def State.dropStack (s : State) (k : Nat) : State :=
  let mine := fun (a : Nat) => decide (k * hbmSplit ≤ a) && decide (a < (k + 1) * hbmSplit)
  let s := { s with hbm := s.hbm.filter (fun q => !mine q.1) }
  { s with mem := { s.mem with
      ecc := s.mem.ecc.filter (fun q => !mine (8 * q.1))
      xq := s.mem.xq.filter (fun q => q.1 != k)
      pch := s.mem.pch.filter (fun q => q.1 / 32 != k)
      scrub := s.mem.scrub.filter (fun q => q.1 != k) } }

/-- An island enters OFF: jobs end, its bobbins are swept (R37, R41), its state is lost (Table 1-7). The fields of the warp
image stay as the image set them. (DEDUCED, log entry 49.) -/
def State.islandClear (s : State) (i : Nat) : State :=
  let ms := islandMasters i
  let out := fun (l : List Nat) => l.filter (fun m => !ms.contains m)
  let s := { s with pwr := { s.pwr with held := out s.pwr.held, stopped := out s.pwr.stopped } }
  let s := s.each ms (fun m t => t.markDead m)
  let s := s.iff (decide (i < 20)) (·.rst (UCS_PARITY_CNT i))
  if i < 16 then
    let s := (s.abandonSpd i 0x14).ownerSweep i
    (s.rstAll (regsSpd i)).modSpd i (fun _ => {})
  else if i < 20 then
    let s := ((s.encCut (i - 16)).stripeCut (i - 16)).ownerSweep i
    (s.rstAll (regsSpe (i - 16))).modSpe (i - 16) (fun _ => {})
  else if i < 22 then
    let e := i - 20
    let s := ((s.plyClear e).commitDrop e).ownerSweep (plyMaster e)
    let s := s.dropArea (0x00801000 + 0x100000 * e) 0xFF000 (fun (o _ : Nat) => o == 0x20 || o == 0x24)
    s.modPly e (fun _ => {})
  else if i < 26 then
    s.each (List.range 4) (fun j t =>
      let p := 4 * (i - 22) + j
      let t := (t.portOff p).ownerSweep (blkMaster p)
      let t := t.dropArea (0x00A00000 + 0x4000 * p) 0x4000 (fun (o b : Nat) => (o == 0 && b == 0) || o == 4)
      t.modPort p (fun _ => {}))
  else if i < 28 then s.each (List.range 4) (fun j t => t.linkChange (4 * (i - 26) + j) false false false)
  else s.dropStack (i - 28)

/-- The request in progress ends (Tables 1-8 and 1-10). -/
def State.reqEnd (s : State) (F : Fld) : State :=
  (({ s with pwr := { s.pwr with req := none } }.wr PWR_CTL_GO 0).wr PWR_STATUS_BUSY 0).wr F 1

/-- What the registers of an HBM stack show whose island is not ON: no temperature, and not trained (R412). -/
def State.stackDown (s : State) (i : Nat) : State :=
  s.iff (decide (28 ≤ i) && decide (i < 30)) (fun t => (t.wr (MEM_STATUS_TRAINED (i - 28)) 0).wr (MEM_TEMP (i - 28)) 0)

/-- The island reaches the state asked for, RETENTION or OFF. -/
def State.enterDown (s : State) (i target : Nat) (F : Fld) : State :=
  let s := s.stackDown i
  let s := s.iff (target == islOFF) (·.islandClear i)
  let s := (s.wr (PWR_ISL_STATE_STATE i) target).showOutstanding i
  (((s.reqEnd F).syncSources i).dispatch).encDispatch

/-- DRAINING begins (R33): the ports of a Brodys group go to OFF (R342). -/
def State.enterDrain (s : State) (r : PwrReq) : State :=
  let i := r.island
  let s := { s with pwr := { s.pwr with req := some { r with draining := true, held := false, since := s.elapsed } } }
  let s := ((s.wr (PWR_ISL_STATE_STATE i) islDRAINING).stackDown i).showOutstanding i
  let s := if 22 ≤ i ∧ i < 26 then s.each (List.range 4) (fun j t => t.portOff (4 * (i - 22) + j)) else s
  (s.each (islandMasters i) (fun m t => t.showUnit m)).showHomes

/-- A request that no fence delays takes its first step. -/
def State.reqStart (s : State) (r : PwrReq) : State :=
  if (islandMasters r.island).any s.fenced then { s with pwr := { s.pwr with req := some { r with held := true } } }
  else if r.target = islON then { s with pwr := { s.pwr with req := some { r with rising := true, held := false, since := s.elapsed } } }
  else if s.isl r.island = islON then s.enterDrain r
  else s.enterDown r.island r.target PWR_STATUS_DONE

/-- Software may ask for this move (R29, R506). -/
def State.reqOk (s : State) (i target : Nat) : Bool :=
  decide (i < 30) && target != 1 && s.present i && s.on (PWR_ISL_STATE_SWITCHABLE i) && !s.wrp.hold.active &&
    !(target == islRETENTION && s.isl i == islOFF)

/-- A write of `PWR_CTL` with GO (R29, R31). (DEDUCED, log entry 49.) -/
def State.pwrRequest (s : State) (i target : Nat) (force : Bool) : State :=
  if s.on PWR_CTL_GO then s
  else
    let s := ((s.wr PWR_CTL_FORCE (b2n force)).wr PWR_CTL_TARGET target).wr PWR_CTL_ISLAND i
    let s := s.wr PWR_STATUS_LAST_ISLAND i
    if !s.reqOk i target then s.wr PWR_STATUS_REJECTED 1
    else if s.isl i = target then s.wr PWR_STATUS_DONE 1
    else ((s.wr PWR_CTL_GO 1).wr PWR_STATUS_BUSY 1).reqStart { island := i, target := target }

/-- PWR_REQ_ON: island, FORCE. -/
def execPwrReqOn (i : Fin 32) (force : Bool) (s : State) : Host.Outcome State Fault Refusal := s.finish (s.pwrRequest i islON force)

/-- PWR_REQ_RETENTION: island, FORCE. -/
def execPwrReqRetention (i : Fin 32) (force : Bool) (s : State) : Host.Outcome State Fault Refusal :=
  s.finish (s.pwrRequest i islRETENTION force)

/-- PWR_REQ_OFF: island, FORCE. -/
def execPwrReqOff (i : Fin 32) (force : Bool) (s : State) : Host.Outcome State Fault Refusal :=
  s.finish (s.pwrRequest i islOFF force)

/-- An island is ON: the microstore of its spindle has been loaded (R28, R541), and HBM counts as trained now (R403, R404). -/
def State.islandUp (s : State) (i : Nat) : State :=
  let s := ((s.wr (PWR_ISL_STATE_STATE i) islON).showOutstanding i).iff (decide (i < 20)) (·.loadStore i)
  let s := if 28 ≤ i ∧ i < 30 then
      let k := i - 28
      (s.each (List.range 32) (fun j t => t.setPch (32 * k + j) { t.pch (32 * k + j) with trainedAt := t.elapsed, trainedTemp := none })).wr
        (MEM_STATUS_TRAINED k) 1
    else s
  (s.resumeUnits i).syncSources i

/-- The island that powers up reports ON (R28). -/
def State.islandOnComplete (s : State) : State :=
  match s.pwr.req with
  | some r => if r.rising then (s.reqEnd PWR_STATUS_DONE).islandUp r.island else s
  | none => s

/-- ISLAND_ON_COMPLETE. -/
def execIslandOnComplete (s : State) : Host.Outcome State Fault Refusal := s.finish s.islandOnComplete

/-- The units of an island are idle (R36): a spindle that holds a job at a yield point counts as idle. -/
def State.unitsIdle (s : State) (i : Nat) : Bool :=
  if i < 16 then
    let lead := if (s.spd i).gangLead = 0 then i else (s.spd i).gangLead - 1
    ((s.spd lead).cur.isNone || (s.spd lead).held) && (s.spd i).grain.isNone
  else if i < 20 then ((s.spe (i - 16)).cur.isNone && (s.spe (i - 16)).stripe.isNone) || (s.spe (i - 16)).held
  else true

/-- Nothing outstanding and every unit idle (R36). -/
def State.drainComplete (s : State) : State :=
  match s.pwr.req with
  | some r => if r.draining && s.outstanding r.island == 0 && s.unitsIdle r.island then s.enterDown r.island r.target PWR_STATUS_DONE else s
  | none => s

/-- DRAIN_COMPLETE. -/
def execDrainComplete (s : State) : Host.Outcome State Fault Refusal := s.finish s.drainComplete

/-- A forced cut (R39): requests to the island end with ABORTED_PWR, responses owed to its masters are discarded. -/
def State.forcedCut (s : State) (i : Nat) : State :=
  let k := i - 28
  let hit := if 28 ≤ i then s.queued.filter (fun r => inIsland s i r.addr) else []
  let s := if 28 ≤ i then { s with mem := { s.mem with xq := s.mem.xq.filter (fun q => q.1 != k), pch := s.mem.pch.filter (fun q => q.1 / 32 != k) } } else s
  let s := s.each hit (fun r t => (t.respFault r.master r.access r.addr 3).respond r 3 [])
  s.each (islandMasters i) (fun m t => t.markDead m)

/-- PWR_DRAIN of an island (R38, R471). -/
def drainFault (i : Nat) : FaultReq := { cls := 2, master := islandMaster i, addr := i }

/-- The drain limit expires: the request is abandoned, or the island is cut (R38, R39). -/
def State.drainLimit (s : State) : State :=
  match s.pwr.req with
  | none => s
  | some r =>
    if !r.draining || decide (s.elapsed < r.since + 40 * s.rd PWR_DRAIN_LIMIT_LIMIT) then s
    else if s.outstanding r.island == 0 && s.unitsIdle r.island then s.drainComplete
    else if s.on PWR_CTL_FORCE then
      ((s.raise (drainFault r.island)).forcedCut r.island).enterDown r.island islOFF PWR_STATUS_FORCED
    else ((s.raise (drainFault r.island)).reqEnd PWR_STATUS_ABANDONED).islandUp r.island

/-- DRAIN_LIMIT_EXPIRY. -/
def execDrainLimitExpiry (s : State) : Host.Outcome State Fault Refusal := s.finish s.drainLimit

/-! ### The end of a fence -/

/-- Step 7 of Table 1-14: the fence lifts, and a power request that waited for it goes on (R44). -/
def State.fenceLift (s : State) (m : Nat) : State :=
  let s := { s with pwr := { s.pwr with fences := smSet none s.pwr.fences m none } }
  let s := s.iff (s.on PWR_UNIT_RST_GO && s.rd PWR_UNIT_RST_MASTER == m) (·.wr PWR_UNIT_RST_GO 0)
  let s := s.fenceAfter m
  let s := match s.pwr.req with
    | some r => if r.held && (islandMasters r.island).contains m then s.reqStart r else s
    | none => s
  (s.dispatch).encDispatch

/-- The reset has been held for 64 cycles of the unit's clock: it is cleared, its bobbins are swept, a store that held a parity error is rewritten (R538), and the fence lifts unless
a reweave holds it (R48). -/
def State.fenceResetEnd (s : State) (m : Nat) : State :=
  match s.fence m with
  | none => s
  | some f =>
    if f.phase = .inReset ∧ f.since + cdiv 64000000 (s.unitKhz m) ≤ s.elapsed then
      let s := ((s.fenceClear m).ownerSweep m).rewriteStores m
      if f.cause = .reweave then
        { s with pwr := { s.pwr with fences := smSet none s.pwr.fences m (some { f with phase := .waitLoad }) } }
      else s.fenceLift m
    else s

/-- FENCE_RESET_END: of the unit with master ID `m`. -/
def execFenceResetEnd (m : Fin 256) (s : State) : Host.Outcome State Fault Refusal := s.finish (s.fenceResetEnd m)

/-! ### Watchdogs and parity (R210, R262, R538) -/

/-- The lead of the job that decode spindle `k` works on. -/
def State.leadOf (s : State) (k : Nat) : Nat := if (s.spd k).gangLead = 0 then k else (s.spd k).gangLead - 1

/-- The unit's sequencers run: it is neither fenced nor about to be, and its island is ON or DRAINING. -/
def State.unitRuns (s : State) (m : Nat) : Bool :=
  !s.fenced m && !s.stayed m &&
    (match masterIsland m with | none => true | some i => s.present i && decide (s.isl i ≤ islDRAINING))

/-- The decode watchdog trips: a yield span of `span` cycles, or `us` µs without a response. -/
def State.watchdogTrip (s : State) (k span us : Nat) : State :=
  if s.unitRuns k && (decide (8192 < span) || decide ((s.spd k).set.respTo < us)) then
    let l := s.leadOf k
    let n := match (s.spd l).cur with | some j => j.job.ctx | none => 0xFF
    let s := (s.endJob l outABORTED 0x12).bump (SPD_WDOG_CNT k)
    (s.raise { cls := 7, master := k, ctx := n, fenced := true }).fenceReact k
  else s

/-- WATCHDOG_TRIP: decode spindle, the cycles since its last yield point, the µs a request has waited. -/
def execWatchdogTrip (k : Fin 16) (span us : Word) (s : State) : Host.Outcome State Fault Refusal :=
  s.finish (s.watchdogTrip k span.toNat us.toNat)

/-- The picture an encode spindle codes is lost, when it codes one (R261). -/
def State.encDropPic (s : State) (k : Nat) : State :=
  match (s.spe k).cur with
  | some j => (s.encLost k j).encDrainEnd j.session
  | none => s

/-- The session an encode spindle works for. -/
def State.sessionOf (s : State) (k : Nat) : Nat := match (s.spe k).cur with | some j => j.session | none => 0xFF

/-- The response limit in force: that of the job, latched as it began or resumed (R159). -/
def State.encRespTo (s : State) (k : Nat) : Nat :=
  match (s.spe k).cur with
  | some j => j.respTo
  | none => max 1 (s.rd (SPE_WDOG_RESP_TO k))

/-- The encode watchdog trips (R262). -/
def State.encWatchdog (s : State) (k span us : Nat) : State :=
  if s.unitRuns (0x10 + k) && (decide (8192 < span) || decide (s.encRespTo k < us)) then
    let s := (s.encDropPic k).bump (SPE_WDOG_CNT k)
    (s.raise { cls := 9, master := 0x10 + k, fenced := true }).fenceReact (0x10 + k)
  else s

/-- ENC_WATCHDOG: encode spindle, the cycles since its last yield point, the µs a request has waited. -/
def execEncWatchdog (k : Fin 4) (span us : Word) (s : State) : Host.Outcome State Fault Refusal :=
  s.finish (s.encWatchdog k span.toNat us.toNat)

/-- A sequencer meets a parity error at a microstore address: it stops, its job ends, and it stays stopped until the collector
has taken the fault (R538). (DEDUCED, log entry 49.) -/
def State.parityError (s : State) (q addr : Nat) : State :=
  let m := seqMaster q
  if s.unitRuns m then
    let s := if q < 16 then s.endJob (s.leadOf q) outABORTED 0x15 else if q < 20 then s.encDropPic (q - 16) else s
    let s := ((s.badWord q addr).bump (UCS_PARITY_CNT q)).raise { cls := 10, master := m, access := 5, addr := addr }
    { s with pwr := { s.pwr with stopped := s.pwr.stopped ++ [m] } }
  else s

/-- UCODE_PARITY_ERROR: sequencer, microstore address. -/
def execUcodeParityError (q : Fin 24) (addr : Fin 16384) (s : State) : Host.Outcome State Fault Refusal :=
  s.finish (s.parityError q addr)

end Sys2Proof.Machine
end

