-- ==== Sys2Proof/Machine/Ptp.lean ====
section
/-! DEFINITION. PTP and device time (R142–R147): Announce, Sync and Follow_Up messages, the servo states of Table 3-9, and
reads and writes of device time. -/

namespace Sys2Proof.Machine

open R

/-- Change the servo's record. -/
def State.modPtp (s : State) (f : PtpSt → PtpSt) : State := { s with ing := { s.ing with ptp := f s.ing.ptp } }

/-- Enter a servo state: CHANGED sets, and HOLDOVER_EXPIRED raises PTP_HOLDOVER (Table 13-1). -/
def State.ptpState (s : State) (v : Nat) : State :=
  if s.rd PTP_STATE_STATE = v then s
  else
    let s := (s.wr PTP_STATE_STATE v).wr PTP_STATE_CHANGED 1
    s.iff (v == ptpEXPIRED) (·.raise { cls := 19 })

/-- Select the best master heard (the default BMCA, R142): a new one leads to ACQUIRING, none to HOLDOVER. (DESIGN CHOICE, log entry 54.) -/
def State.ptpSelect (s : State) : State :=
  let p := s.ing.ptp
  match minBy PtpMaster.rank p.masters with
  | none =>
    if p.selected.isSome then
      let now := s.elapsed
      (s.modPtp (fun q => { q with selected := none, sync := none, holdSince := now })).ptpState ptpHOLDOVER
    else s
  | some m =>
    let s := ((s.wr PTP_STATE_LPORT m.lp).wr PTP_GM_ID_LO m.id).wr PTP_GM_ID_HI (m.id / 2 ^ 32)
    if p.selected = some m.source then s
    else (s.modPtp (fun q => { q with selected := some m.source, good := 0, bad := 0, sync := none })).ptpState ptpACQUIRING

/-- A signed byte. -/
def signed8 (v : Nat) : Int := signOf 8 v

/-- An Announce message: its fields in the order of the BMCA's comparison; the announce receipt timeout is three of its
intervals (R142). (DESIGN CHOICE, log entry 54.) -/
def State.rxAnnounce (s : State) (lp : Nat) (m : List Byte) : State :=
  let iv := signed8 (byteAt m 33)
  if m.length < 64 ∨ iv < -3 ∨ 1 < iv then s
  else
    let src := beAt m 20 10
    let rank := (((beAt m 47 6 * 2 ^ 64 + beAt m 53 8) * 2 ^ 16 + beAt m 61 2) * 2 ^ 80 + src) * 8 + lp
    let x : PtpMaster := { lp := lp, id := beAt m 53 8, source := src, rank := rank
                           due := s.elapsed + 3 * 125000000 * 2 ^ (iv + 3).toNat }
    (s.modPtp (fun p => { p with masters := p.masters.filter (fun q => !(q.source == src && q.lp == lp)) ++ [x] })).ptpSelect

/-- A PTP timestamp of 10 bytes in ns. -/
def ptpStamp (m : List Byte) (o : Nat) : Int := (beAt m o 6 * 1000000000 + beAt m (o + 6) 4 : Nat)

/-- The correction field in ns. -/
def ptpCorr (m : List Byte) : Int := signOf 64 (beAt m 8 8) / 65536

/-- Slew: the servo's frequency correction, which only its bound of 100 ppm is stated for, is a free value within it. (DESIGN CHOICE, log entry 54.) -/
def State.ptpSlew (s : State) : State :=
  let v := s.free
  v.2.wr PTP_FREQ_PPB (ofSign 32 ((v.1 % 200001 : Nat) - 100000 : Int))

/-- Show a measured offset; one that the register cannot hold leaves a free value in it. (DESIGN CHOICE, log entry 54.) -/
def State.ptpOffset (s : State) (o : Int) : State :=
  if -2147483648 ≤ o ∧ o < 2147483648 then s.wr PTP_OFFSET_NS (ofSign 32 o)
  else
    let v := s.free
    v.2.wr PTP_OFFSET_NS v.1

/-- Shift device time. (DESIGN CHOICE, log entry 54.) -/
def State.ptpStep (s : State) (o : Int) : State := s.setDevTime (((s.devTime : Int) - o) % 2 ^ 64).toNat

/-- The selected master is the recorded grandmaster of a restored holdover (R517). -/
def State.ptpRecorded (s : State) : Bool :=
  match s.ing.ptp.restored with
  | some g => g == 2 ^ 32 * s.rd PTP_GM_ID_HI + s.rd PTP_GM_ID_LO
  | none => false

/-- The servo acts on an offset (Table 3-9, R517). -/
def State.ptpServo (s : State) (o : Int) : State :=
  let s := s.ptpOffset o
  let thr := s.rd PTP_LOCK_THR_NS
  if s.rd PTP_STATE_STATE = ptpACQUIRING ∧ s.ptpRecorded ∧ o.natAbs ≤ thr then
    (s.ptpSlew.modPtp (fun p => { p with good := 16, bad := 0, restored := none })).ptpState ptpLOCKED
  else if s.rd PTP_STATE_STATE = ptpACQUIRING then
    if 1000000 < o.natAbs then (s.ptpStep o).modPtp (fun p => { p with good := 0 })
    else
      let good := if o.natAbs ≤ thr then s.ing.ptp.good + 1 else 0
      let s := s.ptpSlew.modPtp (fun p => { p with good := good, bad := 0 })
      s.iff (decide (16 ≤ good)) (·.ptpState ptpLOCKED)
  else if s.rd PTP_STATE_STATE = ptpLOCKED then
    let bad := if 4 * thr < o.natAbs then s.ing.ptp.bad + 1 else 0
    let s := s.ptpSlew.modPtp (fun p => { p with bad := bad })
    if 4 ≤ bad then (s.modPtp (fun p => { p with good := 0, bad := 0 })).ptpState ptpACQUIRING else s
  else s

/-- A Sync message of the selected master, stamped at `rx` (R143): one-step at once, two-step with its Follow_Up. -/
def State.rxSync (s : State) (rx : Int) (m : List Byte) : State :=
  let iv := signed8 (byteAt m 33)
  if m.length < 44 ∨ iv < -7 ∨ 1 < iv then s
  else if byteAt m 6 / 2 % 2 = 1 then s.modPtp (fun p => { p with sync := some (beAt m 30 2, rx, ptpCorr m) })
  else s.ptpServo (rx - ptpStamp m 34 - ptpCorr m - s.rd PTP_PATH_DELAY_NS)

/-- A Follow_Up message of the selected master. -/
def State.rxFollowUp (s : State) (m : List Byte) : State :=
  match s.ing.ptp.sync with
  | none => s
  | some y =>
    if m.length < 44 ∨ y.1 ≠ beAt m 30 2 then s
    else (s.modPtp (fun p => { p with sync := none })).ptpServo
      (y.2.1 - ptpStamp m 34 - ptpCorr m - y.2.2 - s.rd PTP_PATH_DELAY_NS)

/-- A PTP message that the checks let through. -/
def State.rxPtp (s : State) (lp : Nat) (rx : Int) (m : List Byte) : State :=
  if ¬ s.on PTP_CTL_EN then s
  else
    let mine := s.ing.ptp.selected == some (beAt m 20 10)
    match byteAt m 0 % 16 with
    | 0 => if mine then s.rxSync rx m else s
    | 8 => if mine then s.rxFollowUp m else s
    | 11 => s.rxAnnounce lp m
    | _ => s

/-- The announce receipt timeout of masters passes (R145). -/
def State.announceTimeout (s : State) : State :=
  let now := s.elapsed
  (s.modPtp (fun p => { p with masters := p.masters.filter (fun m => decide (now < m.due)) })).ptpSelect

/-- ANNOUNCE_TIMEOUT. -/
def execAnnounceTimeout (s : State) : Host.Outcome State Fault Refusal := s.finish s.announceTimeout

/-- HOLDOVER has lasted longer than `PTP_HOLDOVER.S` (R145). -/
def State.holdoverExpiry (s : State) : State :=
  if s.rd PTP_STATE_STATE = ptpHOLDOVER ∧ s.ing.ptp.holdSince + 1000000000 * s.rd PTP_HOLDOVER_S < s.elapsed then
    s.ptpState ptpEXPIRED
  else s

/-- HOLDOVER_EXPIRY. -/
def execHoldoverExpiry (s : State) : Host.Outcome State Fault Refusal := s.finish s.holdoverExpiry

/-- A write of `PTP_CTL.EN`: with it 0 the servo is in FREERUN, and device time runs at its nominal rate. Table 3-9 says "PTP_EN is 0" and
the spec does not say whose: it is taken as `PTP_CTL.EN` (DESIGN CHOICE, log entry 79). -/
def State.ptpEnable (s : State) (v : Bool) : State :=
  let s := s.wr PTP_CTL_EN (b2n v)
  if v then s
  else ((s.modPtp (fun p => { p with masters := [], selected := none, sync := none, restored := none })).wr PTP_FREQ_PPB 0).ptpState ptpFREERUN

/-- A write to `PTP_SET_HI` (R147). -/
def State.ptpSet (s : State) (hi : Nat) : State :=
  if s.on PTP_CTL_EN then s else s.setDevTime (2 ^ 32 * (hi % 2 ^ 32) + s.rd PTP_SET_LO)

/-- PTP_SET: the word written to `PTP_SET_HI`. -/
def execPtpSet (hi : Word) (s : State) : Host.Outcome State Fault Refusal := s.finish (s.ptpSet hi.toNat)

/-- A read of `PTP_TIME_LO` latches `PTP_TIME_HI` (R146). (DEDUCED, log entry 17.) -/
def State.ptpRead (s : State) : State := (s.wr PTP_TIME_LO s.timeLo).wr PTP_TIME_HI s.timeHi

/-- PTP_TIME_READ. -/
def execPtpTimeRead (s : State) : Host.Outcome State Fault Refusal := s.finish s.ptpRead

end Sys2Proof.Machine
end

