-- ==== Sys2Proof/Machine/Faults.lean ====
section
/-! DEFINITION. The fault collector (R466–R480, 13_faults_and_counters.md) and the reads and clearing of the performance
counters (R481, R484). -/

namespace Sys2Proof.Machine

open R

/-- Levels of Table 13-2. -/
def lvNOTE : Nat := 0
def lvCORRECTED : Nat := 1
def lvSTREAM : Nat := 2
def lvUNIT : Nat := 3
def lvDEVICE : Nat := 4

/-- Default levels of Table 13-1. -/
def defaultLevel (c : Nat) : Nat :=
  match c with
  | 2 => 1 | 5 => 3 | 6 => 2 | 7 => 3 | 8 => 2 | 9 => 3 | 10 => 3 | 14 => 2 | 17 => 3 | 18 => 0 | 19 => 0 | 22 => 4 | 23 => 4
  | _ => 1

/-- A class is RAISED at a level. -/
def State.raisedAt (s : State) (l : Nat) : Bool :=
  (List.range 24).any (fun c => s.on (FLT_CLASS_RAISED c) && s.rd (FLT_CLASS_LEVEL c) == l)

/-- Bring `FLT_SUMMARY` and `FLT_STATE` up to date; entering and leaving the DEVICE state moves `FAULT_N` (R473). -/
def State.showFaults (s : State) : State :=
  let up := (List.range 24).filter (fun c => s.on (FLT_CLASS_RAISED c))
  let dev := s.raisedAt lvDEVICE
  let was := s.on FLT_STATE_DEVICE
  let s := s.wr FLT_SUMMARY (up.foldl (fun n c => n + 2 ^ c) 0)
  let s := s.wr FLT_STATE_HIGHEST (up.foldl (fun n c => max n (s.rd (FLT_CLASS_LEVEL c))) 0)
  let s := (s.wr FLT_STATE_ANY (b2n !up.isEmpty)).wr FLT_STATE_DEVICE (b2n dev)
  s.iff (was != dev) (·.emit (.pin "FAULT_N" !dev))

/-- The level that a fault takes (R469). -/
def State.faultLevel (s : State) (c rule : Nat) : Nat :=
  if s.on (FLT_CLASS_RAISED c) then
    let cur := s.rd (FLT_CLASS_LEVEL c)
    min lvDEVICE (max rule (max cur (min (cur + 1) (min lvDEVICE (s.rd (FLT_CLASS_CEIL c))))))
  else min lvDEVICE rule

/-- Capture a fault in the class's `FLT_FIRST` registers (R468, R471). -/
def State.capture (s : State) (f : FaultReq) (l : Nat) : State :=
  let c := f.cls
  let s := ((s.wr (FLT_FIRST_INFO_MASTER c) f.master).wr (FLT_FIRST_INFO_ACCESS c) f.access).wr (FLT_FIRST_INFO_CTX c) f.ctx
  let s := ((s.wr (FLT_FIRST_INFO_LEVEL c) l).wr (FLT_FIRST_INFO_VALID c) 1).wr (FLT_FIRST_ADDR_LO c) f.addr
  let v := s.stamp
  let s := v.2.wr (FLT_FIRST_TIME_LO c) v.1
  { s with flt := { s.flt with cap := smSet (0, 0) s.flt.cap c (f.addr, v.1) } }

/-- The capture registers of a class read their reset values (R474). -/
def State.freeCapture (s : State) (c : Nat) : State :=
  let s := s.each [FLT_FIRST_ADDR_LO c, FLT_FIRST_ADDR_HI c, FLT_FIRST_TIME_LO c, FLT_FIRST_TIME_HI c, FLT_FIRST_INFO_MASTER c,
    FLT_FIRST_INFO_ACCESS c, FLT_FIRST_INFO_CTX c, FLT_FIRST_INFO_LEVEL c, FLT_FIRST_INFO_VALID c] (fun F t => t.rst F)
  { s with flt := { s.flt with cap := smSet (0, 0) s.flt.cap c (0, 0) } }

/-! ### The MRAM log (R479, R480) -/

/-- A class whose records carry class data in DETAIL (Table 13-5), whose layout is a free value. (DEDUCED, log entry 48.) -/
def hasDetail (c : Nat) : Bool := [6, 7, 8, 9, 11, 22].contains c

/-- Bytes 0x00 to 0x3B of a log record (Table 13-5). -/
def State.logRecord (s : State) (f : FaultReq) (l flags detail t : Nat) : List Byte :=
  natLe 8 (s.flt.seq + 1) ++ natLe 8 t ++ natLe 8 (f.addr % 2 ^ 48) ++ natLe 1 f.cls ++ natLe 1 l ++ natLe 1 f.master ++
    natLe 1 f.access ++ natLe 1 f.ctx ++ natLe 1 flags ++ natLe 2 0 ++ natLe 4 (s.rd (FLT_COUNT f.cls)) ++
    natLe 4 s.sec.startCnt ++ natLe 16 detail ++ natLe 4 0

/-- The records of the last second of device time (R479). -/
def State.logRecent (s : State) : List Nat :=
  s.flt.logTimes.filter (fun t => decide (t ≤ s.devTime) && decide (s.devTime < t + 1000000000))

/-- The service controller writes a log record, or drops it under the limit of R479. (DEDUCED, log entry 48.) -/
def State.logFault (s : State) (f : FaultReq) (l : Nat) (first esc again : Bool) : State :=
  let recent := s.logRecent
  if 64 ≤ recent.length then ({ s with flt := { s.flt with gap := true } }).bump FLT_LOG_DROP
  else
    let flags := b2n first + 2 * b2n esc + 4 * b2n s.flt.gap + 8 * b2n f.injected + 16 * b2n again
    let v := if hasDetail f.cls then s.free else (0, s)
    let s := v.2
    let w := s.stamp
    let s := w.2
    let r := s.logRecord f l flags v.1 w.1
    let q := s.flt.seq + 1
    let s := s.mramStore (0x40000 + 64 * (q % 4096)) (r ++ natLe 4 (crc32 r))
    let now := s.devTime
    ({ s with flt := { s.flt with seq := q, gap := false, logTimes := recent ++ [now] } }).wr FLT_LOG_SEQ_LO q

/-! ### Taking a fault (R469–R473) -/

/-- The reaction at level DEVICE: the warm-start record is cleared (Table 13-2, R524); before READY the start fails (Table 15-2). -/
def State.deviceReact (s : State) : State :=
  let s := { s with sec := { s.sec with warm := none } }
  if s.sec.starting ∧ s.sec.failing = none then { s with sec := { s.sec with failing := some 8 } } else s

/-- The reaction of Table 13-2 to a fault at its level; a context or session that the raising rule names enters FAULTED at
level STREAM and at every level above. -/
def State.faultReact (s : State) (f : FaultReq) (l : Nat) : State :=
  let s := s.iff (f.names && decide (lvSTREAM ≤ l)) (fun t =>
    if f.ctx < 128 then t.ctxFault f.ctx else if f.ctx < 144 then t.encFault (f.ctx - 128) else t)
  let s := s.iff (l == lvUNIT && !f.fenced) (·.fenceReact f.master)
  (s.iff (l == lvDEVICE) (·.deviceReact)).iff (f.names && decide (128 ≤ f.ctx)) (·.encDispatch)

/-- A sequencer that a parity error has stopped goes on once its fault is taken (R538), if the fault's reaction has neither fenced
its unit nor holds a fence of it. -/
def State.unstop (s : State) (f : FaultReq) : State :=
  if f.cls = 10 ∧ ¬ f.injected then
    (({ s with pwr := { s.pwr with stopped := s.pwr.stopped.filter (· != f.master) } }).dispatch).encDispatch
  else s

/-- The collector takes a fault: count, level, capture, log, reaction. `again` marks a condition that still holds (R475). (DEDUCED, log entry 48.) -/
def State.takeFault (s : State) (f : FaultReq) (again : Bool) : State :=
  let c := f.cls
  let first := !s.on (FLT_CLASS_RAISED c)
  let cur := s.rd (FLT_CLASS_LEVEL c)
  let l := s.faultLevel c (f.level.getD (defaultLevel c))
  let s := (s.bump (FLT_COUNT c)).count 0x0B0 1
  let s := (s.wr (FLT_CLASS_RAISED c) 1).wr (FLT_CLASS_LEVEL c) l
  let s := s.iff first (·.capture f l)
  let esc := !first && decide (cur < l)
  let s := (s.iff (first || esc) (·.logFault f l first esc again)).showFaults
  (s.faultReact f l).unstop f

/-- The fault of a class that the collector takes next: the earliest, and of those of one cycle the lowest master (R470). -/
def State.nextFault (s : State) (c : Nat) : Option FaultReq :=
  minBy (fun (f : FaultReq) => f.at_ * 256 + f.master) (s.flt.queue.filter (fun f => f.cls == c))

/-- Take the next fault of a class. -/
def State.faultTake (s : State) (c : Nat) : State :=
  match s.nextFault c with
  | none => s
  | some f => ({ s with flt := { s.flt with queue := s.flt.queue.erase f } }).takeFault f false

/-- FAULT_TAKE: the class. -/
def execFaultTake (c : Fin 24) (s : State) : Host.Outcome State Fault Refusal := s.finish (s.faultTake c)

/-- What a class is raised again with while its condition holds (R471, R475): the broken pool's unit, the PTP unit, the lowest
monitor beyond its threshold. -/
def State.causeFault (s : State) (c : Nat) : FaultReq :=
  match c with
  | 5 => { cls := 5, master := 0x30, access := 2, addr := (smGet (0, 0) s.flt.cap 5).1 }
  | 22 => { cls := 22, addr := ((List.range 11).find? (fun m => bitSet (s.rd GLB_ENV) m)).getD 0 }
  | _ => { cls := c }

/-- A write of 1 to `FLT_CLASS.RAISED` (R474, R475). -/
def State.faultAck (s : State) (c : Nat) : State :=
  if s.on (FLT_CLASS_RAISED c) then
    let f := s.causeFault c
    let s := ((s.wr (FLT_CLASS_RAISED c) 0).freeCapture c).showFaults
    s.iff (s.faultCause c) (·.takeFault f true)
  else s

/-- A write of 1 to `FLT_CLASS.RAISED` in the cycle in which a waiting fault of the class is taken: the set wins, so that the class
stays RAISED, its capture stands and the fault escalates it (R9, R474). (DEDUCED, log entry 64.) -/
def State.faultAckIn (s : State) (c : Nat) (same : Bool) : State :=
  if same && (s.nextFault c).isSome then s.faultTake c else s.faultAck c

/-- FAULT_ACK: the class, and whether a fault of it is taken in the same cycle. -/
def execFaultAck (c : FaultAckOp) (s : State) : Host.Outcome State Fault Refusal := s.finish (s.faultAckIn c.cls c.same)

/-- A write of `FLT_INJECT` with GO (R478). (DEDUCED, log entry 48.) -/
def State.faultInject (s : State) (c l : Nat) : State :=
  if c < 24 ∧ (l ≤ lvDEVICE ∨ l = 7) then
    s.raise { cls := c, level := if l = 7 then none else some l, master := 0x40, injected := true }
  else s

/-- FAULT_INJECT: CLASS and LEVEL, written with GO. -/
def execFaultInject (c : Fin 32) (l : Fin 8) (s : State) : Host.Outcome State Fault Refusal := s.finish (s.faultInject c l)

/-- A read of a fault register's `_LO` word latches its `_HI` word (R478): 0 the log's SEQ, 1 + 2c a captured address, 2 + 2c a
captured time. (DEDUCED, log entry 17.) -/
def State.faultLoRead (s : State) (w : Nat) : State :=
  if w = 0 then s.wr FLT_LOG_SEQ_HI (s.flt.seq / 2 ^ 32)
  else
    let c := (w - 1) / 2
    let q := smGet (0, 0) s.flt.cap c
    if w % 2 = 1 then s.wr (FLT_FIRST_ADDR_HI c) (q.1 / 2 ^ 32) else s.wr (FLT_FIRST_TIME_HI c) (q.2 / 2 ^ 32)

/-- FAULT_LO_READ: which word. -/
def execFaultLoRead (w : Fin 49) (s : State) : Host.Outcome State Fault Refusal := s.finish (s.faultLoRead w)

/-! ### Performance counters -/

/-- `CNT_GCTL.CLEAR` (R481): every counter is 0. -/
def State.counterClear (s : State) : State := { s with cntLive := [] }

/-- COUNTER_CLEAR. -/
def execCounterClear (s : State) : Host.Outcome State Fault Refusal := s.finish s.counterClear

/-- The words of a counter as they read now. (DEDUCED, log entry 17.) -/
def State.latchCnt (s : State) (i : Nat) : State :=
  (s.wr (CNT_VAL_LO i) (s.cnt i % 2 ^ 32)).wr (CNT_VAL_HI i) (s.cnt i / 2 ^ 32)

/-- A read of `CNT_VAL_LO` (R484): the odd half of a chained pair keeps what the read of the even half latched. -/
def State.counterRead (s : State) (i : Nat) : State :=
  if i % 2 = 1 ∧ s.on (CNT_CTL_CHAIN i) then s
  else (s.latchCnt i).iff (i % 2 == 0 && s.on (CNT_CTL_CHAIN (i + 1))) (·.latchCnt (i + 1))

/-- COUNTER_READ: the counter. -/
def execCounterRead (i : Fin 32) (s : State) : Host.Outcome State Fault Refusal := s.finish (s.counterRead i)

end Sys2Proof.Machine
end

