-- ==== Sys2Proof/Machine/WarpImage.lean ====
section
/-! DEFINITION. The warp image: its layout, its sections and its validation (R486–R499, R504, R505, 14_warp_image.md). -/

namespace Sys2Proof.Machine

open R

/-! ### Layout -/

/-- Section types of Table 14-2. -/
def secCLOCK : Nat := 1
def secISLANDS : Nat := 2
def secCLASSMAP : Nat := 3
def secETH : Nat := 4
def secPLYPORTS : Nat := 5
def secBRODYS : Nat := 6
def secMEMORY : Nat := 7
def secINTERRUPTS : Nat := 8
def secCOUNTERS : Nat := 9
def secAUTONOMOUS : Nat := 10
def secINFO : Nat := 11

/-- Header fields of Table 14-1. -/
def warpReqCaps (img : List Byte) : Nat := recField img 0x08 4
def warpFlags (img : List Byte) : Nat := recField img 0x0C 4
def warpVersion (img : List Byte) : Nat := recField img 0x10 4
def warpCount (img : List Byte) : Nat := recField img 0x14 2
def warpBodyLen (img : List Byte) : Nat := recField img 0x18 4
def warpKeyId (img : List Byte) : List Byte := slice img 0x1C 16
def warpBaseTag (img : List Byte) : List Byte := slice img 0x34 8
def warpBody (img : List Byte) : List Byte := slice img 64 (warpBodyLen img)

/-- DIGEST and SIGNATURE of an image of R486 whose body has `n` bytes; R530 shares their places. -/
def imgDigest (img : List Byte) (n : Nat) : List Byte := slice img (64 + n) 64
def imgSignature (img : List Byte) (n : Nat) : List Byte := slice img (128 + n) 4627

/-- BAD_LENGTH does not hold (Table 14-5). -/
def warpLengthOk (img : List Byte) : Bool :=
  decide (4755 ≤ img.length) && decide (img.length ≤ 2 ^ 20) && img.length == 4755 + warpBodyLen img

/-- BAD_HEADER does not hold (Table 14-5). -/
def warpHeaderOk (img : List Byte) (atStart : Bool) : Bool :=
  slice img 0 4 == [0x4B, 0x57, 0x52, 0x50] && recField img 4 2 == 1 && recField img 6 2 == 64 && decide (warpFlags img < 4) &&
    recField img 0x16 2 == 0 && recField img 0x3C 4 == 0 && warpBodyLen img % 8 == 0 && !(atStart && bitSet (warpFlags img) 1)

/-- The sections of a body, in its order, when each header is well formed and they fill the body (R488). -/
def sectionsFrom : Nat → List Byte → Option (List (Nat × List Byte))
  | _, [] => some []
  | 0, _ => none
  | n + 1, b =>
    let len := recField b 4 4
    if b.length < 8 + len ∨ recField b 2 2 ≠ 0 ∨ len % 8 ≠ 0 then none
    else (sectionsFrom n (b.drop (8 + len))).map (fun r => (recField b 0 2, slice b 8 len) :: r)

/-- The sections of an image. -/
def warpSections (img : List Byte) : Option (List (Nat × List Byte)) :=
  sectionsFrom (warpBody img).length (warpBody img)

/-- Entry `i` of a section of entries of `n` bytes. -/
def entryOf (v : List Byte) (n i : Nat) : List Byte := slice v (n * i) n

/-- Every number below `n` satisfies a test. -/
def allBelow (n : Nat) (f : Nat → Bool) : Bool := (List.range n).all f

/-- A unit of `GLB_CAPS` by the island that holds it (Table 1-6). -/
def capHas (caps i : Nat) : Bool := bitSet caps (capBit i)

/-- The island whose unit a domain of Table 14-3 belongs to, for the domains of a unit. -/
def domainIsland (d : Nat) : Option Nat :=
  if d < 22 then some d else if d = 23 ∨ d = 24 then some (d + 5) else none

/-- The range and step of a CLOCK entry in kHz, (0, 0, 1) for one that must be 0 (Table 14-3). -/
def domainRange (d : Nat) : Nat × Nat × Nat :=
  if d < 20 then (200000, 1600000, 25000)
  else if d < 22 then (200000, 1400000, 25000)
  else if d = 22 then (400000, 1200000, 25000)
  else if d < 25 then (400000, 1000000, 50000)
  else if d = 27 then (500000, 1000000, 25000)
  else if d = 36 then (400000, 800000, 25000)
  else if d = 38 then (125000, 250000, 25000)
  else if d = 39 then (25000, 50000, 25000)
  else (0, 0, 1)

/-- Enabled port slots of an engine in a PLY_PORTS section: (slot, port) (R493, Table 7-2). -/
def plySlots (v : List Byte) (e : Nat) : List (Nat × Nat) :=
  ((List.range 8).filter (fun sl => bitSet (recField v (8 * e + 4) 1) sl)).map (fun sl => (sl, bitsOf (recField v (8 * e) 4) (4 * sl) 4))

/-- A section names a unit outside REQ_CAPS (R5, Table 14-5 check 8). -/
def namesAbsent (caps typ : Nat) (v : List Byte) : Bool :=
  match typ with
  | 1 => !allBelow 40 (fun d => match domainIsland d with | some i => capHas caps i || recField v (4 * d) 4 == 0 | none => true)
  | 2 => !allBelow 30 (fun i => capHas caps i || (recField v (4 * i) 1 == 3 && recField v (4 * i + 1) 1 == 0))
  | 3 => !allBelow 4 (fun c => (recField v (4 * c) 2).land (bitsOf caps 0 16) == recField v (4 * c) 2 &&
      (bitsOf (recField v (4 * c + 2) 1) 0 4).land (bitsOf caps 16 4) == bitsOf (recField v (4 * c + 2) 1) 0 4)
  | 4 => !allBelow 2 (fun p => capHas caps (26 + p) || recField v (4 * p) 4 == 0)
  | 5 => !allBelow 2 (fun e => (capHas caps (20 + e) || recField v (8 * e) 8 == 0) &&
      (plySlots v e).all (fun q => capHas caps (22 + q.2 / 4)))
  | 6 => !allBelow 16 (fun p => capHas caps (22 + p / 4) || recField v (4 * p) 4 == 0)
  | _ => false

/-! ### Section rules (R489–R497, R501) -/

/-- CLOCK (R489). -/
def clockOk (caps : Nat) (v : List Byte) : Bool :=
  allBelow 40 (fun d =>
    let f := recField v (4 * d) 4
    let r := domainRange d
    match domainIsland d with
    | some i => if capHas caps i then decide (r.1 ≤ f) && decide (f ≤ r.2.1) && f % r.2.2 == 0 else f == 0
    | none => decide (r.1 ≤ f) && decide (f ≤ r.2.1) && f % r.2.2 == 0)

/-- ISLANDS (R490). -/
def islandsOk (v : List Byte) : Bool :=
  allBelow 30 (fun i => (recField v (4 * i) 1 == 0 || recField v (4 * i) 1 == 3) && decide (recField v (4 * i + 1) 1 < 2) &&
    recField v (4 * i + 2) 2 == 0) && recField v (4 * 28) 4 == 0

/-- CLASS_MAP (R491). -/
def classMapOk (v : List Byte) : Bool :=
  allBelow 4 (fun c => decide (recField v (4 * c + 2) 1 < 16) && recField v (4 * c + 3) 1 == 0)

/-- ETH (R492). -/
def ethOk (caps : Nat) (v : List Byte) : Bool :=
  allBelow 2 (fun p =>
    if capHas caps (26 + p) then
      let m := recField v (4 * p) 1
      let a := recField v (4 * p + 1) 1
      let f := recField v (4 * p + 2) 1
      decide (m < 2) && decide (a < 16) && decide (f < 16) && recField v (4 * p + 3) 1 == 0 &&
        !(m == 0 && (decide (1 < a) || f != 1))
    else recField v (4 * p) 4 == 0)

/-- No element occurs twice. -/
def distinct (l : List Nat) : Bool := l.eraseDups.length == l.length

/-- PLY_PORTS (R493, R273): no port in two enabled slots, of one engine or of both. (DEDUCED, log entry 25.) -/
def plyPortsOk (v : List Byte) : Bool :=
  allBelow 2 (fun e => recField v (8 * e + 5) 3 == 0) && distinct ((plySlots v 0 ++ plySlots v 1).map (·.2))

/-- BRODYS (R494). -/
def brodysOk (caps : Nat) (v : List Byte) : Bool :=
  allBelow 16 (fun p =>
    if capHas caps (22 + p / 4) then
      decide (recField v (4 * p) 1 < 4) && decide (recField v (4 * p + 2) 1 < 64) && recField v (4 * p + 3) 1 == 0 &&
        distinct ((List.range 4).map (fun i => bitsOf (recField v (4 * p + 1) 1) (2 * i) 2))
    else recField v (4 * p) 4 == 0)

/-- Table 1-1 lists the master ID. -/
def masterListed (m : Nat) : Bool :=
  decide (m < 0x14) || [0x18, 0x19, 0x20, 0x21, 0x28, 0x29, 0x30, 0x32, 0x38, 0x40, 0x60].contains m ||
    (decide (0x48 ≤ m) && decide (m < 0x58))

/-- MEMORY (R495). -/
def memoryOk (v : List Byte) : Bool :=
  decide (recField v 0 1 ≤ 8) && recField v 1 7 == 0 &&
    allBelow 256 (fun m => decide (recField v (24 + m) 1 < (if masterListed m then 8 else 1)))

/-- INTERRUPTS (R496). -/
def interruptsOk (v : List Byte) : Bool :=
  allBelow 184 (fun i => decide (recField v (2 * i) 1 < 17) && decide (recField v (2 * i + 1) 1 < 16) &&
    (decide (i < 147) || (recField v (2 * i) 1 == 0 && recField v (2 * i + 1) 1 == 15))) &&
    allBelow 136 (fun n => decide (recField v (368 + n) 1 < 16))

/-- COUNTERS (R497). -/
def countersOk (v : List Byte) : Bool := allBelow 32 (fun i => decide (recField v (2 * i) 2 < 1024))

/-- One entry of AUTONOMOUS (R501). -/
def autoEntryOk (v : List Byte) (i : Nat) : Bool :=
  let off := recField v (16 * i + 4) 4
  let offOk := off % 4 == 0 && decide (off < 0x01500000)
  recField v (16 * i + 1) 1 == 0 &&
    (match recField v (16 * i) 1 with
    | 1 => offOk && recField v (16 * i + 2) 2 == 0 && recField v (16 * i + 12) 4 == 0
    | 2 => offOk
    | 3 => off == 0 && recField v (16 * i + 2) 2 == 0 && recField v (16 * i + 12) 4 == 0
    | _ => false)

/-- AUTONOMOUS (R501). -/
def autonomousOk (v : List Byte) : Bool := allBelow (v.length / 16) (autoEntryOk v)

/-- The bytes that a section's fields take, for the sections of fixed size. -/
def sectionSize (typ : Nat) : Option Nat :=
  match typ with
  | 1 => some 160 | 2 => some 120 | 3 => some 16 | 4 => some 8 | 5 => some 16 | 6 => some 64 | 7 => some 280 | 8 => some 504
  | 9 => some 64 | _ => none

/-- A section keeps its rule (Table 14-5 check 11). -/
def sectionOk (caps typ : Nat) (v : List Byte) : Bool :=
  (match sectionSize typ with
  | some n => decide (n ≤ v.length) && (v.drop n).all (· == 0)
  | none => true) &&
  (match typ with
  | 1 => clockOk caps v
  | 2 => islandsOk v
  | 3 => classMapOk v
  | 4 => ethOk caps v
  | 5 => plyPortsOk v
  | 6 => brodysOk caps v
  | 7 => memoryOk v
  | 8 => interruptsOk v
  | 9 => countersOk v
  | 10 => autonomousOk v && (v.drop (v.length / 16 * 16)).all (· == 0)
  | 11 => decide (v.length ≤ 4096)
  | _ => true)

/-- The sections of Table 14-2 that a reweave may hold (R504). -/
def reweavable (typ : Nat) : Bool :=
  [secISLANDS, secCLASSMAP, secPLYPORTS, secBRODYS, secINTERRUPTS, secCOUNTERS, secINFO].contains typ || decide (0x8000 ≤ typ)

/-- Table 14-2 does not reject the type. -/
def typeKnown (typ : Nat) : Bool := (decide (1 ≤ typ) && decide (typ ≤ 11)) || decide (0x8000 ≤ typ)

/-- The types rise (R488). -/
def rising : List Nat → Bool
  | a :: b :: r => decide (a < b) && rising (b :: r)
  | _ => true

/-- BAD_SECTIONS does not hold (Table 14-5 check 10). -/
def sectionsOk (img : List Byte) (l : List (Nat × List Byte)) (atStart : Bool) : Bool :=
  let types := l.map (·.1)
  rising types && types.all typeKnown && l.length == warpCount img &&
    bitSet (warpFlags img) 0 == types.contains secAUTONOMOUS &&
    (if atStart then [secCLOCK, secISLANDS, secMEMORY].all types.contains else types.all reweavable)

/-! ### Defaults (Table 14-4) -/

/-- The contents of a section absent from an image loaded at start (R498). -/
def defaultSection (caps typ : Nat) : List Byte :=
  match typ with
  | 3 => (List.range 4).flatMap (fun _ => natLe 2 (bitsOf caps 0 16) ++ natLe 2 (bitsOf caps 16 4))
  | 4 => (List.range 2).flatMap (fun p => if capHas caps (26 + p) then [0, 1, 1, 0] else [0, 0, 0, 0])
  | 5 => List.replicate 16 0
  | 6 => (List.range 16).flatMap (fun _ => [0, 0xE4, 0, 0])
  | 8 => (List.range 184).flatMap (fun _ => [0, 8]) ++ List.replicate 136 8
  | 9 => List.replicate 64 0
  | _ => []

/-- The value of a section among those of an image. -/
def sectionIn (l : List (Nat × List Byte)) (typ : Nat) : Option (List Byte) := (l.find? (fun q => q.1 == typ)).map (·.2)

/-- Every section that is in force after a start with an image. -/
def sectionsAfter (caps : Nat) (l : List (Nat × List Byte)) : SMap (List Byte) :=
  (List.range 12).foldl (fun m t => smSet [] m t ((sectionIn l t).getD (defaultSection caps t))) []

/-- The check across sections of R493: an enabled slot names a port whose GEN is 0. -/
def genMissing (ply brodys : List Byte) : Bool :=
  (plySlots ply 0 ++ plySlots ply 1).any (fun q => recField brodys (4 * q.2) 1 == 0)

/-! ### Reweave conditions (Table 14-6) -/

/-- The entries of a section that differ from those in force (R505). -/
def State.changed (s : State) (l : List (Nat × List Byte)) (typ n count : Nat) : List Nat :=
  match sectionIn l typ with
  | none => []
  | some v => (List.range count).filter (fun i => entryOf v n i != entryOf (s.sect typ) n i)

/-- The sources whose entry of INTERRUPTS changes (R496). -/
def State.changedSources (s : State) (l : List (Nat × List Byte)) : List Nat :=
  match sectionIn l secINTERRUPTS with
  | none => []
  | some v =>
    let f := s.sect secINTERRUPTS
    (List.range 320).filter (fun n =>
      if n < 136 then recField v (368 + n) 1 != recField f (368 + n) 1
      else recField v (2 * (n - 136)) 2 != recField f (2 * (n - 136)) 2)

/-- The highest GEN of a group in a BRODYS section. -/
def groupGen (v : List Byte) (g : Nat) : Nat := (List.range 4).foldl (fun m i => max m (recField v (4 * (4 * g + i)) 1)) 0

/-- A class has no context or session at work (Table 14-6, CLASS_MAP). -/
def State.classQuiet (s : State) (c : Nat) : Bool :=
  !((List.range 128).any (fun n => s.ctxClass n == c && [ctxRUNNING, ctxPAUSED, ctxDRAINING].contains (s.ctxState n))) &&
    !((List.range 16).any (fun e => s.encClass e == c && [encRUNNING, encDRAINING].contains (s.encState e)))

/-- A Brodys port lets its entry change: its island is not ON, or it is OFF. -/
def State.portQuiet (s : State) (p : Nat) : Bool := !s.islOn (22 + p / 4) || s.rd (BLK_STATUS_STATE p) == blkOFF

/-- Ports whose condition a BRODYS section needs: the changed ones, and whole groups whose highest GEN changes. -/
def State.portsAsked (s : State) (l : List (Nat × List Byte)) : List Nat :=
  let ch := s.changed l secBRODYS 4 16
  let v := (sectionIn l secBRODYS).getD (s.sect secBRODYS)
  (List.range 16).filter (fun p => ch.contains p || groupGen v (p / 4) != groupGen (s.sect secBRODYS) (p / 4))

/-- The section whose quiesce condition is unmet, lowest type first (Table 14-6). -/
def State.notQuiet (s : State) (l : List (Nat × List Byte)) : Option Nat :=
  let isl := s.changed l secISLANDS 4 30
  let v := (sectionIn l secISLANDS).getD []
  let cls := s.changed l secCLASSMAP 4 4
  let cv := (sectionIn l secCLASSMAP).getD []
  let encMask := fun (w : List Byte) => recField w 14 1
  if !isl.isEmpty && (s.pwr.req.isSome ||
      isl.any (fun i => recField v (4 * i) 1 == 3 && recField v (4 * i + 1) 1 == 0 && s.isl i != islOFF)) then some secISLANDS
  else if cls.any (fun c => !s.classQuiet c) ||
      (cls.contains 3 && encMask cv != encMask (s.sect secCLASSMAP) && s.rd SPE_CARD_STATUS_QUEUED != 0) then some secCLASSMAP
  else if (s.changed l secPLYPORTS 8 2).any (fun e => s.islOn (20 + e) && !(s.rd (PLY_CTL_RUN e) == 0 && s.on (PLY_STATUS_QUIESCED e)))
    then some secPLYPORTS
  else if (s.portsAsked l).any (fun p => !s.portQuiet p) then some secBRODYS
  else if (s.changedSources l).any (fun n => s.on (INT_SRC_EN n) || s.on (INT_SRC_ACTIVE n)) then some secINTERRUPTS
  else if (s.changed l secCOUNTERS 2 32).any (fun i => s.on (CNT_CTL_EN i)) then some secCOUNTERS
  else none

/-! ### Validation (R499, Table 14-5) -/

/-- The first type among sections that fails a test. -/
def firstBad (l : List (Nat × List Byte)) (bad : Nat × List Byte → Bool) : Option Nat := (l.find? bad).map (·.1)

/-- A warp key by KEY_ID (R531, Table 15-8): usage WARP in a chain ending at an owner slot, or at the root while no owner slot
is programmed. (DEDUCED, log entry 26.) -/
def State.warpKey (s : State) (keys : List BootKey) (id : List Byte) : Option (List Byte) :=
  let free := s.rd SEC_OWNER_PROGRAMMED == 0
  match keys.find? (fun k => (Config.sha3 k.pub).take 16 == id) with
  | some k => if bitSet k.usage 2 && (!k.root || free) then some k.pub else none
  | none => if (Config.sha3 Config.rootKey).take 16 = id ∧ free then some Config.rootKey else none

/-- Checks 2 to 7 of Table 14-5: the code of the first that fails, 0 for none. -/
def State.warpSealed (s : State) (keys : List BootKey) (img : List Byte) (atStart : Bool) : Nat :=
  let n := warpBodyLen img
  if !warpLengthOk img then 2
  else if !warpHeaderOk img atStart then 3
  else
    match s.warpKey keys (warpKeyId img) with
    | none => 4
    | some k =>
      if Config.sha3 (img.take (64 + n)) != imgDigest img n then 5
      else if !Config.mldsaVerify k (imgDigest img n) (imgSignature img n) then 6
      else if warpVersion img < smGet 0 s.sec.mctr 2 then 7
      else 0

/-- Checks 8 to 14 of Table 14-5: the code of the first that fails and the section it concerns. -/
def State.warpContents (s : State) (img : List Byte) (atStart : Bool) : Nat × Nat :=
  let caps := warpReqCaps img
  let named := if atStart then caps else caps.land s.wrp.caps
  let l := (warpSections img).getD []
  let ply := (sectionIn l secPLYPORTS).getD (if atStart then defaultSection caps secPLYPORTS else s.sect secPLYPORTS)
  let bro := (sectionIn l secBRODYS).getD (if atStart then defaultSection caps secBRODYS else s.sect secBRODYS)
  if caps.land s.caps != caps then (8, 0)
  else
    match firstBad l (fun q => namesAbsent named q.1 q.2) with
    | some t => (8, t)
    | none =>
      if !atStart && warpBaseTag img != (List.range 2).flatMap (fun j => natLe 4 (s.rd (WRP_DIGEST j))) then (9, 0)
      else if (warpSections img).isNone || !sectionsOk img l atStart then (10, 0)
      else
        match firstBad l (fun q => !sectionOk named q.1 q.2) with
        | some t => (11, t)
        | none =>
          if genMissing ply bro then (12, secPLYPORTS)
          else if atStart then (0, 0)
          else
            match s.notQuiet l with
            | some t => (13, t)
            | none => if !s.on WRP_STATUS_LOCKED then (14, 0) else (0, 0)

/-- Table 14-5 in its order, after the image has been read. (DEDUCED, log entry 25.) -/
def State.warpWhy (s : State) (keys : List BootKey) (img : List Byte) (atStart : Bool) : Nat × Nat :=
  let c := s.warpSealed keys img atStart
  if c ≠ 0 then (c, 0) else s.warpContents img atStart

end Sys2Proof.Machine
end

