-- ==== Sys2Proof/Machine/Warp.lean ====
section
/-! DEFINITION. The warp loader: applying sections (R489–R500) and reweaves (R504–R508, Table 14-7). -/

namespace Sys2Proof.Machine

open R

/-! ### Applying sections -/

/-- The frequency of a domain under a CLOCK section, domains that the interface sets included (Table 14-3); those of the Brodys
groups and of CK_PIPE follow separately. -/
def clockInForce (caps : Nat) (v : List Byte) (d : Nat) : Nat :=
  if d = 25 ∨ d = 26 then 4 * recField v (4 * (d - 2)) 4
  else if d = 29 ∨ d = 30 then (if capHas caps (d - 3) then 805664 else 0)
  else if d = 31 then (if capHas caps 26 || capHas caps 27 then 402832 else 0)
  else if d = 37 then 25000
  else recField v (4 * d) 4

/-- CK_BLGg of the highest generation of its group (R20), in kHz. -/
def State.showBlg (s : State) : State :=
  s.each (List.range 4) (fun g t =>
    let m := (List.range 4).foldl (fun m i => max m (t.rd (BLK_CTL_GEN (4 * g + i)))) 0
    t.wr (WRP_CLK (32 + g)) (if m = 0 then 0 else 125000 * 2 ^ (m - 1)))

/-- Load one entry of a section that a reweave may replace (R490, R491, R493, R494, R496, R497). -/
def State.loadEntry (s : State) (typ : Nat) (v : List Byte) (i : Nat) : State :=
  match typ with
  | 2 => s.wr (PWR_ISL_STATE_SWITCHABLE i) (recField v (4 * i + 1) 1)
  | 3 => (s.wr (STC_CLASSMAP_DEC_MASK i) (recField v (4 * i) 2)).wr (STC_CLASSMAP_ENC_MASK i) (recField v (4 * i + 2) 1)
  | 5 => (s.wr (PLY_PORTMAP i) (recField v (8 * i) 4)).wr (PLY_PORTEN i) (recField v (8 * i + 4) 1)
  | 6 =>
    let b := recField v (4 * i + 2) 1
    ((((s.wr (BLK_CTL_GEN i) (recField v (4 * i) 1)).wr (BLK_LANECFG_LMAP i) (recField v (4 * i + 1) 1)).wr
      (BLK_LANECFG_POL i) b).wr (BLK_LANECFG_POL_CL i) (bitOf b 4)).wr (BLK_LANECFG_POL_RL i) (bitOf b 5)
  | 8 =>
    if i < 136 then s.wr (INT_SRC_PRIORITY i) (recField v (368 + i) 1)
    else (s.wr (INT_SRC_TARGET i) (recField v (2 * (i - 136)) 1)).wr (INT_SRC_PRIORITY i) (recField v (2 * (i - 136) + 1) 1)
  | 9 => s.wr (CNT_SEL_EVENT i) (recField v (2 * i) 2)
  | _ => s

/-- The entries of a section that `loadEntry` loads. -/
def entryCount (typ : Nat) : Nat :=
  match typ with
  | 2 => 30 | 3 => 4 | 5 => 2 | 6 => 16 | 8 => 320 | 9 => 32 | _ => 0

/-- Load an ETH section (R492): MODE is meaningful at the first logical port of a physical port. -/
def State.loadEth (s : State) (v : List Byte) : State :=
  s.each (List.range 2) (fun p t =>
    (t.wr (ING_PORT_CTL_MODE (4 * p)) (recField v (4 * p) 1)).each (List.range 4) (fun l u =>
      (u.wr (ING_PORT_CTL_AN (4 * p + l)) (bitOf (recField v (4 * p + 1) 1) l)).wr
        (ING_PORT_CTL_FEC (4 * p + l)) (bitOf (recField v (4 * p + 2) 1) l)))

/-- Load a MEMORY section (R495); its traffic classes stay in the section in force. -/
def State.loadMemory (s : State) (v : List Byte) : State :=
  (s.wr MEM_CTL_GRAIN (recField v 0 1)).each (List.range 8) (fun i t => t.wr (MEM_PORT_TARGET i) (recField v (8 + 2 * i) 2))

/-- Apply an image at start and lock (R500). -/
def State.warpApply (s : State) (img : List Byte) : State :=
  let caps := warpReqCaps img
  let m := sectionsAfter caps ((warpSections img).getD [])
  let s := { s with wrp := { s.wrp with caps := caps, sects := m } }
  let s := s.each (List.range 40) (fun d t => t.wr (WRP_CLK d) (clockInForce caps (t.sect secCLOCK) d))
  let s := s.each [2, 3, 5, 6, 8, 9] (fun typ t => t.each (List.range (entryCount typ)) (fun i u => u.loadEntry typ (u.sect typ) i))
  let s := ((s.loadEth (s.sect secETH)).loadMemory (s.sect secMEMORY)).showBlg
  let n := warpBodyLen img
  let s := s.each (List.range 16) (fun j t => t.wr (WRP_DIGEST j) (recField (imgDigest img n) (4 * j) 4))
  ((s.wr WRP_IMG_VERSION (warpVersion img)).wr WRP_STATUS_LOCKED 1).showPipe

/-! ### Reweaves -/

/-- A read that may cross from one region to the next: regions and segments begin at multiples of 2^32. -/
def State.readLong (s : State) (m acc a n : Nat) : Nat × List Byte × State :=
  let n1 := min n (2 ^ 32 - a % 2 ^ 32)
  let x := s.busRead m acc a n1
  if n1 = n then x
  else
    let y := x.2.2.busRead m acc (a + n1) (n - n1)
    ((if x.1 = 0 then y.1 else x.1), x.2.1 ++ y.2.1, y.2.2)

/-- A reweave ends without effect (R507). -/
def State.reweaveFail (s : State) (a why sect : Nat) : State :=
  let s := ((s.wr WRP_STATUS_BUSY 0).wr WRP_CTL_GO 0).wr WRP_STATUS_FAIL 1
  ((s.wr WRP_STATUS_WHY why).wr WRP_FAIL_SECTION sect).raise { cls := 20, master := 0x38, addr := a }

/-- What a reweave holds (R506). (DEDUCED, log entry 25.) -/
def State.holdOf (s : State) (l : List (Nat × List Byte)) : Hold where
  active := true
  classes := s.changed l secCLASSMAP 4 4
  engines := s.changed l secPLYPORTS 8 2
  ports := s.changed l secBRODYS 4 16
  sources := s.changedSources l
  counters := s.changed l secCOUNTERS 2 32

/-- The islands that a reweave brings to ON: those made FIXED with INITIAL ON (Table 14-6). -/
def State.riseOf (s : State) (l : List (Nat × List Byte)) : List Nat :=
  let v := (sectionIn l secISLANDS).getD []
  (s.changed l secISLANDS 4 30).filter (fun i => recField v (4 * i) 2 == 0 && !s.islOn i && s.present i)

/-- The units that a reweave fences (Table 14-6). -/
def State.fenceOf (s : State) (l : List (Nat × List Byte)) : List Nat :=
  ((s.changed l secPLYPORTS 8 2).filter (fun e => s.islOn (20 + e))).map (0x18 + ·) ++
    ((s.changed l secBRODYS 4 16).filter (fun p => s.islOn (22 + p / 4))).map (0x48 + ·)

/-- Fence a unit for a reweave; one that is fenced already stays fenced until the load (R48). (DEDUCED, log entry 25.) -/
def State.reweaveFence (s : State) (m : Nat) : State :=
  match s.fence m with
  | some f => { s with pwr := { s.pwr with fences := smSet none s.pwr.fences m (some { f with cause := .reweave }) } }
  | none => s.startFence m .reweave

/-- Steps 4 and 5 of Table 14-7: the units fenced are those affected once the islands are ON (R48). -/
def State.reweaveBegin (s : State) (l : List (Nat × List Byte)) : State :=
  let h := s.holdOf l
  let rise := s.riseOf l
  let units := (s.each rise (fun i t => t.islandUp i)).fenceOf l
  let m := l.foldl (fun m q => smSet [] m q.1 q.2) ([] : SMap (List Byte))
  let s := { s with wrp := { s.wrp with hold := h, reweave := some { sects := m, rise := rise, units := units } } }
  (s.each rise (fun i t => t.islandUp i)).each units (fun u t => t.reweaveFence u)

/-- `WRP_CTL.GO` (R506–R508, Table 14-7 steps 1 to 5): the image is read as master 0x38 and checked. -/
def State.reweaveGo (s : State) : State :=
  if s.on WRP_STATUS_BUSY then s
  else
    let a := 2 ^ 32 * s.rd WRP_SRC_HI + s.rd WRP_SRC_LO
    let s := (s.wr WRP_STATUS_BUSY 1).wr WRP_CTL_GO 1
    let x := s.readLong 0x38 0 a (s.rd WRP_LEN)
    let s := x.2.2
    let w := if x.1 ≠ 0 then (1, 0) else s.warpWhy s.sec.keys x.2.1 false
    if w.1 ≠ 0 then s.reweaveFail a w.1 w.2 else s.reweaveBegin ((warpSections x.2.1).getD [])

/-- REWEAVE_GO. -/
def execReweaveGo (s : State) : Host.Outcome State Fault Refusal := s.finishOnce s.reweaveGo id

/-- The fence of a unit stands at the end of its step 6, or there is none. -/
def State.fenceDone (s : State) (m : Nat) : Bool :=
  match s.fence m with
  | some f => f.phase == .waitLoad
  | none => true

/-- Load the changed entries of one section and put it in force. -/
def State.reweaveSection (s : State) (typ : Nat) (v : List Byte) (ch : List Nat) : State :=
  let s := s.each ch (fun i t => t.loadEntry typ v i)
  { s with wrp := { s.wrp with sects := smSet [] s.wrp.sects typ v } }

/-- The changed entries of a section of a reweave. (DEDUCED, log entry 25.) -/
def State.changedIn (s : State) (l : List (Nat × List Byte)) (typ : Nat) : List Nat :=
  match typ with
  | 2 => s.changed l 2 4 30
  | 3 => s.changed l 3 4 4
  | 5 => s.changed l 5 8 2
  | 6 => s.changed l 6 4 16
  | 8 => s.changedSources l
  | 9 => s.changed l 9 2 32
  | _ => []

/-- Steps 6 and 7 of Table 14-7: once every fence has come to its end, fields are written and the fences lift. -/
def State.reweaveLoad (s : State) : State :=
  match s.wrp.reweave with
  | none => s
  | some r =>
    if r.units.all s.fenceDone then
      let s := s.each [2, 3, 5, 6, 8, 9] (fun typ t =>
        match sectionIn r.sects typ with
        | some v => t.reweaveSection typ v (t.changedIn r.sects typ)
        | none => t)
      let s := { s.showBlg with wrp := { s.wrp with hold := {}, reweave := none } }
      let s := s.each (r.units.filter s.fenced) (fun m t => t.fenceLift m)
      let s := (((s.wr WRP_STATUS_BUSY 0).wr WRP_CTL_GO 0).wr WRP_STATUS_DONE 1).wr WRP_STATUS_WHY 0
      (s.bump WRP_REWEAVE_CNT).arbitrate
    else s

/-- REWEAVE_LOAD. -/
def execReweaveLoad (s : State) : Host.Outcome State Fault Refusal := s.finish s.reweaveLoad

end Sys2Proof.Machine
end

