-- ==== Sys2Proof/Machine/Startup.lean ====
section
/-! DEFINITION. What a start loads and verifies: boot flash, signed envelopes, key bundle, patch container (R528–R532,
R539–R541, 15_startup_microcode_security.md), and the built-in coefficient banks (R301). -/

namespace Sys2Proof.Machine

open R

/-! ### Boot flash (R528, R529) -/

/-- The directory copy at an address of a boot image: valid when its MAGIC and CRC are correct (Table 15-6). -/
def dirAt (m : SMap Byte) (a : Nat) : Option (List Byte) :=
  let d := memBytes m a 0x400
  if slice d 0 4 = [0x4B, 0x42, 0x46, 0x44] ∧ recField d 0x3FC 4 = crc32 (d.take 0x3FC) then some d else none

/-- The directory in use: the valid copy with the higher SEQ, the first at equal values. -/
def dirOf (m : SMap Byte) : Option (List Byte) :=
  match dirAt m 0, dirAt m 0x10000 with
  | some a, some b => if recField a 8 4 < recField b 8 4 then some b else some a
  | some a, none => some a
  | none, b => b

/-- Entries of a directory: (type, slot, offset, length). -/
def dirEntries (d : List Byte) : List (Nat × Nat × Nat × Nat) :=
  (List.range (min 16 (recField d 7 1))).map (fun i =>
    (recField d (0x40 + 16 * i) 1, recField d (0x41 + 16 * i) 1, recField d (0x44 + 16 * i) 4, recField d (0x48 + 16 * i) 4))

/-- The bytes of a component of a type in a slot. -/
def component (m : SMap Byte) (d : List Byte) (typ slot : Nat) : Option (List Byte) :=
  ((dirEntries d).find? (fun e => e.1 == typ && e.2.1 == slot)).map (fun e => memBytes m e.2.2.1 e.2.2.2)

/-- Load a component (R529): the ACTIVE slot's entry, or the other slot's when that one is absent or fails. -/
def loadComponent (m : SMap Byte) (d : List Byte) (typ : Nat) (ok : List Byte → Bool) : Option (Nat × List Byte) :=
  let a := recField d 6 1
  match (component m d typ a).filter ok, (component m d typ (1 - a)).filter ok with
  | some x, _ => some (a, x)
  | none, some y => some (1 - a, y)
  | none, none => none

/-! ### Envelopes (R530) -/

/-- VERSION, BODY_LEN, KEY_ID and body of an envelope. -/
def envVersion (img : List Byte) : Nat := recField img 0x0C 4
def envBodyLen (img : List Byte) : Nat := recField img 0x10 4
def envKeyId (img : List Byte) : List Byte := slice img 0x14 16
def envBody (img : List Byte) : List Byte := slice img 64 (envBodyLen img)

/-- MAGIC of a component type. -/
def envMagic (typ : Nat) : List Byte :=
  match typ with
  | 1 => [0x4B, 0x42, 0x46, 0x57] | 2 => [0x4B, 0x55, 0x43, 0x50] | _ => [0x4B, 0x4B, 0x42, 0x44]

/-- The largest component of a type (Table 15-7). -/
def envLimit (typ : Nat) : Nat := match typ with | 1 => 2 ^ 21 | 4 => 2 ^ 18 | _ => 2 ^ 20

/-- Length and header of an envelope are right. -/
def envHeaderOk (typ : Nat) (img : List Byte) : Bool :=
  decide (4755 ≤ img.length) && decide (img.length ≤ envLimit typ) && img.length == 4755 + envBodyLen img &&
    slice img 0 4 == envMagic typ && recField img 4 2 == 1 && recField img 6 2 == 64 && recField img 8 2 == typ &&
    recField img 0x0A 2 == 0 && (typ == 2 || recField img 0x24 28 == 0)

/-- Verification in the order of R530: length, header, key, digest, signature, rollback. -/
def envOk (typ counter : Nat) (key : List Byte → Option (List Byte)) (img : List Byte) : Bool :=
  envHeaderOk typ img &&
    (match key (envKeyId img) with
    | none => false
    | some k => Config.sha3 (img.take (64 + envBodyLen img)) == imgDigest img (envBodyLen img) &&
        Config.mldsaVerify k (imgDigest img (envBodyLen img)) (imgSignature img (envBodyLen img))) &&
    decide (counter ≤ envVersion img)

/-! ### The key bundle (R531, Table 15-8) -/

/-- The first 16 bytes of SHA3-512 of a key. -/
def keyId (pub : List Byte) : List Byte := (Config.sha3 pub).take 16

/-- An owner slot is programmed with the hash of a key and not revoked. -/
def State.ownerHas (s : State) (n : Nat) (pub : List Byte) : Bool :=
  smGet none s.sec.owner n == some (Config.sha3 pub) && !bitSet s.sec.revoked n

/-- Whether a record of the bundle is accepted, given the earlier ones. (DEDUCED, log entry 26.) -/
def State.acceptKey (s : State) (prev : List (Option BootKey)) (r : List Byte) : Option BootKey :=
  let usage := recField r 0 4
  let parent := recField r 4 1
  let pub := slice r 8 2592
  let sig := slice r 2600 4627
  let msg := Config.sha3 (r.take 2600)
  if parent = 0xFE then
    if Config.mldsaVerify Config.rootKey msg sig then some { usage := usage, pub := pub, root := true } else none
  else if 0xF0 ≤ parent ∧ parent < 0xF4 then
    if s.ownerHas (parent - 0xF0) pub ∧ sig.all (· == 0) then some { usage := usage, pub := pub, root := false } else none
  else if parent < 16 then
    match (prev[parent]?).getD none with
    | some k => if bitSet k.usage 5 ∧ Config.mldsaVerify k.pub msg sig then some { usage := usage, pub := pub, root := k.root } else none
    | none => none
  else none

/-- The records of a bundle's body, each accepted or not. (DEDUCED, log entry 26.) -/
def State.bundleKeys (s : State) (body : List Byte) : List (Option BootKey) :=
  (List.range (body.length / 7232)).foldl (fun l i => l ++ [s.acceptKey l (slice body (7232 * i) 7232)]) []

/-- The key that signs a bundle: the root key, or an accepted owner record of the bundle with usage BUNDLE. -/
def State.bundleKey (s : State) (img id : List Byte) : Option (List Byte) :=
  let body := envBody img
  let owners := ((List.range (body.length / 7232)).filter (fun i => decide (0xF0 ≤ recField body (7232 * i + 4) 1) &&
    decide (recField body (7232 * i + 4) 1 < 0xF4))).filterMap (fun i => s.acceptKey [] (slice body (7232 * i) 7232))
  if keyId Config.rootKey = id then some Config.rootKey
  else (owners.find? (fun k => keyId k.pub == id && bitSet k.usage 4)).map (·.pub)

/-- The key bundle verifies. (DEDUCED, log entry 26.) -/
def State.bundleOk (s : State) (img : List Byte) : Bool :=
  envOk 4 (smGet 0 s.sec.mctr 3) (s.bundleKey img) img && envBodyLen img % 7232 == 0

/-- A key for firmware or patch containers (usages BOOT_FW and UCODE): only in a chain ending at the root. (DEDUCED, log entry 26.) -/
def rootedKey (keys : List BootKey) (usage : Nat) (id : List Byte) : Option (List Byte) :=
  match keys.find? (fun k => keyId k.pub == id) with
  | some k => if bitSet k.usage usage && k.root then some k.pub else none
  | none => if keyId Config.rootKey = id then some Config.rootKey else none

/-! ### The patch container (R539–R541) -/

/-- Bytes of one entry of a record kind (Table 15-14), none for an unknown kind. -/
def patchEntry (kind : Nat) : Option Nat := match kind with | 0 => some 4 | 1 => some 4 | 2 => some 20 | 3 => some 8 | 4 => some 4 | _ => none

/-- The records of a decrypted container (R540). -/
def patchRecords : Nat → List Byte → Option (List UcodePatch)
  | _, [] => some []
  | 0, _ => none
  | n + 1, b =>
    match patchEntry (recField b 0 1) with
    | none => none
    | some sz =>
      let count := recField b 2 2
      let len := cdiv (sz * count) 8 * 8
      if b.length < 8 + len ∨ recField b 6 2 ≠ 0 ∨ 4 ≤ recField b 1 1 then none
      else
        let r : UcodePatch := { kind := recField b 0 1, type := recField b 1 1, count := count, start := recField b 4 2, data := slice b 8 (sz * count) }
        (patchRecords n (b.drop (8 + len))).map (r :: ·)

/-- Types that the BASE record lists, each with the version it requires. -/
def baseTypes (r : UcodePatch) : List (Nat × Nat) :=
  (List.range r.count).map (fun i => (recField r.data (4 * i) 1, recField r.data (4 * i + 2) 2))

/-- A BASE record names types and the ROM's base versions (R540). (DEDUCED, log entry 27.) -/
def baseOk (r : UcodePatch) : Bool := (baseTypes r).all (fun q => decide (q.1 < 4) && Config.ucodeBase q.1 == q.2)

/-- A record keeps the limits of R541 that concern it alone; every kind but BASE is for a type that the first record lists. -/
def patchRecordOk (types : List Nat) (r : UcodePatch) : Bool :=
  (r.kind == 0 || types.contains r.type) &&
  (match r.kind with
  | 0 => baseOk r
  | 1 => decide (0x3000 ≤ r.start) && decide (r.start + r.count ≤ 0x4000)
  | 2 => decide (1792 ≤ r.start) && decide (r.start + r.count ≤ 2048)
  | 3 => allBelow r.count (fun i => decide (bitsOf (recField r.data (8 * i) 2) 0 14 < 0x3000))
  | 4 => allBelow r.count (fun i => decide (bitsOf (recField r.data (4 * i) 4) 16 13 ≤ 4096))
  | _ => false)

/-- Entries of a kind for a type. -/
def patchTotal (l : List UcodePatch) (kind typ : Nat) : Nat :=
  (l.filter (fun r => r.kind == kind && r.type == typ)).foldl (fun n r => n + r.count) 0

/-- A container's records keep R540 and R541. -/
def patchesOk (l : List UcodePatch) : Bool :=
  match l with
  | [] => false
  | b :: r =>
    b.kind == 0 && baseOk b &&
      r.all (patchRecordOk ((baseTypes b).map (·.1))) &&
      allBelow 4 (fun y => decide (patchTotal r 1 y ≤ 4096) && decide (patchTotal r 2 y ≤ 256) && decide (patchTotal r 3 y ≤ 64))

/-- The records of a container whose envelope has verified: decrypted with the header as additional data (R539). -/
def containerRecords (img : List Byte) : Option (List UcodePatch) :=
  match Config.gcmOpen (slice img 0x24 12) (img.take 0x24) (envBody img) (slice img 0x30 16) with
  | none => none
  | some p => (patchRecords p.length p).filter patchesOk

/-- The patch container verifies. -/
def State.containerOk (s : State) (keys : List BootKey) (img : List Byte) : Bool :=
  envOk 2 (smGet 0 s.sec.mctr 1) (rootedKey keys 1) img && (containerRecords img).isSome

/-- The boot firmware verifies. -/
def State.firmwareOk (s : State) (keys : List BootKey) (img : List Byte) : Bool :=
  envOk 1 (smGet 0 s.sec.mctr 0) (rootedKey keys 0) img

/-- Base values of the microcode registers, then YIELD records and the container's VERSION (R545). (DEDUCED, log entry 27.) -/
def State.showUcode (s : State) (l : List UcodePatch) (version : Nat) : State :=
  let s := s.each (List.range 4) (fun y t =>
    (t.wr (UCS_VER_BASE y) (Config.ucodeBase y)).each (List.range (if y < 2 then 4 else 1)) (fun i u =>
      u.wr (UCS_YIELD_SPAN y i) (Config.ucodeSpan y i)))
  s.each (l.drop 1) (fun r t =>
    let t := t.iff (r.kind != 0) (·.wr (UCS_VER_PATCH r.type) version)
    if r.kind = 4 then
      t.each (List.range r.count) (fun i u =>
        let w := recField r.data (4 * i) 4
        if w % 16 < (if r.type < 2 then 4 else 1) then u.wr (UCS_YIELD_SPAN r.type (w % 16)) (bitsOf w 16 13) else u)
    else t)

/-! ### Built-in coefficient banks (R301, Table 7-8) -/

/-- sin(π m / 256) in units of 10^-18, for m up to 128, by its series in fixed point. -/
def sinFix (m : Nat) : Int :=
  let a : Int := 3141592653589793238 * m / 256
  let step := fun (p : Int × Int) (k : Nat) =>
    let t := -(p.2 * a / 1000000000000000000 * a / 1000000000000000000) / ((2 * k + 2) * (2 * k + 3) : Nat)
    (p.1 + t, t)
  ((List.range 12).foldl step (a, a)).1

/-- sin(π m / 256) for m from −256 to 256. -/
def sinPi (m : Int) : Int :=
  let n := m.natAbs
  let v := sinFix (if n ≤ 128 then n else 256 - n)
  if m < 0 then -v else v

/-- The weight of a LANCZOS4 tap at phase `p`, up to a factor common to the taps of the phase. -/
def lanczosWeight (p j : Nat) : Int :=
  let m : Int := 64 * ((j : Int) - 3) - p
  if p = 0 then (if j = 3 then 1 else 0)
  else (if j % 2 = 0 then 1 else -1) * sinPi m * 1000000 / (m * m)

/-- The weight of a CATMULL_ROM tap at phase `p`, in units of 2^-19. -/
def catmullWeight (p j : Nat) : Int :=
  let t : Int := p
  match j with
  | 2 => -(t * t * t) + 128 * t * t - 4096 * t
  | 3 => 3 * (t * t * t) - 320 * t * t + 524288
  | 4 => -3 * (t * t * t) + 256 * t * t + 4096 * t
  | 5 => t * t * t - 64 * t * t
  | _ => 0

/-- A tap of a phase normalised to a sum of 1024. Each tap but the central one is its exact value or, where that is no integer, one
of its two neighbours, which of them being a free value; the central tap takes the rest (DESIGN CHOICE, log entry 32). -/
def normTap (bank : Nat) (w : Nat → Int) (p j : Nat) : Int :=
  let sum := (List.range 8).foldl (fun (n : Int) i => n + w i) 0
  let side := fun (i : Nat) =>
    let x := 1024 * w i
    x / sum + (if x % sum = 0 then 0 else ((Config.coefUp bank p i % 2 : Nat) : Int))
  let mid := if p < 32 then 3 else 4
  if j = mid then 1024 - (((List.range 8).filter (· != mid)).foldl (fun (n : Int) i => n + side i) 0) else side j

/-- Tap `j` of phase `p` of a built-in bank (Table 7-8). -/
def builtInTap (b p j : Nat) : Int :=
  match b with
  | 0 => if j = (if p < 32 then 3 else 4) then 1024 else 0
  | 1 => if j = 3 then 1024 - 16 * p else if j = 4 then 16 * p else 0
  | 2 => normTap 2 (lanczosWeight p) p j
  | _ => normTap 3 (catmullWeight p) p j

/-- Load the shadow and active copies of banks 0–3 of both engines. -/
def State.loadBanks (s : State) : State :=
  s.each [0, 1] (fun e t => t.each (List.range 4) (fun b t => t.each (List.range 64) (fun p t => t.each (List.range 4) (fun j t =>
    let lo := ofSign 12 (builtInTap b p (2 * j))
    let hi := ofSign 12 (builtInTap b p (2 * j + 1))
    (((t.wr (PLY_COEF_LO e b p j) lo).wr (PLY_COEF_HI e b p j) hi).wr (PLY_COEF_ACT_LO e b p j) lo).wr (PLY_COEF_ACT_HI e b p j) hi))))

end Sys2Proof.Machine
end

