-- ==== Sys2Proof/Machine/Boot.lean ====
section
/-! DEFINITION. Starts, failed starts and recovery boot (R510–R529, 15_startup_microcode_security.md). -/

namespace Sys2Proof.Machine

open R

/-- Phases of `SEC_BOOT_STATUS.PHASE` (Table 15-16). -/
def phROM : Nat := 0
def phFW : Nat := 1
def phPATCH : Nat := 2
def phWARP : Nat := 3
def phBRINGUP : Nat := 4
def phREADY : Nat := 5
def phRECOVERY : Nat := 6
def phHALTED : Nat := 7

/-- Kinds of a start. -/
def kdCOLD : Nat := 0
def kdWARM : Nat := 1
def kdFALLBACK : Nat := 2
def kdRECOVERY : Nat := 3

/-- CK_AON cycles of 40 ns since VDD_AON rose. -/
def State.aonCount (s : State) : Nat := (s.elapsed - s.aon.since) / 40

/-! ### What a start leaves (R477, R510, R511) -/

/-- What MRAM and the fuses keep of the security block. (DEDUCED, log entry 40.) -/
def SecSt.kept (r : SecSt) : SecSt where
  startCnt := r.startCnt
  lastReady := r.lastReady
  warmFails := r.warmFails
  coldFails := r.coldFails
  lastFail := r.lastFail
  warm := r.warm
  mctr := r.mctr
  owner := r.owner
  revoked := r.revoked
  restartAt := none
  due := none

/-- SEQ of the newest valid log record (R480). (DEDUCED, log entry 27.) -/
def logNewest (m : SMap Byte) : Nat :=
  (List.range 4096).foldl (fun q i =>
    let r := memBytes m (0x40000 + 64 * i) 64
    let n := recField r 0 8
    if q < n ∧ recField r 60 4 = crc32 (r.take 60) then n else q) 0

/-- Show what MRAM, fuses and ROM hold (Tables 15-16 and 15-17, `PWR_ISL_STATE.ABSENT`). (DEDUCED, log entry 20.) -/
def State.showKept (s : State) : State :=
  let r := s.sec
  let s := (((s.wr SEC_START_CNT_LO r.startCnt).wr SEC_FAILS_WARM r.warmFails).wr SEC_FAILS_COLD r.coldFails).wr
    SEC_BOOT_STATUS_LAST_FAIL r.lastFail
  let s := s.each (List.range 8) (fun j t => t.wr (SEC_MCTR j) (smGet 0 r.mctr j))
  let s := s.wr SEC_OWNER_PROGRAMMED ((List.range 4).foldl (fun n i => n + b2n (smGet none r.owner i).isSome * 2 ^ i) 0)
  let s := (s.wr SEC_OWNER_REVOKED r.revoked).each (List.range 4) (fun j t => t.wr (SEC_SERIAL j) (Config.serialWord j))
  let s := s.each (List.range 30) (fun i t => t.wr (PWR_ISL_STATE_ABSENT i) (b2n (!t.present i)))
  (s.wr FLT_LOG_SEQ_LO s.flt.seq).showUcode [] 0

/-- Every domain but CK_AON goes to its reset state; MRAM, flash, fuses and the pins keep theirs. Device time starts at 0, and HBM
holds nothing (DEDUCED, log entry 40). (DEDUCED, log entry 27.) -/
def State.domainReset (s : State) : State :=
  let dev := s.on FLT_STATE_DEVICE
  let r := State.reset
  let t : State := { r with
    part := s.part, hostMem := s.hostMem, mram := s.mram, flash := s.flash, elapsed := s.elapsed, fresh := s.fresh, out := s.out
    pending := s.pending, aon := { s.aon with avs := none, i2cAsked := false, startPeak := none }, sec := s.sec.kept
    flt := { r.flt with seq := logNewest s.mram } }
  (t.iff dev (·.emit (.pin "FAULT_N" true))).showKept

/-! ### The warm-start record (R515, R517, R523) -/

/-- The warm-start record is valid (R523). -/
def State.warmValid (s : State) : Bool := match s.sec.warm with | some w => w.start == s.sec.lastReady | none => false

/-- The record's WARP_TAG is that of the image loaded (R515). -/
def State.warmTagOk (s : State) : Bool :=
  match s.sec.warm with
  | some w => w.tag == (List.range 2).flatMap (fun j => natLe 4 (s.rd (WRP_DIGEST j)))
  | none => false

/-- Holdover of a record is still valid (R517). -/
def State.holdoverValid (s : State) (w : WarmRec) : Bool :=
  (w.ptpState == ptpLOCKED || w.ptpState == ptpHOLDOVER) && w.epoch == s.aon.epoch &&
    decide ((s.elapsed - w.holdStart) / 40 ≤ 25000000 * w.holdS)

/-- Restore the PTP state (R517). -/
def State.restorePtp (s : State) (w : WarmRec) : State :=
  if s.holdoverValid w then
    let s := s.setDevTime (w.time + 40 * (s.aonCount - w.count))
    let s := ((s.wr PTP_STATE_STATE ptpHOLDOVER).wr PTP_FREQ_PPB w.freq).wr SEC_BOOT_STATUS_PTP_RESTORED 1
    s.modPtp (fun p => { p with restored := some w.gm, holdSince := w.holdStart })
  else s

/-- The record that a shutdown writes (Table 15-3). -/
def State.warmRecord (s : State) : WarmRec where
  start := s.sec.startCnt
  tag := (List.range 2).flatMap (fun j => natLe 4 (s.rd (WRP_DIGEST j)))
  epoch := s.aon.epoch
  count := s.aonCount
  ptpState := s.rd PTP_STATE_STATE
  holdS := s.rd PTP_HOLDOVER_S
  freq := s.rd PTP_FREQ_PPB
  time := s.devTime
  holdStart := if s.rd PTP_STATE_STATE = ptpHOLDOVER then s.ing.ptp.holdSince else s.elapsed
  gm := 2 ^ 32 * s.rd PTP_GM_ID_HI + s.rd PTP_GM_ID_LO
  topo := (List.range 16).foldl (fun m p =>
    if (s.port p).hash = 0 then m
    else smSet none m p (some ((s.port p).hash, (List.range (s.rd (BLK_STATUS_TILES p))).map (fun i => s.rd (BLK_TILE_AUTH p i))))) []

/-! ### The start sequence (Table 15-1, R514) -/

/-- What a start has loaded: accepted keys, then firmware, patch container, warp image and key bundle, and SLOT_USED. -/
structure Loaded where
  keys : List BootKey := []
  fw : List Byte := []
  ucode : List Byte := []
  warp : List Byte := []
  bundle : List Byte := []
  slots : Nat := 0

/-- Steps 2 to 5 of Table 15-1 up to the verification of the warp image: the Table 15-2 reason and the PHASE in which it comes up,
or what was loaded. -/
def State.verifyBoot (s : State) (m : SMap Byte) : Except (Nat × Nat) Loaded :=
  match dirOf m with
  | none => .error (1, phROM)
  | some d =>
    match loadComponent m d 4 s.bundleOk with
    | none => .error (5, phFW)
    | some b =>
      let keys := (s.bundleKeys (envBody b.2)).filterMap id
      match loadComponent m d 1 (s.firmwareOk keys) with
      | none => .error (2, phFW)
      | some f =>
        match loadComponent m d 2 (s.containerOk keys) with
        | none => .error (3, phPATCH)
        | some u =>
          match loadComponent m d 3 (fun img => (s.warpWhy keys img true).1 == 0) with
          | none => .error (4, phWARP)
          | some w => .ok { keys := keys, fw := f.2, ucode := u.2, warp := w.2, bundle := b.2
                            slots := f.1 + 2 * u.1 + 4 * w.1 + 8 * b.1 }

/-- The code that the warp loader reports for an image rejected at start: that of the ACTIVE slot's image, or of the other's when
that slot has none. -/
def State.startWhy (s : State) (m : SMap Byte) : Nat :=
  match dirOf m with
  | none => 0
  | some d =>
    let keys := match loadComponent m d 4 s.bundleOk with
      | some b => (s.bundleKeys (envBody b.2)).filterMap id
      | none => []
    let a := recField d 6 1
    match component m d 3 a, component m d 3 (1 - a) with
    | some i, _ => (s.warpWhy keys i true).1
    | none, some i => (s.warpWhy keys i true).1
    | none, none => 0

/-- The boot ROM writes V_set over AVSBus, rail 0 (R549). -/
def State.bootVset (s : State) (avs : Bool) : State :=
  if avs then
    let v := Config.fusedVset
    (({ s with aon := { s.aon with avs := some v } }).wr GLB_VCORE_SET_MV v).emit (.serial "AVSBUS" [0, v])
  else s.wr GLB_VCORE_AVS_FAIL 1

/-- Step 5 decides the kind of the start (R515), and a warm start takes up the record (R516, R517). -/
def State.decideKind (s : State) : State :=
  let warm := s.warmValid && s.warmTagOk && decide (s.sec.warmFails < 3) && !s.sec.cold
  let s := { s with sec := { s.sec with kindKnown := true } }
  match s.sec.warm with
  | some w =>
    if warm then
      let s := { s with sec := { s.sec with warmTopo := w.topo } }
      (s.wr SEC_BOOT_STATUS_KIND kdWARM).restorePtp w
    else s
  | none => s

/-- The components are in force: digests, versions, keys, patches, the warp image and its lock. (DEDUCED, log entry 20.) -/
def State.applyLoaded (s : State) (l : Loaded) : State :=
  let recs := (containerRecords l.ucode).getD []
  let dig := fun (img : List Byte) => imgDigest img (envBodyLen img)
  let s := { s with sec := { s.sec with
    keys := l.keys
    issuers := ((l.keys.filter (fun (k : BootKey) => bitSet k.usage 3)).map BootKey.pub).take 8
    patches := recs
    digests := [(0, dig l.fw), (1, dig l.ucode), (2, imgDigest l.warp (warpBodyLen l.warp)), (3, dig l.bundle)]
    versions := [(0, envVersion l.fw), (1, envVersion l.ucode), (2, warpVersion l.warp), (3, envVersion l.bundle)] } }
  let s := (s.wr SEC_BOOT_STATUS_SLOT_USED l.slots).showUcode recs (envVersion l.ucode)
  let s := s.each [20, 21, 22, 23] (fun q t => t.loadStore q)
  ((s.warpApply l.warp).decideKind.wr SEC_BOOT_STATUS_PHASE phBRINGUP).loadBanks

/-- The places in a boot image that a start reads (R528, R529): both directory copies, and of the directory in use each entry of the ACTIVE slot,
with that of the other slot where the first is absent or does not serve. (DEDUCED, log entry 83.) -/
def State.bootReads (s : State) (m : SMap Byte) : List (Nat × Nat) :=
  [(0, 0x400), (0x10000, 0x400)] ++
  (match dirOf m with
  | none => []
  | some d =>
    let used := match s.verifyBoot m with | .ok l => some l.slots | .error _ => none
    let a := recField d 6 1
    let of := fun (typ slot : Nat) => ((dirEntries d).filter (fun e => e.1 == typ && e.2.1 == slot)).map (fun e => (e.2.2.1, e.2.2.2))
    [4, 1, 2, 3].flatMap (fun typ => of typ a ++
      (match used with
      | some u => if bitOf u (typ - 1) = a then [] else of typ (1 - a)
      | none => of typ (1 - a))))

/-- The xSPI controller after a start event (R559): SFDP in 1S-1S-1S at 25 MHz, then 8D-8D-8D at the rate SFDP declares up to 200 MHz, or 1S-1S-1S
at 25 MHz when the switch fails; then the reads of the start. (DEDUCED, log entry 83.) -/
def State.flashStart (s : State) (b : BootOp) (l : List (Nat × Nat)) : State :=
  let f : FlashBus := if b.octal then { octal := true, mhz := min 200 b.mhz, dummy := b.dummy } else {}
  let s := ({ s with sec := { s.sec with spi := f } }).emit .flashSfdp
  s.each l (fun x t => t.emit (.flashRead f.octal f.mhz f.dummy x.1 x.2))

/-- A start runs steps 1 to 5 of Table 15-1 from a boot image (R514). (DEDUCED, log entry 40.) (DESIGN CHOICE, log entry 42.) -/
def State.beginStart (s : State) (m : SMap Byte) (fromImage cold : Bool) (b : BootOp) : State :=
  let now := s.elapsed
  let s := { s with sec := { s.sec with startCnt := s.sec.startCnt + 1 } }
  let s := s.domainReset
  let s := { s with sec := { s.sec with starting := true, cold := cold, fromImage := fromImage, t0 := now } }
  let s := (s.bootVset b.avs).flashStart b (if fromImage then [] else s.bootReads m)
  let s := s.iff fromImage (·.wr SEC_REC_STATUS 6)
  match s.verifyBoot m with
  | .ok l => s.applyLoaded l
  | .error e =>
    let s := s.iff (e.1 == 4) (·.wr WRP_STATUS_WHY (s.startWhy m))
    ({ s with sec := { s.sec with failing := some e.1 } }).wr SEC_BOOT_STATUS_PHASE e.2

/-- A recovery boot (R526): HBM0 alone comes up, in mode RECOVERY; `hbm` says whether it trains. -/
def State.recoveryBoot (s : State) (b : BootOp) (hbm : Bool) : State :=
  let s := { s with sec := { s.sec with startCnt := s.sec.startCnt + 1 } }
  let s := (s.domainReset.bootVset b.avs).flashStart b []
  let s := ((s.wr SEC_BOOT_STATUS_PHASE phRECOVERY).wr SEC_BOOT_STATUS_KIND kdRECOVERY).wr MEM_MODE_MODE 3
  if hbm then s.islandUp 28 else s.wr SEC_REC_STATUS 5

/-- The next start: a recovery boot when one is asked for or COLD_FAILS has reached 3 (R520). -/
def State.nextStart (s : State) (c : StartCmd) (b : BootOp) (hbm : Bool) : State :=
  if c = .recovery ∨ s.sec.coldFails = 3 then s.recoveryBoot b hbm else s.beginStart s.flash false (c == .cold) b

/-- HBM0 has failed to train in a recovery boot: only `RESET_N` leaves it (R526). -/
def State.recStuck (s : State) : Bool := s.rd SEC_BOOT_STATUS_PHASE == phRECOVERY && s.rd SEC_REC_STATUS == 5

/-- A start event (R510): the rising edge of `RESET_N`, or a start that was commanded. `SPI_RESET_N` rises with it. -/
def State.startEvent (s : State) (avs : BootOp) (hbm : Bool) : State :=
  if ¬ s.aon.vdd then s
  else if s.aon.resetLow then
    let s := ({ s with aon := { s.aon with resetLow := false } }).emit (.pin "SPI_RESET_N" true)
    if s.aon.thermtrip then s else s.nextStart .auto avs hbm
  else if s.aon.thermtrip then s
  else
    match s.sec.due with
    | some c => s.iff (!s.recStuck) (·.nextStart c avs hbm)
    | none => s

/-- START_EVENT: what the start finds at AVSBus and the flash, and whether HBM0 trains in a recovery boot. (DESIGN CHOICE, log entry 42.) -/
def execStartEvent (avs : BootOp) (hbm : Bool) (s : State) : Host.Outcome State Fault Refusal := State.done (s.startEvent avs hbm)

/-! ### Reaching READY -/

/-- Bring the islands to their INITIAL states (R490). -/
def State.bringUp (s : State) : State :=
  let v := s.sect secISLANDS
  s.each (List.range 30) (fun i t => if recField v (4 * i) 1 = 0 ∧ t.present i then t.islandUp i else t)

/-- The service controller enables the ports that the image enables (R338). -/
def State.enablePorts (s : State) : State :=
  s.each ((List.range 16).filter (fun p => s.rd (BLK_CTL_GEN p) != 0 && s.islOn (22 + p / 4))) (fun p t =>
    (t.wr (BLK_CTL_EN p) 1).portUpNow p)

/-- A quick check that fails turns a warm start into WARM_FALLBACK (R516): what step 6 restores is not restored. (DEDUCED, log entry 27.) -/
def State.fallBack (s : State) : State :=
  let f := min 3 (s.sec.warmFails + 1)
  (({ s with sec := { s.sec with warmFails := f, warmTopo := [] } }).wr SEC_FAILS_WARM f).wr SEC_BOOT_STATUS_KIND kdFALLBACK

/-- The counters of a start that reaches READY (R520), and the record that it invalidates (R523). -/
def State.countReady (s : State) : State :=
  let w := if s.rd SEC_BOOT_STATUS_KIND = kdWARM then 0 else s.sec.warmFails
  let s := { s with sec := { s.sec with
    starting := false, warmFails := w, coldFails := 0, lastReady := s.sec.startCnt, warm := none } }
  (s.wr SEC_FAILS_WARM w).wr SEC_FAILS_COLD 0

/-- The autonomous program begins (R502). -/
def State.autoBegin (s : State) : State :=
  if (s.sect secAUTONOMOUS).length < 16 then s
  else
    let now := s.elapsed
    ({ s with wrp := { s.wrp with autoAt := 0, autoSince := now } }).wr WRP_STATUS_AUTO_RUN 1

/-- Steps 6 and 7 of Table 15-1 complete; `quick` says whether the quick check of a warm start passes. -/
def State.startReady (s : State) (quick : Bool) : State :=
  if s.sec.starting ∧ s.sec.failing = none ∧ s.rd SEC_BOOT_STATUS_PHASE = phBRINGUP then
    let s := s.iff (s.rd SEC_BOOT_STATUS_KIND == kdWARM && !quick) (·.fallBack)
    let s := ((s.bringUp.countReady).wr MEM_MODE_MODE 0).wr SEC_READY_MS (min 65535 ((s.elapsed - s.sec.t0) / 1000000))
    let s := (s.wr SEC_BOOT_STATUS_PHASE phREADY).wr SEC_BOOT_STATUS_READY 1
    s.enablePorts.autoBegin
  else s

/-- START_READY: whether the quick check of a warm start passes. (DESIGN CHOICE, log entry 42.) -/
def execStartReady (quick : Bool) (s : State) : Host.Outcome State Fault Refusal := s.finish (s.startReady quick)

/-! ### Failed starts (R519–R522) -/

/-- A failed start counts as warm (R520). -/
def State.failsWarm (s : State) : Bool :=
  if s.sec.kindKnown then s.rd SEC_BOOT_STATUS_KIND != kdCOLD
  else s.warmValid && decide (s.sec.warmFails < 3) && !s.sec.cold

/-- Record a failed start and count it; the next start is due (R520, R521). After SVC_WDOG its delay is R522's. (DEDUCED, log entry 27.) -/
def State.startFailed (s : State) (r : Nat) : State :=
  let warm := s.failsWarm
  let again := s.rd SEC_BOOT_STATUS_KIND = kdFALLBACK
  let w := if warm ∧ ¬ again then min 3 (s.sec.warmFails + 1) else s.sec.warmFails
  let c := if warm then s.sec.coldFails else min 3 (s.sec.coldFails + 1)
  let rec_ := s.sec.fromImage || c == 3
  let at_ := if rec_ then some s.elapsed else if r = 7 then s.sec.restartAt else some (s.elapsed + 100000000)
  let s := { s with sec := { s.sec with
    starting := false, failing := none, lastFail := r, warmFails := w, coldFails := c, restartAt := at_
    due := if s.sec.fromImage then some .recovery else none } }
  ((s.wr SEC_FAILS_WARM w).wr SEC_FAILS_COLD c).wr SEC_BOOT_STATUS_LAST_FAIL r

/-- Full training of a stack can fail now (Table 15-2, HBM_TRAIN): the start brings islands up. -/
def State.trainFails (s : State) : Bool := s.sec.failing == none && s.rd SEC_BOOT_STATUS_PHASE == phBRINGUP

/-- A start fails with a reason that has come up, or with HBM_TRAIN; full training follows a failed quick check, so a warm start is
WARM_FALLBACK then. -/
def State.startFail (s : State) (r : Nat) : State :=
  if s.sec.starting ∧ s.sec.failing = some r then s.startFailed r
  else if s.sec.starting ∧ r = 6 ∧ s.trainFails then
    (s.iff (s.rd SEC_BOOT_STATUS_KIND == kdWARM) (·.fallBack)).startFailed 6
  else s

/-- START_FAIL: the reason of Table 15-2. -/
def execStartFail (r : Fin 9) (s : State) : Host.Outcome State Fault Refusal := s.finish (s.startFail r)

/-- The delay of R521 or R522 has passed; a start that is about to fail is counted first (START_FAIL). -/
def State.restartTimer (s : State) (avs : BootOp) (hbm : Bool) : State :=
  match s.sec.restartAt with
  | some t => if t ≤ s.elapsed ∧ s.sec.failing = none ∧ s.recStuck = false then s.nextStart (s.sec.due.getD .auto) avs hbm else s
  | none => s

/-- RESTART_TIMER: what the start finds at AVSBus and the flash, and whether HBM0 trains in a recovery boot. -/
def execRestartTimer (avs : BootOp) (hbm : Bool) (s : State) : Host.Outcome State Fault Refusal := s.finish (s.restartTimer avs hbm)

/-- The watchdog of the service controller expires (R522): SVC_WDOG comes from a wired input and never waits (R470). -/
def State.svcWdog (s : State) : State :=
  let at_ := some (if s.sec.coldFails = 3 then s.elapsed else s.elapsed + 1000000000)
  let f := if s.sec.starting ∧ s.sec.failing = none then some 7 else s.sec.failing
  let s := { s with sec := { s.sec with warm := none, restartAt := at_, failing := f } }
  s.takeFault { cls := 23, master := 0x38 } false

/-- SVC_WDOG_EXPIRY. -/
def execSvcWdogExpiry (s : State) : Host.Outcome State Fault Refusal := s.finish s.svcWdog

/-- A read of `SEC_START_CNT_LO` latches HI (R544). (DEDUCED, log entry 17.) -/
def State.startCntRead (s : State) : State := s.wr SEC_START_CNT_HI (s.sec.startCnt / 2 ^ 32)

/-- START_CNT_READ. -/
def execStartCntRead (s : State) : Host.Outcome State Fault Refusal := s.finish s.startCntRead

/-! ### Recovery images (R526, R527) -/

/-- A component of a recovery image verifies under the keys of the image's bundle. -/
def State.recoveryPart (s : State) (keys : List BootKey) (typ : Nat) (img : List Byte) : Bool :=
  match typ with
  | 1 => s.firmwareOk keys img
  | 2 => s.containerOk keys img
  | 3 => (s.warpWhy keys img true).1 == 0
  | 4 => s.bundleOk img
  | _ => true

/-- The image verifies (R526 step 5): each directory copy present is valid, every component present verifies, and a start can load
all four types. -/
def State.recoveryOk (s : State) (m : SMap Byte) (len : Nat) : Bool :=
  let copies := [0, 0x10000].filter (fun a => decide (a + 0x400 ≤ len) && memBytes m a 4 == [0x4B, 0x42, 0x46, 0x44])
  let dirs := copies.filterMap (dirAt m)
  dirs.length == copies.length && (match s.verifyBoot m with | .ok _ => true | .error _ => false) &&
  dirs.all (fun d =>
    let keys := match loadComponent m d 4 s.bundleOk with
      | some b => (s.bundleKeys (envBody b.2)).filterMap id
      | none => []
    (dirEntries d).all (fun e => decide (e.2.2.1 + e.2.2.2 ≤ len) && s.recoveryPart keys e.1 (memBytes m e.2.2.1 e.2.2.2)))

/-- What PROGRAM writes, as (address, bytes): components first, then the copy at 0x1_0000, then the copy at 0 (R527). -/
def flashWrites (m : SMap Byte) : List (Nat × List Byte) :=
  ((([0, 0x10000].filterMap (dirAt m)).flatMap dirEntries).map (fun e => (e.2.2.1, memBytes m e.2.2.1 e.2.2.2))) ++
    [(0x10000, memBytes m 0x10000 0x400), (0, memBytes m 0 0x400)]

/-- Perform writes up to `n` bytes in all. -/
def storeFirst (f : SMap Byte) : Nat → List (Nat × List Byte) → SMap Byte
  | _, [] => f
  | n, w :: r => storeFirst (memStore f w.1 (w.2.take n)) (n - w.2.length) r

/-- The bytes of a list of writes. -/
def writesLen (l : List (Nat × List Byte)) : Nat := l.foldl (fun n w => n + w.2.length) 0

/-- `SEC_REC_CTL.GO` can act: the device waits for an image. -/
def State.recWaits (s : State) : Bool := s.rd SEC_BOOT_STATUS_PHASE == phRECOVERY && s.rd SEC_REC_STATUS != 5

/-- MODE PROGRAM (R527); `flashOk` says whether the flash writes read back. How far they got when they do not is a free value. (DESIGN
CHOICE, log entry 4.) -/
def State.recProgram (s : State) (flashOk : Bool) (avs : BootOp) : State :=
  let s := s.wr SEC_REC_CTL_MODE 1
  if !s.recWaits then s
  else if !s.recoveryOk s.hbm (s.rd SEC_REC_LEN) then s.wr SEC_REC_STATUS 3
  else
    let l := flashWrites s.hbm
    if !flashOk then ({ s.free.2 with flash := storeFirst s.flash (s.free.1 % (writesLen l + 1)) l }).wr SEC_REC_STATUS 4
    else
      let f := storeFirst s.flash (writesLen l) l
      let s := { s with flash := f, sec := { s.sec with warmFails := 0, coldFails := 0 } }
      (s.beginStart s.flash false true avs).wr SEC_REC_STATUS 6

/-- REC_PROGRAM: a write of `SEC_REC_CTL` with GO and MODE PROGRAM; whether flash reads back, and what the start finds. -/
def execRecProgram (flashOk : Bool) (avs : BootOp) (s : State) : Host.Outcome State Fault Refusal := s.finish (s.recProgram flashOk avs)

/-- MODE RUN (R527). -/
def State.recRun (s : State) (avs : BootOp) : State :=
  let s := s.wr SEC_REC_CTL_MODE 0
  if !s.recWaits then s
  else if !s.recoveryOk s.hbm (s.rd SEC_REC_LEN) then s.wr SEC_REC_STATUS 3
  else s.beginStart s.hbm true true avs

/-- REC_RUN: a write of `SEC_REC_CTL` with GO and MODE RUN; what the start finds. -/
def execRecRun (avs : BootOp) (s : State) : Host.Outcome State Fault Refusal := s.finish (s.recRun avs)

end Sys2Proof.Machine
end

