-- ==== Sys2Proof/Machine/Mailbox.lean ====
section
/-! DEFINITION. Mailboxes (R535), orderly shutdown (R525), attestation and key commands (R531–R534, Table 15-11,
15_startup_microcode_security.md). -/

namespace Sys2Proof.Machine

open R

/-! ### Messages and replies -/

/-- Mailbox commands of Table 15-11. -/
def mbSHUTDOWN : Nat := 1
def mbRESTART : Nat := 2
def mbATTEST : Nat := 3
def mbDEVCERT : Nat := 4
def mbADVANCE : Nat := 5
def mbOWNERPROGRAM : Nat := 6
def mbOWNERREVOKE : Nat := 7
def mbTALLYFLUSH : Nat := 8

/-- Reply STATUS values (Table 15-10). -/
def stOK : Nat := 0
def stBADCMD : Nat := 1
def stBADARG : Nat := 2
def stBUSY : Nat := 3
def stDENIED : Nat := 4
def stFAILED : Nat := 5

/-- Word `i` of a message. -/
def Mail.word (m : Mail) (i : Nat) : Nat := (m.words[i]?).getD 0

/-- The command of a message. -/
def Mail.cmd (m : Mail) : Nat := m.word 0 % 256

/-- The destination or source address that words 9 and 10 hold, bits [40:0]. -/
def Mail.addr (m : Mail) : Nat := 2 ^ 32 * (m.word 10 % 2 ^ 9) + m.word 9

/-- Place a reply in IN of its mailbox. (DEDUCED, log entry 28.) -/
def State.placeReply (s : State) (t : Nat) (l : List Nat) : State :=
  (s.each (List.range 16) (fun i u => u.wr (SEC_MB_IN t i) ((l[i]?).getD 0))).wr (SEC_MB_CTL_IN_VALID t) 1

/-- Answer a message: its CMD and SEQ with STATUS, and one result word; a reply waits while IN_VALID is 1. The I2C target takes no
reply (R561). -/
def State.reply (s : State) (m : Mail) (status result : Nat) : State :=
  let l := [m.word 0 % 65536 + 65536 * status, result]
  if 16 ≤ m.box then s
  else if s.on (SEC_MB_CTL_IN_VALID m.box) then
    { s with sec := { s.sec with replies := smSet [] s.sec.replies m.box (smGet [] s.sec.replies m.box ++ [l]) } }
  else s.placeReply m.box l

/-- The service controller takes the oldest message: its mailbox is FREE again. -/
def State.takeMail (s : State) (m : Mail) : State :=
  let s := { s with sec := { s.sec with mail := s.sec.mail.drop 1 } }
  s.iff (decide (m.box < 16)) (·.wr (SEC_MB_CTL_FREE m.box) 1)

/-- A message that is answered without being executed: an unknown command, or any but RESTART once a shutdown has been accepted
(Table 15-4 step 1). -/
def State.quickAnswer (s : State) (m : Mail) : Option Nat :=
  if m.cmd = 0 ∨ 8 < m.cmd then some stBADCMD
  else if s.sec.halting ∧ m.cmd ≠ mbRESTART then some stBUSY
  else none

/-- Answer the messages at the front of the queue that are not executed. (DEDUCED, log entry 28.) -/
def State.mailSettle (s : State) : State :=
  s.each (List.range 17) (fun _ t =>
    match t.sec.mail with
    | [] => t
    | m :: _ => match t.quickAnswer m with | some c => (t.takeMail m).reply m c 0 | none => t)

/-- Word 0 of OUT is written (R535). -/
def State.mailSend (s : State) (t w : Nat) : State :=
  if s.on (SEC_MB_CTL_FREE t) then
    let s := (s.wr (SEC_MB_OUT t 0) w).wr (SEC_MB_CTL_FREE t) 0
    let m : Mail := { box := t, words := (List.range 16).map (fun i => s.rd (SEC_MB_OUT t i)) }
    ({ s with sec := { s.sec with mail := s.sec.mail ++ [m] } }).mailSettle
  else s.wr (SEC_MB_CTL_LOST t) 1

/-- MAILBOX_SEND: mailbox and the word written to OUT word 0. -/
def execMailboxSend (t : Fin 16) (w : Word) (s : State) : Host.Outcome State Fault Refusal := s.finish (s.mailSend t w.toNat)

/-- IN_VALID is released; a reply that waited takes its place. -/
def State.mailRelease (s : State) (t : Nat) : State :=
  if s.on (SEC_MB_CTL_IN_VALID t) then
    let s := s.wr (SEC_MB_CTL_IN_VALID t) 0
    match smGet [] s.sec.replies t with
    | [] => s
    | l :: r => ({ s with sec := { s.sec with replies := smSet [] s.sec.replies t r } }).placeReply t l
  else s

/-- MAILBOX_RELEASE: mailbox. -/
def execMailboxRelease (t : Fin 16) (s : State) : Host.Outcome State Fault Refusal := s.finish (s.mailRelease t)

/-- Execute the oldest message when it carries a command: `f` gives its STATUS, its result word and the state. -/
def State.mailRun (s : State) (cmd : Nat) (f : Mail → State → Nat × Nat × State) : State :=
  match s.sec.mail with
  | [] => s
  | m :: _ =>
    if m.cmd = cmd then
      let x := f m (s.takeMail m)
      (x.2.2.reply m x.1 x.2.1).mailSettle
    else s

/-- Write bytes as master 0x38; the range may cross from one region to the next. The code is that of the first error. -/
def State.writeLong (s : State) (a : Nat) (l : List Byte) : Nat × State :=
  let n1 := min l.length (2 ^ 32 - a % 2 ^ 32)
  let x := s.busWrite 0x38 a (l.take n1)
  if n1 = l.length then x
  else
    let y := x.2.busWrite 0x38 (a + n1) (l.drop n1)
    (if x.1 = 0 then y.1 else x.1, y.2)

/-! ### Shutdown and restart -/

/-- Step 3 of Table 15-4: tallies go to MRAM and to every tile (R362). -/
def State.tallyFlush (s : State) : State := s.tallyAll.each (List.range 16) (fun p t => t.hoursOut p)

/-- The orderly shutdown of Table 15-4: the black frame and QUIESCED follow at the next frame start (R315). Whether a record was
written, and the state. -/
def State.shutdownNow (s : State) : Nat × State :=
  let s := { s with sec := { s.sec with halting := true } }
  let s := ((s.plyRun 0 false).plyRun 1 false).tallyFlush
  let dev := s.on FLT_STATE_DEVICE
  let w := s.warmRecord
  let s := if dev then s
    else ({ s with sec := { s.sec with warm := some w, warmFails := 0 } }).wr SEC_FAILS_WARM 0
  (b2n !dev, (s.wr SEC_BOOT_STATUS_PHASE phHALTED).wr SEC_BOOT_STATUS_SHUTDOWN_DONE 1)

/-- SHUTDOWN is executed: BUSY while the autonomous program or a reweave runs. (DEDUCED, log entry 28.) -/
def State.shutdownCmd (_ : Mail) (s : State) : Nat × Nat × State :=
  if s.on WRP_STATUS_AUTO_RUN || s.on WRP_STATUS_BUSY then (stBUSY, 0, s)
  else (stOK, s.shutdownNow.1, s.shutdownNow.2)

/-- SHUTDOWN: the oldest message is executed. -/
def execShutdown (s : State) : Host.Outcome State Fault Refusal := s.finish (s.mailRun mbSHUTDOWN State.shutdownCmd)

/-- The next start event begins this. (DEDUCED, log entry 28.) -/
def State.startDue (s : State) (c : StartCmd) : State := { s with sec := { s.sec with due := some c } }

/-- RESTART is executed: 0 AUTO, 1 COLD, 2 RECOVERY; the start begins after the reply. (DEDUCED, log entry 28.) -/
def State.restartCmd (m : Mail) (s : State) : Nat × Nat × State :=
  match m.word 1 with
  | 0 => (stOK, 0, (if s.sec.halting then s else s.shutdownNow.2).startDue .auto)
  | 1 => (stOK, 0, ({ s with sec := { s.sec with warm := none } }).startDue .cold)
  | 2 => (stOK, 0, s.startDue .recovery)
  | _ => (stBADARG, 0, s)

/-- RESTART: the oldest message is executed, once no reweave runs. -/
def execRestart (s : State) : Host.Outcome State Fault Refusal :=
  s.finish (s.iff (!s.on WRP_STATUS_BUSY) (·.mailRun mbRESTART State.restartCmd))

/-- TALLY_FLUSH is executed. -/
def State.tallyFlushCmd (_ : Mail) (s : State) : Nat × Nat × State := (stOK, 0, s.tallyFlush)

/-- TALLY_FLUSH: the oldest message is executed. -/
def execTallyFlush (s : State) : Host.Outcome State Fault Refusal := s.finish (s.mailRun mbTALLYFLUSH State.tallyFlushCmd)

/-! ### Attestation and certificate -/

/-- Bytes 0x000–0x17F of the attestation report (Table 15-9). -/
def State.reportHead (s : State) (nonce : List Byte) (t : Nat) : List Byte :=
  let dig := fun (k : Nat) => padTo 64 (slice (smGet [] s.sec.digests k) 0 64)
  [0x4B, 0x41, 0x54, 0x52] ++ natLe 2 1 ++ natLe 1 (s.rd SEC_BOOT_STATUS_KIND) ++ natLe 1 0 ++ natLe 4 s.caps ++
    natLe 4 (s.rd WRP_REWEAVE_CNT) ++ (List.range 4).flatMap (fun j => natLe 4 (s.rd (SEC_SERIAL j))) ++
    natLe 8 s.sec.startCnt ++ natLe 8 t ++ nonce ++ dig 0 ++ dig 1 ++ dig 2 ++ dig 3 ++
    (List.range 8).flatMap (fun j => natLe 4 (s.rd (SEC_MCTR j))) ++
    natLe 4 (s.rd SEC_OWNER_PROGRAMMED + 16 * s.rd SEC_OWNER_REVOKED) ++ natLe 12 0

/-- The attestation report, 5011 bytes (R534). -/
def State.report (s : State) (nonce : List Byte) (t : Nat) : List Byte :=
  let h := s.reportHead nonce t
  h ++ padTo 4627 (slice (Config.mldsaSign (Config.sha3 ([0x4B, 0x41, 0x54, 0x31] ++ h))) 0 4627)

/-- ATTEST is executed: the report is written to the destination. -/
def State.attestCmd (m : Mail) (s : State) : Nat × Nat × State :=
  let nonce := (List.range 8).flatMap (fun j => natLe 4 (m.word (j + 1)))
  let x := s.stamp.2.writeLong m.addr (s.report nonce s.stamp.1)
  (if x.1 = 0 then stOK else stFAILED, 0, x.2)

/-- ATTEST: the oldest message is executed. -/
def execAttest (s : State) : Host.Outcome State Fault Refusal := s.finishOnce (s.mailRun mbATTEST State.attestCmd) id

/-- DEVCERT is executed: the 7267 bytes of the device certificate are written to the destination. -/
def State.devcertCmd (m : Mail) (s : State) : Nat × Nat × State :=
  let x := s.writeLong m.addr (padTo 7267 (slice Config.deviceCert 0 7267))
  (if x.1 = 0 then stOK else stFAILED, 0, x.2)

/-- DEVCERT: the oldest message is executed. -/
def execDevcert (s : State) : Host.Outcome State Fault Refusal := s.finishOnce (s.mailRun mbDEVCERT State.devcertCmd) id

/-! ### Counters and owner slots -/

/-- Set a monotonic counter (R532). -/
def State.setMctr (s : State) (j v : Nat) : State :=
  ({ s with sec := { s.sec with mctr := smSet 0 s.sec.mctr j v } }).wr (SEC_MCTR j) v

/-- The value that ADVANCE gives a counter: the VERSION of the component in force for 0–3, the argument's word for 4–7. -/
def State.advanceTo (s : State) (m : Mail) (j : Nat) : Nat := if j < 4 then smGet 0 s.sec.versions j else m.word (j - 2)

/-- ADVANCE is executed: no counter changes when a value lies below its counter. -/
def State.advanceCmd (m : Mail) (s : State) : Nat × Nat × State :=
  let sel := (List.range 8).filter (fun j => bitSet (m.word 1) j)
  if sel.any (fun j => decide (4 ≤ j) && decide (s.advanceTo m j < smGet 0 s.sec.mctr j)) then (stDENIED, 0, s)
  else (stOK, 0, s.each sel (fun j t => t.setMctr j (max (smGet 0 t.sec.mctr j) (t.advanceTo m j))))

/-- ADVANCE: the oldest message is executed. -/
def execAdvance (s : State) : Host.Outcome State Fault Refusal := s.finish (s.mailRun mbADVANCE State.advanceCmd)

/-- OWNER_PROGRAM is executed: the slot's fuses take the 64-byte hash at the address. -/
def State.ownerProgramCmd (m : Mail) (s : State) : Nat × Nat × State :=
  let n := m.word 1
  if 4 ≤ n then (stBADARG, 0, s)
  else if s.rd SEC_OWNER_PROGRAMMED / 2 ^ n % 2 = 1 then (stDENIED, 0, s)
  else
    let x := s.readLong 0x38 0 m.addr 64
    let s := x.2.2
    if x.1 ≠ 0 then (stFAILED, 0, s)
    else
      let h := x.2.1
      (stOK, 0, ({ s with sec := { s.sec with owner := smSet none s.sec.owner n (some h) } }).setBit SEC_OWNER_PROGRAMMED n)

/-- OWNER_PROGRAM: the oldest message is executed. -/
def execOwnerProgram (s : State) : Host.Outcome State Fault Refusal := s.finishOnce (s.mailRun mbOWNERPROGRAM State.ownerProgramCmd) id

/-- OWNER_REVOKE is executed: word 2 must be the slot XOR 0xA5. -/
def State.ownerRevokeCmd (m : Mail) (s : State) : Nat × Nat × State :=
  let n := m.word 1
  if 4 ≤ n ∨ m.word 2 ≠ n.xor 0xA5 then (stBADARG, 0, s)
  else (stOK, 0, ({ s with sec := { s.sec with revoked := withBit s.sec.revoked n } }).setBit SEC_OWNER_REVOKED n)

/-- OWNER_REVOKE: the oldest message is executed. -/
def execOwnerRevoke (s : State) : Host.Outcome State Fault Refusal := s.finish (s.mailRun mbOWNERREVOKE State.ownerRevokeCmd)

end Sys2Proof.Machine
end

