-- ==== Sys2Proof/Machine/Electrical.lean ====
section
/-! DEFINITION. The always-on domain and the single-ended pins (16_electrical_and_package.md): power-on and reset, monitors,
voltage scaling, the I2C target and JTAG. -/

namespace Sys2Proof.Machine

open R

/-! ### Power-on and reset (R510, R550–R552, R556) -/

/-- Change the always-on record. -/
def State.modAon (s : State) (f : AonSt → AonSt) : State := { s with aon := f s.aon }

/-- VDD_AON comes into range with `RESET_N` low (Table 16-5 step 1): the power-on count increments. -/
def State.aonPowerOn (s : State) : State :=
  if s.aon.vdd then s
  else
    let now := s.elapsed
    (s.modAon (fun a => { a with vdd := true, epoch := (a.epoch + 1) % 2 ^ 16, since := now, resetLow := true, peak := none, i2cOff := 0 })).emit
      (.pin "SPI_RESET_N" false)

/-- AON_POWER_ON. -/
def execAonPowerOn (s : State) : Host.Outcome State Fault Refusal := State.done s.aonPowerOn

/-- VDD_AON falls below 0.68 V (R552): every domain is held in reset, and what only VDD_AON kept is gone. -/
def State.aonBrownout (s : State) : State :=
  let trip := s.aon.thermtrip
  let s := (s.domainReset).modAon (fun a => { a with vdd := false, thermtrip := false })
  s.iff trip (·.emit (.pin "THERMTRIP_N" true))

/-- AON_BROWNOUT. -/
def execAonBrownout (s : State) : Host.Outcome State Fault Refusal := State.done s.aonBrownout

/-- `RESET_N` acts: THERMTRIP_N is left when the die is below 110 °C (R554), `SPI_RESET_N` is low (R556). (DEDUCED, log entry 29.) -/
def State.resetActs (s : State) : State :=
  let cool := s.aon.thermtrip && decide (s.aon.tj < 110)
  let s := ((s.domainReset).modAon (fun a => { a with resetLow := true, thermtrip := a.thermtrip && !cool })).emit
    (.pin "SPI_RESET_N" false)
  s.iff cool (·.emit (.pin "THERMTRIP_N" true))

/-- `RESET_N` has been low for `ns` (R556): less than 0.5 µs is ignored, 1 µs acts, and between the two either may happen, which
is a free value. -/
def State.resetAssert (s : State) (ns : Nat) : State :=
  if ns < 500 ∨ ¬ s.aon.vdd then s
  else if 1000 ≤ ns then s.resetActs
  else
    let v := s.free
    v.2.iff (v.1 % 2 == 1) (·.resetActs)

/-- RESET_ASSERT: how long `RESET_N` has been low, in ns. -/
def execResetAssert (ns : Word) (s : State) : Host.Outcome State Fault Refusal := State.done (s.resetAssert ns.toNat)

/-! ### Monitors (R553–R555) -/

/-- Every 1 ms the die temperature is read as the highest of its sensors (R553). -/
def State.tempSample (s : State) (l : List Int) : State :=
  match l with
  | [] => s
  | a :: r =>
    let t := r.foldl max a
    let s := s.modAon (fun x => { x with tj := t, peak := some (max (x.peak.getD t) t) })
    if s.held then s
    else
      let p := max (s.aon.startPeak.getD t) t
      ((s.modAon (fun x => { x with startPeak := some p })).wr GLB_TEMP_TJ (ofSign 8 t)).wr GLB_TEMP_PEAK (ofSign 8 p)

/-- The temperature that a stack reports; a stack that is not ON reports none. -/
def State.stackTemp (s : State) (k : Nat) (t : Int) : State := s.iff (!s.held && s.islOn (28 + k)) (·.wr (MEM_TEMP k) (ofSign 8 t))

/-- TEMP_SAMPLE: the readings of the 24 die sensors in °C, and what the two HBM stacks report (R400, Table 10-3). -/
def execTempSample (l : List (BitVec 8)) (h0 h1 : BitVec 8) (s : State) : Host.Outcome State Fault Refusal :=
  State.done (((s.tempSample (l.map BitVec.toInt)).stackTemp 0 h0.toInt).stackTemp 1 h1.toInt)

/-- Shutdown limits of the supply monitors 4 to 10 in mV: low, high, and the range of Table 16-2 (Table 16-6). -/
def supplyLimits (m : Nat) : Nat × Nat × Nat × Nat :=
  match m with
  | 4 => (740, 870, 770, 830)
  | 5 => (780, 920, 820, 880)
  | 6 => (1100, 1300, 1160, 1240)
  | 7 => (1620, 1980, 1710, 1890)
  | 8 => (1020, 1180, 1067, 1133)
  | 9 => (360, 440, 380, 420)
  | _ => (1620, 1980, 1710, 1890)

/-- The monitor is evaluated: a stack's only while its island is ON (R412, R553). -/
def State.monitored (s : State) (m : Nat) : Bool := if m = 1 ∨ m = 2 then s.islOn (27 + m) && s.present (27 + m) else true

/-- A reading lies beyond the shutdown threshold of a monitor (Table 16-6): `v` in mV, or the temperature registers. -/
def State.beyond (s : State) (m v : Nat) : Bool :=
  match m with
  | 0 => decide (115 ≤ signOf 8 (s.rd GLB_TEMP_TJ))
  | 1 => decide (105 ≤ s.memTemp 0)
  | 2 => decide (105 ≤ s.memTemp 1)
  | 3 => decide (v + 60 < s.rd GLB_VCORE_SET_MV) || decide (900 < v)
  | _ => decide (v < (supplyLimits m).1) || decide ((supplyLimits m).2.1 < v)

/-- A reading lies inside the return limit of a monitor (Table 16-6). -/
def State.inside (s : State) (m v : Nat) : Bool :=
  match m with
  | 0 => decide (signOf 8 (s.rd GLB_TEMP_TJ) < 105)
  | 1 => decide (s.memTemp 0 < 95)
  | 2 => decide (s.memTemp 1 < 95)
  | 3 => decide (s.rd GLB_VCORE_SET_MV ≤ v + 25) && decide (v ≤ s.rd GLB_VCORE_SET_MV + 25)
  | _ => decide ((supplyLimits m).2.2.1 ≤ v) && decide (v ≤ (supplyLimits m).2.2.2)

/-- A monitor passes its threshold (R553): fault class ENV comes from a wired input and never waits (R470). -/
def State.monitorTrip (s : State) (m v : Nat) : State :=
  if s.monitored m && s.beyond m v && !bitSet (s.rd GLB_ENV) m then
    (s.setBit GLB_ENV m).takeFault { cls := 22, addr := m } false
  else s

/-- MONITOR_TRIP: the monitor, and its reading in mV for a supply. -/
def execMonitorTrip (m : Fin 11) (v : Fin 4096) (s : State) : Host.Outcome State Fault Refusal := s.finish (s.monitorTrip m v)

/-- A monitor has lain inside its return limit for 1 ms. -/
def State.monitorReturn (s : State) (m v : Nat) : State :=
  if s.monitored m && s.inside m v then s.clrBit GLB_ENV m else s

/-- MONITOR_RETURN: the monitor, and its reading in mV for a supply. -/
def execMonitorReturn (m : Fin 11) (v : Fin 4096) (s : State) : Host.Outcome State Fault Refusal := s.finish (s.monitorReturn m v)

/-- The die exceeds 125 °C (R554). -/
def State.thermTrip (s : State) (t : Int) : State :=
  if 125 < t ∧ s.aon.vdd then
    let was := s.aon.thermtrip
    let s := (s.domainReset).modAon (fun a => { a with thermtrip := true, tj := t, peak := some (max (a.peak.getD t) t) })
    s.iff (!was) (·.emit (.pin "THERMTRIP_N" false))
  else s

/-- THERMTRIP: the die temperature in °C. -/
def execThermtrip (t : BitVec 8) (s : State) : Host.Outcome State Fault Refusal := State.done (s.thermTrip t.toInt)

/-! ### Adaptive voltage scaling (R549) -/

/-- The regulator reports a step complete: VDD_CORE is measured, and the device may issue a next step of at most 10 mV. -/
def State.avsDone (s : State) (meas : Nat) (next : Option Nat) : State :=
  match s.aon.avs with
  | none => s
  | some _ =>
    let s := (s.modAon (fun a => { a with avs := none })).wr GLB_VCORE_MEAS_MV meas
    match next with
    | none => s
    | some v =>
      let c := s.rd GLB_VCORE_SET_MV
      if v ≤ c + 10 ∧ c ≤ v + 10 then
        ((s.modAon (fun a => { a with avs := some v })).wr GLB_VCORE_SET_MV v).emit (.serial "AVSBUS" [0, v])
      else s

/-- AVS_STEP_DONE: VDD_CORE at the die in mV, and the V_set of the next step when the device issues one. -/
def execAvsStepDone (meas : Fin 4096) (next : Option (Fin 4096)) (s : State) : Host.Outcome State Fault Refusal :=
  s.finish (s.avsDone meas (next.map Fin.val))

/-! ### The I2C target (R559–R561) -/

/-- A write to offset 0x10 of the I2C map, which leaves the offset behind the byte written: 0xA5 queues a SHUTDOWN while PHASE is
READY. -/
def State.i2cShutdown (s : State) (v : Nat) : State :=
  let s := if s.aon.vdd then s.modAon (fun a => { a with i2cOff := 0x11 }) else s
  if v = 0xA5 ∧ s.rd SEC_BOOT_STATUS_PHASE = phREADY ∧ ¬ s.held ∧ ¬ s.aon.i2cAsked then
    let m : Mail := { box := 16, words := [mbSHUTDOWN] }
    ({ s.modAon (fun a => { a with i2cAsked := true }) with sec := { s.sec with mail := s.sec.mail ++ [m] } }).mailSettle
  else s

/-- I2C_SHUTDOWN: the byte written to offset 0x10. -/
def execI2cShutdown (v : Byte) (s : State) : Host.Outcome State Fault Refusal := State.done (s.i2cShutdown v.toNat)

/-- What a read of the I2C map returns (Table 16-10); during reset the map shows 0 for what CK_AON does not hold. -/
def State.i2cByte (s : State) (off : Nat) : Nat :=
  let up := fun (v : Nat) => if s.held then 0 else v
  match off with
  | 0 => (match s.part with | .ix9640 => 0x40 | .ix9620 => 0x20)
  | 1 => 0x96
  | 2 => b2n s.held + 2 * b2n s.aon.thermtrip + 4 * s.rd FLT_STATE_DEVICE + 16 * up (s.rd SEC_BOOT_STATUS_PHASE)
  | 3 => ofSign 8 s.aon.tj
  | 4 => ofSign 8 (s.aon.peak.getD s.aon.tj)
  | 5 => up (s.rd GLB_ENV % 256)
  | 6 => up (s.rd GLB_ENV / 256)
  | 8 => up (ofSign 8 (s.memTemp 0))
  | 9 => up (ofSign 8 (s.memTemp 1))
  | 0x10 => if s.on SEC_BOOT_STATUS_SHUTDOWN_DONE then (if s.aon.i2cAsked then 2 else 0) else b2n s.aon.i2cAsked
  | _ => 0

/-- A read of `n` bytes of the I2C map, from the offset last written and one further for each byte (R560). No row of the table reads
the map; with VDD_AON down the target does not answer. (DEDUCED, log entry 29.) -/
def State.i2cRead (s : State) (n : Nat) : List Nat × State :=
  if s.aon.vdd then
    ((List.range n).map (fun i => s.i2cByte ((s.aon.i2cOff + i) % 256)), s.modAon (fun a => { a with i2cOff := (a.i2cOff + n) % 256 }))
  else ([], s)

/-! ### JTAG (R562) -/

/-- JTAG instructions by number, in the order R562 lists them; the codes are not the manual's. (DEDUCED, log entry 29.) -/
def jtBYPASS : Nat := 0
def jtIDCODE : Nat := 1
def jtSAMPLE : Nat := 2
def jtEXTEST : Nat := 3
def jtCLAMP : Nat := 4
def jtHIGHZ : Nat := 5

/-- The identification code. -/
def State.idcode (s : State) : Nat :=
  0x4B3 * 2 + 1 + 2 ^ 12 * (match s.part with | .ix9640 => 0x9640 | .ix9620 => 0x9620) + 2 ^ 28 * (Config.siliconStep % 16)

/-- Load a JTAG instruction. -/
def State.jtag (s : State) (i : Nat) : State := s.modAon (fun a => { a with jtag := i })

/-- BYPASS: the bits shifted through the one-bit register, which captures 0; they come out one bit later. -/
def execBypass (bits : List Bool) (s : State) : Host.Outcome State Fault Refusal :=
  let v := bits.foldr (fun b n => b2n b + 2 * n) 0
  State.done ((s.jtag jtBYPASS).emit (.tdo (v * 2 % 2 ^ bits.length) bits.length))

/-- IDCODE. -/
def execIdcode (s : State) : Host.Outcome State Fault Refusal := State.done ((s.jtag jtIDCODE).emit (.tdo s.idcode 32))

/-- SAMPLE/PRELOAD: the levels at the balls are shifted out, and the cells take the levels shifted in. -/
def execSamplePreload (pins cells : List Bool) (s : State) : Host.Outcome State Fault Refusal :=
  let v := pins.foldr (fun b n => b2n b + 2 * n) 0
  State.done (((s.jtag jtSAMPLE).modAon (fun a => { a with cells := cells })).emit (.tdo v pins.length))

/-- EXTEST: the cells drive the balls; the levels at the balls are shifted out and the cells take the levels shifted in. -/
def execExtest (pins cells : List Bool) (s : State) : Host.Outcome State Fault Refusal :=
  let v := pins.foldr (fun b n => b2n b + 2 * n) 0
  let s := ((s.jtag jtEXTEST).modAon (fun a => { a with cells := cells })).emit (.tdo v pins.length)
  State.done (s.emit (.balls (some cells)))

/-- CLAMP: the balls keep the levels of the cells, and the bypass register is selected. -/
def execClamp (s : State) : Host.Outcome State Fault Refusal := State.done ((s.jtag jtCLAMP).emit (.balls (some s.aon.cells)))

/-- HIGHZ: every ball of the chain is high impedance, and the bypass register is selected. -/
def execHighz (s : State) : Host.Outcome State Fault Refusal := State.done ((s.jtag jtHIGHZ).emit (.balls none))

end Sys2Proof.Machine
end

