-- ==== Sys2Proof/Machine/Member.lean ====
section
/-! DEFINITION. Multicast membership (R135–R141): group records, queries and the IGMPv3 and MLDv2 reports of the generator. -/

namespace Sys2Proof.Machine

open R

/-- Four address words as one number, or word 0 for IPv4. -/
def addrOf (v6 : Bool) (w : Nat → Nat) : Nat := if v6 then ((w 0 * 2 ^ 32 + w 1) * 2 ^ 32 + w 2) * 2 ^ 32 + w 3 else w 0

/-- The group address of an entry. -/
def State.grpAddr (s : State) (g : Nat) : Nat := addrOf (s.on (ING_GRP_CTL_IPV6 g)) (fun i => s.rd (ING_GRP_GADDR g i))

/-- The enabled entries of a logical port. -/
def State.grpEntries (s : State) (lp : Nat) : List Nat :=
  (List.range 128).filter (fun g => s.on (ING_GRP_CTL_EN g) && bitSet (s.rd (ING_GRP_CTL_LPORTS g)) lp)

/-- The record of one group on a logical port (R136); INCLUDE without sources when no entry names it. -/
def State.grpRecord (s : State) (lp : Nat) (v6 : Bool) (addr : Nat) : GroupRec :=
  let l := (s.grpEntries lp).filter (fun g => s.on (ING_GRP_CTL_IPV6 g) == v6 && s.grpAddr g == addr)
  if l.any (fun g => !s.on (ING_GRP_CTL_INCLUDE g)) then { v6 := v6, addr := addr, exclude := true }
  else { v6 := v6, addr := addr, sources := (l.map (fun g => addrOf v6 (fun i => s.rd (ING_GRP_SADDR g i)))).eraseDups }

/-- Every record of a logical port. -/
def State.grpRecords (s : State) (lp : Nat) : List GroupRec :=
  (((s.grpEntries lp).map (fun g => (s.on (ING_GRP_CTL_IPV6 g), s.grpAddr g))).eraseDups).map (fun k => s.grpRecord lp k.1 k.2)

/-- The unsolicited report interval in ns. -/
def State.uriNs (s : State) : Nat := 100000000 * s.rd ING_MCAST_CTL_URI

/-- A delay in [0, max), the device's own random choice: a free value. -/
def State.randomDelay (s : State) (m : Nat) : Nat × State :=
  let v := s.free
  (v.1 % max m 1, v.2)

/-- Schedule the reports of a changed record: a later change supersedes a pending one (R137). -/
def State.changeReport (s : State) (lp : Nat) (v6 : Bool) (addr : Nat) : State :=
  let d := s.randomDelay s.uriNs
  let keep := d.2.ing.reports.filter (fun r => !(r.lp == lp && r.v6 == v6 && r.group == some addr && !r.current))
  let x : Report := { lp := lp, v6 := v6, group := some addr, due := d.2.elapsed + d.1, left := max 1 (d.2.rd ING_MCAST_CTL_ROBUST) - 1 }
  { d.2 with ing := { d.2.ing with reports := keep ++ [x] } }

/-- After a write to the group table: every record that differs from the one last known is reported on its ports. -/
def State.groupsChanged (s : State) : State :=
  s.each (List.range 8) (fun lp t =>
    let old : List GroupRec := smGet [] t.ing.known lp
    let new := t.grpRecords lp
    let keys := ((old ++ new).map (fun r => (r.v6, r.addr))).eraseDups
    let diff := keys.filter (fun k =>
      let at_ := fun (l : List GroupRec) => (l.find? (fun r => r.v6 == k.1 && r.addr == k.2)).getD { v6 := k.1, addr := k.2 }
      decide (at_ old ≠ at_ new))
    ({ t with ing := { t.ing with known := smSet [] t.ing.known lp new } }).each diff (fun k u => u.changeReport lp k.1 k.2))

/-! ### Report packets (R139) -/

/-- Sources that fit in one record of a report. -/
def srcRoom (v6 : Bool) : Nat := if v6 then 80 else 320

/-- Cut a list into parts of `n`; at least one part. -/
def partsOf {α : Type} (n : Nat) (l : List α) : List (List α) :=
  if l.isEmpty then [[]] else (List.range (cdiv l.length n)).map (fun i => (l.drop (i * n)).take n)

/-- The bytes of a record, with its type (1 and 2 state now, 3 and 4 state change), in parts that fit a report. -/
def recordBytes (change : Bool) (r : GroupRec) : List (List Byte) :=
  let w := if r.v6 then 16 else 4
  let t := (if r.exclude then 2 else 1) + (if change then 2 else 0)
  (partsOf (srcRoom r.v6) r.sources).map (fun l =>
    natBe 1 t ++ natBe 1 0 ++ natBe 2 l.length ++ natBe w r.addr ++ l.flatMap (natBe w))

/-- Group record bytes into reports of a bounded size. -/
def packRecords (room : Nat) : List (List Byte) → List (List Byte) → List (List (List Byte))
  | cur, [] => if cur.isEmpty then [] else [cur]
  | cur, r :: l =>
    if cur.isEmpty ∨ cur.flatten.length + r.length ≤ room then packRecords room (cur ++ [r]) l
    else cur :: packRecords room [r] l

/-- The MAC address a multicast address maps to (R110). -/
def mcastMac (v6 : Bool) (addr : Nat) : List Byte :=
  if v6 then natBe 2 0x3333 ++ natBe 4 (addr % 2 ^ 32) else natBe 3 0x01005E ++ natBe 3 (addr % 2 ^ 23)

/-- ff02::16, where MLDv2 reports go. -/
def mldAddr : Nat := 0xFF02 * 2 ^ 112 + 0x16
/-- 224.0.0.22, where IGMPv3 reports go. -/
def igmpAddr : Nat := 0xE0000016

/-- One report frame on a logical port; the identification word or flow label is a free value. (DEDUCED, log entry 34.) -/
def State.reportFrame (s : State) (lp : Nat) (v6 : Bool) (recs : List (List Byte)) (free : Nat) : List Byte :=
  let vid := if s.on (ING_PORT_CTL_VLAN_EN lp) then some (s.rd (ING_PORT_CTL_VID lp)) else none
  let tos := s.rd ING_MCAST_CTL_DSCP * 4
  let body := natBe 2 0 ++ natBe 2 recs.length ++ recs.flatten
  if v6 then
    let src := ip6Bytes (fun i => s.rd (ING_PORT_IP6LL lp i))
    let dst := natBe 16 mldAddr
    let icmp := fun c => natBe 1 143 ++ natBe 1 0 ++ natBe 2 c ++ body
    let m := icmp (upperSum src dst 58 (icmp 0))
    let hop := natBe 1 58 ++ natBe 1 0 ++ natBe 4 0x05020000 ++ natBe 2 0x0100
    ethFrame (mcastMac true mldAddr) (s.portMac lp) vid 0x86DD (ip6Header tos free 0 1 src dst (hop.length + m.length) ++ hop ++ m)
  else
    let igmp := fun c => natBe 1 0x22 ++ natBe 1 0 ++ natBe 2 c ++ body
    let m := igmp (inetSum (igmp 0))
    ethFrame (mcastMac false igmpAddr) (s.portMac lp) vid 0x0800
      (ip4Header tos (free % 65536) 1 2 (natBe 4 0x94040000) (s.rd (ING_PORT_IP4_ADDR lp)) igmpAddr m.length ++ m)

/-- Bytes of records that a 1500-byte frame has room for, a VLAN tag included. (DEDUCED, log entry 34.) -/
def recRoom (v6 : Bool) : Nat := if v6 then 1500 - (18 + 40 + 8 + 8 + 4) else 1500 - (18 + 24 + 8 + 4)

/-- Send records on a logical port, in as many reports as they need. -/
def State.sendReport (s : State) (lp : Nat) (v6 change : Bool) (l : List GroupRec) : State :=
  s.each (packRecords (recRoom v6) [] (l.flatMap (recordBytes change))) (fun p t =>
    let v := t.free
    v.2.sendFrame lp (v.2.reportFrame lp v6 p v.1))

/-- The first report of a port that is due, of the kind asked for. -/
def State.dueReport (s : State) (lp : Nat) (current : Bool) : Option Report :=
  s.ing.reports.find? (fun r => r.lp == lp && r.current == current && decide (r.due ≤ s.elapsed))

/-- Take a report off the schedule. -/
def State.takeReport (s : State) (r : Report) : State :=
  { s with ing := { s.ing with reports := s.ing.reports.erase r } }

/-- A state-change report falls due: it carries the record as it stands, and is sent again while its count asks for it. -/
def State.stateChange (s : State) (lp : Nat) : State :=
  match s.dueReport lp false with
  | none => s
  | some r =>
    let s := (s.takeReport r).sendReport lp r.v6 true [s.grpRecord lp r.v6 (r.group.getD 0)]
    if r.left = 0 then s
    else
      let d := s.randomDelay s.uriNs
      { d.2 with ing := { d.2.ing with reports := d.2.ing.reports ++ [{ r with due := d.2.elapsed + d.1, left := r.left - 1 }] } }

/-- STATE_CHANGE_REPORT: on logical port `lp`. Egress sends nothing while it is fenced. -/
def execStateChangeReport (lp : Fin 8) (s : State) : Host.Outcome State Fault Refusal :=
  s.finish (if s.unitUp mEGR then s.stateChange lp else s)

/-- A current-state report falls due (R138). -/
def State.currentState (s : State) (lp : Nat) : State :=
  match s.dueReport lp true with
  | none => s
  | some r =>
    let l := match r.group with
      | none => (s.grpRecords lp).filter (fun x => x.v6 == r.v6)
      | some a => (s.grpRecords lp).filter (fun x => x.v6 == r.v6 && x.addr == a)
    (s.takeReport r).sendReport lp r.v6 false l

/-- CURRENT_STATE_REPORT: on logical port `lp`. -/
def execCurrentStateReport (lp : Fin 8) (s : State) : Host.Outcome State Fault Refusal :=
  s.finish (if s.unitUp mEGR then s.currentState lp else s)

/-! ### Queries (R138, R140) -/

/-- Max Resp Time in ns: of an IGMPv3 code in tenths of a second, or an MLDv2 code in ms. -/
def maxResp (v6 : Bool) (code : Nat) : Nat :=
  if v6 then
    (if code < 32768 then code else (code % 4096 + 4096) * 2 ^ (code / 4096 % 8 + 3)) * 1000000
  else (if code < 128 then code else (code % 16 + 16) * 2 ^ (code / 16 % 8 + 3)) * 100000000

/-- Schedule the answer to a query. -/
def State.answerQuery (s : State) (lp : Nat) (v6 : Bool) (group code : Nat) : State :=
  let d := s.randomDelay (maxResp v6 code)
  let x : Report := { lp := lp, v6 := v6, group := if group = 0 then none else some group, due := d.2.elapsed + d.1, current := true }
  { d.2 with ing := { d.2.ing with reports := d.2.ing.reports ++ [x] } }

/-- An IGMP message arrives: queries of version 3 are answered, older ones are recorded. (DEDUCED, log entry 36.) -/
def State.rxIgmp (s : State) (lp : Nat) (l : List Byte) : State :=
  if byteAt l 0 = 0x11 then
    if l.length < 12 then s.wr (ING_PORT_STATUS_OLD_QUERIER lp) 1 else s.answerQuery lp false (beAt l 4 4) (byteAt l 1)
  else s

/-- An MLD message arrives. (DEDUCED, log entry 36.) -/
def State.rxMld (s : State) (lp : Nat) (l : List Byte) : State :=
  if byteAt l 0 = 130 then
    if l.length < 28 then s.wr (ING_PORT_STATUS_OLD_QUERIER lp) 1 else s.answerQuery lp true (beAt l 8 16) (beAt l 4 2)
  else s

end Sys2Proof.Machine
end

