-- ==== Sys2Proof/Machine/RegMap.lean ====
section
/-! DEFINITION. The register map: which fields lie in a word, which unit answers for it, and what an access does by the
access types of Table 0-5 (R3, R6–R8, R15, 00_scope.md and 01_architecture.md). -/

namespace Sys2Proof.Machine

open R

/-- The fields of the word at `off` among `n` instances, `stride` apart from `base`. -/
def fieldsIn (off base stride n : Nat) (regs : Nat → List (Acc × Fld)) : List (Acc × Fld) :=
  if base ≤ off ∧ (off - base) / stride < n then (regs ((off - base) / stride)).filter (fun p => p.2.off == off) else []

/-- Fields of the words below 0x0080_0000. -/
def fieldsLow (off : Nat) : List (Acc × Fld) :=
  fieldsIn off 0 0x100000 1 (fun _ => regsGlb) ++ fieldsIn off 0x00100000 0x100000 1 (fun _ => regsWrp) ++
    fieldsIn off 0x00200000 0x1000 128 regsStc ++ fieldsIn off 0x00280000 0x1000 1 (fun _ => regsSch) ++
    fieldsIn off 0x00400000 0x100 8 regsIngPort ++ fieldsIn off 0x00400800 0x800 1 (fun _ => regsIngGlb) ++
    fieldsIn off 0x00404000 0x40 256 regsIngFlow ++ fieldsIn off 0x00408000 0x20 256 regsIngFlowStat ++
    fieldsIn off 0x0040A000 0x40 128 regsIngGrp ++ fieldsIn off 0x0040C000 0x100 8 regsIngEgr ++
    fieldsIn off 0x00500000 0x1000 1 (fun _ => regsPtp) ++ fieldsIn off 0x00600000 0x10000 16 regsSpd ++
    fieldsIn off 0x00700000 0x10000 4 regsSpe ++ fieldsIn off 0x00780000 0x400 16 regsEnc ++
    fieldsIn off 0x007C0000 0x1000 1 (fun _ => regsCard)

/-- Fields of the words of ply engine `e`. -/
def fieldsPly (off e : Nat) : List (Acc × Fld) :=
  let b := 0x100000 * e
  fieldsIn off (0x00801000 + b) 0x1000 1 (fun _ => regsPlyEng e) ++ fieldsIn off (0x00810000 + b) 0x80 256 (regsWin e) ++
    fieldsIn off (0x00818000 + b) 0x80 256 (regsWinAct e) ++ fieldsIn off (0x00820000 + b) 0x40 512 (regsTile e) ++
    fieldsIn off (0x00828000 + b) 0x40 512 (regsTileAct e) ++ fieldsIn off (0x00830000 + b) 0x2000 1 (fun _ => regsCoef e) ++
    fieldsIn off (0x00832000 + b) 0x2000 1 (fun _ => regsCoefAct e) ++ fieldsIn off (0x00840000 + b) 0x20 512 (regsPlyTally e) ++
    fieldsIn off (0x00848000 + b) 8 512 (regsPlyAge e)

/-- Fields of the words of the canvas, the engines and the port managers. -/
def fieldsWall (off : Nat) : List (Acc × Fld) :=
  fieldsIn off 0x00800000 0x1000 1 (fun _ => regsCanvas) ++ fieldsPly off 0 ++ fieldsPly off 1 ++
    fieldsIn off 0x00A00000 0x4000 16 regsBlk ++
    (List.range 16).flatMap (fun p => fieldsIn off (0x00A02000 + 0x4000 * p) 0x40 64 (regsBlkTile p))

/-- Fields of the words from 0x00C0_0000 on. -/
def fieldsHigh (off : Nat) : List (Acc × Fld) :=
  fieldsIn off 0x00C00000 0x40 64 regsPool ++ fieldsIn off 0x00C01000 0x40 8 regsHop ++
    fieldsIn off 0x00D00000 0x1000 1 (fun _ => regsMem) ++ fieldsIn off 0x00D00100 0x40 2 regsMemStack ++
    fieldsIn off 0x00E00000 0x400 64 regsDma ++ fieldsIn off 0x00E10000 0x1000 1 (fun _ => regsHif) ++
    fieldsIn off 0x00E11000 0x10 256 regsHifOb ++ fieldsIn off 0x00F00000 0x1000 1 (fun _ => regsIntG) ++
    fieldsIn off 0x00F01000 4 320 regsIntSrc ++ fieldsIn off 0x00F02000 0x40 17 regsIntTgt ++
    fieldsIn off 0x00F03000 0x1000 1 (fun _ => regsIntSum) ++ fieldsIn off 0x00F80000 0x10 512 regsMsix ++
    fieldsIn off 0x00F82000 0x1000 1 (fun _ => regsPba) ++ fieldsIn off 0x01000000 0x100 1 (fun _ => regsFlt) ++
    fieldsIn off 0x01000100 0x20 24 regsFltClass ++ fieldsIn off 0x01100000 0x20 32 regsCnt ++
    fieldsIn off 0x01100400 0x100 1 (fun _ => regsCntG) ++ fieldsIn off 0x01200000 0x100 1 (fun _ => regsPwr) ++
    fieldsIn off 0x01200100 4 30 regsPwrIsl ++ fieldsIn off 0x01300000 0x1000 1 (fun _ => regsSec) ++
    fieldsIn off 0x01301000 0x100 16 regsSecMb ++ fieldsIn off 0x01400000 0x10000 1 (fun _ => regsUcs)

/-- The fields of the word at a BAR0 offset; a word with none is reserved (R7). (DEDUCED, log entry 18.) -/
def fieldsAt (off : Nat) : List (Acc × Fld) :=
  if off < 0x00800000 then fieldsLow off else if off < 0x00C00000 then fieldsWall off else fieldsHigh off

/-- The canvas registers answer at both engines' offset 0 (R275). -/
def canon (off : Nat) : Nat := if 0x00900000 ≤ off ∧ off < 0x00901000 then off - 0x00100000 else off

/-- The register space ends here (R501): no unit answers above. (DEDUCED, log entry 18.) -/
def regEnd : Nat := 0x01500000

/-! ### Who answers -/

/-- The master ID of the unit that answers for a word, when it can be fenced or lies in an island (Table 1-1): a microcode register of
a sequencer belongs to the unit that owns it. (DEDUCED, log entry 43.) -/
def State.regMaster (s : State) (off : Nat) : Option Nat :=
  if 0x00400000 ≤ off ∧ off < 0x0040C000 then some 0x20
  else if 0x0040C000 ≤ off ∧ off < 0x00500000 then some 0x21
  else if 0x00600000 ≤ off ∧ off < 0x00700000 then some ((off - 0x00600000) / 0x10000)
  else if 0x00700000 ≤ off ∧ off < 0x00740000 then some (0x10 + (off - 0x00700000) / 0x10000)
  else if 0x00801000 ≤ off ∧ off < 0x00900000 then some 0x18
  else if 0x00901000 ≤ off ∧ off < 0x00A00000 then some 0x19
  else if 0x00A00000 ≤ off ∧ off < 0x00A40000 then some (0x48 + (off - 0x00A00000) / 0x4000)
  else if 0x00E00000 ≤ off ∧ off < 0x00E10000 then some (s.engineOf ((off - 0x00E00000) / 0x400))
  else if 0x01400100 ≤ off ∧ off < 0x01400160 then some (seqMaster ((off - 0x01400100) / 4))
  else none

/-- The word lies in the block of an absent unit (R3, R105). -/
def State.regAbsent (s : State) (off : Nat) : Bool :=
  if 0x00400000 ≤ off ∧ off < 0x00400800 then !s.portExists ((off - 0x00400000) / 0x100)
  else if 0x00D00140 ≤ off ∧ off < 0x00D00180 then !s.present 29
  else match (s.regMaster off).bind masterIsland with
    | some i => !s.present i
    | none => false

/-- A word is `STC_PIC_HOLD_RES` of a context with a hold request that has not been evaluated, or `POOL_HOP_RES` of a slot whose operation
has no result: a read of it waits (R176, R390), as at a RETRY. (DESIGN CHOICE, log entry 46.) -/
def State.holdWaits (s : State) (off : Nat) : Bool :=
  s.fab.retry.any (fun q => match q.2 with | .hold n _ => off / 4 * 4 == (STC_PIC_HOLD_RES_DONE n).off | _ => false) ||
    (List.range 8).any (fun k => off / 4 * 4 == (POOL_HOP_RES_DONE k).off && !s.on (POOL_HOP_RES_DONE k))

/-- The response code of the path to a word (Table 1-3, R34, R42, Table 1-14 step 2). (DEDUCED, log entry 18.) -/
def State.regCode (s : State) (off : Nat) : Nat :=
  if regEnd ≤ off then 4
  else if s.regAbsent off then 0
  else if s.holdWaits off then 1
  else match s.regMaster off with
    | none => 0
    | some m =>
      let st := match masterIsland m with | some i => s.isl i | none => islON
      if st = islDRAINING then 1 else if st ≠ islON then 6 else if s.fenced m then 2 else 0

/-! ### Plain accesses -/

/-- A write to one field by its access type (Table 0-5): a WO word that acts on a later write is kept. -/
def State.writeFld (s : State) (w : Nat) (p : Acc × Fld) : State :=
  let v := bitsOf w p.2.lo p.2.width
  match p.1 with
  | .ro => s
  | .rc => s
  | .rw => s.wr p.2 v
  | .wo => s.wr p.2 v
  | .rwl => s.iff (!s.on WRP_STATUS_LOCKED) (·.wr p.2 v)
  | .w1c => s.wr p.2 (s.rd p.2 - (s.rd p.2).land v)
  | .w1s => s.wr p.2 ((s.rd p.2).lor v)

/-- A write to every field of a word by its access type. -/
def State.writeFlds (s : State) (l : List (Acc × Fld)) (w : Nat) : State := s.each l (fun p t => t.writeFld w p)

/-- The fields of a word whose access type is in a list. -/
def ofAcc (l : List (Acc × Fld)) (as : List Acc) : List (Acc × Fld) := l.filter (fun p => as.contains p.1)

/-- What a field reads as: `ING_PORT_CTL` shows FEC 1 in mode 1X100, and MODE at logical ports 0 and 4 only (Table 3-2). -/
def State.shown (s : State) (F : Fld) : Nat :=
  let lp := (F.off - 0x00400000) / 0x100
  if F.off < 0x00400000 ∨ 0x00400800 ≤ F.off ∨ F.off % 0x100 ≠ 0 then s.rd F
  else if F.lo = 0 ∧ lp % 4 ≠ 0 then 0
  else if F.lo = 4 ∧ s.rd (ING_PORT_CTL_MODE (lp / 4 * 4)) = 0 then 1
  else s.rd F

/-- The value of a word (R6): WO and reserved bits read 0. -/
def State.word (s : State) (off : Nat) : Nat :=
  ((fieldsAt off).filter (fun p => p.1 != .wo)).foldl (fun (v : Nat) p => v + s.shown p.2 * 2 ^ p.2.lo) 0

end Sys2Proof.Machine
end

