-- ==== Sys2Proof/Machine/RegWrite.lean ====
section
/-! DEFINITION. A write of a register word, block by block: each word whose fields act when written calls the operation that
the command of the same meaning calls; every other field takes its access type (R8). -/

namespace Sys2Proof.Machine

open R

/-- Host inbound and the service controller as writers (Table 1-1). -/
def mHOST : Nat := 0x40
def mSVC : Nat := 0x38

/-- A word without effects of its own. -/
def State.plainWrite (s : State) (off w : Nat) : State := s.writeFlds (fieldsAt off) w

/-- A word, but for its fields of a list. -/
def State.plainBut (s : State) (off w : Nat) (but : List Fld) : State :=
  s.writeFlds ((fieldsAt off).filter (fun p => !but.contains p.2)) w

/-- Power (R30, R31, R43). -/
def State.writePwr (s : State) (off w : Nat) : State :=
  if off = 0x01200000 then
    if s.on PWR_CTL_GO then s
    else if bitSet w 31 then s.pwrRequest (bitsOf w 0 5) (bitsOf w 5 2) (bitSet w 8)
    else s.plainWrite off w
  else if off = 0x0120000C then
    if s.on PWR_UNIT_RST_GO then s else if bitSet w 31 then s.unitReset (w % 256) else s.plainWrite off w
  else s.plainWrite off w

/-- Faults (R474, R478). -/
def State.writeFlt (s : State) (off w : Nat) : State :=
  if off = 0x01000008 then s.iff (bitSet w 31) (·.faultInject (bitsOf w 0 5) (bitsOf w 8 3))
  else if 0x01000100 ≤ off ∧ (off - 0x01000100) / 0x20 < 24 ∧ off % 0x20 = 0 then
    let c := (off - 0x01000100) / 0x20
    let s := s.plainBut off w [FLT_CLASS_RAISED c]
    s.iff (bitsOf w (FLT_CLASS_RAISED c).lo 1 == 1) (·.faultAck c)
  else s.plainWrite off w

/-- Performance counters (R481, R506): CHAIN of an even counter is RO, and a reweave that holds a counter ignores an EN of 1. -/
def State.writeCnt (s : State) (off w : Nat) : State :=
  if off = 0x01100400 then s.iff (bitSet w 0) (·.counterClear)
  else if off < 0x01100400 ∧ off % 0x20 = 4 then
    let i := (off - 0x01100000) / 0x20
    let but := (if i % 2 = 0 then [CNT_CTL_CHAIN i] else []) ++ (if s.wrp.hold.counters.contains i && bitSet w 0 then [CNT_CTL_EN i] else [])
    s.plainBut off w but
  else s.plainWrite off w

/-- An interrupt target's registers (R449, R453, R455, R457); a new wake setting is tested at once (R458). -/
def State.writeTgt (s : State) (t off w : Nat) : State :=
  match off % 0x40 with
  | 0x00 =>
    let s := s.plainBut off w [INT_TGT_CTL_PARKED t]
    ((if bitSet w 1 then s.park t else s.unpark t)).evalTarget t false
  | 0x08 => s.eoi t (w % 1024)
  | 0x14 => (s.plainWrite off w).parkRedirect t
  | 0x20 => s.timerArm t w
  | _ => s.plainWrite off w

/-- The interrupt controller (R448, R452, R453, R461, R464). -/
def State.writeInt (s : State) (m off w : Nat) : State :=
  let host := m == mHOST
  if off = 0x00F00000 then s.hostDis (w % 2)
  else if off = 0x00F00008 then s.sgi host (bitsOf w 16 5) (bitsOf w 0 2)
  else if 0x00F01000 ≤ off ∧ off < 0x00F01500 then s.srcWrite host ((off - 0x00F01000) / 4) w
  else if 0x00F02000 ≤ off ∧ off < 0x00F02440 then
    let t := (off - 0x00F02000) / 0x40
    if host ∧ t = 16 then s else s.writeTgt t off w
  else if 0x00F80000 ≤ off ∧ off < 0x00F82000 ∧ off % 0x10 = 0xC then
    let v := (off - 0x00F80000) / 0x10
    if bitSet w 0 then s.wr (MSIX_CTRL_MASK v) 1 else s.msixUnmask v
  else s.plainWrite off w

/-- The bobbin pool (R372, R389, R390). -/
def State.writePool (s : State) (m off w : Nat) : State :=
  if off < 0x00C01000 then
    let p := (off - 0x00C00000) / 0x40
    if off % 0x40 = 0 then s.poolCtl p (bitsOf w 28 4) (bitsOf w 16 5)
    else
      let l := (fieldsAt off).filter (fun q => [POOL_BASE_LO p, POOL_BASE_HI p, POOL_COUNT p, POOL_META_LO p, POOL_META_HI p].contains q.2)
      if l.isEmpty then s.plainWrite off w
      else s.each l (fun q t => t.poolSetup p q.2 (bitsOf w q.2.lo q.2.width))
  else if off < 0x00C01200 ∧ off % 0x40 = 0x10 then s.hopCmd m ((off - 0x00C01000) / 0x40) (w % 16)
  else s.plainWrite off w

/-- The memory controller (R399, R404, R410, R411). -/
def State.writeMem (s : State) (m off w : Nat) : State :=
  if off = 0x00D00004 then s.memMode (m == mSVC) (w % 4)
  else if off = 0x00D00020 then (s.plainBut off w [MEM_RETRAIN_NOW]).iff (bitSet w 31) (·.retrainNow)
  else if off = 0x00D0002C then s.injectHi w
  else if off = 0x00D00200 then s.testCtl w
  else s.plainWrite off w

/-- DMA channels and the host interface (R419, R427, R428). -/
def State.writeDma (s : State) (off w : Nat) : State :=
  if off < 0x00E10000 then
    let c := (off - 0x00E00000) / 0x400
    if off % 0x400 = 0 then s.dmaCtl c w (bitsOf w 28 4)
    else if off = (DMA_TAIL c).off then s.dmaTail c w
    else
      let l := ofAcc (fieldsAt off) [.rw]
      if l.isEmpty then s.plainWrite off w
      else s.each l (fun q t => t.dmaSetup c q.2 (bitsOf w q.2.lo q.2.width))
  else if 0x00E10040 ≤ off ∧ off < 0x00E10080 then s.apWrite ((off - 0x00E10040) / 4) w
  else s.plainWrite off w

/-- The warp loader (R506). -/
def State.writeWrp (s : State) (off w : Nat) : State :=
  if off = 0x00100004 then s.iff (bitSet w 31) (·.reweaveGo) else s.plainWrite off w

/-- What a start finds outside the device, from one free value. -/
def bootOf (v : Nat) : BootOp := { avs := v % 2 == 1, octal := v / 2 % 2 == 1, mhz := v / 4 % 256, dummy := v / 1024 % 32 }

/-- A recovery image is submitted (R527): whether flash reads back and what the start finds at AVSBus and flash is the board's, a free value (DESIGN CHOICE, log entry 4). -/
def State.recSubmit (s : State) (w : Nat) : State :=
  if bitSet w 31 then
    let a := s.free
    let f := a.2.free
    if bitSet w 0 then f.2.recProgram (f.1 % 2 == 1) (bootOf a.1) else f.2.recRun (bootOf a.1)
  else s.wr SEC_REC_CTL_MODE (w % 2)

/-- The security block (R527, R535). -/
def State.writeSec (s : State) (off w : Nat) : State :=
  if off = 0x01300084 then s.recSubmit w
  else if 0x01301000 ≤ off ∧ off < 0x01302000 then
    let t := (off - 0x01301000) / 0x100
    let o := off % 0x100
    if o = 0 then s.mailSend t w
    else if o < 0x40 then (if s.on (SEC_MB_CTL_FREE t) then s.plainWrite off w else s.wr (SEC_MB_CTL_LOST t) 1)
    else if o = 0x80 then (s.plainBut off w [SEC_MB_CTL_IN_VALID t]).iff (bitSet w 1) (·.mailRelease t)
    else s.plainWrite off w
  else s.plainWrite off w

/-- Stream contexts (R50, R51, R172, R176). -/
def State.writeStc (s : State) (off w : Nat) : State :=
  if 0x00280000 ≤ off then s.plainWrite off w
  else
    let n := (off - 0x00200000) / 0x1000
    if off % 0x1000 = 0 then s.ctxCmd n w (bitsOf w 28 4)
    else if off = (STC_PIC_HOLD n).off then s.picHold n w
    else if s.rd (STC_STATUS_STATE n) = ctxIDLE ∨ off = (STC_WIN_ORG_X n).off ∨ off = (STC_WIN_SIZE_W_M1 n).off ∨
        (ofAcc (fieldsAt off) [.rw]).isEmpty then s.plainWrite off w
    else s.wr (STC_STATUS_CMD_REJECT n) 1

/-- Group entries (R137, R141): the address fields stand while EN is 1. -/
def State.writeGrp (s : State) (g off w : Nat) : State :=
  if off % 0x40 ≠ 0 ∧ s.on (ING_GRP_CTL_EN g) then s else (s.plainWrite off w).groupsChanged

/-- Egress channels (R152): only EN acts while EN is 1. -/
def State.writeEgr (s : State) (e off w : Nat) : State :=
  let was := s.on (ING_EGR_CTL_EN e)
  if off % 0x100 = 0 then
    if was then (if bitSet w 31 then s else s.egressDisable e)
    else (s.plainBut off w [ING_EGR_CTL_EN e]).iff (bitSet w 31) (·.egressEnable e)
  else if was then s else s.plainWrite off w

/-- Ingest and egress (R114). -/
def State.writeIng (s : State) (off w : Nat) : State :=
  if 0x00404000 ≤ off ∧ off < 0x00408000 then
    let f := (off - 0x00404000) / 0x40
    if (s.binder f).isSome ∧ off ≠ (ING_FLOW_WIN_W f).off ∧ off ≠ (ING_FLOW_PLAYOUT_NS f).off then s else s.plainWrite off w
  else if 0x0040A000 ≤ off ∧ off < 0x0040C000 then s.writeGrp ((off - 0x0040A000) / 0x40) off w
  else if 0x0040C000 ≤ off ∧ off < 0x0040C800 then s.writeEgr ((off - 0x0040C000) / 0x100) off w
  else s.plainWrite off w

/-- The PTP unit (R146, R147). -/
def State.writePtp (s : State) (off w : Nat) : State :=
  if off = 0x00500000 then (s.plainBut off w [PTP_CTL_EN]).ptpEnable (bitSet w 31)
  else if off = 0x0050003C then s.ptpSet w
  else s.plainWrite off w

/-- Encode sessions (R225, R235). The header bits and the repeat size of a START are the spindle's finding, a free value (log
entry 4). -/
def State.writeEnc (s : State) (off w : Nat) : State :=
  let e := (off - 0x00780000) / 0x400
  if off % 0x400 = 0 then
    let a := s.free
    let b := a.2.free
    if bitsOf w 28 4 = 2 then b.2.encCmd e w 2 a.1 b.1 else s.encCmd e w (bitsOf w 28 4) 0 0
  else if off = (ENC_SRC_HI e).off then s.encSubmit e w
  else if s.rd (ENC_STATUS_STATE e) = encIDLE ∨
      [(ENC_Q_Q e).off, (ENC_OUT_ACK e).off, (ENC_SRC_LO e).off, (ENC_SRC_TIME_LO e).off, (ENC_SRC_TIME_HI e).off].contains off ∨
      !(ofAcc (fieldsAt off) [.w1c]).isEmpty then s.plainWrite off w
  else s.wr (ENC_STATUS_CMD_REJECT e) 1

/-- Carding submissions (R263). -/
def State.writeCard (s : State) (off w : Nat) : State :=
  if off = 0x007C0004 then (s.cardSubmit (s.wrp.hold.classes.contains 3) w).encDispatch else s.plainWrite off w

/-- The canvas registers (R276, R284, R310). -/
def State.writeCanvas (s : State) (off w : Nat) : State :=
  if off = 0x00800000 then s.canvasCtl w
  else if off = PLY_COMMIT.off then s.commitAsk w
  else if [PLY_CANVAS_RATE_N.off, PLY_CANVAS_RATE_D.off, PLY_CANVAS_PHASE.off].contains off ∧ s.on PLY_CANVAS_CTL_EN then s
  else (s.plainWrite off w).iff ([PLY_AGE_TARGET.off, PLY_AGE_TARGET_B.off, PLY_AGE_MAX.off].contains off) (·.ageAll)

/-- Ply engine `e` (R277, R315): shadow copies stand while a commit is asked for. -/
def State.writePly (s : State) (e off w : Nat) : State :=
  let o := off % 0x100000
  if o = 0x1000 then s.plyRun e (bitSet w 0)
  else if (0x10000 ≤ o ∧ o < 0x18000 ∨ 0x20000 ≤ o ∧ o < 0x28000 ∨ 0x30000 ≤ o ∧ o < 0x32000) ∧ bitSet (s.rd PLY_COMMIT) e then s
  else s.plainWrite off w

/-- What the RL checker has found when a test stops is the tile's pattern, a free value (DESIGN CHOICE, log entry 4). -/
def State.testStop (s : State) (p : Nat) : State :=
  let a := s.free
  let b := a.2.free
  b.2.testOver p (if a.1 % 2 = 1 then some b.1 else none)

/-- A write of `BLK_CMD` (Table 8-18). -/
def State.portCmd (s : State) (p cmd : Nat) : State :=
  match cmd with
  | 0 => s.blkCmd p (!s.on (BLK_STATUS_BUSY p)) id
  | 1 => s.blkCmd p (s.cmdOk p [blkACTIVE, blkNOCHAIN]) (fun t => (t.wr (BLK_STATUS_BUSY p) 1).retrain p)
  | 2 => s.blkCmd p (s.cmdOk p [blkACTIVE]) (·.enumCmd p)
  | 3 => s.blkCmd p (s.cmdOk p [blkACTIVE]) (fun t => t.authTiles p (t.tilesOf p) true)
  | 4 => s.blkCmd p (s.cmdOk p [blkACTIVE, blkNOCHAIN] && s.rd (BLK_TEST_MODE p) != 3) (·.testStart p)
  | 5 => s.blkCmd p (s.cmdOk p [blkTEST]) (·.testStop p)
  | _ => s.blkCmd p false id

/-- Port manager `p` (R336, R338, R342, R363–R367). -/
def State.writeBlk (s : State) (p off w : Nat) : State :=
  match off % 0x4000 with
  | 0x000 => (s.writeFlds (ofAcc (fieldsAt off) [.rwl]) w).blkCtl p w
  | 0x008 => s.txcfg p w
  | 0x00C => s.portCmd p (w % 16)
  | 0x020 => (s.plainWrite off w).showShort p (s.rd (BLK_STATUS_TILES p))
  | 0x034 => s.inject p (some w)
  | 0x100 => s.hostMgmt p w
  | _ => s.plainWrite off w

/-- A write of the word at `off`, below 0x00C0_0000, by master `m`. -/
def State.writeLow (s : State) (off w : Nat) : State :=
  if off < 0x00100000 then s
  else if off < 0x00200000 then s.writeWrp off w
  else if off < 0x00400000 then s.writeStc off w
  else if off < 0x00500000 then s.writeIng off w
  else if off < 0x00600000 then s.writePtp off w
  else if off < 0x00780000 then s.plainWrite off w
  else if off < 0x00784000 then s.writeEnc off w
  else if off < 0x00800000 then s.writeCard off w
  else if off < 0x00801000 then s.writeCanvas off w
  else if off < 0x00900000 then s.writePly 0 off w
  else if off < 0x00A00000 then s.writePly 1 off w
  else if off < 0x00A40000 then s.writeBlk ((off - 0x00A00000) / 0x4000) off w
  else s

/-- A write of the word at `off`, from 0x00C0_0000 on, by master `m`. -/
def State.writeHigh (s : State) (m off w : Nat) : State :=
  if off < 0x00D00000 then s.writePool m off w
  else if off < 0x00E00000 then s.writeMem m off w
  else if off < 0x00F00000 then s.writeDma off w
  else if off < 0x01000000 then s.writeInt m off w
  else if off < 0x01100000 then s.writeFlt off w
  else if off < 0x01200000 then s.writeCnt off w
  else if off < 0x01300000 then s.writePwr off w
  else if off < 0x01400000 then s.writeSec off w
  else s

/-- The effect of a write of a word that reaches its unit. -/
def State.writeReg (s : State) (m off w : Nat) : State :=
  if off < 0x00C00000 then s.writeLow off w else s.writeHigh m off w

/-- A write of the word at a BAR0 offset by a master: its response code and the state. An absent unit ignores it (R3). -/
def State.writeWord (s : State) (m off w : Nat) : Nat × State :=
  let a := canon (off / 4 * 4)
  let c := s.regCode a
  if c ≠ 0 ∨ s.regAbsent a then (c, s) else (0, s.writeReg m a (w % 2 ^ 32))

/-! ### Reads -/

/-- What a read of a word latches before it returns (R146, R285, R312, R353, R478, R484, R544). (DEDUCED, log entry 17.) -/
def State.readLatch (s : State) (off : Nat) : State :=
  if off = PTP_TIME_LO.off then s.ptpRead
  else if off = SEC_START_CNT_LO.off then s.startCntRead
  else if off = PLY_CANVAS_FRAME_LO.off then s.latchPair PLY_CANVAS_FRAME_LO PLY_CANVAS_FRAME_HI s.canvas.k
  else if off = PLY_CANVAS_TSTART_LO.off then s.latchPair PLY_CANVAS_TSTART_LO PLY_CANVAS_TSTART_HI s.canvas.tstart
  else if off = FLT_LOG_SEQ_LO.off then s.faultLoRead 0
  else if 0x01000100 ≤ off ∧ off < 0x01000400 then
    let c := (off - 0x01000100) / 0x20
    if off = (FLT_FIRST_ADDR_LO c).off then s.faultLoRead (1 + 2 * c)
    else if off = (FLT_FIRST_TIME_LO c).off then s.faultLoRead (2 + 2 * c) else s
  else if 0x01100000 ≤ off ∧ off < 0x01100400 ∧ off % 0x20 = 0x18 then s.counterRead ((off - 0x01100000) / 0x20)
  else if 0x00A00000 ≤ off ∧ off < 0x00A40000 ∧ off % 0x4000 = 0x028 then
    let p := (off - 0x00A00000) / 0x4000
    s.latchPair (BLK_TOPO_HASH_LO p) (BLK_TOPO_HASH_HI p) (s.port p).hash
  else if 0x00840000 ≤ off ∧ off < 0x00A00000 ∧ 0x40000 ≤ off % 0x100000 ∧ off % 0x100000 < 0x44000 ∧ off % 8 = 0 ∧ off % 0x20 < 0x18 then
    s.tallyRead ((off - 0x00800000) / 0x100000) (off % 0x100000 % 0x40000 / 0x20) (off % 0x20 / 8)
  else s

/-- The levels that software has cleared since reach the controller before a later read returns (R446). -/
def State.levelsOut (s : State) : State :=
  let l := (List.range 320).filter (fun n => s.on (INT_SRC_LEVEL n) && !s.srcCond n)
  (s.each l (fun n t => t.levelIn n)).iff (!l.isEmpty) (·.arbitrate)

/-- A word of 32 conditions, from bit 0 up. -/
def packBits (f : Nat → Bool) : Nat := (List.range 32).foldl (fun (v : Nat) (j : Nat) => v + b2n (f j) * 2 ^ j) 0

/-- The summary registers (Table 12-6). (DEDUCED, log entry 47.) -/
def State.sumWord (s : State) (off : Nat) : Nat :=
  let o := (off - 0x00F03000) / 4
  if o < 4 then packBits (fun j => s.anyOn (ctxEvents (32 * o + j)))
  else if o < 12 then packBits (fun j => s.on (ING_FLOW_STATUS_PATH_DOWN (32 * (o - 4) + j)))
  else if o < 14 then packBits (fun j => s.anyOn (poolEvents (32 * (o - 12) + j)))
  else 0

/-- `INT_HIPEND[t]`: what a claim would return now (Table 12-3). (DEDUCED, log entry 47.) -/
def State.hipend (s : State) (t : Nat) : Nat := match s.signal t with | none => 0x3FF | some (p, n) => 65536 * p + n

/-- `INT_SRC[n]`: PENDING of a level source is its level (R445). -/
def State.srcWord (s : State) (n : Nat) : Nat :=
  s.word (0x00F01000 + 4 * n) - 2 ^ 31 * s.rd (INT_SRC_PENDING n) + 2 ^ 31 * b2n (s.srcPending n)

/-- The value of a word that reaches its unit, and the state after the read. (DEDUCED, log entry 46.) -/
def State.readReg (s : State) (m off : Nat) : Nat × State :=
  if off = 4 then (s.caps, s)
  else if 0x01380000 ≤ off ∧ off < 0x01400000 then (leNat (s.mramBytes (0x40000 + (off - 0x01380000)) 4), s)
  else if 0x00F01000 ≤ off ∧ off < 0x00F01500 then (s.srcWord ((off - 0x00F01000) / 4), s)
  else if 0x00F03000 ≤ off ∧ off < 0x00F03038 then (s.sumWord off, s)
  else if 0x00F02000 ≤ off ∧ off < 0x00F02440 then
    let t := (off - 0x00F02000) / 0x40
    if m = mHOST ∧ t = 16 then (0, s)
    else if off % 0x40 = 4 then s.claimRead t
    else if off % 0x40 = 0x10 then (s.hipend t, s)
    else (s.word off, s)
  else
    let s := s.levelsOut.readLatch off
    (s.word off, s)

/-- A read of the word at a BAR0 offset by a master: response code, value and state. A word of an absent unit reads 0 (R3). -/
def State.readWord (s : State) (m off : Nat) : Nat × Nat × State :=
  let a := canon (off / 4 * 4)
  let c := s.regCode a
  if c ≠ 0 ∨ s.regAbsent a then (c, 0, s)
  else
    let x := s.readReg m a
    (0, x.1, x.2)

end Sys2Proof.Machine
end

