-- ==== Sys2Proof/Machine/HostAccess.lean ====
section
/-! DEFINITION. The fabric (R14–R18), what the host reaches through BAR0 and BAR2 (R418–R421, R512) and the autonomous program
(R501, R502). -/

namespace Sys2Proof.Machine

open R

/-- The bits of the word at an offset that a written 1 clears. -/
def clearBits (off : Nat) : Nat :=
  (ofAcc (fieldsAt off) [.w1c]).foldl (fun (v : Nat) p => v.lor ((2 ^ p.2.width - 1) * 2 ^ p.2.lo)) 0

/-- A write of a word of which hardware sets the flags `hw` in the same CK_FAB cycle: over those the set wins (R9). The event behind
a flag is a command of its own, which stands before and has counted it; a fault taken in the cycle of its class's
acknowledgement is taken here (R474). (DEDUCED, log entry 64.) -/
def State.writeAgainst (s : State) (m off w hw : Nat) : State :=
  let a := canon (off / 4 * 4)
  let won := (w.land hw).land (clearBits a)
  let s := (s.writeWord m off (w - won)).2
  let c := (a - 0x01000100) / 0x20
  s.iff (decide (0x01000100 ≤ a) && decide (c < 24) && a == (FLT_CLASS_RAISED c).off && bitSet won (FLT_CLASS_RAISED c).lo) (·.faultTake c)

/-- REGISTER_WRITE: a write by host inbound (`svc` false) or the service controller of the word at an offset (R8), with the flags of
the word that hardware sets in the same cycle (R9). -/
def execRegisterWrite (svc : Bool) (off : Word) (w : RegData) (s : State) : Host.Outcome State Fault Refusal :=
  s.finish (s.writeAgainst (if svc then mSVC else mHOST) off.toNat w.word.toNat w.hw.toNat)

/-! ### Several words -/

/-- Read `n` words in order, up to one that is not answered OKAY. -/
def State.readWords (s : State) (m off : Nat) : Nat → Nat × List Nat × State
  | 0 => (0, [], s)
  | n + 1 =>
    let x := s.readWord m off
    if x.1 ≠ 0 then (x.1, [], x.2.2)
    else
      let y := x.2.2.readWords m (off + 4) n
      (y.1, x.2.1 :: y.2.1, y.2.2)

/-- Write words in order, up to one that is not answered OKAY. -/
def State.writeWords (s : State) (m off : Nat) : List Nat → Nat × State
  | [] => (0, s)
  | w :: r =>
    let x := s.writeWord m off w
    if x.1 ≠ 0 then x else x.2.writeWords m (off + 4) r

/-- The words of a list of bytes. -/
def wordsOfBytes : List Byte → List Nat
  | a :: b :: c :: d :: r => leNat [a, b, c, d] :: wordsOfBytes r
  | _ => []

/-! ### Fabric requests -/

/-- The registers as the fabric sees them (01_architecture.md). -/
def regBase : Nat := 0x800000000000

/-- A read of one word as a fabric request of a master: host inbound for BAR0, the service controller for the program. -/
def State.readAs (s : State) (m off : Nat) : Nat × Nat × State :=
  let x := s.readWord m off
  (x.1, x.2.1, x.2.2.countOwn (ownReq m 0 (regBase + off) (.read 4)) x.1)

/-- A write of one word as a fabric request of a master. -/
def State.writeAs (s : State) (m off w : Nat) : Nat × State :=
  let x := s.writeWord m off w
  (x.1, x.2.countOwn (ownReq m 1 (regBase + off) (.write (natLe 4 w))) x.1)

/-- RETRY: the request was not accepted, and its master issues it again after 32 CK_FAB cycles (R16). -/
def State.fabRetry (s : State) (r : FabReq) : State := (s.again (.fabric r)).countReq 0x013 r 1

/-- A request ends with an ERROR code (R15, R467). -/
def State.fabError (s : State) (r : FabReq) (c : Nat) : State := (s.respFault r.master r.access r.addr c).respond r c []

/-- A request to the registers. Pool operations are commands of their own (R389); an atomic elsewhere finds no such operation. (DEDUCED, log entry 46.) -/
def State.regRequest (s : State) (r : FabReq) : State :=
  let off := r.addr - regBase
  match r.kind with
  | .read n =>
    let x := s.readWords r.master off (cdiv n 4)
    match x.1 with
    | 0 => (x.2.2.fabAccept r).respond r 0 ((x.2.1.flatMap (natLe 4)).take n)
    | 1 => x.2.2.fabRetry r
    | c => x.2.2.fabError r c
  | .write d =>
    let x := s.writeWords r.master off (wordsOfBytes d)
    match x.1 with
    | 0 => (x.2.fabAccept r).respond r 0 []
    | 1 => x.2.fabRetry r
    | c => x.2.fabError r c
  | .atomic _ => s.fabError r 5

/-- Where a request goes and what it meets there (Table 1-3). -/
def State.fabRequest (s : State) (r : FabReq) : State :=
  if r.addr < winBase then
    match s.pathCode r.addr with
    | 0 =>
      let k := (s.stackOf r.addr).getD 0
      (s.fabAccept r).setXq k (s.xq k ++ [{ r with dead := false }])
    | 1 => s.fabRetry r
    | c => s.fabError r c
  else if r.addr < winEnd then
    (s.fabAccept r).windowAccess { r with dead := false } (memBytes s.hostMem ((s.winHost r.addr).getD 0) (FabKind.len r.kind))
  else if regBase ≤ r.addr ∧ r.addr < regBase + 2 ^ 26 then s.regRequest { r with dead := false }
  else s.fabError r 4

/-- FABRIC_REQUEST: the request of a master whose unit may issue one (R33, R45). -/
def execFabricRequest (r : FabReq) (s : State) : Host.Outcome State Fault Refusal :=
  s.finish (s.iff (s.unitUp r.master) (·.fabRequest { r with dead := false }))

/-! ### BAR0 -/

/-- BAR0 answers for an offset: after READY everywhere, before it only GLB and the first SEC registers, in a recovery boot the GLB
and SEC blocks (R512, R526). -/
def State.barOpen (s : State) (off : Nat) : Bool :=
  s.on SEC_BOOT_STATUS_READY || decide (off < 0x00100000) || (decide (0x01300000 ≤ off) && decide (off < 0x01300100)) ||
    (s.rd SEC_BOOT_STATUS_PHASE == phRECOVERY && decide (0x01300000 ≤ off) && decide (off < 0x01400000))

/-- A write of the host through BAR2 has not received its response (R420). -/
def State.hostWrites (s : State) : Bool :=
  let w := fun (r : FabReq) => r.master == mHOST && !FabKind.isRead r.kind
  s.queued.any w || s.fab.retry.any (fun q => match q.2 with | .fabric r => w r | _ => false)

/-- An access waits, before those that wait already. -/
def State.barWait (s : State) (b : BarWait) : State := { s with pcie := { s.pcie with waiting := b :: s.pcie.waiting } }

/-- One word of a BAR0 read: 0xFFFF_FFFF for an ERROR code, with a fault but before READY (R18, R512). -/
def State.barRead (s : State) (off : Nat) : Nat × Nat × State :=
  if !s.barOpen off then (0, 0xFFFFFFFF, s)
  else
    let x := s.readAs mHOST off
    if x.1 ≤ 1 then x else (0, 0xFFFFFFFF, x.2.2.respFault mHOST 0 (regBase + off) x.1)

/-- One word of a BAR0 write: discarded for an ERROR code. -/
def State.barWrite (s : State) (off w : Nat) : Nat × State :=
  if !s.barOpen off then (0, s)
  else
    let x := s.writeAs mHOST off w
    if x.1 ≤ 1 then x else (0, x.2.respFault mHOST 1 (regBase + off) x.1)

/-- Perform a BAR0 access word by word, the lower address first; at a RETRY the rest waits (R17, R418). -/
def State.barRun (s : State) (off : Nat) (data : Option (List Nat)) (got : List Nat) : Nat → State
  | 0 => match data with
    | none => s.emit (.hostRead (got.flatMap (natLe 4)) true)
    | some _ => s
  | n + 1 =>
    let wait := fun (t : State) => t.barWait { due := t.elapsed + t.fabNs 32, off := off, left := n + 1, data := data, got := got }
    match data with
    | none =>
      let x := s.barRead off
      if x.1 = 1 then wait x.2.2 else x.2.2.barRun (off + 4) none (got ++ [x.2.1]) n
    | some [] => s
    | some (w :: ws) =>
      let x := s.barWrite off w
      if x.1 = 1 then wait x.2 else x.2.barRun (off + 4) (some ws) got n

/-- Perform the BAR0 accesses that wait and whose time has come, in order of arrival (R14, R17, R420). (DEDUCED, log entry 46.) -/
def State.barPump (s : State) : Nat → State
  | 0 => s
  | n + 1 =>
    match s.pcie.waiting with
    | [] => s
    | b :: rest =>
      if b.due ≤ s.elapsed ∧ ¬ s.hostWrites then
        let t := { s with pcie := { s.pcie with waiting := rest } }
        (t.barRun b.off b.data b.got b.left).barPump n
      else s

/-- A BAR0 access arrives (R418): one or two words from word `word`; a write whose byte enables leave out a byte is discarded. -/
def State.barAccess (s : State) (word : Nat) (two : Bool) (data : Option (Nat × Nat)) (be : Nat) : State :=
  let n := if two then 2 else 1
  if data.isSome ∧ be % 16 ^ n ≠ 16 ^ n - 1 then s.wr HIF_STATUS_BAD_ACCESS 1
  else
    let b : BarWait := { due := s.elapsed, off := 4 * word, left := n, data := data.map (fun d => [d.1, d.2].take n) }
    ({ s with pcie := { s.pcie with waiting := s.pcie.waiting ++ [b] } }).barPump (s.pcie.waiting.length + 1)

/-- BAR0_ACCESS: a read, or a write of `data`, of one or two words, with the byte enables of a write. -/
def execBar0Access (word : Fin 16777216) (two : Bool) (data : Option (Word × Word)) (be : Fin 256) (s : State) :
    Host.Outcome State Fault Refusal :=
  s.finish (s.barAccess word two (data.map (fun d => (d.1.toNat, d.2.toNat))) be)

/-! ### BAR2 -/

/-- The bobbin address of a BAR2 offset (R419); before READY only a recovery boot answers, through aperture 0 as at reset. -/
def State.apAddr (s : State) (x : Nat) : Option Nat :=
  if s.on SEC_BOOT_STATUS_READY then some (2 ^ 32 * s.rd (HIF_AP_SEG (x / 2 ^ 32)) + x % 2 ^ 32)
  else if s.rd SEC_BOOT_STATUS_PHASE = phRECOVERY ∧ x < 2 ^ 32 then some x
  else none

/-- A BAR2 access (R419–R421): any size, issued to the memory controller in order of arrival. (DEDUCED, log entry 19.) -/
def State.bar2 (s : State) (x : Nat) (kind : FabKind) (tag : Nat) : State :=
  match s.apAddr x with
  | none => s.iff (FabKind.isRead kind) (·.emit (.hostRead (List.replicate (FabKind.len kind) 0xFF#8) true))
  | some a =>
    s.fabRequest { master := mHOST, addr := a, tag := tag, kind := kind, access := b2n (!FabKind.isRead kind) }

/-- BAR2_ACCESS: the offset, the bytes to write or how many to read, the request's tag. -/
def execBar2Access (x : BitVec 36) (write : Option (List Byte)) (len tag : Nat) (s : State) : Host.Outcome State Fault Refusal :=
  s.finish (s.bar2 x.toNat (match write with | some d => .write d | none => .read len) tag)

/-! ### RETRY -/

/-- Issue a request again; the masters of an island that is not ON, and a fenced unit, issue none, and it waits on (R33), but for an
operation the bobbin pool has taken up (R386). A unit's own transfer that meets RETRY once more waits again. (DEDUCED, log entry 11.) -/
def State.reissue (s : State) (q : Retried) : State :=
  if !s.unitUp q.master && !q.pooled then s.again q
  else
    match q with
    | .fabric r => s.fabRequest r
    | .pool r => s.poolServe r
    | .store m a data => (s.busWrite m a data).2
    | .load m acc a n parse => (s.busProbe m acc a n parse).2
    | .hold n seq => s.picHold n seq
    | .take e idx => s.takeAgain e idx
    | .show e n seq a gen => s.showAgain e { ctx := n, seq := seq, addr := a, gen := gen }

/-- 32 CK_FAB cycles have elapsed for some requests: each is issued again, in order, and host inbound repeats its accesses. -/
def State.retryDue (s : State) : State :=
  let now := s.elapsed
  let due := s.fab.retry.filter (fun q => decide (q.1 ≤ now))
  let s := { s with fab := { s.fab with retry := s.fab.retry.filter (fun q => !decide (q.1 ≤ now)) } }
  let s := s.each due (fun q t => t.reissue q.2)
  s.barPump s.pcie.waiting.length

/-- RETRY (R16, R17). -/
def execRetry (s : State) : Host.Outcome State Fault Refusal := s.finish s.retryDue.dispatch.encDispatch

/-! ### The autonomous program -/

/-- The entry in force: OP, TIMEOUT_MS, OFFSET, VALUE, MASK (R501). -/
structure AutoEntry where
  op : Nat := 0
  timeout : Nat := 0
  off : Nat := 0
  value : Nat := 0
  mask : Nat := 0
  deriving DecidableEq, Repr

/-- The entry that runs, while a program runs. -/
def State.autoEntry (s : State) : Option AutoEntry :=
  let a := 16 * s.wrp.autoAt
  let v := s.sect secAUTONOMOUS
  if s.on WRP_STATUS_AUTO_RUN ∧ a + 16 ≤ v.length then
    some { op := recField v a 1, timeout := recField v (a + 2) 2, off := recField v (a + 4) 4, value := recField v (a + 8) 4
           mask := recField v (a + 12) 4 }
  else none

/-- The entry is complete: the next one begins, or the program ends (R502). -/
def State.autoNext (s : State) : State :=
  let i := s.wrp.autoAt + 1
  let now := s.elapsed
  if 16 * i + 16 ≤ (s.sect secAUTONOMOUS).length then { s with wrp := { s.wrp with autoAt := i, autoSince := now } }
  else (s.wr WRP_STATUS_AUTO_RUN 0).wr WRP_STATUS_AUTO_DONE 1

/-- The program stops at its entry (R502). -/
def State.autoFail (s : State) : State :=
  ((s.wr WRP_STATUS_AUTO_RUN 0).wr WRP_STATUS_AUTO_FAIL 1).wr WRP_AUTO_INDEX s.wrp.autoAt

/-- An access of the program by its code: RETRY leaves the entry to be repeated (R16), an ERROR stops the program. -/
def State.autoCode (s : State) (e : AutoEntry) (acc code : Nat) (f : State → State) : State :=
  if code = 1 then s else if code = 0 then f s else (s.respFault mSVC acc (regBase + e.off) code).autoFail

/-- AUTO_WRITE. -/
def State.autoWrite (s : State) : State :=
  match s.autoEntry with
  | none => s
  | some e =>
    if e.op = 1 then
      let x := s.writeAs mSVC e.off e.value
      x.2.autoCode e 1 x.1 State.autoNext
    else s

/-- AUTO_WRITE: the entry that runs is a WRITE. -/
def execAutoWrite (s : State) : Host.Outcome State Fault Refusal := s.finish s.autoWrite

/-- AUTO_WAIT: one read of the word. -/
def State.autoWait (s : State) : State :=
  match s.autoEntry with
  | none => s
  | some e =>
    if e.op = 2 then
      let x := s.readAs mSVC e.off
      x.2.2.autoCode e 0 x.1 (fun t => t.iff (x.2.1.land e.mask == e.value) State.autoNext)
    else s

/-- AUTO_WAIT: the entry that runs is a WAIT, and the word is read. -/
def execAutoWait (s : State) : Host.Outcome State Fault Refusal := s.finish s.autoWait

/-- The entry that runs is a WAIT whose TIMEOUT_MS has passed (R502). -/
def State.autoTimeout (s : State) : State :=
  match s.autoEntry with
  | none => s
  | some e => s.iff (e.op == 2 && decide (s.wrp.autoSince + 1000000 * e.timeout ≤ s.elapsed)) State.autoFail

/-- AUTO_WAIT_TIMEOUT. -/
def execAutoWaitTimeout (s : State) : Host.Outcome State Fault Refusal := s.finish s.autoTimeout

/-- The entry that runs is a DELAY whose VALUE µs have passed. -/
def State.autoDelay (s : State) : State :=
  match s.autoEntry with
  | none => s
  | some e => s.iff (e.op == 3 && decide (s.wrp.autoSince + e.value * 1000 ≤ s.elapsed)) State.autoNext

/-- AUTO_DELAY. -/
def execAutoDelay (s : State) : Host.Outcome State Fault Refusal := s.finish s.autoDelay

end Sys2Proof.Machine
end

