-- ==== Sys2Proof/Machine/RxFrame.lean ====
section
/-! DEFINITION. A received Ethernet frame (R107–R113, Table 3-3): the checks in their order, and where the frame goes. -/

namespace Sys2Proof.Machine

open R

/-! ### The frame -/

/-- A frame without its FCS, and where its EtherType stands. -/
structure Eth where
  bytes : List Byte := []
  tag : Option Nat := none
  etype : Nat := 0
  /-- offset of the payload -/
  off : Nat := 14
  deriving DecidableEq, Repr

/-- The Ethernet header of a frame. -/
def ethOf (f : List Byte) : Eth :=
  let b := f.take (f.length - 4)
  if beAt b 12 2 = 0x8100 then { bytes := b, tag := some (beAt b 14 2 % 4096), etype := beAt b 16 2, off := 18 }
  else { bytes := b, etype := beAt b 12 2 }

/-- The network payload of a frame. -/
def Eth.payload (e : Eth) : List Byte := e.bytes.drop e.off

/-- The frame carries IPv6. -/
def Eth.v6 (e : Eth) : Bool := e.etype == 0x86DD

/-- The frame carries IPv4 or IPv6. -/
def Eth.isIp (e : Eth) : Bool := e.etype == 0x0800 || e.v6

/-- The length of the IP packet that its header gives. -/
def Eth.ipLen (e : Eth) : Nat := if e.v6 then 40 + beAt e.payload 4 2 else beAt e.payload 2 2

/-- The IP packet. -/
def Eth.ip (e : Eth) : List Byte := e.payload.take e.ipLen

/-- The destination and source addresses of the packet. -/
def Eth.dst (e : Eth) : Nat := if e.v6 then beAt e.ip 24 16 else beAt e.ip 16 4
/-- The source address of the packet. -/
def Eth.src (e : Eth) : Nat := if e.v6 then beAt e.ip 8 16 else beAt e.ip 12 4

/-- Step over IPv6 extension headers from offset `o`, whose header is of protocol `p`, up to a Fragment header. -/
def extHeaders (ip : List Byte) : Nat → Nat → Nat → Nat × Nat
  | 0, o, p => (o, p)
  | k + 1, o, p =>
    if ip.length < o + 8 then (o, p)
    else if [0, 43, 60, 135, 139, 140].contains p then extHeaders ip k (o + 8 * (byteAt ip (o + 1) + 1)) (byteAt ip o)
    else if p = 51 then extHeaders ip k (o + 4 * (byteAt ip (o + 1) + 2)) (byteAt ip o)
    else (o, p)

/-- The offset of what the IP header carries, and its protocol; extension headers are stepped over. -/
def Eth.upper (e : Eth) : Nat × Nat :=
  if e.v6 then extHeaders e.ip (e.ip.length / 8) 40 (byteAt e.ip 6)
  else (byteAt e.ip 0 % 16 * 4, byteAt e.ip 9)

/-- What the IP header carries. -/
def Eth.body (e : Eth) : List Byte := e.ip.drop e.upper.1

/-! ### Groups that a port accepts (R110) -/

/-- An address is a multicast group. -/
def isGroup (v6 : Bool) (a : Nat) : Bool := if v6 then a / 2 ^ 120 == 0xFF else a / 2 ^ 28 == 0xE

/-- The group addresses a logical port accepts, by IP version. -/
def State.groupsOf (s : State) (lp : Nat) (v6 : Bool) : List Nat :=
  let flows := (List.range 256).filter (fun f => s.on (ING_FLOW_CTL_EN f) && bitSet (s.rd (ING_FLOW_CTL_LPORTS f)) lp &&
    s.on (ING_FLOW_CTL_IPV6 f) == v6)
  let grps := (s.grpEntries lp).filter (fun g => s.on (ING_GRP_CTL_IPV6 g) == v6)
  let own := if v6 then 0xFF02 * 2 ^ 112 + 1 else 0xE0000001
  let ptp := if s.on (ING_PORT_CTL_PTP_EN lp) then [if v6 then 0xFF0E * 2 ^ 112 + 0x181 else 0xE0000181] else []
  (flows.map (fun f => addrOf v6 (fun i => s.rd (ING_FLOW_DADDR f i)))).filter (isGroup v6) ++ grps.map s.grpAddr ++ [own] ++ ptp

/-- The destination MAC address is the port's, or the mapping of a group it accepts. -/
def State.macOk (s : State) (lp : Nat) (e : Eth) : Bool :=
  let d := e.bytes.take 6
  d == s.portMac lp || (s.groupsOf lp false).any (fun a => d == mcastMac false a) ||
    (s.groupsOf lp true).any (fun a => d == mcastMac true a)

/-- The VLAN check (reason 3). -/
def State.vlanOk (s : State) (lp : Nat) (e : Eth) : Bool :=
  if s.on (ING_PORT_CTL_VLAN_EN lp) then e.tag == some (s.rd (ING_PORT_CTL_VID lp)) else e.tag == none || e.tag == some 0

/-- The destination is the port's address or an accepted group. -/
def State.ipDstOk (s : State) (lp : Nat) (e : Eth) : Bool :=
  (s.groupsOf lp e.v6).contains e.dst ||
    (if e.v6 then e.dst == addrOf true (fun i => s.rd (ING_PORT_IP6 lp i)) || e.dst == addrOf true (fun i => s.rd (ING_PORT_IP6LL lp i))
      else e.dst == s.rd (ING_PORT_IP4_ADDR lp))

/-- The IP header check (reason 5). -/
def State.ipOk (s : State) (lp : Nat) (e : Eth) : Bool :=
  let h := e.ip
  let head := if e.v6 then byteAt h 0 / 16 == 6
    else byteAt h 0 / 16 == 4 && decide (5 ≤ byteAt h 0 % 16) && inetSum (h.take (byteAt h 0 % 16 * 4)) == 0
  head && s.ipDstOk lp e

/-- The packet is a fragment (reason 6). -/
def Eth.fragment (e : Eth) : Bool :=
  if e.v6 then e.upper.2 == 44 else beAt e.ip 6 2 % 16384 != 0

/-- What the packet carries is UDP, IGMP or MLD (reason 7). -/
def Eth.protoOk (e : Eth) : Bool :=
  let p := e.upper.2
  if e.v6 then
    (byteAt e.ip 6 == 17) || (p == 58 && [130, 131, 132, 143].contains (byteAt e.body 0))
  else p == 17 || p == 2

/-- The packet is UDP. -/
def Eth.udp (e : Eth) : Bool := e.upper.2 == 17

/-- The UDP check (reason 8). -/
def Eth.udpOk (e : Eth) : Bool :=
  let b := e.body
  let len := beAt b 4 2
  let w := if e.v6 then 16 else 4
  let sum := beAt b 6 2
  len == b.length && decide (8 ≤ len) &&
    (if sum = 0 then !e.v6 else upperSum (natBe w e.src) (natBe w e.dst) 17 b == 0)

/-- The UDP destination port. -/
def Eth.dport (e : Eth) : Nat := beAt e.body 2 2

/-- The packet is a PTP message: UDP port 319 or 320. -/
def Eth.ptp (e : Eth) : Bool := e.udp && (e.dport == 319 || e.dport == 320)

/-- The flow entry that a packet matches: the lowest-numbered (R113). -/
def State.matchFlow (s : State) (lp : Nat) (e : Eth) : Option Nat :=
  (List.range 256).find? (fun f => s.on (ING_FLOW_CTL_EN f) && bitSet (s.rd (ING_FLOW_CTL_LPORTS f)) lp &&
    s.on (ING_FLOW_CTL_IPV6 f) == e.v6 && addrOf e.v6 (fun i => s.rd (ING_FLOW_DADDR f i)) == e.dst &&
    s.rd (ING_FLOW_UDP_DPORT f) == e.dport &&
    (!s.on (ING_FLOW_CTL_SRC_EN f) || addrOf e.v6 (fun i => s.rd (ING_FLOW_SADDR f i)) == e.src))

/-- The length of an RTP header with its CSRC list and extension. -/
def rtpHead (b : List Byte) : Nat :=
  let n := 12 + 4 * (byteAt b 0 % 16)
  if byteAt b 0 / 16 % 2 = 1 then n + 4 + 4 * beAt b (n + 2) 2 else n

/-- The bytes of padding at the end of an RTP packet. -/
def rtpPad (b : List Byte) : Nat := if byteAt b 0 / 32 % 2 = 1 then max 1 (byteAt b (b.length - 1)) else 0

/-- The RTP check of a flow (reason 11). -/
def State.rtpOk (s : State) (f : Nat) (b : List Byte) : Bool :=
  byteAt b 0 / 64 == 2 && decide (12 ≤ b.length) && decide (rtpHead b + rtpPad b ≤ b.length) &&
    (s.on (ING_FLOW_CTL_PT_ANY f) || byteAt b 1 % 128 == s.rd (ING_FLOW_UDP_PT f)) &&
    (!s.on (ING_FLOW_CTL_SSRC_EN f) || beAt b 8 4 == s.rd (ING_FLOW_SSRC_SSRC f))

/-- The payload of an RTP packet. -/
def rtpBody (b : List Byte) : List Byte := (b.take (b.length - rtpPad b)).drop (rtpHead b)

/-! ### The checks in their order -/

/-- The first check of Table 3-3 that a frame fails, up to reason 9; none when it passes them. -/
def State.frameFails (s : State) (lp : Nat) (fec : Bool) (f : List Byte) : Option Nat :=
  let e := ethOf f
  let bad : List (Bool × Nat) :=
    [(fec || leNat (f.drop (f.length - 4)) != crc32 e.bytes, 0),
     (decide (f.length < 64) || decide (9600 < f.length) || (e.isIp && decide (e.payload.length < e.ipLen)), 1),
     (!s.macOk lp e, 2), (!s.vlanOk lp e, 3), (!e.isIp, 4), (!s.ipOk lp e, 5), (e.fragment, 6), (!e.protoOk, 7),
     (e.udp && !e.udpOk, 8),
     (e.ptp && (!s.on (ING_PORT_CTL_PTP_EN lp) || byteAt e.body 12 != s.rd PTP_CTL_DOMAIN), 9)]
  (bad.find? (fun p => p.1)).map (·.2)

/-- A PAUSE or MAC control frame, which the MAC keeps to itself (R106). (DEDUCED, log entry 36.) -/
def macControl (fec : Bool) (f : List Byte) : Bool :=
  !fec && (ethOf f).etype == 0x8808 && leNat (f.drop (f.length - 4)) == crc32 (f.take (f.length - 4)) &&
    decide (64 ≤ f.length) && decide (f.length ≤ 9600)

/-- The device time a frame is stamped with: referred back to the balls by RXLAT, in sixteenths of a ns (R144). A timestamp is in
whole ns, and how the fraction enters it the spec leaves open: it is dropped (DESIGN CHOICE, log entry 74). -/
def State.rxStamp (s : State) (lp : Nat) : Nat × State := (s.stamp.1 - s.rd (ING_PORT_RXLAT_SUB_NS lp) / 16, s.stamp.2)

/-- An entry has matched: its path is up (R134). -/
def State.pathSeen (s : State) (f : Nat) : State :=
  let now := s.elapsed
  (s.modFlow f (fun r => { r with lastMatch := now })).wr (ING_FLOW_STATUS_PATH_UP f) 1

/-- An RTP packet of a flow entry (reasons 11 to 14): merged when its context is RUNNING, else counted in DISCARD (R116). -/
def State.rxRtp (s : State) (lp f : Nat) (b : List Byte) : State :=
  let s := s.pathSeen f
  if ¬ s.rtpOk f b then s.dropFrame lp 11
  else
    let m := s.mergePoint f
    let data := rtpBody b
    match s.binder f with
    | none => s.bump (ING_FLOW_DISCARD m)
    | some n =>
      if (depack (s.ctxStd n) data).isNone then s.dropFrame lp 12
      else if s.ctxState n ≠ ctxRUNNING then s.bump (ING_FLOW_DISCARD m)
      else
        let v := s.rxStamp lp
        v.2.mergePkt lp m n { seq := beAt b 2 2, ts := beAt b 4 4, marker := decide (128 ≤ byteAt b 1), at_ := v.1
                              entry := f, data := data }

/-- A frame that has passed the checks up to reason 9 goes to the PTP unit, the membership generator or a flow. -/
def State.rxIp (s : State) (lp : Nat) (e : Eth) : State :=
  if e.ptp then (s.rxStamp lp).2.rxPtp lp (s.rxStamp lp).1 (e.body.drop 8)
  else if ¬ e.udp then (if e.v6 then s.rxMld lp e.body else s.rxIgmp lp e.body)
  else match s.matchFlow lp e with
    | none => s.dropFrame lp 10
    | some f => s.rxRtp lp f (e.body.drop 8)

/-- A frame on a logical port that is up, with ingest receive not fenced. -/
def State.rxFrame (s : State) (lp : Nat) (fec : Bool) (f : List Byte) : State :=
  if ¬ s.portUp lp ∨ ¬ s.unitUp mING then s
  else if macControl fec f then s.wr (ING_PORT_STATUS_PAUSE_SEEN lp) 1
  else match s.frameFails lp fec f with
    | some k => s.dropFrame lp k
    | none => s.rxIp lp (ethOf f)

/-- RX_FRAME: on logical port `lp`; `fec` says that RS-FEC marked a codeword of it uncorrectable; the bytes end with the
FCS. -/
def execRxFrame (lp : Fin 8) (fec : Bool) (frame : List Byte) (s : State) : Host.Outcome State Fault Refusal :=
  s.finish (s.rxFrame lp fec frame)

end Sys2Proof.Machine
end

