-- ==== Sys2Proof/Machine/Dispatch.lean ====
section
/-! DEFINITION. The dispatch: one arm per command. -/

namespace Sys2Proof.Machine

/-- The effect of a command on everything but the queue. -/
def exec (i : Instr) (s : State) : Host.Outcome State Fault Refusal :=
  match i with
  | .registerWrite svc off w => Sys2Proof.Machine.execRegisterWrite svc off w s
  | .fabricRequest r => Sys2Proof.Machine.execFabricRequest r s
  | .retry => Sys2Proof.Machine.execRetry s
  | .pwrReqOn k force => Sys2Proof.Machine.execPwrReqOn k force s
  | .pwrReqRetention k force => Sys2Proof.Machine.execPwrReqRetention k force s
  | .pwrReqOff k force => Sys2Proof.Machine.execPwrReqOff k force s
  | .islandOnComplete => Sys2Proof.Machine.execIslandOnComplete s
  | .drainComplete => Sys2Proof.Machine.execDrainComplete s
  | .drainLimitExpiry => Sys2Proof.Machine.execDrainLimitExpiry s
  | .unitReset m => Sys2Proof.Machine.execUnitReset m s
  | .fenceHeldStart m => Sys2Proof.Machine.execFenceHeldStart m s
  | .fenceRepliesDone m => Sys2Proof.Machine.execFenceRepliesDone m s
  | .fenceWaitTimeout m => Sys2Proof.Machine.execFenceWaitTimeout m s
  | .fenceResetEnd m => Sys2Proof.Machine.execFenceResetEnd m s
  | .ctxNop n w => Sys2Proof.Machine.execCtxNop n w s
  | .ctxOpen n w => Sys2Proof.Machine.execCtxOpen n w s
  | .ctxStart n w => Sys2Proof.Machine.execCtxStart n w s
  | .ctxPause n w => Sys2Proof.Machine.execCtxPause n w s
  | .ctxResume n w => Sys2Proof.Machine.execCtxResume n w s
  | .ctxStop n w => Sys2Proof.Machine.execCtxStop n w s
  | .ctxClose n w => Sys2Proof.Machine.execCtxClose n w s
  | .ctxFlush n w => Sys2Proof.Machine.execCtxFlush n w s
  | .ctxRecover n w => Sys2Proof.Machine.execCtxRecover n w s
  | .jobPost n shape => Sys2Proof.Machine.execJobPost n shape s
  | .playoutDue n shape => Sys2Proof.Machine.execPlayoutDue n shape s
  | .yieldPointReached y => Sys2Proof.Machine.execYieldPointReached y s
  | .rxFrame lp fec frame => Sys2Proof.Machine.execRxFrame lp fec frame s
  | .auCloseTimeout f => Sys2Proof.Machine.execAuCloseTimeout f s
  | .ingAllocDone f => Sys2Proof.Machine.execIngAllocDone f s
  | .ethLinkChange lp link pcs fec => Sys2Proof.Machine.execEthLinkChange lp link pcs fec s
  | .pathTimeout f => Sys2Proof.Machine.execPathTimeout f s
  | .stateChangeReport lp => Sys2Proof.Machine.execStateChangeReport lp s
  | .currentStateReport lp => Sys2Proof.Machine.execCurrentStateReport lp s
  | .announceTimeout => Sys2Proof.Machine.execAnnounceTimeout s
  | .holdoverExpiry => Sys2Proof.Machine.execHoldoverExpiry s
  | .ptpSet hi => Sys2Proof.Machine.execPtpSet hi s
  | .ptpTimeRead => Sys2Proof.Machine.execPtpTimeRead s
  | .egressPacketDue e => Sys2Proof.Machine.execEgressPacketDue e s
  | .egressDisable e => Sys2Proof.Machine.execEgressDisable e s
  | .jobStart k f => Sys2Proof.Machine.execJobStart k f s
  | .picAllocDone k ws => Sys2Proof.Machine.execPicAllocDone k ws s
  | .picAllocTimeout k => Sys2Proof.Machine.execPicAllocTimeout k s
  | .dataArrived k => Sys2Proof.Machine.execDataArrived k s
  | .dataTimeout k f => Sys2Proof.Machine.execDataTimeout k f s
  | .parseEnd k p => Sys2Proof.Machine.execParseEnd k p s
  | .pictureReady k rf => Sys2Proof.Machine.execPictureReady k rf s
  | .grainAllocDone k ws => Sys2Proof.Machine.execGrainAllocDone k ws s
  | .picHold n seq => Sys2Proof.Machine.execPicHold n seq s
  | .budgetExhausted k cycles bits units remaining => Sys2Proof.Machine.execBudgetExhausted k cycles bits units remaining s
  | .watchdogTrip k span us => Sys2Proof.Machine.execWatchdogTrip k span us s
  | .encNop e w => Sys2Proof.Machine.execEncNop e w s
  | .encOpen e w => Sys2Proof.Machine.execEncOpen e w s
  | .encStart e w hdr rep => Sys2Proof.Machine.execEncStart e w hdr rep s
  | .encStop e w => Sys2Proof.Machine.execEncStop e w s
  | .encClose e w => Sys2Proof.Machine.execEncClose e w s
  | .forceIntra e w => Sys2Proof.Machine.execForceIntra e w s
  | .encRecover e w => Sys2Proof.Machine.execEncRecover e w s
  | .encSrcSubmit e hi => Sys2Proof.Machine.execEncSrcSubmit e hi s
  | .encAllocDone k => Sys2Proof.Machine.execEncAllocDone k s
  | .encAllocTimeout k => Sys2Proof.Machine.execEncAllocTimeout k s
  | .encPicDone k c => Sys2Proof.Machine.execEncPicDone k c s
  | .encWatchdog k span us => Sys2Proof.Machine.execEncWatchdog k span us s
  | .cardSubmit hi => Sys2Proof.Machine.execCardSubmit hi s
  | .cardStripeDone k => Sys2Proof.Machine.execCardStripeDone k s
  | .plyCommit w => Sys2Proof.Machine.execPlyCommit w s
  | .commitValidated e => Sys2Proof.Machine.execCommitValidated e s
  | .plyRun e v => Sys2Proof.Machine.execPlyRun e v s
  | .canvasEnable w => Sys2Proof.Machine.execCanvasEnable w s
  | .canvasFrameStart => Sys2Proof.Machine.execCanvasFrameStart s
  | .wsyncEdge => Sys2Proof.Machine.execWsyncEdge s
  | .wsyncFlywheel => Sys2Proof.Machine.execWsyncFlywheel s
  | .wsyncOutEnd => Sys2Proof.Machine.execWsyncOutEnd s
  | .frameSyncDue e => Sys2Proof.Machine.execFrameSyncDue e s
  | .plyRowBuilt e sl => Sys2Proof.Machine.execPlyRowBuilt e sl s
  | .rowSend p => Sys2Proof.Machine.execRowSend p s
  | .rowDeadline e => Sys2Proof.Machine.execRowDeadline e s
  | .tallyMinute => Sys2Proof.Machine.execTallyMinute s
  | .ageTargetWrite which w => Sys2Proof.Machine.execAgeTargetWrite which w s
  | .canvasFrameRead start => Sys2Proof.Machine.execCanvasFrameRead start s
  | .tallyRead e t c => Sys2Proof.Machine.execTallyRead e t c s
  | .portEnable p w => Sys2Proof.Machine.execPortEnable p w s
  | .portDisable p w => Sys2Proof.Machine.execPortDisable p w s
  | .trainStart p => Sys2Proof.Machine.execTrainStart p s
  | .rlCheck p => Sys2Proof.Machine.execRlCheck p s
  | .blkNop p => Sys2Proof.Machine.execBlkNop p s
  | .retrain p => Sys2Proof.Machine.execRetrain p s
  | .enumerate p => Sys2Proof.Machine.execEnumerate p s
  | .reauth p => Sys2Proof.Machine.execReauth p s
  | .testStart p => Sys2Proof.Machine.execTestStart p s
  | .testStop p rl => Sys2Proof.Machine.execTestStop p rl s
  | .testEnd p rl => Sys2Proof.Machine.execTestEnd p rl s
  | .mrspReceived p seq status payload => Sys2Proof.Machine.execMrspReceived p seq status payload s
  | .mgmtTimeout p => Sys2Proof.Machine.execMgmtTimeout p s
  | .rlLoss p => Sys2Proof.Machine.execRlLoss p s
  | .pollDue p => Sys2Proof.Machine.execPollDue p s
  | .attnSet p v => Sys2Proof.Machine.execAttnSet p v s
  | .authVerifyDone p => Sys2Proof.Machine.execAuthVerifyDone p s
  | .authPoll p => Sys2Proof.Machine.execAuthPoll p s
  | .hostMgmt p w => Sys2Proof.Machine.execHostMgmt p w s
  | .txcfgWrite p w => Sys2Proof.Machine.execTxcfgWrite p w s
  | .injectError p w => Sys2Proof.Machine.execInjectError p w s
  | .injectMgmtCrc p => Sys2Proof.Machine.execInjectMgmtCrc p s
  | .tallyWriteback => Sys2Proof.Machine.execTallyWriteback s
  | .topoHashRead p => Sys2Proof.Machine.execTopoHashRead p s
  | .poolNop p log2 => Sys2Proof.Machine.execPoolNop p log2 s
  | .poolEnable p log2 => Sys2Proof.Machine.execPoolEnable p log2 s
  | .poolDisable p log2 => Sys2Proof.Machine.execPoolDisable p log2 s
  | .poolInitDone p => Sys2Proof.Machine.execPoolInitDone p s
  | .alloc r tag => Sys2Proof.Machine.execAlloc r tag s
  | .share r tag => Sys2Proof.Machine.execShare r tag s
  | .release r tag => Sys2Proof.Machine.execRelease r tag s
  | .setOwner r tag => Sys2Proof.Machine.execSetOwner r tag s
  | .query r tag => Sys2Proof.Machine.execQuery r tag s
  | .parkTimeout p => Sys2Proof.Machine.execParkTimeout p s
  | .memRequest k => Sys2Proof.Machine.execMemRequest k s
  | .memIssue p f => Sys2Proof.Machine.execMemIssue p f s
  | .refreshDue p b => Sys2Proof.Machine.execRefreshDue p b s
  | .retrainDue p => Sys2Proof.Machine.execRetrainDue p s
  | .retrainNow => Sys2Proof.Machine.execRetrainNow s
  | .retrainPause p => Sys2Proof.Machine.execRetrainPause p s
  | .retrainDone p ok => Sys2Proof.Machine.execRetrainDone p ok s
  | .scrubDue k f => Sys2Proof.Machine.execScrubDue k f s
  | .memModeWrite svc m => Sys2Proof.Machine.execMemModeWrite svc m s
  | .memTestGo op pattern => Sys2Proof.Machine.execMemTestGo op pattern s
  | .memTestDone => Sys2Proof.Machine.execMemTestDone s
  | .memInjectArm w => Sys2Proof.Machine.execMemInjectArm w s
  | .bar0Access word two data be => Sys2Proof.Machine.execBar0Access word two data be s
  | .bar2Access x write len tag => Sys2Proof.Machine.execBar2Access x write len tag s
  | .hifApWrite k w => Sys2Proof.Machine.execHifApWrite k w s
  | .hostWindowAccess r data => Sys2Proof.Machine.execHostWindowAccess r data s
  | .completionTimeout r => Sys2Proof.Machine.execCompletionTimeout r s
  | .flr => Sys2Proof.Machine.execFlr s
  | .perstNAssert => Sys2Proof.Machine.execPerstNAssert s
  | .pcieLinkChange speed width => Sys2Proof.Machine.execPcieLinkChange speed width s
  | .busMasterEnable bme d3 => Sys2Proof.Machine.execBusMasterEnable bme d3 s
  | .dmaNop c w => Sys2Proof.Machine.execDmaNop c w s
  | .dmaEnable c w => Sys2Proof.Machine.execDmaEnable c w s
  | .dmaStop c w => Sys2Proof.Machine.execDmaStop c w s
  | .dmaResume c w => Sys2Proof.Machine.execDmaResume c w s
  | .dmaTailWrite c w => Sys2Proof.Machine.execDmaTailWrite c w s
  | .descFetched c err descs => Sys2Proof.Machine.execDescFetched c err descs s
  | .descComplete c idx data err => Sys2Proof.Machine.execDescComplete c idx data err s
  | .sourceLevelChange n => Sys2Proof.Machine.execSourceLevelChange n s
  | .intSgi host t k => Sys2Proof.Machine.execIntSgi host t k s
  | .timerArm t hi => Sys2Proof.Machine.execTimerArm t hi s
  | .timerFire t => Sys2Proof.Machine.execTimerFire t s
  | .intClaim t => Sys2Proof.Machine.execIntClaim t s
  | .intEoi t n => Sys2Proof.Machine.execIntEoi t n s
  | .intSrcWrite host n w => Sys2Proof.Machine.execIntSrcWrite host n w s
  | .targetPark t => Sys2Proof.Machine.execTargetPark t s
  | .targetUnpark t => Sys2Proof.Machine.execTargetUnpark t s
  | .parkRedirect t => Sys2Proof.Machine.execParkRedirect t s
  | .msixUnmask what => Sys2Proof.Machine.execMsixUnmask what s
  | .hostDisWrite v => Sys2Proof.Machine.execHostDisWrite v s
  | .faultTake c => Sys2Proof.Machine.execFaultTake c s
  | .faultAck c => Sys2Proof.Machine.execFaultAck c s
  | .faultInject c l => Sys2Proof.Machine.execFaultInject c l s
  | .counterClear => Sys2Proof.Machine.execCounterClear s
  | .counterRead k => Sys2Proof.Machine.execCounterRead k s
  | .reweaveGo => Sys2Proof.Machine.execReweaveGo s
  | .reweaveLoad => Sys2Proof.Machine.execReweaveLoad s
  | .autoWrite => Sys2Proof.Machine.execAutoWrite s
  | .autoWait => Sys2Proof.Machine.execAutoWait s
  | .autoWaitTimeout => Sys2Proof.Machine.execAutoWaitTimeout s
  | .autoDelay => Sys2Proof.Machine.execAutoDelay s
  | .startEvent avs hbm => Sys2Proof.Machine.execStartEvent avs hbm s
  | .startReady quick => Sys2Proof.Machine.execStartReady quick s
  | .startFail r => Sys2Proof.Machine.execStartFail r s
  | .restartTimer avs hbm => Sys2Proof.Machine.execRestartTimer avs hbm s
  | .svcWdogExpiry => Sys2Proof.Machine.execSvcWdogExpiry s
  | .resetAssert ns => Sys2Proof.Machine.execResetAssert ns s
  | .mailboxSend t w => Sys2Proof.Machine.execMailboxSend t w s
  | .mailboxRelease t => Sys2Proof.Machine.execMailboxRelease t s
  | .shutdown => Sys2Proof.Machine.execShutdown s
  | .restart => Sys2Proof.Machine.execRestart s
  | .attest => Sys2Proof.Machine.execAttest s
  | .devcert => Sys2Proof.Machine.execDevcert s
  | .advance => Sys2Proof.Machine.execAdvance s
  | .ownerProgram => Sys2Proof.Machine.execOwnerProgram s
  | .ownerRevoke => Sys2Proof.Machine.execOwnerRevoke s
  | .tallyFlush => Sys2Proof.Machine.execTallyFlush s
  | .recProgram flashOk avs => Sys2Proof.Machine.execRecProgram flashOk avs s
  | .recRun avs => Sys2Proof.Machine.execRecRun avs s
  | .startCntRead => Sys2Proof.Machine.execStartCntRead s
  | .ucodeParityError q addr => Sys2Proof.Machine.execUcodeParityError q addr s
  | .aonPowerOn => Sys2Proof.Machine.execAonPowerOn s
  | .aonBrownout => Sys2Proof.Machine.execAonBrownout s
  | .tempSample l h0 h1 => Sys2Proof.Machine.execTempSample l h0 h1 s
  | .monitorTrip m v => Sys2Proof.Machine.execMonitorTrip m v s
  | .monitorReturn m v => Sys2Proof.Machine.execMonitorReturn m v s
  | .thermtrip t => Sys2Proof.Machine.execThermtrip t s
  | .avsStepDone meas next => Sys2Proof.Machine.execAvsStepDone meas next s
  | .i2cShutdown v => Sys2Proof.Machine.execI2cShutdown v s
  | .bypass bits => Sys2Proof.Machine.execBypass bits s
  | .idcode => Sys2Proof.Machine.execIdcode s
  | .samplePreload pins cells => Sys2Proof.Machine.execSamplePreload pins cells s
  | .extest pins cells => Sys2Proof.Machine.execExtest pins cells s
  | .clamp => Sys2Proof.Machine.execClamp s
  | .highz => Sys2Proof.Machine.execHighz s
  | .faultLoRead w => Sys2Proof.Machine.execFaultLoRead w s
  | .flrComplete => Sys2Proof.Machine.execFlrComplete s
  | .rlSymbolLockChange p lock errs => Sys2Proof.Machine.execRlSymbolLockChange p lock errs s
  | .fastExitBurst p => Sys2Proof.Machine.execFastExitBurst p s

end Sys2Proof.Machine
end

