-- ==== Sys2Proof/Machine/Tick.lean ====
section
/-! DEFINITION. What idle time does: the clocks advance and what counts cycles counts (DESIGN CHOICE, log entry 2). -/

namespace Sys2Proof.Machine

open R

/-- Cycles that a clock of `khz` completes in the nanosecond that begins now. -/
def State.cyclesIn (s : State) (khz : Nat) : Nat := (s.elapsed + 1) * khz / 1000000 - s.elapsed * khz / 1000000

/-- Device time over one nanosecond under the servo's frequency correction (R144, R146). (DESIGN CHOICE, log entry 2.) -/
def State.timeTick (s : State) : State :=
  let q : Int := (s.ing.ptp.frac : Int) + 1000000000 + signOf 32 (s.rd PTP_FREQ_PPB)
  let s := s.modPtp (fun p => { p with frac := (q % 1000000000).toNat })
  { s with devTime := (s.devTime + (q / 1000000000).toNat) % 2 ^ 64 }

/-- A decode spindle works for `c` cycles; how many of them it waits on memory (DEC_STALL) is a free value (DESIGN CHOICE, log entry 59). -/
def State.countSpd (s : State) (k c : Nat) : State :=
  let v := s.free
  (v.2.countUnit 0x040 k c).countUnit 0x041 k (v.1 % (c + 1))

/-- What the performance counters count in time (Table 13-7): cycles of the fabric, of the spindles that work and of retraining
pauses. (DESIGN CHOICE, log entry 2.) -/
def State.countTick (s : State) : State :=
  let s := s.count 0x001 (s.cyclesIn s.fabKhz)
  let s := s.each ((List.range 16).filter (fun k => s.rd (SPD_STATUS_STATE k) != 0)) (fun k t => t.countSpd k (t.cyclesIn (t.spdKhz k)))
  let s := s.each ((List.range 4).filter (fun k => s.rd (SPE_STATUS_STATE k) != 0)) (fun k t => t.countUnit 0x050 (0x10 + k) (t.cyclesIn (t.speKhz k)))
  s.each ((List.range 64).filter (fun p => (s.pch p).pausing)) (fun p t => t.count 0x026 (t.cyclesIn (t.mcKhz (p / 32))))

/-- One nanosecond of idle time. While every domain but CK_AON is held in reset, nothing but time passes. (DESIGN CHOICE, log entry 2.) -/
def tick (s : State) : State :=
  let t := if s.held then s else s.timeTick.countTick.settle
  { t with elapsed := s.elapsed + 1 }

end Sys2Proof.Machine
end

