-- ==== Sys2Proof/Safety.lean ====
section
/-! DEFINITION. What counts as a safe run, and the words the statements use for it: a step that goes on, fields that show what they
stand for, register fields that a command leaves alone. -/

namespace Sys2Proof.Machine

open R

/-- A step of the block goes on: it is neither a fault nor a refusal. -/
def goesOn (s : State) : Prop := ∃ t, step s = .next t

/-- The register fields that show a condition as it stands (Tables 1-11, 7-5, 10-2 and 13-4); every command brings them up to date. -/
def condFlds : List Fld :=
  [PLY_CANVAS_STATUS_TIME_UNLOCKED] ++ [0, 1].map MEM_STATUS_HOT ++ condClasses.map FLT_CLASS_CAUSE ++
    (List.range 30).map PWR_ISL_STATE_OUTSTANDING

/-- Every field that shows a condition shows the condition that holds. -/
structure CondShown (s : State) : Prop where
  unlocked : s.rd PLY_CANVAS_STATUS_TIME_UNLOCKED = b2n s.timeUnlocked
  hot : ∀ k < 2, s.rd (MEM_STATUS_HOT k) = b2n (s.hot k)
  cause : ∀ c ∈ condClasses, s.rd (FLT_CLASS_CAUSE c) = b2n (s.faultCause c)
  outstanding : ∀ i < 30, s.rd (PWR_ISL_STATE_OUTSTANDING i) = min 255 (s.outstanding i)

/-- From `s` to `t` no register field changes but those of `l` and those that show a condition. -/
def RegsKept (l : List Fld) (s t : State) : Prop :=
  ∀ G : Fld, (∀ F ∈ l, G.key ≠ F.key) → (∀ F ∈ condFlds, G.key ≠ F.key) → t.rd G = s.rd G

/-- The register fields that sending or holding interrupt messages may change (R461, R462, R481). -/
def intrFld (G : Fld) : Prop :=
  G.key = CNT_STATUS_OVF.key ∨ (∃ k, G.key = (MSIX_PBA k).key) ∨ (∃ t, G.key = (INT_TGT_STATUS_MSG_HELD t).key)

/-- The register fields that the scheduler may change when it dispatches: the status of the decode spindles, and the home and overrun
status of the contexts (R73, R81). -/
def schedFld (G : Fld) : Prop :=
  (∃ k, ∃ F ∈ [SPD_STATUS_RUNAHEAD k, SPD_STATUS_SUSPENDED k, SPD_STATUS_STATE k, SPD_STATUS_GANGED k, SPD_STATUS_CTX k],
    G.key = F.key) ∨
  (∃ n, ∃ F ∈ [STC_STATUS_UNHOMED n, STC_STATUS_OVERRUN n, STC_OVERRUN_CNT n], G.key = F.key)

/-- The operand fields as a power request leaves them: FORCE, TARGET and ISLAND of `PWR_CTL`, and LAST_ISLAND (Tables 1-8 and 1-10). -/
def pwrAsked (s : State) (i target : Nat) (force : Bool) : State :=
  (((s.wr PWR_CTL_FORCE (b2n force)).wr PWR_CTL_TARGET target).wr PWR_CTL_ISLAND i).wr PWR_STATUS_LAST_ISLAND i

/-- `s` once pool `p` has recorded that it served a request of master `m` in its class (R379). -/
def poolServed (s : State) (p m : Nat) : State :=
  { s with pool := { s.pool with rr := smSet 255 s.pool.rr (8 * p + poolClass m) m } }

/-- The request that an operation of Table 9-7 on the bus makes of its operands. -/
def busReq (op : Nat) (r : PoolReq) (tag : Nat) : PoolReq := { r with op := op, forWhom := .bus tag }

/-- `s` once request `q` has been accepted by pool `p` and is served. -/
def poolTaken (s : State) (p : Nat) (q : PoolReq) : State := poolServed (s.poolAsked q) p q.master

/-- The same once the metadata word of bobbin `i` has been read for it (R402). -/
def poolLooked (s : State) (p i : Nat) (q : PoolReq) : State := (poolTaken s p q).poolReadSeen (s.metaAddr p i)

/-- What a port past CLOCK sends when it goes back to training: an IDLE column once a packet has ended (R324), and the training set. -/
def retrainCols (s : State) (p : Nat) : List (Nat × List Byte) :=
  (if max s.elapsed (s.port p).lineBusy = 0 ∨ (s.port p).idle then [] else [controlCol (s.gen p) symIDLE]) ++ trainCols (s.gen p)

/-- Command `c` on `s`, whose work leads to `t`, comes about once its transfers are answered: then it ends with `after` of that; while one
of them meets RETRY it has not come about, and `s` stays (R16). -/
def EndsOnce (c : Instr) (s t : State) (after : State → State := (·.encDispatch)) : Prop :=
  (t.fab.retry.length ≤ s.fab.retry.length → exec c s = .next (after t).settle) ∧
  (s.fab.retry.length < t.fab.retry.length → exec c s = .next s)

/-- The commands that reach the device also while every domain but CK_AON is held in reset: the pins, the monitors of the always-on
domain, the I2C target and the boundary scan. -/
def aonCommand : Instr → Bool
  | .aonPowerOn | .aonBrownout | .resetAssert _ | .tempSample _ _ _ | .thermtrip _ | .startEvent _ _ | .i2cShutdown _ => true
  | .bypass _ | .idcode | .samplePreload _ _ | .extest _ _ | .clamp | .highz => true
  | _ => false

end Sys2Proof.Machine
end

