-- ==== Sys2Proof/WellFormed.lean ====
section
/-! DEFINITION. Which commands are well formed: the operand ranges that their types do not already give. The machine is total on
every command; an ill-formed one is a message that no master, host or sensor of the device can send. -/

namespace Sys2Proof

/-- A length that one access carries: 1 byte to the 4096 of the largest request. -/
def accessLen (n : Nat) : Bool := decide (1 ≤ n) && decide (n ≤ 4096)

/-- The bytes of a request: an atomic carries the 8 bytes of one word (R397). -/
def FabKind.wellFormed (k : FabKind) : Bool :=
  match k with
  | .read n => accessLen n
  | .write l => accessLen l.length
  | .atomic l => l.length == 8

/-- A fabric request a master can issue: an 8-bit master ID (Table 1-1), a 48-bit address, one of eight traffic classes (R14,
01_architecture.md, R495), an access type of Table 13-3, its response still owed. -/
def FabReq.wellFormed (r : FabReq) : Bool :=
  decide (r.master < 256) && decide (r.addr < 2 ^ 48) && decide (r.access < 8) && !r.dead && r.kind.wellFormed

/-- Configuration space takes the sizes of Table 11-1 and the ranges A and B of R415. -/
def PcieCfg.wellFormed (d : PcieCfg) : Bool :=
  [128, 256, 512].contains d.mps && [128, 256, 512, 1024, 2048, 4096].contains d.mrrs && decide (50000 ≤ d.cplTimeout) &&
    decide (d.cplTimeout ≤ 250000000)

/-- The operands of pool operation `op` as a requester can send them (Table 9-7): a master ID, an address of the bobbin space, 8-bit
pool and owner numbers, a 16-bit timeout, the ADD field and a 32-bit generation. Operands that the pool refuses with BAD_OP are well
formed. -/
def PoolReq.wellFormed (r : PoolReq) (op : Nat) : Bool :=
  r.op == op && decide (r.master < 256) && decide (r.pool < 256) && decide (r.addr < 2 ^ 41) && decide (r.add < 256) &&
    decide (r.gen < 2 ^ 32) && decide (r.timeoutUs < 65536) && decide (r.newTag < 256)

/-- The operands of the command lie in the ranges their message has. -/
def Instr.wellFormed (i : Instr) : Bool :=
  match i with
  | .registerWrite _ _ _ => true
  | .fabricRequest r => r.wellFormed
  | .retry => true
  | .pwrReqOn _ _ => true
  | .pwrReqRetention _ _ => true
  | .pwrReqOff _ _ => true
  | .islandOnComplete => true
  | .drainComplete => true
  | .drainLimitExpiry => true
  | .unitReset _ => true
  | .fenceHeldStart _ => true
  | .fenceRepliesDone _ => true
  | .fenceWaitTimeout _ => true
  | .fenceResetEnd _ => true
  | .ctxNop _ _ => true
  | .ctxOpen _ _ => true
  | .ctxStart _ _ => true
  | .ctxPause _ _ => true
  | .ctxResume _ _ => true
  | .ctxStop _ _ => true
  | .ctxClose _ _ => true
  | .ctxFlush _ _ => true
  | .ctxRecover _ _ => true
  | .jobPost _ _ => true
  | .playoutDue _ _ => true
  | .yieldPointReached _ => true
  | .rxFrame _ _ _ => true
  | .auCloseTimeout _ => true
  | .ingAllocDone _ => true
  | .ethLinkChange _ _ _ _ => true
  | .pathTimeout _ => true
  | .stateChangeReport _ => true
  | .currentStateReport _ => true
  | .announceTimeout => true
  | .holdoverExpiry => true
  | .ptpSet _ => true
  | .ptpTimeRead => true
  | .egressPacketDue _ => true
  | .egressDisable _ => true
  | .jobStart _ _ => true
  | .picAllocDone _ _ => true
  | .picAllocTimeout _ => true
  | .dataArrived _ => true
  | .dataTimeout _ _ => true
  | .parseEnd _ _ => true
  | .pictureReady _ _ => true
  | .grainAllocDone _ _ => true
  | .picHold _ _ => true
  | .budgetExhausted _ _ _ _ _ => true
  | .watchdogTrip _ _ _ => true
  | .encNop _ _ => true
  | .encOpen _ _ => true
  | .encStart _ _ _ _ => true
  | .encStop _ _ => true
  | .encClose _ _ => true
  | .forceIntra _ _ => true
  | .encRecover _ _ => true
  | .encSrcSubmit _ _ => true
  | .encAllocDone _ => true
  | .encAllocTimeout _ => true
  | .encPicDone _ _ => true
  | .encWatchdog _ _ _ => true
  | .cardSubmit _ => true
  | .cardStripeDone _ => true
  | .plyCommit _ => true
  | .commitValidated _ => true
  | .plyRun _ _ => true
  | .canvasEnable _ => true
  | .canvasFrameStart => true
  | .wsyncEdge => true
  | .wsyncFlywheel => true
  | .wsyncOutEnd => true
  | .frameSyncDue _ => true
  | .plyRowBuilt _ _ => true
  | .rowSend _ => true
  | .rowDeadline _ => true
  | .tallyMinute => true
  | .ageTargetWrite _ _ => true
  | .canvasFrameRead _ => true
  | .tallyRead _ _ _ => true
  | .portEnable _ _ => true
  | .portDisable _ _ => true
  | .trainStart _ => true
  | .rlCheck _ => true
  | .blkNop _ => true
  | .retrain _ => true
  | .enumerate _ => true
  | .reauth _ => true
  | .testStart _ => true
  | .testStop _ _ => true
  | .testEnd _ _ => true
  | .mrspReceived _ _ _ payload => decide (payload.length ≤ 4608)
  | .mgmtTimeout _ => true
  | .rlLoss _ => true
  | .pollDue _ => true
  | .attnSet _ _ => true
  | .authVerifyDone _ => true
  | .authPoll _ => true
  | .hostMgmt _ _ => true
  | .txcfgWrite _ _ => true
  | .injectError _ _ => true
  | .injectMgmtCrc _ => true
  | .tallyWriteback => true
  | .topoHashRead _ => true
  | .poolNop _ _ => true
  | .poolEnable _ _ => true
  | .poolDisable _ _ => true
  | .poolInitDone _ => true
  | .alloc r _ => r.wellFormed 1
  | .share r _ => r.wellFormed 2
  | .release r _ => r.wellFormed 3
  | .setOwner r _ => r.wellFormed 4
  | .query r _ => r.wellFormed 5
  | .parkTimeout _ => true
  | .memRequest _ => true
  | .memIssue _ _ => true
  | .refreshDue _ _ => true
  | .retrainDue _ => true
  | .retrainNow => true
  | .retrainPause _ => true
  | .retrainDone _ _ => true
  | .scrubDue _ _ => true
  | .memModeWrite _ _ => true
  | .memTestGo _ _ => true
  | .memTestDone => true
  | .memInjectArm _ => true
  | .bar0Access _ _ _ _ => true
  | .bar2Access _ w len _ => accessLen len && (match w with | none => true | some l => l.length == len)
  | .hifApWrite _ _ => true
  | .hostWindowAccess r data => r.wellFormed && decide (data.length ≤ 4096)
  | .completionTimeout r => r.wellFormed
  | .flr => true
  | .perstNAssert => true
  | .pcieLinkChange _ _ => true
  | .busMasterEnable _ d => d.wellFormed
  | .dmaNop _ _ => true
  | .dmaEnable _ _ => true
  | .dmaStop _ _ => true
  | .dmaResume _ _ => true
  | .dmaTailWrite _ _ => true
  | .descFetched _ _ descs => descs.all (fun d => d.length == 32)
  | .descComplete _ _ _ _ => true
  | .sourceLevelChange _ => true
  | .intSgi _ _ _ => true
  | .timerArm _ _ => true
  | .timerFire _ => true
  | .intClaim _ => true
  | .intEoi _ _ => true
  | .intSrcWrite _ _ _ => true
  | .targetPark _ => true
  | .targetUnpark _ => true
  | .parkRedirect _ => true
  | .msixUnmask _ => true
  | .hostDisWrite _ => true
  | .faultTake _ => true
  | .faultAck _ => true
  | .faultInject _ _ => true
  | .counterClear => true
  | .counterRead _ => true
  | .reweaveGo => true
  | .reweaveLoad => true
  | .autoWrite => true
  | .autoWait => true
  | .autoWaitTimeout => true
  | .autoDelay => true
  | .startEvent _ _ => true
  | .startReady _ => true
  | .startFail _ => true
  | .restartTimer _ _ => true
  | .svcWdogExpiry => true
  | .resetAssert _ => true
  | .mailboxSend _ _ => true
  | .mailboxRelease _ => true
  | .shutdown => true
  | .restart => true
  | .attest => true
  | .devcert => true
  | .advance => true
  | .ownerProgram => true
  | .ownerRevoke => true
  | .tallyFlush => true
  | .recProgram _ _ => true
  | .recRun _ => true
  | .startCntRead => true
  | .ucodeParityError _ _ => true
  | .aonPowerOn => true
  | .aonBrownout => true
  | .tempSample l _ _ => l.length == 24
  | .monitorTrip _ _ => true
  | .monitorReturn _ _ => true
  | .thermtrip _ => true
  | .avsStepDone _ _ => true
  | .i2cShutdown _ => true
  | .bypass _ => true
  | .idcode => true
  | .samplePreload pins cells => pins.length == cells.length
  | .extest pins cells => pins.length == cells.length
  | .clamp => true
  | .highz => true
  | .faultLoRead _ => true
  | .flrComplete => true
  | .rlSymbolLockChange _ _ _ => true
  | .fastExitBurst _ => true

end Sys2Proof
end

