-- ==== Sys2Proof/Certificates/Slice0/Obligations.lean ====
section
/-! DEFINITION. The statements for the provers. -/

open Sys2Proof Sys2Proof.Machine Sys2Proof.Machine.R

/-- Whenever a command stands at the front of the queue, a step is exactly exec of that command on the state with the queue's rest;
with no command waiting a step is one nanosecond of idle time (the model's choice, log entry 2), during which the nanosecond
count rises by one and the queue stays empty. (95_what_each_step_holds.md) -/
def Obligations.StepRunsFrontCommand : Prop :=
  (∀ (s : State) (c : Instr) (rest : List Instr), s.pending = c :: rest → step s = exec c { s with pending := rest }) ∧
  (∀ s : State, s.pending = [] → ∃ t, step s = .next t ∧ t.elapsed = s.elapsed + 1 ∧ t.pending = [])

/-- In the state after reset every register field reads its reset value; every island that exists is OFF; the interrupt stacks are
empty, so that the running priority of every target is 16; no request is queued in the memory controller, no fence and no power
request is in progress, no context holds a job, and no command waits. Device time 0 and empty memories are the model's choice
(log entries 3 and 40). (R26, R444, R454, 00_scope.md, 01_architecture.md) -/
def Obligations.ResetState : Prop :=
  (∀ F : Fld, State.reset.rd F = F.reset) ∧ (∀ i < 30, State.reset.isl i = islOFF) ∧ (∀ t < 17, State.reset.runPri t = 16) ∧
  State.reset.queued = [] ∧ State.reset.pwr.req = none ∧ (∀ m, State.reset.fenced m = false) ∧
  (∀ n, State.reset.ctx n = {}) ∧ State.reset.pending = [] ∧ State.reset.devTime = 0 ∧ Memory.wf State.reset.hbm = true

/-- The state after reset satisfies CondShown: TIME_UNLOCKED, HOT, CAUSE of the condition classes and OUTSTANDING of every island
read as the conditions they stand for. (R400, 01_architecture.md, 07_ply_engines.md, 13_faults_and_counters.md) -/
def Obligations.ConditionFieldsShownAtReset : Prop :=
  CondShown State.reset

/-- For every state in which PLY_CANVAS_STATUS.TIME_UNLOCKED, MEM_STATUS.HOT0 and HOT1, FLT_CLASS.CAUSE of the condition classes and
PWR_ISL_STATE.OUTSTANDING of all thirty islands show the conditions they stand for, every step, with whatever command stands in
front and also an idle step, that answers a next state leaves a state in which they all do. (R400, R36, 01_architecture.md,
07_ply_engines.md, 10_memory_controller.md, 13_faults_and_counters.md) -/
def Obligations.ConditionFieldsStayShown : Prop :=
  ∀ s t : State, CondShown s → step s = .next t → CondShown t

/-- Whatever the state and whatever command stands in front, a step answers a next state: no command of the table is refused and
none faults the model. (R15, 95_what_each_step_holds.md) -/
def Obligations.EveryStepGoesOn : Prop :=
  ∀ s : State, goesOn s

/-- While every domain except CK_AON is held in reset (RESET_N low, THERMTRIP, or VDD_AON out of range), every command but the
events of the always-on domain, the supplies, the I2C target and the boundary scan leaves the state exactly as it is. (R510,
R552, R554, R556) -/
def Obligations.ResetHoldsEverythingButAlwaysOn : Prop :=
  ∀ (c : Instr) (s : State), s.held = true → aonCommand c = false → exec c s = .next s

/-- A REGISTER_WRITE of a word of the scheduler, Ethernet port, flow status, spindle or carding-free encode spindle blocks whose
unit is present and reachable, and whose fields have distinct places, completes: RO and RC fields keep their value, RW and WO
fields take the bits written, RWL fields take them only before warp lock, a 1 clears W1C bits unless hardware sets them in the
same cycle, a 1 sets W1S bits, every other register field but the condition fields keeps its value, and nothing beside the
register fields changes. (R8, R6, R9, R15) -/
def Obligations.RegisterWriteByAccessType : Prop :=
  ∀ (svc : Bool) (off : Word) (d : RegData) (s : State) (a v : Nat), s.held = false → a = off.toNat / 4 * 4 →
    v = d.word.toNat - (d.word.toNat &&& d.hw.toNat &&& clearBits a) →
    (0x00280000 ≤ a ∧ a < 0x00404000 ∨ 0x00408000 ≤ a ∧ a < 0x0040A000 ∨ 0x00600000 ≤ a ∧ a < 0x00780000) →
    s.regCode a = 0 → s.regAbsent a = false → ((fieldsAt a).map (fun p => p.2.key)).Nodup →
    (∀ p ∈ fieldsAt a, ∀ F ∈ condFlds, p.2.key ≠ F.key) →
    ∃ t, exec (.registerWrite svc off d) s = .next t ∧
      (∀ p ∈ fieldsAt a, t.rd p.2 =
        match p.1 with
        | .ro => s.rd p.2
        | .rc => s.rd p.2
        | .rw => bitsOf v p.2.lo p.2.width
        | .wo => bitsOf v p.2.lo p.2.width
        | .rwl => if s.rd WRP_STATUS_LOCKED = 1 then s.rd p.2 else bitsOf v p.2.lo p.2.width
        | .w1c => (s.rd p.2 - (s.rd p.2 &&& bitsOf v p.2.lo p.2.width)) % 2 ^ p.2.width
        | .w1s => (s.rd p.2 ||| bitsOf v p.2.lo p.2.width) % 2 ^ p.2.width) ∧
      RegsKept ((fieldsAt a).map (fun p => p.2)) s t ∧ t = { s with flds := t.flds }

/-- A FABRIC_REQUEST from a unit that may issue one, to an address of an HBM stack: with the stack's island ON the request joins
that half's crossing queue and no answer is given yet; with the island DRAINING it is not accepted and waits to be issued again
after 32 CK_FAB cycles; with the island in RETENTION or OFF its master (other than host inbound) receives the one response
ISLAND_OFF, and the fault joins the collector's queue when that has room. HBM does not change in any of the three. (R15, R16,
R33, R34, R42, R467) -/
def Obligations.FabricRequestAnsweredByIslandState : Prop :=
  ∀ (s : State) (r : FabReq) (k : Nat), s.held = false → s.unitUp r.master = true → r.addr < winBase → s.stackOf r.addr = some k →
    (s.isl (28 + k) = islON → ∃ t, exec (.fabricRequest r) s = .next t ∧ t.xq k = s.xq k ++ [{ r with dead := false }] ∧
      t.hbm = s.hbm ∧ t.fab = s.fab ∧ t.flt = s.flt) ∧
    (s.isl (28 + k) = islDRAINING → ∃ t, exec (.fabricRequest r) s = .next t ∧ t.mem = s.mem ∧ t.hbm = s.hbm ∧
      t.fab = { s.fab with retry := s.fab.retry ++ [(s.elapsed + s.fabNs 32, .fabric { r with dead := false })] } ∧ t.flt = s.flt) ∧
    (s.isl (28 + k) ≠ islON → s.isl (28 + k) ≠ islDRAINING → r.master ≠ 0x40 → s.flt.queue.length < 256 →
      ∃ t, exec (.fabricRequest r) s = .next t ∧ t.mem = s.mem ∧ t.hbm = s.hbm ∧
      t.fab = { s.fab with resp := s.fab.resp ++ [{ master := r.master, tag := r.tag, code := 6, data := [] }] } ∧
      t.flt.queue = s.flt.queue ++ [{ cls := 1, master := r.master, access := r.access, addr := r.addr, at_ := s.elapsed }])

/-- RETRY, when the one waiting request is due: a request of a unit whose island is not ON, or that is fenced, waits another 32
CK_FAB cycles. A fabric request whose stack's island is ON by now leaves the waiting list and joins the crossing queue of its
half. A unit's own write is made, and an operation that the bobbin pool has taken up is performed. Then the schedulers choose
again. While the request is not due it waits on. (R16, R14) -/
def Obligations.RetryIssuesTheRequestAgain : Prop :=
  ∀ (s : State) (q : Retried) (d : Nat), s.held = false → s.fab.retry = [(d, q)] → s.pcie.waiting = [] →
    (s.elapsed < d → exec .retry s = .next (s.dispatch.encDispatch).settle) ∧
    (d ≤ s.elapsed → ∃ u, exec .retry s = .next (u.dispatch.encDispatch).settle ∧
      (s.unitUp q.master = false → q.pooled = false → u = { s with fab := { s.fab with retry := [(s.elapsed + s.fabNs 32, q)] } }) ∧
      (∀ r k, q = .fabric r → s.unitUp r.master = true → r.addr < winBase → s.stackOf r.addr = some k → s.isl (28 + k) = islON →
        u.fab = { s.fab with retry := [] } ∧ u.xq k = s.xq k ++ [{ r with dead := false }] ∧ u.hbm = s.hbm) ∧
      (∀ r, q = .pool r → u = ({ s with fab := { s.fab with retry := [] } } : State).poolServe r) ∧
      (∀ m a l, q = .store m a l → s.unitUp m = true →
        u = (({ s with fab := { s.fab with retry := [] } } : State).busWrite m a l).2))

/-- While the program runs, AUTO_WRITE with a WRITE entry whose access is answered OKAY performs the write as the service controller
and goes to the next entry; AUTO_WAIT goes on once the masked word has the value; AUTO_WAIT_TIMEOUT, once TIMEOUT_MS has passed,
clears AUTO_RUN, sets AUTO_FAIL and holds the entry's index; AUTO_DELAY, once VALUE microseconds have passed, goes on. Going on
from the last entry clears AUTO_RUN and sets AUTO_DONE. (R501, R502) -/
def Obligations.AutonomousProgramRuns : Prop :=
  ∀ (s : State) (e : AutoEntry), s.held = false → s.autoEntry = some e →
    (e.op = 1 → (s.writeAs mSVC e.off e.value).1 = 0 →
      exec .autoWrite s = .next ((s.writeAs mSVC e.off e.value).2.autoNext).settle) ∧
    (e.op = 2 → (s.readAs mSVC e.off).1 = 0 → (s.readAs mSVC e.off).2.1 &&& e.mask = e.value →
      exec .autoWait s = .next ((s.readAs mSVC e.off).2.2.autoNext).settle) ∧
    (e.op = 2 → s.wrp.autoSince + 1000000 * e.timeout ≤ s.elapsed →
      exec .autoWaitTimeout s =
        .next (((s.wr WRP_STATUS_AUTO_RUN 0).wr WRP_STATUS_AUTO_FAIL 1).wr WRP_AUTO_INDEX s.wrp.autoAt).settle) ∧
    (e.op = 3 → s.wrp.autoSince + e.value * 1000 ≤ s.elapsed → 16 * (s.wrp.autoAt + 1) + 16 ≤ (s.sect secAUTONOMOUS).length →
      exec .autoDelay s = .next ({ s with wrp := { s.wrp with autoAt := s.wrp.autoAt + 1, autoSince := s.elapsed } } : State).settle) ∧
    (e.op = 3 → s.wrp.autoSince + e.value * 1000 ≤ s.elapsed → (s.sect secAUTONOMOUS).length < 16 * (s.wrp.autoAt + 1) + 16 →
      exec .autoDelay s = .next ((s.wr WRP_STATUS_AUTO_RUN 0).wr WRP_STATUS_AUTO_DONE 1).settle)

/-- With no access waiting and no BAR2 write unanswered: a one-word BAR0 read of an open offset that its unit answers completes to
the host with the word's four bytes, least significant first; a full write is performed by host inbound; a write whose byte
enables leave a byte out is discarded and sets BAD_ACCESS. A BAR2 access after READY becomes a request of host inbound at
HIF_AP[x / 2^32] * 2^32 + x mod 2^32, joining the stack's crossing queue when that island is ON. A HIF_AP write below 0x100 sets
the aperture's segment; a larger one is ignored and sets CMD_REJECT. (R418, R419, R17, R6) -/
def Obligations.BarAccessesReachTheirTargets : Prop :=
  (∀ (s : State) (n : Fin 16777216) (be : Fin 256), s.held = false → s.pcie.waiting = [] → s.hostWrites = false →
    (s.barOpen (4 * n.val) = true → (s.readAs mHOST (4 * n.val)).1 = 0 →
      exec (.bar0Access n false none be) s = .next ((s.readAs mHOST (4 * n.val)).2.2.emit
        (.hostRead (natLe 4 (s.readAs mHOST (4 * n.val)).2.1) true)).settle) ∧
    (∀ w x : Word, s.barOpen (4 * n.val) = true → be.val % 16 = 15 → (s.writeAs mHOST (4 * n.val) w.toNat).1 = 0 →
      exec (.bar0Access n false (some (w, x)) be) s = .next (s.writeAs mHOST (4 * n.val) w.toNat).2.settle) ∧
    (∀ w x : Word, be.val % 16 ≠ 15 → exec (.bar0Access n false (some (w, x)) be) s = .next (s.wr HIF_STATUS_BAD_ACCESS 1).settle)) ∧
  (∀ (s : State) (x : BitVec 36) (data : List Byte) (tag a k : Nat), s.held = false → s.rd SEC_BOOT_STATUS_READY = 1 →
    a = 2 ^ 32 * s.rd (HIF_AP_SEG (x.toNat / 2 ^ 32)) + x.toNat % 2 ^ 32 → a < winBase → s.stackOf a = some k → s.isl (28 + k) = islON →
    ∃ t, exec (.bar2Access x (some data) 0 tag) s = .next t ∧ t.hbm = s.hbm ∧
      t.xq k = s.xq k ++ [{ master := 0x40, addr := a, tag := tag, kind := .write data, access := 1 }]) ∧
  (∀ (s : State) (i : Fin 16) (w : Word), s.held = false →
    (w.toNat < 0x100 → exec (.hifApWrite i w) s = .next (s.wr (HIF_AP_SEG i) w.toNat).settle) ∧
    (0x100 ≤ w.toNat → exec (.hifApWrite i w) s = .next (s.wr HIF_STATUS_CMD_REJECT 1).settle))

/-- For a request of a unit other than host inbound that is up, to a host-window address whose segment is enabled, with mastering
allowed: HOST_WINDOW_ACCESS with a write stores the bytes in host memory at HADDR + y, leaves every other host byte alone and
answers OKAY; with a read it answers OKAY with the bytes the host completes with; COMPLETION_TIMEOUT answers TARGET_ERROR and
sets HIF_STATUS.XLAT. (R415, R416, R422, R423, R15) -/
def Obligations.HostWindowTranslated : Prop :=
  ∀ (s : State) (r : FabReq) (h : Nat) (data : List Byte), s.held = false → winBase ≤ r.addr → r.addr < winEnd →
    s.unitUp r.master = true → r.master ≠ 0x40 → r.dead = false → s.pcie.bme = true → s.pcie.d3 = false → s.winHost r.addr = some h →
    (∀ d, r.kind = .write d → ∃ t, exec (.hostWindowAccess r data) s = .next t ∧ memBytes t.hostMem h d.length = d ∧
      (∀ b, b < h ∨ h + d.length ≤ b → smGet 0 t.hostMem b = smGet 0 s.hostMem b) ∧ t.hbm = s.hbm ∧
      t.fab = { s.fab with resp := s.fab.resp ++ [{ master := r.master, tag := r.tag, code := 0, data := [] }] }) ∧
    (∀ n, r.kind = .read n → ∃ t, exec (.hostWindowAccess r data) s = .next t ∧ t.hostMem = s.hostMem ∧ t.hbm = s.hbm ∧
      t.fab = { s.fab with resp := s.fab.resp ++ [{ master := r.master, tag := r.tag, code := 0, data := data.take n }] }) ∧
    (∃ t, exec (.completionTimeout r) s = .next t ∧ t.rd HIF_STATUS_XLAT = 1 ∧ t.hostMem = s.hostMem ∧ t.hbm = s.hbm ∧
      t.fab = { s.fab with resp := s.fab.resp ++ [{ master := r.master, tag := r.tag, code := 5, data := [] }] })

/-- An FLR and an assertion of PERST_N clear Bus Master Enable, D3hot, MSI-X Enable and the function mask, restore the 10 ms
completion timeout and the transfer sizes and drop the waiting accesses; the FLR runs from now, and its completion ends it and
sets HIF_STATUS.FLR. PERST_N leaves the link down. A link change sets LINK_CHG and shows the new speed and width. A change of
Bus Master Enable and the power state is shown in HIF_LINK. (R413, R416, R417, R415) -/
def Obligations.EndpointResetsAndLink : Prop :=
  ∀ s : State, s.held = false →
    (∃ t, exec .flr s = .next t ∧ t.pcie = { flrSince := some s.elapsed } ∧ t.rd HIF_LINK_BME = 0 ∧ t.rd HIF_LINK_D3 = 0) ∧
    (∃ t, exec .perstNAssert s = .next t ∧ t.pcie = {} ∧ t.rd HIF_LINK_SPEED = 0 ∧ t.rd HIF_LINK_WIDTH = 0) ∧
    (∀ d, s.pcie.flrSince = some d →
      exec .flrComplete s = .next (({ s with pcie := { s.pcie with flrSince := none } } : State).wr HIF_STATUS_FLR 1).settle) ∧
    (∀ (g : Fin 6) (n : Fin 17), (s.rd HIF_LINK_SPEED ≠ g.val ∨ s.rd HIF_LINK_WIDTH ≠ n.val) →
      ∃ t, exec (.pcieLinkChange g n) s = .next t ∧ t.rd HIF_STATUS_LINK_CHG = 1 ∧ t.rd HIF_LINK_SPEED = g.val ∧
        t.rd HIF_LINK_WIDTH = n.val ∧ t.pcie = s.pcie) ∧
    (∀ (b : Bool) (d : PcieCfg), ∃ t, exec (.busMasterEnable b d) s = .next t ∧
      t.pcie = { s.pcie with bme := b, d3 := d.d3, mps := d.mps, mrrs := d.mrrs, cplTimeout := d.cplTimeout } ∧
      t.rd HIF_LINK_BME = b2n b ∧ t.rd HIF_LINK_D3 = b2n d.d3 ∧ t.dma = s.dma)

/-- While PWR_CTL.GO reads 1, PWR_REQ_ON, PWR_REQ_RETENTION and PWR_REQ_OFF for any island, and any word written to PWR_CTL at
0x01200000, leave every register and everything else as it is, but for the fields that show conditions being brought up to date.
(R31) -/
def Obligations.PowerControlIgnoredWhileGo : Prop :=
  ∀ s : State, s.held = false → s.rd PWR_CTL_GO = 1 →
    (∀ (i : Fin 32) (f : Bool), exec (.pwrReqOn i f) s = .next s.settle ∧ exec (.pwrReqRetention i f) s = .next s.settle ∧
      exec (.pwrReqOff i f) s = .next s.settle) ∧
    (∀ (svc : Bool) (d : RegData), exec (.registerWrite svc 0x01200000 d) s = .next s.settle)

/-- With GO 0 every power request latches FORCE, TARGET, ISLAND and LAST_ISLAND. It is rejected, and only REJECTED sets besides,
when the island is 30 or 31, absent or FIXED, or when it asks for RETENTION of an island in OFF. Outside a reweave, a request
for a present SWITCHABLE island that is already in the state asked for sets DONE and nothing else. (R29, R31, R2) -/
def Obligations.PowerRequestRejectedOrDoneAtOnce : Prop :=
  ∀ (s : State) (i : Fin 32) (f : Bool), s.held = false → s.rd PWR_CTL_GO ≠ 1 →
    (∀ c tgt, (c = .pwrReqOn i f ∧ tgt = islON ∨ c = .pwrReqRetention i f ∧ tgt = islRETENTION ∨ c = .pwrReqOff i f ∧ tgt = islOFF) →
      ((30 ≤ i.val ∨ s.present i = false ∨ s.rd (PWR_ISL_STATE_SWITCHABLE i) ≠ 1 ∨ (tgt = islRETENTION ∧ s.isl i = islOFF)) →
        exec c s = .next ((pwrAsked s i tgt f).wr PWR_STATUS_REJECTED 1).settle) ∧
      (i.val < 30 → s.present i = true → s.rd (PWR_ISL_STATE_SWITCHABLE i) = 1 → s.wrp.hold.active = false → s.isl i = tgt →
        exec c s = .next ((pwrAsked s i tgt f).wr PWR_STATUS_DONE 1).settle))

/-- An accepted request (GO 0, allowed, no fence in the island) sets GO and BUSY. Asked to be ON from another state, the island
powers up. Asked for RETENTION or OFF from ON, it enters DRAINING. Asked for OFF from RETENTION, it enters OFF at once. When the
power-up has finished, ISLAND_ON_COMPLETE ends the request with DONE and the island is ON. DRAIN_COMPLETE, with nothing
outstanding and the units idle, takes the island to the state asked for with DONE. At the limit, with something outstanding, the
request is abandoned and the island returns to ON (FORCE 0), or the island is cut to OFF with FORCED (FORCE 1); PWR_DRAIN is
raised in both cases. (R28, R29, R33, R36, R37, R38, R39) -/
def Obligations.PowerRequestsMoveTheIsland : Prop :=
  (∀ (s : State) (i : Fin 32) (f : Bool), s.held = false → s.rd PWR_CTL_GO ≠ 1 → (islandMasters i).any s.fenced = false →
    (s.reqOk i islON = true → s.isl i ≠ islON → exec (.pwrReqOn i f) s =
      .next ({ ((pwrAsked s i islON f).wr PWR_CTL_GO 1).wr PWR_STATUS_BUSY 1 with
        pwr := { s.pwr with req := some { island := i, target := islON, rising := true, since := s.elapsed } } } : State).settle) ∧
    (s.reqOk i islRETENTION = true → s.isl i = islON → exec (.pwrReqRetention i f) s =
      .next ((((pwrAsked s i islRETENTION f).wr PWR_CTL_GO 1).wr PWR_STATUS_BUSY 1).enterDrain { island := i, target := islRETENTION }).settle) ∧
    (s.reqOk i islOFF = true → s.isl i = islON → exec (.pwrReqOff i f) s =
      .next ((((pwrAsked s i islOFF f).wr PWR_CTL_GO 1).wr PWR_STATUS_BUSY 1).enterDrain { island := i, target := islOFF }).settle) ∧
    (s.reqOk i islOFF = true → s.isl i = islRETENTION → exec (.pwrReqOff i f) s =
      .next ((((pwrAsked s i islOFF f).wr PWR_CTL_GO 1).wr PWR_STATUS_BUSY 1).enterDown i islOFF PWR_STATUS_DONE).settle)) ∧
  (∀ (s : State) (r : PwrReq), s.held = false → s.pwr.req = some r →
    (r.rising = true → exec .islandOnComplete s = .next ((s.reqEnd PWR_STATUS_DONE).islandUp r.island).settle) ∧
    (r.draining = true → s.outstanding r.island = 0 → s.unitsIdle r.island = true →
      exec .drainComplete s = .next (s.enterDown r.island r.target PWR_STATUS_DONE).settle) ∧
    (r.draining = true → r.since + 40 * s.rd PWR_DRAIN_LIMIT_LIMIT ≤ s.elapsed → s.outstanding r.island ≠ 0 →
      (s.rd PWR_CTL_FORCE ≠ 1 → exec .drainLimitExpiry s =
        .next (((s.raise (drainFault r.island)).reqEnd PWR_STATUS_ABANDONED).islandUp r.island).settle) ∧
      (s.rd PWR_CTL_FORCE = 1 → exec .drainLimitExpiry s =
        .next (((s.raise (drainFault r.island)).forcedCut r.island).enterDown r.island islOFF PWR_STATUS_FORCED).settle)))

/-- PWR_REQ_RETENTION or PWR_REQ_OFF for an HBM island in ON, when accepted, leaves PWR_ISL_STATE DRAINING with GO and BUSY 1 and
the request in progress; from that state the path to every address of the stack answers RETRY. The queued requests and HBM
itself do not change. (R33, R34, R15) -/
def Obligations.DrainOfAMemoryIsland : Prop :=
  ∀ (s : State) (i : Fin 32) (f : Bool) (c : Instr) (tgt a : Nat), s.held = false → s.rd PWR_CTL_GO ≠ 1 → 28 ≤ i.val → i.val < 30 →
    (c = .pwrReqRetention i f ∧ tgt = islRETENTION ∨ c = .pwrReqOff i f ∧ tgt = islOFF) → s.reqOk i tgt = true → s.isl i = islON →
    ∃ t, exec c s = .next t ∧ t.isl i = islDRAINING ∧ t.rd PWR_CTL_GO = 1 ∧ t.rd PWR_STATUS_BUSY = 1 ∧
      t.pwr.req = some { island := i, target := tgt, draining := true, since := s.elapsed } ∧ t.mem = s.mem ∧ t.hbm = s.hbm ∧
      (a < winBase → s.stackOf a = some (i.val - 28) → t.pathCode a = 1)

/-- With PWR_UNIT_RST.GO 0, UNIT_RESET of a unit that may be reset, whose island is ON without a power request and that is not
fenced, sets GO and MASTER and begins its fence; of any other master it sets REJECTED. A held fence begins once those conditions
hold. FENCE_REPLIES_DONE with no request of the unit queued, and FENCE_WAIT_TIMEOUT after 65536 CK_FAB cycles, assert the reset.
FENCE_RESET_END after 64 cycles of the unit's clock clears the unit, sweeps its bobbins, rewrites a store that held a parity
error and lifts the fence, but leaves it fenced in wait of its section during a reweave. (R43, R44, R45, R46, R48) -/
def Obligations.UnitResetAndFenceSteps : Prop :=
  ∀ (s : State) (m : Fin 256), s.held = false →
    (s.rd PWR_UNIT_RST_GO ≠ 1 →
      ((resettable m && s.masterOn m && !s.pwrBusy m && !s.fenced m) = true →
        exec (.unitReset m) s = .next (((s.wr PWR_UNIT_RST_MASTER m).wr PWR_UNIT_RST_GO 1).startFence m .unitReset).settle) ∧
      ((resettable m && s.masterOn m && !s.pwrBusy m && !s.fenced m) = false →
        exec (.unitReset m) s = .next ((s.wr PWR_UNIT_RST_MASTER m).wr PWR_STATUS_REJECTED 1).settle)) ∧
    (m.val ∈ s.pwr.held → s.masterOn m = true → s.pwrBusy m = false → s.fenced m = false →
      exec (.fenceHeldStart m) s = .next (s.startFence m .fault).settle) ∧
    (∀ f : Fence, s.fence m = some f → f.phase = .waitReplies →
      ((∀ r ∈ s.queued, r.master ≠ m.val) → exec (.fenceRepliesDone m) s = .next ({ s with pwr := { s.pwr with
        fences := smSet none s.pwr.fences m (some ({ f with phase := .inReset, since := s.elapsed } : Fence)) } } : State).settle) ∧
      (f.since + s.fabNs 65536 ≤ s.elapsed → exec (.fenceWaitTimeout m) s = .next ({ s with pwr := { s.pwr with
        fences := smSet none s.pwr.fences m (some ({ f with phase := .inReset, since := s.elapsed } : Fence)) } } : State).settle)) ∧
    (∀ f : Fence, s.fence m = some f → f.phase = .inReset → f.since + cdiv 64000000 (s.unitKhz m) ≤ s.elapsed →
      (f.cause ≠ .reweave → exec (.fenceResetEnd m) s = .next ((((s.fenceClear m).ownerSweep m).rewriteStores m).fenceLift m).settle) ∧
      (f.cause = .reweave → exec (.fenceResetEnd m) s = .next (let u := ((s.fenceClear m).ownerSweep m).rewriteStores m
        ({ u with pwr := { u.pwr with fences := smSet none u.pwr.fences m (some ({ f with phase := .waitLoad } : Fence)) } } : State).settle)))

/-- On a unit that runs: a yield span over 8192 cycles, or a response that stays out beyond RESP_TO, trips the decode watchdog: the
job ends ABORTED, SPD_WDOG_CNT counts, WATCHDOG is raised and the spindle is fenced; the encode watchdog likewise loses the
picture, counts and fences. A parity error of a sequencer marks the word in the sequencer's store, counts in UCS_PARITY_CNT,
raises UCODE_PARITY with its address and keeps the unit from work until the fault is taken. (R210, R262, R538, R44) -/
def Obligations.WatchdogsAndParityStopTheUnit : Prop :=
  (∀ (s : State) (k : Fin 16) (span us : Word), s.held = false → s.unitRuns k = true →
    (8192 < span.toNat ∨ (s.spd k).set.respTo < us.toNat) →
    exec (.watchdogTrip k span us) s = .next ((((s.endJob (s.leadOf k) outABORTED 0x12).bump (SPD_WDOG_CNT k)).raise
      { cls := 7, master := k, fenced := true,
        ctx := match (s.spd (s.leadOf k)).cur with | some j => j.job.ctx | none => 0xFF }).fenceReact k).settle) ∧
  (∀ (s : State) (k : Fin 4) (span us : Word), s.held = false → s.unitRuns (0x10 + k) = true →
    (8192 < span.toNat ∨ s.encRespTo k < us.toNat) →
    exec (.encWatchdog k span us) s = .next ((((s.encDropPic k).bump (SPE_WDOG_CNT k)).raise
      { cls := 9, master := 0x10 + k, fenced := true }).fenceReact (0x10 + k)).settle) ∧
  (∀ (s : State) (q : Fin 24) (a : Fin 16384), s.held = false → s.unitRuns (seqMaster q) = true → 20 ≤ q.val →
    exec (.ucodeParityError q a) s = .next (let u := ((s.badWord q a).bump (UCS_PARITY_CNT q)).raise { cls := 10, master := seqMaster q, access := 5, addr := a }
      ({ u with pwr := { u.pwr with stopped := u.pwr.stopped ++ [seqMaster q] } } : State).settle)) ∧
  (∀ (s : State) (q : Fin 24) (a : Fin 16384), s.held = false → s.unitRuns (seqMaster q) = true → q.val < 16 →
    exec (.ucodeParityError q a) s = .next (let u := (((s.endJob (s.leadOf q) outABORTED 0x15).badWord q a).bump (UCS_PARITY_CNT q)).raise { cls := 10, master := seqMaster q, access := 5, addr := a }
      ({ u with pwr := { u.pwr with stopped := u.pwr.stopped ++ [seqMaster q] } } : State).settle)) ∧
  (∀ (s : State) (q : Fin 24) (a : Fin 16384), s.held = false → s.unitRuns (seqMaster q) = true → 16 ≤ q.val → q.val < 20 →
    exec (.ucodeParityError q a) s = .next (let u := (((s.encDropPic (q.val - 16)).badWord q a).bump (UCS_PARITY_CNT q)).raise { cls := 10, master := seqMaster q, access := 5, addr := a }
      ({ u with pwr := { u.pwr with stopped := u.pwr.stopped ++ [seqMaster q] } } : State).settle))

/-- PLY_COMMIT sets the bits written as 1; an engine whose bit was 0 has its request recorded at this time and not yet validated,
and an engine whose bit is written as 0 is left alone. COMMIT_VALIDATED with a request open on an engine that is up: with no
fault in the shadow tables the request is valid, and nothing else changes; else the request is dropped, COMMIT_REJECT sets and
WHY holds the first code that applies. PLY_RUN on an engine that is up and not held by a reweave writes RUN and nothing else.
(R276, R277, R315) -/
def Obligations.CommitsOfShadowTables : Prop :=
  (∀ (s : State) (w : Word), s.held = false → ∃ t, exec (.plyCommit w) s = .next t ∧ ∀ e < 2,
    (bitSet w.toNat e = true → bitSet (t.rd PLY_COMMIT) e = true) ∧
    (bitSet w.toNat e = true → bitSet (s.rd PLY_COMMIT) e = false → (t.ply e).asked = some s.elapsed ∧ (t.ply e).valid = false) ∧
    (bitSet w.toNat e = false → t.ply e = s.ply e)) ∧
  (∀ (s : State) (e : Fin 2), s.held = false → s.unitUp (plyMaster e) = true → (s.ply e).asked.isSome = true → (s.ply e).valid = false →
    (s.commitWhy e = 0 → exec (.commitValidated e) s = .next (s.modPly e (fun y => { y with valid := true })).settle) ∧
    (s.commitWhy e ≠ 0 → exec (.commitValidated e) s =
      .next (((s.commitDrop e).wr (PLY_STATUS_COMMIT_REJECT e) 1).wr (PLY_STATUS_WHY e) (s.commitWhy e)).settle)) ∧
  (∀ (s : State) (e : Fin 2) (v : Bool), s.held = false → s.unitUp (plyMaster e) = true → e.val ∉ s.wrp.hold.engines →
    exec (.plyRun e v) s = .next (s.wr (PLY_CTL_RUN e) (b2n v)).settle)

/-- A write of PLY_CANVAS_CTL with EN 1 while it was 0 takes HOLD, WSYNC_OUT_EN and SOURCE and, with a rate in range, sets EN and
RUNNING and begins the grid, the time of the last frame start kept; with a rate out of range it sets BAD_RATE and not EN. With
EN 0 written, EN and RUNNING clear. Under FREE or PTP a frame starts when device time has reached the next grid point, at the
last point reached, unless less than half a period has passed since the previous start: then the point is skipped with
SHORT_SKIP. Under WSYNC an edge starts a frame, or is early and only flagged; without an edge for 1.5 periods since EN was set
or the last frame start (one period after a frame of its own) the generator sets WSYNC_LOST and starts one. WSYNC_OUT falls 1.0
microseconds after it rose. (R284, R285, R286, R287, R288, R315) -/
def Obligations.CanvasTimingStartsFrames : Prop :=
  (∀ (s : State) (w : Word), s.held = false → s.rd PLY_CANVAS_CTL_EN ≠ 1 → bitSet w.toNat 31 = true →
    ∃ t, exec (.canvasEnable w) s = .next t ∧ t.rd PLY_CANVAS_CTL_HOLD = bitOf w.toNat 8 ∧
      t.rd PLY_CANVAS_CTL_WSYNC_OUT_EN = bitOf w.toNat 4 ∧ t.rd PLY_CANVAS_CTL_SOURCE = w.toNat % 4 ∧
      (s.rateOk = true → t.rd PLY_CANVAS_CTL_EN = 1 ∧ t.rd PLY_CANVAS_STATUS_RUNNING = 1 ∧ t.canvas.at_ = s.canvas.at_ ∧ t.canvas.enAt = s.elapsed) ∧
      (s.rateOk = false → t.rd PLY_CANVAS_CTL_EN = s.rd PLY_CANVAS_CTL_EN ∧ t.rd PLY_CANVAS_STATUS_BAD_RATE = 1 ∧ t.canvas = s.canvas) ∧
      RegsKept [PLY_CANVAS_CTL_HOLD, PLY_CANVAS_CTL_WSYNC_OUT_EN, PLY_CANVAS_CTL_SOURCE, PLY_CANVAS_CTL_EN, PLY_CANVAS_STATUS_RUNNING,
        PLY_CANVAS_STATUS_BAD_RATE] s t) ∧
  (∀ (s : State) (w : Word), s.held = false → bitSet w.toNat 31 = false →
    ∃ t, exec (.canvasEnable w) s = .next t ∧ t.rd PLY_CANVAS_CTL_EN = 0 ∧ t.rd PLY_CANVAS_STATUS_RUNNING = 0 ∧ t.canvas = s.canvas) ∧
  (∀ s : State, s.held = false → s.rd PLY_CANVAS_CTL_EN = 1 →
    (s.rd PLY_CANVAS_CTL_SOURCE ≠ 2 → s.gridAt s.canvas.next ≤ s.devTime →
      (s.tooEarly = false → exec .canvasFrameStart s =
        .next (s.frameStart (max s.canvas.next (s.gridFrom (s.devTime + 1) - 1))).settle) ∧
      (s.tooEarly = true → exec .canvasFrameStart s = .next (({ s with canvas := { s.canvas with
        next := max s.canvas.next (s.gridFrom (s.devTime + 1) - 1) + 1 } } : State).wr PLY_CANVAS_STATUS_SHORT_SKIP 1).settle)) ∧
    (s.rd PLY_CANVAS_CTL_SOURCE = 2 → (s.isl 20 = islON ∨ s.isl 21 = islON) →
      (s.tooEarly = false → exec .wsyncEdge s =
        .next (({ s with canvas := { s.canvas with lost := false } } : State).frameStart s.canvas.next).settle) ∧
      (s.tooEarly = true → exec .wsyncEdge s =
        .next ((s.wr PLY_CANVAS_STATUS_WSYNC_EARLY 1).wr PLY_CANVAS_STATUS_SHORT_SKIP 1).settle)) ∧
    (s.rd PLY_CANVAS_CTL_SOURCE = 2 → (if s.canvas.lost then 2 else 3) * s.canvasPeriod.1 ≤
        2 * (s.elapsed - max (s.canvas.at_.getD 0) s.canvas.enAt) * s.canvasPeriod.2 →
      exec .wsyncFlywheel s = .next ((({ s with canvas := { s.canvas with lost := true } } : State).wr
        PLY_CANVAS_STATUS_WSYNC_LOST 1).frameStart s.canvas.next).settle)) ∧
  (∀ (s : State) (d : Nat), s.held = false → s.canvas.outSince = some d → d + 1000 ≤ s.elapsed →
    exec .wsyncOutEnd s = .next (({ s with canvas := { s.canvas with outSince := none } } : State).emit (.pin "WSYNC_OUT" false)).settle)

/-- PLY_ROW_BUILT on an engine that is up builds the next row of the slot in its oldest frame that has one, counts it, hands it to
the slot's port and closes frames that are complete, once its reads are answered. ROW_SEND on an ACTIVE port whose lanes are
free and awake, when the oldest row held ends before the next SYNC, takes that row off the queue and sends it to a tile it may
go to, else drops it with its count. FRAME_SYNC_DUE, once the instant has come, discards late rows, sends the SYNC of the frame
on every port of the engine and lets waiting requests follow. ROW_DEADLINE, once the instant its frame start set has come,
discards the unsent rows of earlier frames and, when there were any, sets LATE and counts them. (R314, R331, R344, R352, R342) -/
def Obligations.RowsAreBuiltAndSent : Prop :=
  (∀ (s : State) (e : Fin 2) (sl : Fin 8) (f : PlyFrame) (t r : Nat) (rest : List (Nat × Nat)) (v : TileView), s.held = false →
    s.unitUp (plyMaster e) = true → (s.ply e).frames.find? (fun f => f.todo.any (fun q => q.1 == sl.val)) = some f →
    smGet [] f.todo sl = (t, r) :: rest → f.tiles.find? (fun v => v.t == t) = some v →
    EndsOnce (.plyRowBuilt e sl) s (
      let o := s.buildRow e f v r
      let u := o.2.2.modPly e (fun y => { y with frames := y.frames.map (fun g => if g.ord = f.ord then dropRow o.2.1 sl rest else g) })
      (((u.countUnit 0x061 (plyMaster e) 1).handRow (u.slotPort e sl) o.1).frameDone e 3)) id) ∧
  (∀ (s : State) (p : Fin 16) (w : RowPkt) (rest : List RowPkt), s.held = false → (s.port p).rows = w :: rest → s.portState p = blkACTIVE →
    (s.port p).lineBusy ≤ s.elapsed → s.awake p = true → s.rowFits p w = true →
    (s.rowGoes p w.pos = true → exec (.rowSend p) s =
      .next ((((s.modPort p (fun r => { r with rows := rest })).sendPacket p (s.rowPacket p w)).idleCheck p)).settle) ∧
    (s.rowGoes p w.pos = false → exec (.rowSend p) s =
      .next ((((s.modPort p (fun r => { r with rows := rest })).rowDrop p w.pos).idleCheck p)).settle)) ∧
  (∀ (s : State) (e : Fin 2) (q : Nat × Nat × Nat), s.held = false → (s.ply e).sync = some q → q.2.2 ≤ s.elapsed → s.unitUp (plyMaster e) = true →
    exec (.frameSyncDue e) s = .next (
      let u := s.rowDeadline e
      let ps := (u.slotsOf e).map (u.slotPort e)
      (((u.each ps (fun p t => t.sendSync p q.1)).modPly e (fun y => { y with sync := none })).each ps
        (fun p t => (t.pumpPort p).idleCheck p)).settle)) ∧
  (∀ (s : State) (e : Fin 2) (n d : Nat), s.held = false → (s.ply e).due = (n, d) → s.unitUp (plyMaster e) = true → d ≤ s.elapsed →
    0 < s.staleRows e n → exec (.rowDeadline e) s = .next (
      let u := s.each (s.slotsOf e) (fun sl t => t.modPort (t.slotPort e sl) (fun r => { r with rows := r.rows.filter (fun w => decide (n ≤ w.ord)) }))
      let v := u.modPly e (fun y => { y with frames := y.frames.map (fun f => if f.ord < n then { f with todo := [] } else f) })
      ((((v.wr (PLY_STATUS_LATE e) 1).bump (PLY_LATE_CNT e) (s.staleRows e n)).countUnit 0x062 (plyMaster e) (s.staleRows e n)).frameDone e 3).settle))

/-- TALLY_MINUTE adds every accumulator's increase to the tallies and re-evaluates the gains. AGE_TARGET_WRITE writes the named
register and re-evaluates the gains. CANVAS_FRAME_READ, TALLY_READ and TOPO_HASH_READ show the value read in LO and latch its
upper half in HI (of an engine that is not up a tally read reads nothing); they change no other register field and nothing
beside the registers. (R275, R283, R311, R312, R353, R363) -/
def Obligations.TalliesGainsAndLatchedReads : Prop :=
  ∀ s : State, s.held = false →
    exec .tallyMinute s = .next s.tallyAll.ageAll.settle ∧
    (∀ w : Word, exec (.ageTargetWrite 0 w) s = .next (s.wr PLY_AGE_TARGET w.toNat).ageAll.settle ∧
      exec (.ageTargetWrite 1 w) s = .next (s.wr PLY_AGE_TARGET_B w.toNat).ageAll.settle ∧
      exec (.ageTargetWrite 2 w) s = .next (s.wr PLY_AGE_MAX w.toNat).ageAll.settle) ∧
    exec (.canvasFrameRead false) s =
      .next ((s.wr PLY_CANVAS_FRAME_LO (s.canvas.k % 2 ^ 32)).wr PLY_CANVAS_FRAME_HI (s.canvas.k / 2 ^ 32)).settle ∧
    exec (.canvasFrameRead true) s =
      .next ((s.wr PLY_CANVAS_TSTART_LO (s.canvas.tstart % 2 ^ 32)).wr PLY_CANVAS_TSTART_HI (s.canvas.tstart / 2 ^ 32)).settle ∧
    (∀ (e : Fin 2) (t : Fin 512) (c : Fin 3), s.unitUp (plyMaster e) = false → exec (.tallyRead e t c) s = .next s.settle) ∧
    (∀ (e : Fin 2) (t : Fin 512) (r g b : Nat), s.unitUp (plyMaster e) = true → smGet (0, 0, 0) (s.ply e).tally t = (r, g, b) →
      exec (.tallyRead e t 0) s = .next ((s.wr (PLY_TALLY_R_LO e t) (r % 2 ^ 32)).wr (PLY_TALLY_R_HI e t) (r / 2 ^ 32)).settle ∧
      exec (.tallyRead e t 1) s = .next ((s.wr (PLY_TALLY_G_LO e t) (g % 2 ^ 32)).wr (PLY_TALLY_G_HI e t) (g / 2 ^ 32)).settle ∧
      exec (.tallyRead e t 2) s = .next ((s.wr (PLY_TALLY_B_LO e t) (b % 2 ^ 32)).wr (PLY_TALLY_B_HI e t) (b / 2 ^ 32)).settle) ∧
    (∀ p : Fin 16, exec (.topoHashRead p) s =
      .next ((s.wr (BLK_TOPO_HASH_LO p) ((s.port p).hash % 2 ^ 32)).wr (BLK_TOPO_HASH_HI p) ((s.port p).hash / 2 ^ 32)).settle)

/-- PORT_ENABLE of a port in OFF that may leave it (unit up, GEN not 0, no reweave holding it) enters CLOCK and starts CL alone.
PORT_DISABLE of a port not in OFF enters OFF, stops CL and the lanes and clears BUSY. TRAIN_START 50 microseconds after CL
enters TRAIN and sends the training set on the lanes. RL_CHECK without lock, TRAIN_US after that, enters NO_CHAIN, sets RL_LOSS
and clears BUSY; with lock it enters ENUM and begins enumeration. RL_LOSS, 10 ms after lock went with AUTO_ENUM 1, retrains an
ACTIVE or enumerating port, once the packet on its line has ended, an IDLE column first. RL_SYMBOL_LOCK_CHANGE counts the code
errors; loss sets BLK_STATUS.RL_LOSS and starts the count from now, lock regained ends it. (R338, R342, R328, R318, R324) -/
def Obligations.PortComesUpAndGoesDown : Prop :=
  (∀ (s : State) (p : Fin 16) (w : Word), s.held = false → s.unitUp (blkMaster p) = true →
    (bitSet w.toNat 4 = true → s.gen p ≠ 0 → s.portState p = blkOFF → p.val ∉ s.wrp.hold.ports →
      ∃ t, exec (.portEnable p w) s = .next t ∧ t.portState p = blkCLOCK ∧ t.rd (BLK_CTL_EN p) = 1 ∧
        t.out = .brodysDrive p true false :: s.out ∧ (t.port p).since = s.elapsed) ∧
    (bitSet w.toNat 4 = false → s.portState p ≠ blkOFF →
      ∃ t, exec (.portDisable p w) s = .next t ∧ t.portState p = blkOFF ∧ t.rd (BLK_CTL_EN p) = 0 ∧ t.rd (BLK_STATUS_BUSY p) = 0 ∧
        t.out = .brodysDrive p false false :: s.out ∧ (t.port p).rows = [] ∧ (t.port p).trans = none)) ∧
  (∀ (s : State) (p : Fin 16), s.held = false →
    (s.portState p = blkCLOCK → (s.port p).since + 50000 ≤ s.elapsed →
      ∃ t, exec (.trainStart p) s = .next t ∧ t.portState p = blkTRAIN ∧ (t.port p).since = max s.elapsed (s.port p).lineBusy ∧
        t.out = .brodys p (trainCols (s.gen p)) :: .brodysDrive p true true :: s.out) ∧
    (s.portState p = blkTRAIN → (s.port p).since + 1000 * max 100 (s.rd (BLK_TIMING_TRAIN_US p)) ≤ s.elapsed →
      ((s.port p).lock = false → ∃ t, exec (.rlCheck p) s = .next t ∧ t.portState p = blkNOCHAIN ∧ t.rd (BLK_STATUS_RL_LOSS p) = 1 ∧
        t.rd (BLK_STATUS_BUSY p) = 0 ∧ t.out = s.out) ∧
      ((s.port p).lock = true → exec (.rlCheck p) s = .next (((((s.emit (.brodys p [controlCol (s.gen p) symIDLE])).modPort p
        (fun r => { r with lineBusy := s.elapsed + 1000 })).wr (BLK_STATUS_STATE p) blkENUM).enumStart p
        (!(s.port p).keep && !(s.port p).warm) (s.port p).warm).settle))) ∧
    (∀ d, (s.port p).lostAt = some d → d + 10000000 ≤ s.elapsed → s.rd (BLK_CTL_AUTO_ENUM p) = 1 →
      (s.portState p = blkACTIVE ∨ s.portState p = blkENUM) →
      ∃ t, exec (.rlLoss p) s = .next t ∧ t.portState p = blkTRAIN ∧
        t.out = .brodys p (retrainCols s p) :: .brodysDrive p true true :: s.out) ∧
    (∀ errs : Word, s.portState p ≠ blkOFF → (s.port p).lock = true →
      ∃ t, exec (.rlSymbolLockChange p false errs) s = .next t ∧ (t.port p).lock = false ∧ (t.port p).lostAt = some s.elapsed ∧
        t.rd (BLK_STATUS_RL_LOSS p) = 1 ∧ t.rd (BLK_RL_CODE_ERR p) = (s.rd (BLK_RL_CODE_ERR p) + errs.toNat) % 2 ^ 32) ∧
    (∀ errs : Word, s.portState p ≠ blkOFF → (s.port p).lock = false →
      ∃ t, exec (.rlSymbolLockChange p true errs) s = .next t ∧ (t.port p).lock = true ∧ (t.port p).lostAt = none ∧
        t.rd (BLK_RL_CODE_ERR p) = (s.rd (BLK_RL_CODE_ERR p) + errs.toNat) % 2 ^ 32))

/-- For a port whose unit is up and BUSY 0: NOP changes nothing; RETRAIN from ACTIVE or NO_CHAIN sets BUSY and trains, keeping the
addresses; ENUMERATE in ACTIVE sets BUSY and begins a full enumeration; REAUTH in ACTIVE authenticates every present tile;
TEST_START with a MODE other than 3 enters TEST and sends the pattern; TEST_STOP in TEST retrains with BUSY set. Any of them
while BUSY is 1 sets CMD_REJECT only. TEST_END, when DURATION_US has passed, retrains likewise. TXCFG_WRITE stores SWING and
DEEMPH; a change on a port past CLOCK returns it to TRAIN, and a write of the same values does not. (R342, R351, R359, R363,
R365, R366) -/
def Obligations.PortCommands : Prop :=
  (∀ (s : State) (p : Fin 16), s.held = false → s.unitUp (blkMaster p) = true → s.rd (BLK_STATUS_BUSY p) ≠ 1 →
    exec (.blkNop p) s = .next s.settle ∧
    ((s.portState p = blkACTIVE ∨ s.portState p = blkNOCHAIN) →
      (∃ t, exec (.retrain p) s = .next t ∧ t.portState p = blkTRAIN ∧ t.rd (BLK_STATUS_BUSY p) = 1 ∧ (t.port p).keep = true ∧
        t.out = .brodys p (retrainCols s p) :: .brodysDrive p true true :: s.out) ∧
      (s.rd (BLK_TEST_MODE p) ≠ 3 → ∃ t, exec (.testStart p) s = .next t ∧ t.portState p = blkTEST ∧ ∃ pat lanes l,
        t.out = .brodysTest p pat lanes (max 1 (s.rd (BLK_TEST_DURATION_US p))) :: l)) ∧
    (s.portState p = blkACTIVE →
      exec (.enumerate p) s = .next ((s.wr (BLK_STATUS_BUSY p) 1).enumStart p true false).settle ∧
      exec (.reauth p) s = .next (s.authTiles p (s.tilesOf p) true).settle) ∧
    (∀ rl, s.portState p = blkTEST → ∃ t, exec (.testStop p rl) s = .next t ∧ t.portState p = blkTRAIN ∧
      t.rd (BLK_STATUS_BUSY p) = 1 ∧ (t.port p).testEnd = true)) ∧
  (∀ (s : State) (p : Fin 16) (c : Instr), s.held = false → s.unitUp (blkMaster p) = true → s.rd (BLK_STATUS_BUSY p) = 1 →
    (c = .blkNop p ∨ c = .retrain p ∨ c = .enumerate p ∨ c = .reauth p ∨ c = .testStart p ∨ ∃ rl, c = .testStop p rl) →
    exec c s = .next (s.wr (BLK_STATUS_CMD_REJECT p) 1).settle) ∧
  (∀ (s : State) (p : Fin 16) (rl : Option Word), s.held = false → s.portState p = blkTEST → (s.port p).testAt ≤ s.elapsed →
    ∃ t, exec (.testEnd p rl) s = .next t ∧ t.portState p = blkTRAIN ∧ t.rd (BLK_STATUS_BUSY p) = 1 ∧ (t.port p).testEnd = true) ∧
  (∀ (s : State) (p : Fin 16) (w : Word), s.held = false → s.unitUp (blkMaster p) = true →
    (w.toNat % 16 = s.rd (BLK_TXCFG_SWING p) → w.toNat / 16 % 16 = s.rd (BLK_TXCFG_DEEMPH p) →
      exec (.txcfgWrite p w) s = .next ((s.wr (BLK_TXCFG_SWING p) w.toNat).wr (BLK_TXCFG_DEEMPH p) (w.toNat / 16)).settle) ∧
    ((w.toNat % 16 ≠ s.rd (BLK_TXCFG_SWING p) ∨ w.toNat / 16 % 16 ≠ s.rd (BLK_TXCFG_DEEMPH p)) →
      s.portState p ≠ blkOFF → s.portState p ≠ blkCLOCK → ∃ t, exec (.txcfgWrite p w) s = .next t ∧ t.portState p = blkTRAIN ∧
        t.rd (BLK_TXCFG_SWING p) = w.toNat % 16 ∧ t.rd (BLK_TXCFG_DEEMPH p) = w.toNat / 16 % 16))

/-- An intact response with the outstanding SEQ ends the transaction, and its task is answered, then the manager goes on. Without a
response TO_US after the end of the request, the request is sent again with the retry counted, or with no retry left the
transaction fails. POLL_DUE on an ACTIVE port sends STATUS to the next present tile, in turn. ATTN is shown; a 1 on an ACTIVE
port asks every present tile for STATUS. A completed certificate verification that failed ends the authentication with its code,
one that verified draws a nonce and sends the challenge; a completed signature verification ends it with PASS or BAD_SIG.
AUTH_POLL reads the signature again 1 ms after BUSY, or fails after 50 ms. TALLY_WRITEBACK asks every ACTIVE port to write the
hours of its present tiles that hold a life record. (R343, R345, R347, R349, R355, R357, R362) -/
def Obligations.PortManagement : Prop :=
  (∀ (s : State) (p : Fin 16) (tr : Trans), s.held = false → (s.port p).trans = some tr → tr.unsent = false →
    (∀ (seq st : Fin 256) (d : List Byte), tr.seq = seq.val → d.length ≤ 4608 → tr.addr < 64 → exec (.mrspReceived p seq st d) s =
      .next ((((((s.modPort p (fun r => { r with trans := none })).modTile p tr.addr (fun q => { q with fails := 0 })).taskAnswer p tr.task
        st d).mgrIdle p).pumpPort p).settle)) ∧
    (tr.endAt + 1000 * max 1 (s.rd (BLK_MGMT_TO_US p)) ≤ s.elapsed →
      (tr.left ≠ 0 → exec (.mgmtTimeout p) s =
        .next ((s.bump (BLK_MGMT_RETRY_CNT p)).resend p { tr with left := tr.left - 1 }).settle) ∧
      (tr.left = 0 → exec (.mgmtTimeout p) s = .next (s.transFail p tr).settle))) ∧
  (∀ (s : State) (p : Fin 16) (n : Nat), s.held = false → s.portState p = blkACTIVE → (s.port p).enum = none →
    ((s.tilesOf p).find? (fun n => decide ((s.port p).pollNext ≤ n)) = some n →
      exec (.pollDue p) s =
        .next (((s.modPort p (fun r => { r with pollNext := n + 1 })).addTasks p [.status n]).pumpPort p).settle) ∧
    exec (.attnSet p true) s =
      .next (((s.wr (BLK_STATUS_ATTN p) 1).addTasks p (((s.wr (BLK_STATUS_ATTN p) 1).tilesOf p).map .status)).pumpPort p).settle ∧
    exec (.attnSet p false) s = .next (s.wr (BLK_STATUS_ATTN p) 0).settle) ∧
  (∀ (s : State) (p : Fin 16) (a : AuthSt), s.held = false → (s.port p).auth = some a →
    (a.verify = 1 → s.certVerdict p a ≠ 2 → exec (.authVerifyDone p) s = .next ((s.authEnd p (s.certVerdict p a)).pumpPort p).settle) ∧
    (a.verify = 1 → s.certVerdict p a = 2 → exec (.authVerifyDone p) s =
      .next (let b : AuthSt := { a with verify := 0, nonce := (s.freeBytes 32).1, since := s.elapsed }
        (((((s.freeBytes 32).2.modPort p (fun r => { r with auth := some b })).addTasks p [.challenge a.n]).pumpPort p).settle))) ∧
    (a.verify = 2 → exec (.authVerifyDone p) s = .next ((s.authEnd p
      (if Config.mldsaVerify (slice a.cert 0x30 2592) (challengeText a.nonce (s.tileSerial p a.n)) a.sig then 2 else 6)).pumpPort p).settle) ∧
    (∀ d, a.busyAt = some d → d + 1000000 ≤ s.elapsed →
      (s.elapsed ≤ a.since + 50000000 → exec (.authPoll p) s =
        .next ((((s.modPort p (fun r => { r with auth := some { a with busyAt := none } })).addTasks p
          [.sig a.n (a.sig.length / 1024)]).pumpPort p).settle)) ∧
      (a.since + 50000000 < s.elapsed → exec (.authPoll p) s = .next ((s.authEnd p 6).pumpPort p).settle))) ∧
  (∀ s : State, s.held = false → exec .tallyWriteback s = .next ((s.each (List.range 16) (fun p t =>
    if t.portState p = blkACTIVE then (t.addTasks p (((t.tilesOf p).filter (fun n => bitSet (byteAt (t.tile p n).page 6) 1 &&
      !t.on (BLK_TILE_LOST p n))).map .hours)).pumpPort p else t)).settle))

/-- HOST_MGMT with GO on a port whose unit is up and GO 0: a request the device does not accept ends with result 2 and one on a port
in OFF with result 3, both with DONE 1 and GO 0 and nothing sent; any other sets GO and waits for its turn. INJECT_ERROR in mode
1 or 2 on lane 0 to 3 of a port past CLOCK inverts one transmitted bit of that lane. INJECT_MGMT_CRC sets MGMT_CRC.
FAST_EXIT_BURST of an idle port starts its burst now. (R364, R367, R341, R340) -/
def Obligations.HostTransactionsAndInjection : Prop :=
  (∀ (s : State) (p : Fin 16) (w : Word), s.held = false → s.unitUp (blkMaster p) = true → s.rd (BLK_HM_CTL_GO p) ≠ 1 →
    bitSet w.toNat 31 = true → ∀ args, args = ((List.range 512).flatMap (fun j => natLe 4 (s.rd (BLK_HM_REQ p j)))).take (w.toNat / 65536 % 2 ^ 13) →
    (hostOpOk (w.toNat / 256 % 256) (w.toNat % 256) (w.toNat / 65536 % 2 ^ 13) args = false →
      ∃ t, exec (.hostMgmt p w) s = .next t ∧ t.rd (BLK_HM_STATUS_RESULT p) = 2 ∧ t.rd (BLK_HM_STATUS_DONE p) = 1 ∧
        t.rd (BLK_HM_CTL_GO p) = 0 ∧ t.out = s.out) ∧
    (hostOpOk (w.toNat / 256 % 256) (w.toNat % 256) (w.toNat / 65536 % 2 ^ 13) args = true → s.portState p = blkOFF →
      ∃ t, exec (.hostMgmt p w) s = .next t ∧ t.rd (BLK_HM_STATUS_RESULT p) = 3 ∧ t.rd (BLK_HM_STATUS_DONE p) = 1 ∧
        t.rd (BLK_HM_CTL_GO p) = 0 ∧ t.out = s.out) ∧
    (hostOpOk (w.toNat / 256 % 256) (w.toNat % 256) (w.toNat / 65536 % 2 ^ 13) args = true → s.portState p ≠ blkOFF →
      exec (.hostMgmt p w) s = .next (((((((s.wr (BLK_HM_CTL_LEN p) (w.toNat / 65536)).wr (BLK_HM_CTL_OP p) (w.toNat / 256)).wr
        (BLK_HM_CTL_ADDR p) w.toNat).wr (BLK_HM_CTL_GO p) 1).modPort p
          (fun r => { r with host := some { op := w.toNat / 256 % 256, addr := w.toNat % 256, args := args } })).pumpPort p).settle))) ∧
  (∀ (s : State) (p : Fin 16) (w : Word), s.held = false → s.unitUp (blkMaster p) = true → w.toNat % 8 < 4 →
    (w.toNat / 16 % 4 = 1 ∨ w.toNat / 16 % 4 = 2) → s.portState p ≠ blkOFF → s.portState p ≠ blkCLOCK →
    ∃ t, exec (.injectError p (some w)) s = .next t ∧ t.out = .bitError p (w.toNat % 8) :: s.out ∧ (t.port p).injectAt = s.elapsed) ∧
  (∀ (s : State) (p : Fin 16), s.held = false →
    (s.unitUp (blkMaster p) = true → exec (.injectMgmtCrc p) s = .next (s.wr (BLK_INJECT_MGMT_CRC p) 1).settle) ∧
    ((s.port p).idle = true → (s.port p).burst = none → exec (.fastExitBurst p) s =
      .next (((s.modPort p (fun r => { r with burst := some s.elapsed, lineBusy := max r.lineBusy (s.elapsed + 200) })).emit (.brodysDrive p true true)).emit (.brodysBurst p)).settle))

/-- POOL_NOP stores LOG2 in OFF; elsewhere an equal LOG2 changes nothing and another one is ignored with CMD_REJECT and WHY
BAD_STATE. ENABLE in OFF stores LOG2 and runs the checks of Table 9-6 in order: when all pass, the counters clear, the free list
is empty and the pool enters INIT; the first failing one is the WHY of the rejection. In any other state ENABLE is rejected with
BAD_STATE. INIT's end writes every metadata word and link, makes bobbin 0 the head, FREE equal to COUNT, and sets READY. DISABLE
in READY with FREE equal to COUNT, or in BROKEN, enters OFF with no free list and no ledger entry of the pool's bobbins; with
bobbins out it is rejected with WHY 6, in OFF and INIT with BAD_STATE. COMPLETES: poolNop, poolEnable, poolDisable and
poolInitDone each answer a next state with their own effect, whose fields the last four clauses name. (R371, R372, R373, R374,
09_bobbin_pool.md) -/
def Obligations.PoolCommands : Prop :=
  ∀ (s : State) (p : Fin 64) (l : Fin 32), s.held = false →
    (s.poolState p = poolOFF → exec (.poolNop p l) s = .next (s.wr (POOL_CTL_LOG2 p) l).settle ∧
      ((s.wr (POOL_CTL_LOG2 p) l).poolWhy p = 0 → exec (.poolEnable p l) s = .next (((((((((s.wr (POOL_CTL_LOG2 p) l).wr
        (POOL_ALLOC_CNT p) 0).wr (POOL_EMPTY_CNT p) 0).wr (POOL_TIMEOUT_CNT p) 0).wr (POOL_MISUSE_CNT p) 0).wr (POOL_PROV p) 0).wr
        (POOL_FREE p) 0).wr (POOL_CTL_STATE p) poolINIT).setHead p 0).settle) ∧
      (∀ w, (s.wr (POOL_CTL_LOG2 p) l).poolWhy p = w → w ≠ 0 →
        exec (.poolEnable p l) s = .next ((s.wr (POOL_CTL_LOG2 p) l).poolReject p w).settle)) ∧
    (s.poolState p ≠ poolOFF → s.rd (POOL_CTL_LOG2 p) = l → exec (.poolNop p l) s = .next s.settle ∧
      exec (.poolEnable p l) s = .next (s.poolReject p 1).settle) ∧
    (s.poolState p ≠ poolOFF → s.rd (POOL_CTL_LOG2 p) ≠ l → exec (.poolNop p l) s = .next (s.poolReject p 1).settle) ∧
    (s.rd (POOL_CTL_LOG2 p) = l → s.poolState p = poolBROKEN ∨ s.poolState p = poolREADY ∧ s.rd (POOL_FREE p) = s.poolCount p →
      exec (.poolDisable p l) s = .next ((((({ s with pool := { s.pool with
        ledger := s.pool.ledger.foldl (fun g e => smSet [] g e.1 (e.2.filter (fun a => decide (a < s.poolBase p) ||
          decide (s.poolBase p + s.poolCount p * s.poolSize p ≤ a)))) s.pool.ledger } } : State).wr
        (POOL_CTL_STATE p) poolOFF).setHead p 0).wr (POOL_FREE p) 0).wr (POOL_PROV p) 0).settle) ∧
    (s.rd (POOL_CTL_LOG2 p) = l → s.poolState p = poolREADY → s.rd (POOL_FREE p) ≠ s.poolCount p →
      exec (.poolDisable p l) s = .next (s.poolReject p 6).settle) ∧
    (s.rd (POOL_CTL_LOG2 p) = l → s.poolState p = poolINIT → exec (.poolDisable p l) s = .next (s.poolReject p 1).settle) ∧
    (s.poolState p = poolINIT → (∀ i < s.poolCount p, s.pathCode (s.metaAddr p i) = 0 ∧ s.pathCode (s.bobAddr p i) = 0) →
      exec (.poolInitDone p) s = .next (let u := s.each (List.range (s.poolCount p)) (fun i t => t.initBob p i)
        ((((u.setHead p (u.poolBase p)).wr (POOL_CTL_STATE p) poolREADY).setFree p (u.poolCount p)).wr (POOL_STATUS_READY p) 1).settle)) ∧
    (s.poolState p = poolOFF → ∃ t, exec (.poolNop p l) s = .next t ∧ t.rd (POOL_CTL_LOG2 p) = l ∧ RegsKept [POOL_CTL_LOG2 p] s t) ∧
    (s.poolState p = poolOFF → (s.wr (POOL_CTL_LOG2 p) l).poolWhy p = 0 → ∃ t, exec (.poolEnable p l) s = .next t ∧
      t.poolState p = poolINIT ∧ t.rd (POOL_CTL_LOG2 p) = l ∧ t.rd (POOL_FREE p) = 0 ∧ t.poolHead p = 0) ∧
    (s.rd (POOL_CTL_LOG2 p) = l → s.poolState p = poolBROKEN ∨ s.poolState p = poolREADY ∧ s.rd (POOL_FREE p) = s.poolCount p →
      ∃ t, exec (.poolDisable p l) s = .next t ∧ t.poolState p = poolOFF ∧ t.rd (POOL_FREE p) = 0 ∧ t.poolHead p = 0) ∧
    (s.poolState p = poolINIT → (∀ i < s.poolCount p, s.pathCode (s.metaAddr p i) = 0 ∧ s.pathCode (s.bobAddr p i) = 0) →
      ∃ t, exec (.poolInitDone p) s = .next t ∧ t.poolState p = poolREADY ∧ t.rd (POOL_STATUS_READY p) = 1)

/-- For a unit that is up, with no other request at the pool: ALLOC with FREE above 0, room in the ledger and a sound head takes the
head of the free list, lowers FREE and grants the bobbin (REFCNT 1, the requester as OWNER, GEN + 1); with FREE 0 it sets and
counts EMPTY and is parked with WAIT, while fewer than 256 are, or answered EMPTY. SHARE adds ADD references and makes the
bobbin shared; RELEASE takes one away, and the last frees the bobbin; SET_OWNER moves it to the new owner's ledger; QUERY
answers the metadata word; each for a bobbin and requester the rules allow, with a metadata word that reads clean. An address
that is no bobbin's base is answered BAD_ADDR. A parked request whose time has come is answered TIMEOUT and counted. (R375,
R376, R378, R380, R381, R385, R388, R389, 09_bobbin_pool.md) -/
def Obligations.PoolOperationsServed : Prop :=
  (∀ (s : State) (r : PoolReq) (tag : Nat), s.held = false → s.unitUp r.master = true → s.pool.queue = [] →
    (r.pool < 64 → s.poolState r.pool = poolREADY → s.ledgerFull r.master = false →
      (s.rd (POOL_FREE r.pool) ≠ 0 → (∀ c ∈ s.headCodes r.pool, c = 0) → s.headOk r.pool = true →
        exec (.alloc r tag) s = .next (let g := ((((poolTaken s r.pool (busReq 1 r tag)).headSeen r.pool).setHead r.pool (s.linkOf (s.poolHead r.pool))).setFree r.pool (s.rd (POOL_FREE r.pool) - 1)).grant r.pool ((s.bobIdx r.pool (s.poolHead r.pool)).getD 0) (busReq 1 r tag)
          g.2.poolAnswer g.1).settle) ∧
      (s.rd (POOL_FREE r.pool) = 0 → r.wait = true → s.pool.parked.length < 256 →
        exec (.alloc r tag) s = .next (((poolTaken s r.pool (busReq 1 r tag)).poolEmpty r.pool).park1 (busReq 1 r tag)).settle) ∧
      (s.rd (POOL_FREE r.pool) = 0 → r.wait = false ∨ 256 ≤ s.pool.parked.length →
        exec (.alloc r tag) s = .next ((((poolTaken s r.pool (busReq 1 r tag)).poolEmpty r.pool).countUnit 0x072 0x30 1).poolAnswer
          (answerTo (busReq 1 r tag) 1)).settle)) ∧
    (∀ p i m, s.locate r.addr = some (p, i) → s.pathCode (s.metaAddr p i) = 0 → s.findingOf (s.metaAddr p i) 8 = 0 → s.metaOf p i = m →
      exec (.query r tag) s = .next ((poolLooked s p i (busReq 5 r tag)).poolAnswer (answerTo (busReq 5 r tag) 0 r.addr m.pack)).settle ∧
      (m.free = false → m.ref ≠ 0 → r.genChk = false ∨ m.gen = r.gen → m.owner = 0xFF ∨ m.owner = r.master →
        (r.add ≤ 15 → m.prov = false → m.ref + r.add ≤ 65535 → exec (.share r tag) s =
          .next ((((poolLooked s p i (busReq 2 r tag)).ledgerDel m.owner r.addr).setMeta p i { m with ref := m.ref + r.add, owner := 0xFF }).poolAnswer
            (answerTo (busReq 2 r tag) 0 r.addr (Meta.pack { m with ref := m.ref + r.add, owner := 0xFF }))).settle) ∧
        (1 < m.ref → exec (.release r tag) s = .next (((poolLooked s p i (busReq 3 r tag)).setMeta p i { m with ref := m.ref - 1 }).poolAnswer
          (answerTo (busReq 3 r tag) 0 r.addr)).settle) ∧
        (m.ref = 1 → s.linkWritten p m r.addr = false ∨ s.pathCode r.addr = 0 → exec (.release r tag) s =
          .next (((poolLooked s p i (busReq 3 r tag)).freeBob p i m).poolAnswer (answerTo (busReq 3 r tag) 0 r.addr)).settle)) ∧
      (r.newTag ≠ 0xFF → m.free = false → m.owner = r.master → m.owner ≠ 0xFF → m.prov = false →
        r.newTag = m.owner ∨ s.ledgerFull r.newTag = false → exec (.setOwner r tag) s =
          .next (((((poolLooked s p i (busReq 4 r tag)).ledgerDel m.owner r.addr).ledgerAdd r.newTag r.addr).setMeta p i { m with owner := r.newTag }).poolAnswer
            (answerTo (busReq 4 r tag) 0 r.addr (Meta.pack { m with owner := r.newTag }))).settle)) ∧
    (s.locate r.addr = none → exec (.query r tag) s = .next ((poolTaken s 64 (busReq 5 r tag)).poolAnswer (answerTo (busReq 5 r tag) 5)).settle ∧
      exec (.release r tag) s = .next (((poolTaken s 64 (busReq 3 r tag)).raise
        { cls := 4, level := some 1, master := r.master, access := 2, addr := r.addr }).poolAnswer (answerTo (busReq 3 r tag) 5)).settle)) ∧
  (∀ (s : State) (p : Fin 64) (k : Parked), s.held = false → (s.parkedOf p).find? (fun k => decide (k.due ≤ s.elapsed)) = some k →
    exec (.parkTimeout p) s = .next (((({ s with pool := { s.pool with parked := s.pool.parked.erase k } } : State).showParked p).bump
      (POOL_TIMEOUT_CNT p)).poolAnswer (answerTo k.req 2)).settle)

/-- A RELEASE, by a unit that is up, of a bobbin whose metadata word reads clean and which is free, holds no reference, or has
another generation than the one named, is answered UNDERFLOW (code 6) and discarded: the head of every free list, every ledger,
HBM and host memory are unchanged; POOL_STATUS.MISUSE reads 1, POOL_MISUSE_CNT has risen by 1 modulo 2^32, and POOL_UNDERFLOW is
brought to the collector at level CORRECTED with the bobbin's address, the releaser's master ID and access type atomic. Every
other register field, but the overflow bits of the performance counters, keeps its value, FREE of every pool among them. (R382) -/
def Obligations.ReleaseUnderflowIsDiscarded : Prop :=
  ∀ (s : State) (r : PoolReq) (tag p i : Nat), s.held = false → s.unitUp r.master = true → s.pool.queue = [] → s.flt.queue.length < 256 →
    s.locate r.addr = some (p, i) → s.pathCode (s.metaAddr p i) = 0 → s.findingOf (s.metaAddr p i) 8 = 0 →
    ((s.metaOf p i).free = true ∨ (s.metaOf p i).ref = 0 ∨ r.genChk = true ∧ (s.metaOf p i).gen ≠ r.gen) →
    ∃ t, exec (.release r tag) s = .next t ∧ t.pool.head = s.pool.head ∧ t.pool.ledger = s.pool.ledger ∧
      t.pool.parked = s.pool.parked ∧ t.hbm = s.hbm ∧ t.hostMem = s.hostMem ∧ t.mem = s.mem ∧
      t.rd (POOL_STATUS_MISUSE p) = 1 ∧ t.rd (POOL_MISUSE_CNT p) = (s.rd (POOL_MISUSE_CNT p) + 1) % 2 ^ 32 ∧
      RegsKept [POOL_STATUS_MISUSE p, POOL_MISUSE_CNT p, CNT_STATUS_OVF] s t ∧
      t.flt.queue = s.flt.queue ++
        [{ cls := 3, level := some 1, master := r.master, access := 2, addr := r.addr, at_ := s.elapsed }] ∧
      t.fab.resp = s.fab.resp ++ [{ master := r.master, tag := tag, code := 0, data := natLe 8 6 ++ natLe 8 0 ++ natLe 8 0 }]

/-- For each of the nine grains from 256 B to 64 KiB, the mapping of Table 10-1 takes two different atoms among the 36 GiB of a
stack to two different cells (pseudo-channel, stack ID and bank, row, column atom), and every cell it gives exists:
pseudo-channel below 32, SID below 3, bank number below 48, row below 24576, column below 16. (R392, 10_memory_controller.md) -/
def Obligations.AddressMappingIsOneToOne : Prop :=
  ∀ (k a b : Nat), k ≤ 8 → a < 0x900000000 → b < 0x900000000 → a % 64 = 0 → b % 64 = 0 →
    (cellOf (2 ^ (8 + k)) a = cellOf (2 ^ (8 + k)) b → a = b) ∧
    (cellOf (2 ^ (8 + k)) a).pch < 32 ∧ (cellOf (2 ^ (8 + k)) a).sid < 3 ∧ (cellOf (2 ^ (8 + k)) a).bank < 48 ∧
    (cellOf (2 ^ (8 + k)) a).row < 24576 ∧ (cellOf (2 ^ (8 + k)) a).col < 16

/-- MEM_REQUEST takes from the half's crossing queue the first request whose pseudo-channel's input queue holds fewer than 16, past
those whose queue is full, which stay where they are; it enters that input queue with the next arrival number, the time it left
the crossing queue and the mode in force at that moment, and moves on as far as entries are free. HBM and the registers are
unchanged. With every input queue full, or nothing waiting, nothing changes. (R393, R394, R399) -/
def Obligations.MemoryRequestsEnterTheirQueues : Prop :=
  ∀ (s : State) (k : Fin 2), s.held = false →
    (∀ pre r rest, s.xq k = pre ++ r :: rest → (∀ q ∈ pre, 16 ≤ (s.pch (s.gpch q.addr)).input.length) →
      (s.pch (s.gpch r.addr)).input.length < 16 →
      exec (.memRequest k) s = .next (let u := ({ (s.setXq k (pre ++ rest)) with mem := { (s.setXq k (pre ++ rest)).mem with seq := s.mem.seq + 1 } } : State)
        (u.setPch (s.gpch r.addr) (u.refill { s.pch (s.gpch r.addr) with
          input := (s.pch (s.gpch r.addr)).input ++ [{ req := r, addr := r.addr, since := s.elapsed, mode := s.rd MEM_MODE_MODE, seq := s.mem.seq }] } 17)).settle)) ∧
    ((∀ q ∈ s.xq k, 16 ≤ (s.pch (s.gpch q.addr)).input.length) → exec (.memRequest k) s = .next s.settle)

/-- On a pseudo-channel that is not paused, of a stack in ON or DRAINING, MEM_ISSUE performs the picked request, whose requester is
a unit that is up. A clean read is answered OKAY with the bytes of HBM; a read with an uncorrectable word, or a double-bit error
of the stack, is answered TARGET_ERROR without data; neither changes HBM, its marks, or any register but the error counters,
status bits and the fault counts. A write stores its bytes in HBM, is answered OKAY when no word it covers in part is
uncorrectable and TARGET_ERROR otherwise, and leaves every other byte as it was. An atomic answers the old word and stores the
new one. Host memory is unchanged. (R395, R407, R15, 10_memory_controller.md) -/
def Obligations.MemoryRequestsArePerformed : Prop :=
  ∀ (s : State) (p : Fin 64) (f : Fin 4) (m : MemReq), s.held = false → (s.pch p).pausing = false → s.isl (28 + p / 32) < islRETENTION →
    s.pick (s.pch p) = some m → s.fenced m.req.master = false → m.req.dead = false → m.req.master ≠ 0x40 →
    ∃ t, exec (.memIssue p f) s = .next t ∧ t.hostMem = s.hostMem ∧ t.pool = s.pool ∧
      (∀ q, q ≠ p.val → t.pch q = s.pch q) ∧
      (∀ n, m.req.kind = .read n → t.hbm = s.hbm ∧ t.mem.ecc = s.mem.ecc ∧
        (worse (s.findingOf m.addr n) f ≠ 2 ∨ n = 0 → t.fab = { s.fab with resp := s.fab.resp ++ [{ master := m.req.master, tag := m.req.tag, code := 0, data := memBytes s.hbm m.addr n }] }) ∧
        (worse (s.findingOf m.addr n) f = 2 → n ≠ 0 → t.fab = { s.fab with resp := s.fab.resp ++ [{ master := m.req.master, tag := m.req.tag, code := 5, data := [] }] }) ∧
        (s.findingOf m.addr n = 0 → f.val = 0 → t.flt = s.flt ∧ RegsKept [CNT_STATUS_OVF] s t)) ∧
      (∀ d, m.req.kind = .write d → t.hbm = memStore s.hbm m.addr d ∧
        t.fab = { s.fab with resp := s.fab.resp ++ [{ master := m.req.master, tag := m.req.tag, code := if s.partialUe m.addr d.length then 5 else 0, data := [] }] }) ∧
      (∀ d, m.req.kind = .atomic d → worse (s.findingOf (m.addr / 8 * 8) 8) f ≠ 2 → t.hbm = memStore s.hbm (m.addr / 8 * 8) (d.take 8) ∧
        t.fab = { s.fab with resp := s.fab.resp ++ [{ master := m.req.master, tag := m.req.tag, code := 0, data := memBytes s.hbm (m.addr / 8 * 8) 8 }] })

/-- In ON or DRAINING a refresh due is postponed while the bank holds a request of urgency DUE or more and fewer than 8 are
postponed; else it is issued with the postponed ones and closes the row. A trigger of R404 asks for a retraining; RETRAIN_NOW
asks for every pseudo-channel of the trained stacks. A pseudo-channel asked for begins its pause when no other of its half
pauses: at once without an URGENT request, else after it was put off for 256 CK_MC cycles. The end of a pause counts, and a
failure also sets RETRAIN_FAIL, counts and raises MEM_TRAIN with the pseudo-channel. A scrub read of a clean atom only moves the
scrubber on, and counts the pass at the end of the stack. (R400, R404, R405, R406, R409, 10_memory_controller.md) -/
def Obligations.RefreshRetrainingAndScrubbing : Prop :=
  (∀ (s : State) (p : Fin 64) (b : Fin 48), s.held = false → s.isl (28 + p / 32) ≤ islDRAINING →
    (((s.pch p).entries.any (fun m => (s.cell m.addr).bank == b.val && decide (1 ≤ s.urgency m))) = true ∧ (bankOf (s.pch p) b).postponed < 8 →
      exec (.refreshDue p b) s = .next (s.setPch p (setBank (s.pch p) b { bankOf (s.pch p) b with
        postponed := (bankOf (s.pch p) b).postponed + 1 })).settle) ∧
    (((s.pch p).entries.any (fun m => (s.cell m.addr).bank == b.val && decide (1 ≤ s.urgency m))) = false ∨ 8 ≤ (bankOf (s.pch p) b).postponed →
      exec (.refreshDue p b) s = .next (s.setPch p (setBank (s.pch p) b { bankOf (s.pch p) b with
        postponed := 0, refreshed := (bankOf (s.pch p) b).refreshed + (bankOf (s.pch p) b).postponed + 1, row := 0, hits := 0 })).settle)) ∧
  (∀ (s : State) (p : Fin 64), s.held = false →
    (s.retrainTrigger p = true → exec (.retrainDue p) s = .next (s.setPch p { s.pch p with trainAsked := true }).settle) ∧
    ((s.pch p).trainAsked = true → (∀ i < 32, (s.pch (p / 32 * 32 + i)).pausing = false) → (s.pch p).deferred = none →
      (((s.pch p).input ++ (s.pch p).entries).any (fun m => s.urgency m == 3) = false →
        exec (.retrainPause p) s = .next (s.setPch p { s.pch p with pausing := true, trainAsked := false }).settle) ∧
      (((s.pch p).input ++ (s.pch p).entries).any (fun m => s.urgency m == 3) = true →
        exec (.retrainPause p) s = .next (s.setPch p { s.pch p with deferred := some s.elapsed }).settle)) ∧
    (∀ t0, (s.pch p).trainAsked = true → (∀ i < 32, (s.pch (p / 32 * 32 + i)).pausing = false) → (s.pch p).deferred = some t0 →
      256 ≤ s.mcCycles (p / 32) (s.elapsed - t0) →
      exec (.retrainPause p) s = .next (s.setPch p { s.pch p with pausing := true, trainAsked := false, deferred := none }).settle) ∧
    ((s.pch p).pausing = true → (∃ i < 64, i ≠ p.val ∧ (s.pch i).trainAsked = true) →
      exec (.retrainDone p true) s = .next ((s.setPch p { s.pch p with
        pausing := false, trainedAt := s.elapsed, trainedTemp := some (s.memTemp (p / 32)) }).bump (MEM_RETRAIN_CNT (p / 32))).settle ∧
      exec (.retrainDone p false) s = .next (((((s.setPch p { s.pch p with
        pausing := false, trainedAt := s.elapsed, trainedTemp := some (s.memTemp (p / 32)) }).bump (MEM_RETRAIN_CNT (p / 32))).wr
        MEM_STATUS_RETRAIN_FAIL 1).bump (MEM_RETRAIN_FAIL_CNT (p / 32))).raise
        { cls := 15, level := some 1, master := 0xFF, access := 6, addr := p }).settle)) ∧
  (∀ s : State, s.held = false → ∃ t, exec .retrainNow s = .next t ∧
    (∀ p < 64, s.rd (MEM_STATUS_TRAINED (p / 32)) = 1 → t.pch p = { s.pch p with trainAsked := true }) ∧
    (∀ p, 64 ≤ p ∨ s.rd (MEM_STATUS_TRAINED (p / 32)) ≠ 1 → t.pch p = s.pch p) ∧ RegsKept [MEM_RETRAIN_NOW] s t ∧ t.hbm = s.hbm) ∧
  (∀ (s : State) (k : Fin 2), s.held = false → s.rd MEM_SCRUB_HOURS ≠ 0 → s.rd (MEM_STATUS_TRAINED k) = 1 →
    (∀ w < 8, s.eccOf ((if k.val = 0 then 0 else hbmSplit) + 64 * smGet 0 s.mem.scrub k + 8 * w) = 0) → smGet 0 s.mem.scrub k + 1 ≠ stackAtoms →
    exec (.scrubDue k 0) s = .next ({ s with mem := { s.mem with
      scrub := smSet 0 s.mem.scrub k ((smGet 0 s.mem.scrub k + 1) % stackAtoms) } } : State).settle)

/-- MODE takes NORMAL while it reads TEST and the engine is idle, TEST while it reads NORMAL, and NORMAL from STARTUP by the service
controller alone; any other write leaves MODE and sets MODE_REJECT. MEM_TEST_GO with the engine idle stores OP and PATTERN; in
TEST with a range inside one present stack that is ON and END not below START it clears the error count, sets GO and runs the
operation; else it only sets REJECT. MEM_TEST_DONE clears GO and sets DONE. ARM with TYPE CE or UE stores the address and type
and sets ARM; with TYPE 0 or 3 ARM stays as it is. (R399, R410, R411, 10_memory_controller.md) -/
def Obligations.MemoryModesTestEngineAndInjection : Prop :=
  (∀ (s : State) (svc : Bool) (m : Fin 4), s.held = false →
    ((m.val = 0 ∧ s.rd MEM_MODE_MODE = 2 ∧ s.rd MEM_TEST_CTL_GO ≠ 1) ∨ (m.val = 2 ∧ s.rd MEM_MODE_MODE = 0) ∨
      (svc = true ∧ m.val = 0 ∧ s.rd MEM_MODE_MODE = 1) → exec (.memModeWrite svc m) s = .next (s.wr MEM_MODE_MODE m).settle) ∧
    (¬((m.val = 0 ∧ s.rd MEM_MODE_MODE = 2 ∧ s.rd MEM_TEST_CTL_GO ≠ 1) ∨ (m.val = 2 ∧ s.rd MEM_MODE_MODE = 0) ∨
      (svc = true ∧ m.val = 0 ∧ s.rd MEM_MODE_MODE = 1)) → exec (.memModeWrite svc m) s = .next (s.wr MEM_STATUS_MODE_REJECT 1).settle)) ∧
  (∀ (s : State) (op pat : Fin 4), s.held = false → s.rd MEM_TEST_CTL_GO ≠ 1 →
    (s.rd MEM_MODE_MODE = 2 → s.testRangeOk = true → exec (.memTestGo op pat) s =
      .next (((((s.wr MEM_TEST_CTL_OP op).wr MEM_TEST_CTL_PATTERN pat).wr MEM_TEST_ERR_CNT 0).wr MEM_TEST_CTL_GO 1).testOp).settle) ∧
    (s.rd MEM_MODE_MODE ≠ 2 ∨ s.testRangeOk = false → exec (.memTestGo op pat) s =
      .next (((s.wr MEM_TEST_CTL_OP op).wr MEM_TEST_CTL_PATTERN pat).wr MEM_TEST_STATUS_REJECT 1).settle)) ∧
  (∀ s : State, s.held = false → s.rd MEM_TEST_CTL_GO = 1 →
    exec .memTestDone s = .next ((s.wr MEM_TEST_CTL_GO 0).wr MEM_TEST_STATUS_DONE 1).settle) ∧
  (∀ (s : State) (w : Word), s.held = false →
    (bitsOf w.toNat 16 2 = 1 ∨ bitsOf w.toNat 16 2 = 2 → exec (.memInjectArm w) s =
      .next (((s.wr MEM_INJECT_HI_ADDR (bitsOf w.toNat 0 9)).wr MEM_INJECT_HI_TYPE (bitsOf w.toNat 16 2)).wr MEM_INJECT_HI_ARM 1).settle) ∧
    (bitsOf w.toNat 16 2 = 0 ∨ bitsOf w.toNat 16 2 = 3 → exec (.memInjectArm w) s =
      .next ((s.wr MEM_INJECT_HI_ADDR (bitsOf w.toNat 0 9)).wr MEM_INJECT_HI_TYPE (bitsOf w.toNat 16 2)).settle))

/-- INT_SGI with TARGET t from 0 to 16 and K from 0 to 3 sets the pending bit of source 8t + K, before the arbitration of the step;
host inbound may name T0 to T15 only. A write by host inbound that names TS, and a write by any writer whose TARGET is 17 to 31,
sets nothing pending and sets INT_STATUS.TGT_REJECT: every other register keeps its value. (R448) -/
def Obligations.SoftwareInterrupts : Prop :=
  ∀ (s : State) (host : Bool) (t : Fin 32) (k : Fin 4), s.held = false →
    (t.val ≤ 15 ∨ t.val = 16 ∧ host = false → (s.wr (INT_SRC_PENDING (8 * t + k)) 1).rd (INT_SRC_PENDING (8 * t + k)) = 1 ∧
      exec (.intSgi host t k) s = .next ((s.wr (INT_SRC_PENDING (8 * t + k)) 1).arbitrate).settle) ∧
    (17 ≤ t.val ∨ t.val = 16 ∧ host = true → ∃ u, exec (.intSgi host t k) s = .next u ∧ u.rd INT_STATUS_TGT_REJECT = 1 ∧
      RegsKept [INT_STATUS_TGT_REJECT] s u ∧ u.intr = s.intr ∧ u.out = s.out)

/-- TIMER_ARM writes INT_TGT_TIMER_HI; with the compare value ahead of device time the timer is armed and nothing is pending by it;
with a value already in the past it fires at once. TIMER_FIRE on an armed timer whose compare value device time has reached sets
source 8t + 6 pending, disarms the timer and arbitrates; on one that is not armed, or not reached, it does nothing. (R449,
12_interrupt_controller.md) -/
def Obligations.TimersFireOnce : Prop :=
  ∀ (s : State) (t : Fin 17), s.held = false →
    (∀ hi : Word, s.devTime < 2 ^ 32 * hi.toNat + s.rd (INT_TGT_TIMER_LO t) → exec (.timerArm t hi) s =
      .next ({ s.wr (INT_TGT_TIMER_HI t) hi.toNat with intr := { s.intr with timerArmed := smSet false s.intr.timerArmed t true } } : State).settle) ∧
    (∀ hi : Word, 2 ^ 32 * hi.toNat + s.rd (INT_TGT_TIMER_LO t) ≤ s.devTime → ∃ m, smGet false m t = false ∧ (∀ u, u ≠ t.val → smGet false m u = smGet false s.intr.timerArmed u) ∧
      exec (.timerArm t hi) s = .next ((({ s.wr (INT_TGT_TIMER_HI t) hi.toNat with intr := { s.intr with timerArmed := m } } : State).wr
        (INT_SRC_PENDING (8 * t + 6)) 1).arbitrate).settle) ∧
    (smGet false s.intr.timerArmed t = true → s.timerAt t ≤ s.devTime → exec (.timerFire t) s =
      .next ((({ s with intr := { s.intr with timerArmed := smSet false s.intr.timerArmed t false } } : State).wr (INT_SRC_PENDING (8 * t + 6)) 1).arbitrate).settle) ∧
    (smGet false s.intr.timerArmed t = false ∨ s.devTime < s.timerAt t → exec (.timerFire t) s = .next s.settle)

/-- A read of INT_CLAIM of a signalled target returns its candidate's number and priority, which the register then shows; the source
becomes ACTIVE, loses its pending bit when it is latched, and stands with its priority on top of the target's stack, which sets
the running priority. A target that is not signalled returns source 0x3FF with priority 0 and pushes nothing. INT_EOI of the
source on top pops the stack, clears its ACTIVE and lets every target be evaluated, this one anew; 0x3FF is ignored; any other
value only sets BAD_EOI. (R454, R455, 12_interrupt_controller.md) -/
def Obligations.ClaimsAndEndsOfInterrupt : Prop :=
  ∀ (s : State) (t : Fin 17), s.held = false →
    (∀ p n, s.signal t = some (p, n) → n < 320 ∧ s.srcPending n = true ∧ s.rd (INT_SRC_ACTIVE n) ≠ 1 ∧ p < s.runPri t ∧
      exec (.intClaim t) s = .next (let a := s.wr (INT_SRC_ACTIVE n) 1
        let b := a.iff (a.on (INT_SRC_LATCHED n)) (·.wr (INT_SRC_PENDING n) 0)
        (((b.setStack t ((p, n) :: b.intStack t)).arbitrate.wr (INT_CLAIM_SOURCE t) n).wr (INT_CLAIM_PRIORITY t) p).settle)) ∧
    (s.signal t = none → exec (.intClaim t) s = .next (((s.wr (INT_CLAIM_SOURCE t) 0x3FF).wr (INT_CLAIM_PRIORITY t) 0)).settle) ∧
    exec (.intEoi t 0x3FF) s = .next s.settle ∧
    (∀ (n : Fin 1024) p rest, n.val ≠ 0x3FF → s.intStack t = (p, n.val) :: rest → exec (.intEoi t n) s =
      .next (((s.setStack t rest).wr (INT_SRC_ACTIVE n) 0).each (List.range 17) (fun u v => v.evalTarget u (u == t))).settle) ∧
    (∀ n : Fin 1024, n.val ≠ 0x3FF → (∀ p rest, s.intStack t ≠ (p, n.val) :: rest) →
      exec (.intEoi t n) s = .next (s.wr (INT_TGT_STATUS_BAD_EOI t) 1).settle)

/-- SOURCE_LEVEL_CHANGE brings the source's level to the controller and arbitrates. A write of INT_SRC of a shared source stores
PRIORITY (unless locked), EN and TARGET and ends its redirect; host inbound that meets TARGET 16, or a TARGET of 17 or more,
changes nothing and sets TGT_REJECT. Setting PARKED starts the park time, for T0 to T15 only. A park that has lasted longer than
TIMEOUT_US with a valid ALT redirects every shared source of the target to ALT, sets REDIRECTED and makes REDIRECT of ALT
pending. Clearing PARKED ends the redirect and evaluates the target anew. (R446, R452, R457, R458, R459, R460,
12_interrupt_controller.md) -/
def Obligations.SourcesAreRoutedAndParked : Prop :=
  (∀ (s : State) (n : Fin 320), s.held = false →
    exec (.sourceLevelChange n) s = .next ((s.wr (INT_SRC_LEVEL n) (b2n (s.srcCond n))).arbitrate).settle) ∧
  (∀ (s : State) (n : Fin 320) (w : Word), s.held = false → 136 ≤ n.val →
    (bitsOf w.toNat 16 5 < 16 → s.rd (INT_SRC_TARGET n) < 16 → s.rd WRP_STATUS_LOCKED ≠ 1 → n.val ∉ s.wrp.hold.sources →
      (∀ t < 16, s.rd (INT_TGT_STATUS_REDIRECTED t) = 0) → ∀ host,
      exec (.intSrcWrite host n w) s = .next ((((((s.wr (INT_SRC_PRIORITY n) (bitsOf w.toNat 8 4)).wr (INT_SRC_EN n) (bitOf w.toNat 0)).wr
        (INT_SRC_TARGET n) (bitsOf w.toNat 16 5)).wr (INT_SRC_REDIR n) 0).arbitrate)).settle) ∧
    (s.rd (INT_SRC_TARGET n) = 16 ∨ 16 ≤ bitsOf w.toNat 16 5 →
      exec (.intSrcWrite true n w) s = .next (s.wr INT_STATUS_TGT_REJECT 1).settle)) ∧
  (∀ (s : State) (t : Fin 17), s.held = false →
    (t.val < 16 → s.rd (INT_TGT_CTL_PARKED t) ≠ 1 → exec (.targetPark t) s = .next (({ s with
      intr := { s.intr with parkedAt := smSet 0 s.intr.parkedAt t s.devTime } } : State).wr (INT_TGT_CTL_PARKED t) 1).settle) ∧
    (t.val = 16 ∨ s.rd (INT_TGT_CTL_PARKED t) = 1 → exec (.targetPark t) s = .next s.settle) ∧
    (s.rd (INT_TGT_CTL_PARKED t) = 1 → exec (.targetUnpark t) s = .next (let u := (s.wr (INT_TGT_CTL_PARKED t) 0).wr (INT_TGT_STATUS_REDIRECTED t) 0
      ((u.each (u.sharedOf t) (fun n v => v.wr (INT_SRC_REDIR n) 0)).each (List.range 17) (fun i v => v.evalTarget i (i == t))).settle))) ∧
  (∀ (s : State) (t : Fin 16), s.held = false →
    (s.parkDue t = true → exec (.parkRedirect t) s = .next (let u := ({ s with intr := { s.intr with redirAlt := smSet 0 s.intr.redirAlt t (s.rd (INT_TGT_WAKE_ALT t)) } } : State)
      (((u.each ((u.sharedOf t).filter (fun n => !u.on (INT_SRC_REDIR n))) (fun n v => v.redirect n (s.rd (INT_TGT_WAKE_ALT t)))).wr
        (INT_TGT_STATUS_REDIRECTED t) 1).wr (INT_SRC_PENDING (8 * s.rd (INT_TGT_WAKE_ALT t) + 7)) 1).arbitrate.settle)) ∧
    (s.parkDue t = false → exec (.parkRedirect t) s = .next s.settle))

/-- MSIX_UNMASK clears the vector's mask, the function mask or MSI-X Enable's masking, and settles every held message whose vector
is free now; with none held nothing more happens. HOST_DIS_WRITE stores HOST_DIS and evaluates every target, and host targets
anew when HOST_DIS returns to 0. Whenever a host target that is signalled is evaluated anew, not parked, with its vector masked
by nothing, exactly one message leaves: vector 32t + p with the address and data of the MSI-X table. (R461, R462, R464,
12_interrupt_controller.md) -/
def Obligations.MessagesHeldAndReleased : Prop :=
  (∀ (s : State) (what : Fin 515), s.held = false → (∀ t < 16, s.heldOf t = []) →
    exec (.msixUnmask what) s = .next (if what.val < 512 then s.wr (MSIX_CTRL_MASK what) 0
      else if what.val = 512 then { s with pcie := { s.pcie with msixEn := true } }
      else if what.val = 513 then { s with pcie := { s.pcie with fnMask := false } } else s : State).settle) ∧
  (∀ (s : State) (t v : Nat), s.held = false → t < 16 → s.heldOf t = [v] → s.vectorMasked v = false →
    (∀ u < 16, u ≠ t → s.heldOf u = []) →
    exec (.msixUnmask 514) s = .next ((s.dropHeld t).evalTarget t true).settle) ∧
  (∀ s : State, s.held = false → exec (.hostDisWrite true) s = .next ((s.wr INT_GCTL_HOST_DIS 1).each (List.range 17)
      (fun t u => u.evalTarget t false)).settle) ∧
  (∀ (s : State) (t p n : Nat), t < 16 → s.signal t = some (p, n) → s.rd (INT_TGT_CTL_PARKED t) ≠ 1 → s.vectorMasked (32 * t + p) = false →
    ∃ u, s.evalTarget t true = u ∧ u.out = .msix (32 * t + p) (2 ^ 32 * s.rd (MSIX_ADDR_HI (32 * t + p)) + s.rd (MSIX_ADDR_LO (32 * t + p))) (s.rd (MSIX_DATA (32 * t + p))) :: s.out ∧
      RegsKept [CNT_STATUS_OVF] s u)

/-- FAULT_TAKE removes the class's next fault from the queue, counts it, and makes the class RAISED. A fault of a CLEAR class takes
its rule level and is captured: master, access, context, level, address and a time within 8 ns of device time. A fault of a
RAISED class takes max(rule, current, min(current + 1, CEIL)), at most DEVICE, and the capture keeps what it held. Stated for a
level below UNIT without a named context, and for classes other than a parity stop; the only other registers that may change are
the summary, the log number, the dropped-log count and the counter overflow bits. At level DEVICE the warm-start record is
cleared, and a start in progress fails. (R24, R468, R469, R470, R471, 13_faults_and_counters.md) -/
def Obligations.FaultsAreTaken : Prop :=
  ∀ (s : State) (c : Fin 24) (f : FaultReq) (r l : Nat), s.held = false → s.nextFault c = some f → f.level.getD (defaultLevel c) = r →
    f.names = false → f.injected = true ∨ c.val ≠ 10 →
    (s.rd (FLT_CLASS_RAISED c) ≠ 1 → l = min 4 r) → (s.rd (FLT_CLASS_RAISED c) = 1 →
      l = min 4 (max r (max (s.rd (FLT_CLASS_LEVEL c)) (min (s.rd (FLT_CLASS_LEVEL c) + 1) (min 4 (s.rd (FLT_CLASS_CEIL c))))))) →
    (l < 3 → ∃ t, exec (.faultTake c) s = .next t ∧ t.flt.queue = s.flt.queue.erase f ∧ t.rd (FLT_CLASS_RAISED c) = 1 ∧
      t.rd (FLT_CLASS_LEVEL c) = l ∧ t.rd (FLT_COUNT c) = (s.rd (FLT_COUNT c) + 1) % 2 ^ 32 ∧ t.rd FLT_STATE_ANY = 1 ∧
      (s.rd (FLT_CLASS_RAISED c) ≠ 1 → t.rd (FLT_FIRST_INFO_MASTER c) = f.master % 256 ∧ t.rd (FLT_FIRST_INFO_ACCESS c) = f.access % 8 ∧
        t.rd (FLT_FIRST_INFO_LEVEL c) = l ∧ t.rd (FLT_FIRST_INFO_VALID c) = 1 ∧ t.rd (FLT_FIRST_ADDR_LO c) = f.addr % 2 ^ 32 ∧
        (∃ d ≤ 16, t.rd (FLT_FIRST_TIME_LO c) = (s.devTime + d - 8) % 2 ^ 32)) ∧
      (s.rd (FLT_CLASS_RAISED c) = 1 → ∀ F ∈ [FLT_FIRST_INFO_MASTER c, FLT_FIRST_INFO_ACCESS c, FLT_FIRST_INFO_CTX c,
        FLT_FIRST_INFO_LEVEL c, FLT_FIRST_INFO_VALID c, FLT_FIRST_ADDR_LO c, FLT_FIRST_TIME_LO c], t.rd F = s.rd F) ∧
      RegsKept [FLT_CLASS_RAISED c, FLT_CLASS_LEVEL c, FLT_COUNT c, FLT_FIRST_INFO_MASTER c, FLT_FIRST_INFO_ACCESS c,
        FLT_FIRST_INFO_CTX c, FLT_FIRST_INFO_LEVEL c, FLT_FIRST_INFO_VALID c, FLT_FIRST_ADDR_LO c, FLT_FIRST_TIME_LO c,
        FLT_SUMMARY, FLT_STATE_HIGHEST, FLT_STATE_ANY, FLT_STATE_DEVICE, FLT_LOG_SEQ_LO, FLT_LOG_DROP, CNT_STATUS_OVF] s t) ∧
    (l = 4 → ∃ t, exec (.faultTake c) s = .next t ∧ t.sec.warm = none ∧
      (s.sec.starting = true → s.sec.failing = none → t.sec.failing = some 8) ∧ t.hbm = s.hbm ∧ t.hostMem = s.hostMem)

/-- FAULT_ACK in a cycle in which no fault of the class is taken, of a RAISED class whose condition does not hold makes it CLEAR,
with its capture registers at their reset values and the summary up to date; while its condition holds, the fault is taken anew
at once. Of a CLEAR class it does nothing. In the cycle in which a waiting fault of the class is taken the set wins: it is
FAULT_TAKE. FAULT_INJECT with a class that exists and a level from NOTE to DEVICE, or 7 for the default, raises that fault with
master 0x40; any other value raises nothing. A read of FLT_LOG_SEQ_LO, FLT_FIRST_ADDR_LO or FLT_FIRST_TIME_LO latches the upper
word of the value it belongs to. COMPLETES: faultAck, faultInject and faultLoRead each answer a next state with their own
effect. (R9, R474, R475, R478, 13_faults_and_counters.md) -/
def Obligations.FaultsAcknowledgedInjectedAndRead : Prop :=
  (∀ (s : State) (c : Fin 24) (b : Bool), s.held = false →
    (b = true → (s.nextFault c).isSome = true → exec (.faultAck ⟨c, b⟩) s = .next (s.faultTake c).settle) ∧
    (b = false ∨ s.nextFault c = none →
    (s.rd (FLT_CLASS_RAISED c) = 1 → (((s.wr (FLT_CLASS_RAISED c) 0).freeCapture c).showFaults).faultCause c = false →
      exec (.faultAck ⟨c, b⟩) s = .next (((s.wr (FLT_CLASS_RAISED c) 0).freeCapture c).showFaults).settle) ∧
    (s.rd (FLT_CLASS_RAISED c) = 1 → (((s.wr (FLT_CLASS_RAISED c) 0).freeCapture c).showFaults).faultCause c = true →
      exec (.faultAck ⟨c, b⟩) s = .next ((((s.wr (FLT_CLASS_RAISED c) 0).freeCapture c).showFaults).takeFault (s.causeFault c) true).settle) ∧
    (s.rd (FLT_CLASS_RAISED c) ≠ 1 → exec (.faultAck ⟨c, b⟩) s = .next s.settle))) ∧
  (∀ (s : State) (c : Fin 32) (l : Fin 8), s.held = false →
    (c.val < 24 → l.val < 5 → exec (.faultInject c l) s = .next (s.raise { cls := c, level := some l, master := 0x40, injected := true }).settle) ∧
    (c.val < 24 → l.val = 7 → exec (.faultInject c l) s = .next (s.raise { cls := c, master := 0x40, injected := true }).settle) ∧
    (24 ≤ c.val ∨ l.val = 5 ∨ l.val = 6 → exec (.faultInject c l) s = .next s.settle) ∧
    (c.val < 24 → l.val < 5 → s.flt.queue.length < 256 → ∃ t, exec (.faultInject c l) s = .next t ∧ RegsKept [] s t ∧ t.flt.queue = s.flt.queue ++
      [{ cls := c, level := some l.val, master := 0x40, injected := true, at_ := s.elapsed }])) ∧
  (∀ (s : State) (c : Fin 24), s.held = false → s.rd (FLT_CLASS_RAISED c) = 1 →
    (((s.wr (FLT_CLASS_RAISED c) 0).freeCapture c).showFaults).faultCause c = false → ∃ t, exec (.faultAck ⟨c, false⟩) s = .next t ∧
    t.rd (FLT_CLASS_RAISED c) = 0 ∧ t.flt.queue = s.flt.queue ∧ t.hbm = s.hbm) ∧
  (∀ s : State, s.held = false → exec (.faultLoRead 0) s = .next (s.wr FLT_LOG_SEQ_HI (s.flt.seq / 2 ^ 32)).settle) ∧
  (∀ (s : State) (w : Fin 49) (c : Fin 24), s.held = false →
    (w.val = 1 + 2 * c → exec (.faultLoRead w) s = .next (s.wr (FLT_FIRST_ADDR_HI c) ((smGet (0, 0) s.flt.cap c).1 / 2 ^ 32)).settle) ∧
    (w.val = 2 + 2 * c → exec (.faultLoRead w) s = .next (s.wr (FLT_FIRST_TIME_HI c) ((smGet (0, 0) s.flt.cap c).2 / 2 ^ 32)).settle))

/-- COUNTER_CLEAR leaves every counter at 0 and no register changed. A read of CNT_VAL_LO of a counter that is not the high half of
a chained pair makes its two words show the count as it stands, and with the next counter chained to it that counter's two words
as well, so that the four read as one value; the counts themselves do not change. A read of the high half of a chained pair
leaves what the read of the low half latched. (R481, R484, 13_faults_and_counters.md) -/
def Obligations.CountersClearedAndRead : Prop :=
  (∀ s : State, s.held = false → ∃ t, exec .counterClear s = .next t ∧ (∀ i, t.cnt i = 0) ∧ RegsKept [] s t ∧ t.hbm = s.hbm) ∧
  (∀ (s : State) (i : Fin 32), s.held = false →
    (i.val % 2 = 1 → s.rd (CNT_CTL_CHAIN i) = 1 → exec (.counterRead i) s = .next s.settle) ∧
    (i.val % 2 = 0 ∨ s.rd (CNT_CTL_CHAIN i) ≠ 1 → ∃ t, exec (.counterRead i) s = .next t ∧ t.cntLive = s.cntLive ∧
      t.rd (CNT_VAL_LO i) = s.cnt i % 2 ^ 32 ∧ t.rd (CNT_VAL_HI i) = s.cnt i / 2 ^ 32 % 2 ^ 16 ∧
      (i.val % 2 = 0 → s.rd (CNT_CTL_CHAIN (i + 1)) = 1 → t.rd (CNT_VAL_LO (i + 1)) = s.cnt (i + 1) % 2 ^ 32 ∧
        t.rd (CNT_VAL_HI (i + 1)) = s.cnt (i + 1) / 2 ^ 32 % 2 ^ 16) ∧
      RegsKept [CNT_VAL_LO i, CNT_VAL_HI i, CNT_VAL_LO (i + 1), CNT_VAL_HI (i + 1)] s t))

/-- Any command word written while BUSY is 1 is rejected. In IDLE one stores LOG2_SIZE and MODE. DMA_ENABLE there, with 16 to 65536
descriptors, a mode of 0 to 2 and aligned ring and record addresses, clears HEAD, TAIL and CAUSE and enters RUNNING; a size or
mode outside this is rejected, as is ENABLE in another state. DMA_STOP of a RUNNING or HALTED channel enters STOPPING with BUSY
1, and IDLE at once when no descriptor is started; in IDLE it is rejected. DMA_RESUME of a HALTED channel fetches again from
HEAD in RUNNING; else it is rejected. A TAIL inside the ring is stored with its time, within 8 ns of device time; one outside is
rejected. COMPLETES: DMA_NOP, DMA_ENABLE, DMA_STOP, DMA_RESUME, DMA_TAIL_WRITE. (R24, R427, R428, R429, R441, R443,
11_host_interface_and_dma.md) -/
def Obligations.DmaChannelCommands : Prop :=
  ∀ (s : State) (c : Fin 64) (w : Word), s.held = false →
    (s.rd (DMA_STATUS_BUSY c) = 1 → exec (.dmaNop c w) s = .next (s.dmaReject c).settle ∧ exec (.dmaEnable c w) s = .next (s.dmaReject c).settle ∧
      exec (.dmaStop c w) s = .next (s.dmaReject c).settle ∧ exec (.dmaResume c w) s = .next (s.dmaReject c).settle) ∧
    (s.chanState c = dmaIDLE → s.rd (DMA_STATUS_BUSY c) ≠ 1 → exec (.dmaNop c w) s = .next ((s.wr (DMA_CTL_LOG2_SIZE c) (bitsOf w.toNat 16 5)).wr (DMA_CTL_MODE c) (bitsOf w.toNat 0 2)).settle) ∧
    (s.chanState c ≠ dmaIDLE → s.rd (DMA_STATUS_BUSY c) ≠ 1 → bitsOf w.toNat 16 5 = s.rd (DMA_CTL_LOG2_SIZE c) → bitsOf w.toNat 0 2 = s.rd (DMA_CTL_MODE c) →
      exec (.dmaNop c w) s = .next s.settle) ∧
    (s.chanState c ≠ dmaIDLE → s.rd (DMA_STATUS_BUSY c) ≠ 1 → bitsOf w.toNat 16 5 ≠ s.rd (DMA_CTL_LOG2_SIZE c) ∨ bitsOf w.toNat 0 2 ≠ s.rd (DMA_CTL_MODE c) →
      exec (.dmaNop c w) s = .next (s.dmaReject c).settle) ∧
    (s.rd (DMA_STATUS_BUSY c) ≠ 1 →
      (s.chanState c = dmaIDLE → s.rd (DMA_RING_LO c) % 64 = 0 → s.rd (DMA_CREC_LO c) % 16 = 0 →
        (4 ≤ bitsOf w.toNat 16 5 → bitsOf w.toNat 16 5 ≤ 16 → bitsOf w.toNat 0 2 ≠ 3 → exec (.dmaEnable c w) s =
          .next (((((((s.wr (DMA_CTL_LOG2_SIZE c) (bitsOf w.toNat 16 5)).wr (DMA_CTL_MODE c) (bitsOf w.toNat 0 2)).wr (DMA_HEAD c) 0).wr
            (DMA_TAIL c) 0).wr (DMA_STATUS_CAUSE c) 0).modChan c (fun _ => {})).setChan c dmaRUNNING).settle) ∧
        (bitsOf w.toNat 16 5 < 4 ∨ 16 < bitsOf w.toNat 16 5 ∨ bitsOf w.toNat 0 2 = 3 → exec (.dmaEnable c w) s =
          .next (((s.wr (DMA_CTL_LOG2_SIZE c) (bitsOf w.toNat 16 5)).wr (DMA_CTL_MODE c) (bitsOf w.toNat 0 2)).dmaReject c).settle)) ∧
      (s.chanState c ≠ dmaIDLE → exec (.dmaEnable c w) s = .next (s.dmaReject c).settle) ∧
      (s.chanState c = dmaRUNNING ∨ s.chanState c = dmaHALTED → (s.chan c).started ≠ [] →
        exec (.dmaStop c w) s = .next (s.setChan c dmaSTOPPING).settle) ∧
      (s.chanState c = dmaRUNNING ∨ s.chanState c = dmaHALTED → (s.chan c).started = [] →
        exec (.dmaStop c w) s = .next ((s.setChan c dmaSTOPPING).setChan c dmaIDLE).settle) ∧
      (s.chanState c = dmaHALTED → exec (.dmaResume c w) s = .next ((s.modChan c (fun r => { r with
        nextIdx := s.rd (DMA_HEAD c), stopAt := none })).setChan c dmaRUNNING).settle) ∧
      (s.chanState c = dmaRUNNING → exec (.dmaResume c w) s = .next (s.dmaReject c).settle)) ∧
    (w.toNat % 65536 < s.ringSize c → ∃ (d : Nat) (t : State), d ≤ 16 ∧ t = { s with fresh := t.fresh } ∧
      exec (.dmaTailWrite c w) s = .next ((t.wr (DMA_TAIL c) w.toNat).modChan c (fun r => { r with
      bells := r.bells ++ [(w.toNat % 65536, s.devTime + d - 8)] })).settle) ∧
    (s.ringSize c ≤ w.toNat % 65536 → exec (.dmaTailWrite c w) s = .next (s.dmaReject c).settle)

/-- On a RUNNING channel of mode H2D or D2H with nothing started, whose engine is up and whose TAIL lies ahead, a fetched descriptor
that is the device's and valid starts, and the next one is fetched after it; nothing is written. One that is not is written back
with status BAD_DESC and length 0: the 12 bytes at its offset 20, with OWN 0, go to host memory; HEAD passes it, and the channel
is HALTED with CAUSE 3, HALT set and DMA_CHAN raised. A fetch that fails on the link halts it with CAUSE 4. COMPLETES:
DESC_FETCHED. (R430, R432, R433, R440, 11_host_interface_and_dma.md) -/
def Obligations.DescriptorsFetchedAndWrittenBack : Prop :=
  ∀ (s : State) (c : Fin 64), s.held = false → s.mayFetch c = true → s.streams c = false → (s.chan c).started = [] →
    (∀ l d, descOf (s.chan c).nextIdx l = d → badDesc false d = false → exec (.descFetched c false [l]) s =
      .next ((((s.descAsk c).modChan c (fun r => { r with nextIdx := (d.index + 1) % s.ringSize c })).modChan c (fun r => { r with
        started := r.started ++ [d] })).dropBells c d.index).settle) ∧
    (∀ l d, descOf (s.chan c).nextIdx l = d → badDesc false d = true → bitSet d.word 5 = false →
      ∃ t, exec (.descFetched c false [l]) s = .next t ∧ t.chanState c = dmaHALTED ∧ t.rd (DMA_STATUS_CAUSE c) = 3 ∧
        t.rd (DMA_STATUS_HALT c) = 1 ∧ t.rd (DMA_HEAD c) = (d.index + 1) % s.ringSize c % 65536 ∧ (t.chan c).started = [] ∧ t.hbm = s.hbm ∧
        (∃ v ≤ 16, t.hostMem = memStore (memStore s.hostMem (s.descAddr c d.index + 24) (natLe 4 3 ++ natLe 4 ((s.devTime + v - 8) % 2 ^ 32)))
          (s.descAddr c d.index + 20) (natLe 4 (withoutBit d.word 0)))) ∧
    (∀ l, ∃ t, exec (.descFetched c true l) s = .next t ∧ t.chanState c = dmaHALTED ∧ t.rd (DMA_STATUS_CAUSE c) = 4 ∧
      t.rd (DMA_STATUS_HALT c) = 1 ∧ t.rd (DMA_HEAD c) = s.rd (DMA_HEAD c) ∧ t.hbm = s.hbm ∧ t.hostMem = s.hostMem)

/-- On a RUNNING channel with mastering and its engine up, a transfer within one 4 KiB piece of an HBM stack that is ON, of the only
started descriptor, without completion record: H2D stores exactly the bytes that came at the descriptor's bobbin address, D2H
posts exactly the bytes of HBM there to its host address; the descriptor is then written back OK with its length and OWN 0, HEAD
passes it, and DONE sets when IRQ is asked for. Nothing else of HBM changes. COMPLETES: DESC_COMPLETE. (R433, R434, R436, R437,
11_host_interface_and_dma.md) -/
def Obligations.TransfersMoveTheirBytes : Prop :=
  ∀ (s : State) (c : Fin 64) (d : Desc) (idx : Fin 65536) (data : List Byte), s.held = false → s.chanState c = dmaRUNNING →
    (s.chan c).started = [d] → d.index = idx.val → d.ended = none → s.mayMove c d = true → (s.chan c).stopAt = none → bitSet d.word 5 = false →
    0 < d.len → d.devAddr % 4096 + d.len ≤ 4096 → d.devAddr + d.len ≤ hbmEnd → s.unitCode d.devAddr = 0 →
    (s.rd (DMA_CTL_MODE c) = 0 → data.length = d.len → s.partialUe d.devAddr d.len = false → ∃ t,
      exec (.descComplete c idx data false) s = .next t ∧ t.hbm = memStore s.hbm d.devAddr data ∧
        (∃ v ≤ 16, t.hostMem = memStore (memStore s.hostMem (s.descAddr c idx + 24) (natLe 4 (d.len * 256) ++ natLe 4 ((s.devTime + v - 8) % 2 ^ 32)))
          (s.descAddr c idx + 20) (natLe 4 (withoutBit d.word 0))) ∧
        t.rd (DMA_HEAD c) = (idx.val + 1) % s.ringSize c % 65536 ∧ (bitSet d.word 4 = true → t.rd (DMA_STATUS_DONE c) = 1) ∧
        (t.chan c).started = [] ∧ t.chanState c = dmaRUNNING) ∧
    (s.rd (DMA_CTL_MODE c) = 1 → s.findingOf d.devAddr d.len < 2 → ∃ t,
      exec (.descComplete c idx data false) s = .next t ∧ t.hbm = s.hbm ∧
        (∃ v ≤ 16, t.hostMem = memStore (memStore (memStore s.hostMem d.hostAddr (memBytes s.hbm d.devAddr d.len)) (s.descAddr c idx + 24)
          (natLe 4 (d.len * 256) ++ natLe 4 ((s.devTime + v - 8) % 2 ^ 32))) (s.descAddr c idx + 20) (natLe 4 (withoutBit d.word 0))) ∧
        t.rd (DMA_HEAD c) = (idx.val + 1) % s.ringSize c % 65536 ∧ (bitSet d.word 4 = true → t.rd (DMA_STATUS_DONE c) = 1) ∧
        (t.chan c).started = [] ∧ t.chanState c = dmaRUNNING)

/-- While BUSY is 1 every command, NOP too, is rejected with WHY 1. Else, in IDLE the command word stores the configuration fields.
CTX_OPEN there, with a declaration and a binding that pass, clears the context's counters, its picture list and the counters of
its flow, starts it with no job and its flow with no last number, and enters OPEN; a declaration that fails is rejected with WHY
2, a context in another state with WHY 1. CTX_START in OPEN, of a class no reweave holds: when every admission test passes the
load is entered, the context waits for its prefix and RUNNING is entered; the first test that fails sets ADMIT_FAIL with its
WHY, and nothing else. After a command other than NOP the scheduler chooses again. COMPLETES: CTX_NOP, CTX_OPEN, CTX_START.
(R49, R50, R52, R53, R68, R69, R70, R71, R171) -/
def Obligations.ContextCommandsUpToRunning : Prop :=
  ∀ (s : State) (n : Fin 128) (w : Word), s.held = false →
    (s.rd (STC_STATUS_BUSY n) = 1 → s.ctxState n ≠ ctxIDLE → ∀ c ∈ [Instr.ctxNop n w, .ctxOpen n w, .ctxStart n w, .ctxPause n w, .ctxResume n w,
      .ctxStop n w, .ctxClose n w, .ctxFlush n w, .ctxRecover n w], exec c s = .next (s.ctxReject n 1).settle) ∧
    (s.rd (STC_STATUS_BUSY n) ≠ 1 → s.ctxState n ≠ ctxIDLE → exec (.ctxNop n w) s = .next s.settle) ∧
    (s.rd (STC_STATUS_BUSY n) ≠ 1 → s.ctxState n = ctxIDLE → exec (.ctxNop n w) s = .next ((((((s.wr (STC_CTL_VSD n) (bitOf w.toNat 19)).wr
      (STC_CTL_RUNAHEAD n) (bitOf w.toNat 18)).wr (STC_CTL_GANG n) (bitOf w.toNat 17)).wr (STC_CTL_CLASS n) (bitsOf w.toNat 14 2)).wr
      (STC_CTL_SOURCE n) (bitsOf w.toNat 12 2)).wr (STC_CTL_FLOW n) (bitsOf w.toNat 0 8)).settle) ∧
    (s.rd (STC_STATUS_BUSY n) ≠ 1 →
      (∀ f, s.ctxFields n w.toNat = f → f.ctxState n = ctxIDLE → f.rd (STC_STATUS_BUSY n) ≠ 1 →
        ((f.declOk n && f.bindOk n) = true → exec (.ctxOpen n w) s = .next (let a := f.each (ctxCounters n) (fun F t => t.wr F 0)
          let b := a.each (List.range 64) (fun i t => t.each (listEntry n i) (fun F u => u.wr F 0))
          let d := (b.each ((b.flowsOf n).flatMap flowCounters) (fun F t => t.wr F 0)).modCtx n (fun c => { busyOn := c.busyOn })
          (((d.each (d.flowsOf n) (fun f t =>
            { t with ing := { t.ing with flows := smSet {} t.ing.flows f { (smGet {} t.ing.flows f : Flow) with last := 0 } } })).wr (STC_STATUS_STATE n) ctxOPEN).dispatch).settle)) ∧
        ((f.declOk n && f.bindOk n) = false → exec (.ctxOpen n w) s = .next ((f.ctxReject n 2).dispatch).settle)) ∧
      (s.ctxState n ≠ ctxIDLE → exec (.ctxOpen n w) s = .next ((s.ctxReject n 1).dispatch).settle) ∧
      (s.ctxState n = ctxOPEN → s.wrp.hold.classes.contains (s.ctxClass n) = false →
        (s.admitWhy n = 0 → exec (.ctxStart n w) s = .next (((((s.charge n).modCtx n (fun c => { c with pfxDue := true })).wr
          (STC_STATUS_STATE n) ctxRUNNING).showHomes).dispatch).settle) ∧
        (∀ y, s.admitWhy n = y → y ≠ 0 → exec (.ctxStart n w) s =
          .next (((s.wr (STC_STATUS_ADMIT_FAIL n) 1).wr (STC_STATUS_WHY n) y).dispatch).settle)) ∧
      (s.ctxState n ≠ ctxIDLE → s.ctxState n ≠ ctxOPEN → exec (.ctxStart n w) s = .next ((s.ctxReject n 1).dispatch).settle))

/-- With BUSY 0 and outside IDLE: PAUSE of a RUNNING context cancels what is pending except reposted jobs, drops the access unit
being built and enters PAUSED. RESUME of a PAUSED one, of a class no reweave holds, waits for a random-access point and the
prefix and enters RUNNING. STOP of a RUNNING or PAUSED one does what PAUSE does and enters DRAINING with BUSY, which ends at
once when no job is left. CLOSE of an OPEN or FAULTED one gives back all it holds, clears PIC_OUT and enters IDLE. FLUSH of a
RUNNING one cancels every pending job and waits for a random-access point. RECOVER of a FAULTED one enters OPEN once FAULT is
cleared, else WHY is 7. In DRAINING each is rejected with WHY 1. COMPLETES with its own effect (exec answers a next state, and
its new state of the context is named): CTX_PAUSE, CTX_RESUME, CTX_STOP, CTX_CLOSE, CTX_FLUSH, CTX_RECOVER. (R53, R55, R56, R57,
R59, R60, R116, R121) -/
def Obligations.ContextCommandsFromRunning : Prop :=
  ∀ (s : State) (n : Fin 128) (w : Word), s.held = false → s.rd (STC_STATUS_BUSY n) ≠ 1 → s.ctxState n ≠ ctxIDLE →
    (s.ctxState n = ctxRUNNING →
      exec (.ctxPause n w) s = .next (((((s.cancelPending n true).dropBuilding n).wr (STC_STATUS_STATE n) ctxPAUSED).dispatch).settle) ∧
      exec (.ctxFlush n w) s = .next ((((((s.cancelPending n false).dropBuilding n).wr (STC_DAMAGE_RAP_WAIT n) 1).modCtx n
        (fun c => { c with pfxDue := true })).dispatch).settle)) ∧
    (s.ctxState n = ctxPAUSED → s.wrp.hold.classes.contains (s.ctxClass n) = false → exec (.ctxResume n w) s =
      .next ((((s.wr (STC_DAMAGE_RAP_WAIT n) 1).modCtx n (fun c => { c with pfxDue := true })).wr (STC_STATUS_STATE n) ctxRUNNING).dispatch).settle) ∧
    (s.ctxState n = ctxRUNNING ∨ s.ctxState n = ctxPAUSED → exec (.ctxStop n w) s =
      .next ((((((s.cancelPending n true).dropBuilding n).wr (STC_STATUS_STATE n) ctxDRAINING).wr (STC_STATUS_BUSY n) 1).drainEnd n).dispatch).settle) ∧
    (s.ctxState n = ctxOPEN ∨ s.ctxState n = ctxFAULTED → exec (.ctxClose n w) s =
      .next ((((((((s.cancelPending n false).dropBuilding n).releasePics n).plyForget n)).wr (STC_PIC_OUT n) 0).wr (STC_STATUS_STATE n) ctxIDLE).dispatch).settle) ∧
    (s.ctxState n = ctxFAULTED → (s.rd (STC_STATUS_FAULT n) ≠ 1 → exec (.ctxRecover n w) s =
        .next ((s.wr (STC_STATUS_STATE n) ctxOPEN).dispatch).settle) ∧
      (s.rd (STC_STATUS_FAULT n) = 1 → exec (.ctxRecover n w) s = .next ((s.ctxReject n 7).dispatch).settle)) ∧
    (s.ctxState n = ctxRUNNING → (∃ t, exec (.ctxPause n w) s = .next t ∧ t.ctxState n = ctxPAUSED) ∧
      (∃ t, exec (.ctxFlush n w) s = .next t ∧ t.ctxState n = ctxRUNNING ∧ t.rd (STC_DAMAGE_RAP_WAIT n) = 1)) ∧
    (s.ctxState n = ctxPAUSED → s.wrp.hold.classes.contains (s.ctxClass n) = false →
      ∃ t, exec (.ctxResume n w) s = .next t ∧ t.ctxState n = ctxRUNNING ∧ t.rd (STC_DAMAGE_RAP_WAIT n) = 1) ∧
    (s.ctxState n = ctxRUNNING ∨ s.ctxState n = ctxPAUSED → ∃ t, exec (.ctxStop n w) s = .next t ∧
      (t.ctxState n = ctxDRAINING ∧ t.rd (STC_STATUS_BUSY n) = 1 ∨ t.ctxState n = ctxOPEN ∧ t.rd (STC_STATUS_BUSY n) = 0)) ∧
    (s.ctxState n = ctxOPEN ∨ s.ctxState n = ctxFAULTED →
      ∃ t, exec (.ctxClose n w) s = .next t ∧ t.ctxState n = ctxIDLE ∧ t.rd (STC_PIC_OUT n) = 0) ∧
    (s.ctxState n = ctxFAULTED → s.rd (STC_STATUS_FAULT n) ≠ 1 → ∃ t, exec (.ctxRecover n w) s = .next t ∧ t.ctxState n = ctxOPEN) ∧
    (s.ctxState n = ctxDRAINING → ∀ c ∈ [Instr.ctxPause n w, .ctxResume n w, .ctxStop n w, .ctxClose n w, .ctxFlush n w, .ctxRecover n w],
      exec c s = .next ((s.ctxReject n 1).dispatch).settle)

/-- JOB_POST, when the first waiting access unit of a RUNNING context that holds fewer than 16 posted jobs waits for no playout
time, moves it to the end of the posted jobs with the deadline r + PERIOD, and SLACK besides when the class is not LIVE, and the
scheduler chooses. PLAYOUT_DUE does the same once device time has reached its playout time, and nothing before. COMPLETES:
JOB_POST, PLAYOUT_DUE. With 16 jobs held (log entry 68: the dispatched and the run-ahead job count), or a context that is not
RUNNING, nothing is posted. (R74, R75, R76, R128) -/
def Obligations.AccessUnitsArePosted : Prop :=
  ∀ (s : State) (n : Fin 128) (shape : PicShape) (p : ToPost) (rest : List ToPost), s.held = false → (s.ctx n).toPost = p :: rest →
    (s.ctxState n = ctxRUNNING → s.heldJobs n < 16 → ∀ j, j = { p.job with ctx := n.val, shape := shape, d := if s.ctxClass n = 0 then p.job.r + s.rd (STC_PERIOD_PERIOD n) else p.job.r + s.rd (STC_PERIOD_PERIOD n) + s.rd (STC_SLACK_NS n) } →
      (p.due = none → exec (.jobPost n shape) s =
        .next (((s.modCtx n (fun x => { x with toPost := rest, posted := x.posted ++ [j] })).dispatch).settle)) ∧
      (∀ t, p.due = some t → t ≤ s.devTime → exec (.playoutDue n shape) s =
        .next (((s.modCtx n (fun x => { x with toPost := rest, posted := x.posted ++ [j] })).dispatch).settle))) ∧
    (s.ctxState n ≠ ctxRUNNING ∨ 16 ≤ s.heldJobs n → exec (.jobPost n shape) s = .next s.settle) ∧
    (∀ t, p.due = some t → s.devTime < t → exec (.playoutDue n shape) s = .next s.settle)

/-- JOB_START of a dispatched job that runs takes the header facts; a job whose headers lie below FILL, or whose chain is complete,
is checked and begun at once, one whose host-fed headers are still being copied enters WAIT_DATA; while a transfer of it meets
RETRY the event has not come about. DATA_ARRIVED lets a job in WAIT_DATA go on once the bytes that it needs are there: it
begins, or enters again the phase it left. DATA_TIMEOUT beyond the limit in force records LOSS_AU and goes on with what has
arrived; before the limit it does nothing. A job begun so whose sequence is rejected ends REJECTED with that cause; one without
a picture or with a skipped one goes on parsing; one whose headers parse begins its picture; one without a parsable header ends
DROPPED. The scheduler then chooses. COMPLETES: JOB_START, DATA_ARRIVED, DATA_TIMEOUT. (R14, R16, R86, R154, R160, R161, R168,
R203, R206, R208, R211) -/
def Obligations.JobsReadTheirHeaders : Prop :=
  (∀ (s : State) (k : Fin 16) (f : PicFacts) (j : RunJob), s.held = false → s.running k = some j → j.phase = .dispatched →
    (j.job.chain.has f.headEnd = true → ∀ t, t = (s.modJob k (fun r => { r with facts := f, waitSince := s.elapsed })).jobParse k →
      (t.fab.retry.length ≤ s.fab.retry.length → exec (.jobStart k f) s = .next ((t.dispatch).encDispatch).settle) ∧
      (s.fab.retry.length < t.fab.retry.length → exec (.jobStart k f) s = .next s)) ∧
    (j.job.chain.has f.headEnd = false → exec (.jobStart k f) s =
      .next ((((s.modJob k (fun r => { r with facts := f, waitSince := s.elapsed })).modJob k (fun r => { r with
        phase := .waitData, need := f.headEnd, back := .dispatched })).dispatch).encDispatch).settle)) ∧
  (∀ (s : State) (k : Fin 16) (j : RunJob), s.held = false → s.running k = some j → j.phase = .waitData →
    (j.job.chain.has j.need = true → (s.goOn k j).fab.retry.length ≤ s.fab.retry.length →
      exec (.dataArrived k) s = .next (((s.goOn k j).dispatch).encDispatch).settle) ∧
    (∀ (f : PicFacts) (u : State), (s.spd k).set.dataTo * 1000 < s.waitedNs j →
      u = s.modJob k (fun r => { r with causes := r.causes ++ [1], cutOff := true
                                        hdr := { r.hdr with covered := ((s.ctx j.job.ctx).parse (s.ctxStd j.job.ctx) f).covered }
                                        facts := if j.back = .dispatched then f else r.facts }) →
      (u.goOn k j).fab.retry.length ≤ s.fab.retry.length → exec (.dataTimeout k f) s =
        .next (((u.goOn k j).dispatch).encDispatch).settle) ∧
    (∀ f : PicFacts, s.waitedNs j ≤ (s.spd k).set.dataTo * 1000 → exec (.dataTimeout k f) s = .next ((s.dispatch).encDispatch).settle)) ∧
  (∀ (s : State) (k : Nat) (j : RunJob),
    (j.back = .dispatched → s.goOn k j = (s.modJob k (fun r => { r with waited := s.waitedNs j })).jobParse k) ∧
    (j.back ≠ .dispatched → s.goOn k j = (s.modJob k (fun r => { r with waited := s.waitedNs j })).modJob k (fun r => { r with phase := j.back }))) ∧
  (∀ (s u : State) (k n : Nat) (j : RunJob) (p : ParseSt), (s.spd k).cur = some j → n = j.job.ctx → p = (s.ctx n).parse (s.ctxStd n) j.facts →
    u = (s.modJob k (fun r => { r with causes := j.causes ++ p.causes, hdr := p, phase := .parse })).seqCheck k n j.facts →
    (∀ c, (u.ctx n).rejecting = some c → s.jobParse k = u.endJob k outREJECTED c) ∧
    ((u.ctx n).rejecting = none → j.facts.hasPicture = false ∨ (s.ctx n).skips (s.ctxStd n) j.facts = true → s.jobParse k = u) ∧
    ((u.ctx n).rejecting = none → j.facts.hasPicture = true → (s.ctx n).skips (s.ctxStd n) j.facts = false →
      (p.parses = true → s.jobParse k = u.beginPicture k { j with causes := j.causes ++ p.causes }) ∧
      (p.parses = false → ∀ l, l = (if (j.causes ++ p.causes).isEmpty then [j.job.chain.gapCause] else j.causes ++ p.causes) →
        s.jobParse k = (u.modJob k (fun r => { r with causes := l })).endJob k outDROPPED (lowest l))))

/-- PIC_ALLOC_DONE of a job in WAIT_BOBBIN whose allocation was granted records bobbin, generation and pool size and starts
reconstruction with the guarded writes; PIC_ALLOC_TIMEOUT of one answered without a bobbin ends the job DROPPED with NO_BOBBIN.
GRAIN_ALLOC_DONE with a bobbin publishes the grain-applied picture, without one the decoded picture, and goes on with what
waited. STC_PIC_HOLD of an OUT_SEQ that the list holds with a picture tries to take a reference and shows in HELD whether it was
granted; of one it does not hold, HELD is 0. DONE reads 1 after either; while the metadata path answers RETRY DONE stays 0 and
the hold is asked again. An event whose transfer meets RETRY has not come about. COMPLETES: PIC_ALLOC_DONE, PIC_ALLOC_TIMEOUT,
GRAIN_ALLOC_DONE, STC_PIC_HOLD. (R14, R16, R168, R174, R176, R200, R213, R216, R218) -/
def Obligations.PicturesGetTheirBobbins : Prop :=
  (∀ (s t : State) (k : Fin 16) (j : RunJob) (r : PoolRes), s.held = false → s.running k = some j → j.phase = .waitBobbin →
    s.takeAnswer (.spdPic k) = (some r, t) →
    (r.code = 0 → ∀ (ws : List PicWrite) (i : RunJob), i = { j with phase := .recon, pic := some (r.addr, r.word / 2 ^ 32), bobSize := t.poolSize (t.rd (STC_POOLS_PIC j.job.ctx)) } →
      ∀ u, u = ((t.modJob k (fun _ => i)).reconWrites k i ws).2 →
      (u.fab.retry.length ≤ s.fab.retry.length → exec (.picAllocDone k ws) s = .next ((u.dispatch).encDispatch).settle) ∧
      (s.fab.retry.length < u.fab.retry.length → exec (.picAllocDone k ws) s = .next s)) ∧
    (r.code ≠ 0 → exec (.picAllocTimeout k) s = .next (((t.endJob k outDROPPED 0x0D).dispatch).encDispatch).settle)) ∧
  (∀ (s t : State) (k : Fin 16) (n : Nat) (r : PoolRes) (o : OutReq) (os : List OutReq) (p : Pic) (ws : List PicWrite), s.held = false →
    (s.spd k).grain = some n → s.takeAnswer (.spdGrain k) = (some r, t) → ∀ u, u = t.modSpd k (fun x => { x with grain := none }) →
    (u.ctx n).outs = o :: os → u.picOf n o.dec = some p →
    ∀ v, v = (((if r.code = 0 then u.publishGrain n o p r.addr (r.word / 2 ^ 32) ws else u.publish n o p true).pumpAll n).pumpSpd k) →
    (v.fab.retry.length ≤ s.fab.retry.length → exec (.grainAllocDone k ws) s = .next (v.encDispatch).settle) ∧
    (s.fab.retry.length < v.fab.retry.length → exec (.grainAllocDone k ws) s = .next s)) ∧
  (∀ (s : State) (n : Fin 128) (w : Word), s.held = false →
    (s.rd (STC_ENT_OUT_SEQ n (w.toNat % 64)) ≠ w.toNat ∨ s.rd (STC_ENT_PIC n (w.toNat % 64)) ≠ 1 → exec (.picHold n w) s =
      .next (((s.wr (STC_PIC_HOLD_RES_DONE n) 0).wr (STC_PIC_HOLD_RES_HELD n) 0).wr (STC_PIC_HOLD_RES_DONE n) 1).settle) ∧
    (s.rd (STC_ENT_OUT_SEQ n (w.toNat % 64)) = w.toNat → s.rd (STC_ENT_PIC n (w.toNat % 64)) = 1 →
      let h := (s.wr (STC_PIC_HOLD_RES_DONE n) 0).askRef mCTX (2 ^ 32 * s.rd (STC_ENT_ADDR_HI n (w.toNat % 64)) + s.rd (STC_ENT_ADDR_LO n (w.toNat % 64))) (s.rd (STC_ENT_GEN n (w.toNat % 64)))
      (∀ b, h.1 = some b → exec (.picHold n w) s = .next ((h.2.wr (STC_PIC_HOLD_RES_HELD n) (b2n b)).wr (STC_PIC_HOLD_RES_DONE n) 1).settle) ∧
      (h.1 = none → exec (.picHold n w) s = .next ((s.wr (STC_PIC_HOLD_RES_DONE n) 0).again (.hold n w.toNat)).settle)))

/-- PARSE_END of a job in reconstruction whose chain is complete reads it, releases it, records what parsing found and lets
run-ahead begin; before that it does nothing. BUDGET_EXHAUSTED of a spindle that leads, with a count over the allowance, ends
its part, ends parsing when no part goes on, marks the job and conceals the remaining units; within the allowance it does
nothing. PICTURE_READY of a parsed job, not cancelled, whose writes the guard lets pass, performs steps 8 to 11 and frees the
spindle. A yield point ends a cancelled job ABORTED, else holds a job whose island drains, else suspends a preempted one while
fewer than 8 are suspended; (the order is the model's choice, log entry 69); one that lacks host-fed data enters WAIT_DATA; a
job whose request is parked reaches none. An encode spindle in a draining island holds its work, and drops the picture of a
FAULTED session. While a transfer meets RETRY an event has not come about. COMPLETES: PARSE_END, BUDGET_EXHAUSTED,
PICTURE_READY, YIELD_POINT_REACHED. (R16, R58, R85, R89, R93, R96, R97, R130, R154, R168, R192, R193) -/
def Obligations.ParsingYieldingAndReadiness : Prop :=
  (∀ (s : State) (k : Fin 16) (j : RunJob) (p : ParseFacts), s.held = false → s.running k = some j → j.parsed = false → j.phase = .recon →
    ((j.job.chain.complete || j.cutOff) = true → ∀ o t, o = s.chainReads k p (s.poolSize (s.rd (STC_POOLS_AU j.job.ctx))) j.job.chain.bytes 0 j.job.chain.bobs →
      t = (((o.2.releaseChain k j.job.chain).modJob k (fun r => withParse r p o.1)).aheadBegin k j.job.ctx) →
      (t.fab.retry.length ≤ s.fab.retry.length → exec (.parseEnd k p) s = .next ((t.dispatch).encDispatch).settle) ∧
      (s.fab.retry.length < t.fab.retry.length → exec (.parseEnd k p) s = .next s)) ∧
    ((j.job.chain.complete || j.cutOff) = false → exec (.parseEnd k p) s = .next ((s.dispatch).encDispatch).settle)) ∧
  (∀ (s : State) (k : Fin 16) (j : RunJob) (c b r : Nat) (us : List (Nat × Nat)), s.held = false → (s.spd k).gangLead = 0 →
    s.running k = some j → j.phase = .recon → j.cut.contains 0 = false →
    (allowance (s.spd k).set j.facts.chroma b us < c →
      ∀ (d : Bool) (l : List Nat), d = (j.parsed || !j.ganged || j.serial || decide (1 ≤ j.cut.length)) →
        l = j.conc ++ (j.lastUnits 0 r).filter (fun u => !j.conc.contains u) → exec (.budgetExhausted k c b us r) s =
        .next ((if d = true ∧ j.parsed = false then s.releaseChain k j.job.chain else s).modJob k (fun x => { x with
          parsed := d, budget := true, cut := 0 :: j.cut, causes := x.causes ++ [0x0B], conc := l, damaged := l.length })).settle) ∧
    (c ≤ allowance (s.spd k).set j.facts.chroma b us → exec (.budgetExhausted k c b us r) s = .next s.settle)) ∧
  (∀ (s w : State) (k : Fin 16) (j i : RunJob) (pic : Nat × Nat) (rf : ReconFacts), s.held = false → s.running k = some j →
    j.pic = some pic → j.phase = .recon → j.parsed = true → (s.spd k).cancel = false → s.reconWrites k j rf.writes = (true, w) →
    (w.spd k).cur = some i → rf.memError = false → w.pathCode pic.1 ≤ 1 → i.causes = [] →
    ∀ t, t = (((((((w.step8 k rf.cycles j pic []).pumpAll j.job.ctx).settlePics j.job.ctx).vacate k).modCtx j.job.ctx
      (fun c => { c with busyOn := 0 })).aheadEnd k false).drainEnd j.job.ctx) →
    (t.fab.retry.length ≤ s.fab.retry.length → exec (.pictureReady k rf) s = .next ((t.dispatch).encDispatch).settle) ∧
    (s.fab.retry.length < t.fab.retry.length → exec (.pictureReady k rf) s = .next s)) ∧
  (∀ (s : State) (y : YieldOp) (j : RunJob), s.held = false → y.m.val < 16 → s.working y.m = some j →
    (j.phase = .waitBobbin → s.drainsJob y.m j = false ∨ s.picParked y.m = true →
      exec (.yieldPointReached y) s = .next ((s.dispatch).encDispatch).settle) ∧
    (j.phase ≠ .waitBobbin →
      ((s.spd y.m).cancel = true → exec (.yieldPointReached y) s = .next (((s.endJob y.m outABORTED 0x15).dispatch).encDispatch).settle) ∧
      ((s.spd y.m).cancel = false → s.drainsJob y.m j = true → exec (.yieldPointReached y) s =
        .next (((s.modSpd y.m (fun r => { r with held := true })).dispatch).encDispatch).settle) ∧
      ((s.spd y.m).cancel = false → s.drainsJob y.m j = false → (s.spd y.m).preempt = true → (s.spd y.m).suspended.length < 8 →
        exec (.yieldPointReached y) s = .next (((s.suspend y.m j).dispatch).encDispatch).settle) ∧
      ((s.spd y.m).cancel = false → s.drainsJob y.m j = false → (s.spd y.m).preempt = false → (s.spd y.m).gangLead = 0 → j.ganged = false →
        j.phase = .parse ∨ j.phase = .recon → j.parsed = false → j.cutOff = false → j.job.chain.has y.need = false →
        exec (.yieldPointReached y) s = .next (((s.modJob y.m (fun r => { r with
          phase := .waitData, need := y.need, back := j.phase, waitSince := s.elapsed })).dispatch).encDispatch).settle))) ∧
  (∀ (s : State) (y : YieldOp), s.held = false → 16 ≤ y.m.val → s.fenced y.m = false →
    (s.isl y.m = islDRAINING → ((s.spe (y.m - 16)).cur.map (·.stop)).getD false = false →
      ((s.spe (y.m - 16)).cur.isSome || (s.spe (y.m - 16)).stripe.isSome) = true →
      exec (.yieldPointReached y) s = .next ((s.modSpe (y.m - 16) (fun r => { r with held := true })).encDispatch).settle) ∧
    (∀ j, (s.spe (y.m - 16)).cur = some j → j.stop = true →
      exec (.yieldPointReached y) s = .next ((s.encStopped (y.m - 16) j).encDispatch).settle))

/-- RX_FRAME on a port that is up, with ingest receive up: a MAC control frame sets PAUSE_SEEN; a frame that fails checks 0 to 9
counts in ING_DROP_CNT under the first it fails, one that RS-FEC marked always under 0; a UDP frame that matches no entry counts
under 10; an RTP packet of an entry whose context is RUNNING marks the path up and goes to the merge point with its sequence
number, timestamp, marker and payload. ING_ALLOC_DONE hands a granted bobbin to the waiting packet that asked for it, drops the
packet with reason 14 when none was granted, and with reason 13 when its span has been closed meanwhile. AU_CLOSE_TIMEOUT closes
the oldest span once W has passed. PATH_TIMEOUT clears PATH_UP after 50 ms and sets PATH_DOWN. ETH_LINK_CHANGE writes the three
link bits, and LINK_CHG when LINK changes. When nothing is due, the state stays. COMPLETES: RX_FRAME, ING_ALLOC_DONE,
AU_CLOSE_TIMEOUT, PATH_TIMEOUT, ETH_LINK_CHANGE. (R106, R109, R123, R125, R126, R134, 03_stream_ingest.md) -/
def Obligations.FramesAreCheckedAndHeld : Prop :=
  ∀ (s : State) (lp : Fin 8) (f : Fin 256), s.held = false →
    (∀ fec frame, s.portUp lp = true → s.unitUp mING = true →
      (macControl fec frame = true → ∃ t, exec (.rxFrame lp fec frame) s = .next t ∧ t.rd (ING_PORT_STATUS_PAUSE_SEEN lp) = 1 ∧
        RegsKept [ING_PORT_STATUS_PAUSE_SEEN lp] s t ∧ t.out = s.out ∧ t.ing = s.ing) ∧
      (∀ k, macControl fec frame = false → s.frameFails lp fec frame = some k →
        exec (.rxFrame lp fec frame) s = .next ((s.bump (ING_DROP_CNT lp k)).countUnit 0x081 mING 1).settle) ∧
      exec (.rxFrame lp true frame) s = .next ((s.bump (ING_DROP_CNT lp 0)).countUnit 0x081 mING 1).settle ∧
      (macControl fec frame = false → s.frameFails lp fec frame = none → (ethOf frame).ptp = false → (ethOf frame).udp = true →
        (s.matchFlow lp (ethOf frame) = none →
          exec (.rxFrame lp fec frame) s = .next ((s.bump (ING_DROP_CNT lp 10)).countUnit 0x081 mING 1).settle) ∧
        (∀ g n, s.matchFlow lp (ethOf frame) = some g → let u := s.pathSeen g
          let b := (ethOf frame).body.drop 8
          u.rtpOk g b = true → u.binder g = some n → (depack (u.ctxStd n) (rtpBody b)).isNone = false → u.ctxState n = ctxRUNNING →
          let p : Pkt := { seq := beAt b 2 2, ts := beAt b 4 4, marker := decide (128 ≤ byteAt b 1), at_ := (u.rxStamp lp).1, entry := g, data := rtpBody b }
          exec (.rxFrame lp fec frame) s = .next ((u.rxStamp lp).2.mergePkt lp (u.mergePoint g) n p).settle))) ∧
    (∀ fec frame, s.portUp lp = false ∨ s.unitUp mING = false → exec (.rxFrame lp fec frame) s = .next s.settle) ∧
    (∀ x a t q n, s.ingAnswer f = (some (x, a), t) → (t.flow f).parked.find? (fun q => q.1.seq == x) = some q → t.binder f = some n →
      let u := t.modFlow f (fun r => { r with parked := r.parked.erase q })
      (a.code = 0 → (u.flow f).base ≤ x → exec (.ingAllocDone f) s =
        .next ((u.modFlow f (fun r => { r with bobs := r.bobs ++ [(a.addr, a.word / 2 ^ 32)] })).placePkt f n q.1).settle) ∧
      (a.code = 0 → x < (u.flow f).base → exec (.ingAllocDone f) s =
        .next (((u.release mING a.addr (a.word / 2 ^ 32)).bump (ING_DROP_CNT q.1.lp 13)).countUnit 0x081 mING 1).settle) ∧
      (a.code ≠ 0 → exec (.ingAllocDone f) s = .next ((u.bump (ING_DROP_CNT q.1.lp 14)).countUnit 0x081 mING 1).settle)) ∧
    ((s.ingAnswer f).1 = none → exec (.ingAllocDone f) s = .next s.settle) ∧
    (∀ n e, s.binder f = some n → spanEnd (s.flow f).pkts = some e →
      (e.2.1 + (s.flow f).window * 10000 ≤ s.devTime → exec (.auCloseTimeout f) s =
        .next ((s.endSpan f n e.1).completeSpans f n ((s.endSpan f n e.1).flow f).pkts.length).settle) ∧
      (s.devTime < e.2.1 + (s.flow f).window * 10000 → exec (.auCloseTimeout f) s = .next s.settle)) ∧
    (s.rd (ING_FLOW_STATUS_PATH_UP f) = 1 → (s.flow f).lastMatch + 50000000 ≤ s.elapsed → ∃ t, exec (.pathTimeout f) s = .next t ∧
      t.rd (ING_FLOW_STATUS_PATH_UP f) = 0 ∧ t.rd (ING_FLOW_STATUS_PATH_DOWN f) = 1 ∧ t.ing = s.ing ∧
      RegsKept [ING_FLOW_STATUS_PATH_UP f, ING_FLOW_STATUS_PATH_DOWN f] s t) ∧
    (s.rd (ING_FLOW_STATUS_PATH_UP f) ≠ 1 ∨ s.elapsed < (s.flow f).lastMatch + 50000000 → exec (.pathTimeout f) s = .next s.settle) ∧
    (∀ link pcs fec : Bool, s.portExists lp = true → ∃ t, exec (.ethLinkChange lp link pcs fec) s = .next t ∧
      t.rd (ING_PORT_STATUS_LINK lp) = b2n link ∧ t.rd (ING_PORT_STATUS_PCS_LOCK lp) = b2n pcs ∧ t.rd (ING_PORT_STATUS_FEC_LOCK lp) = b2n fec ∧
      t.rd (ING_PORT_STATUS_LINK_CHG lp) = (if (s.rd (ING_PORT_STATUS_LINK lp) == 1) = link then s.rd (ING_PORT_STATUS_LINK_CHG lp) else 1) ∧
      RegsKept [ING_PORT_STATUS_LINK lp, ING_PORT_STATUS_PCS_LOCK lp, ING_PORT_STATUS_FEC_LOCK lp, ING_PORT_STATUS_LINK_CHG lp] s t ∧
      t.ing = s.ing) ∧
    (∀ link pcs fec : Bool, s.portExists lp = false → exec (.ethLinkChange lp link pcs fec) s = .next s.settle)

/-- ANNOUNCE_TIMEOUT forgets the masters whose receipt timeout has passed; when none is left and one was selected, STATE becomes
HOLDOVER with CHANGED set and holdover starts now; when the best one left is not the selected one it is selected, its port and
identity are shown and STATE is ACQUIRING; when it is the selected one STATE stays. HOLDOVER_EXPIRY after more than
PTP_HOLDOVER.S seconds of HOLDOVER makes STATE EXPIRED and raises fault class 19, and does nothing before. PTP_SET sets device
time to HI and PTP_SET_LO with EN 0, and is ignored with EN 1. PTP_TIME_READ shows device time in PTP_TIME_LO and latches
PTP_TIME_HI. COMPLETES: ANNOUNCE_TIMEOUT, HOLDOVER_EXPIRY, PTP_SET, PTP_TIME_READ. (R145, R146, R147, 03_stream_ingest.md) -/
def Obligations.MastersLostAndHoldoverExpired : Prop :=
  ∀ (s : State), s.held = false → let ms := s.ing.ptp.masters.filter (fun m => decide (s.elapsed < m.due))
    (ms = [] → s.ing.ptp.selected.isSome = true → ∃ t, exec .announceTimeout s = .next t ∧ t.rd PTP_STATE_STATE = ptpHOLDOVER ∧
      (s.rd PTP_STATE_STATE ≠ ptpHOLDOVER → t.rd PTP_STATE_CHANGED = 1) ∧ RegsKept [PTP_STATE_STATE, PTP_STATE_CHANGED] s t ∧
      t.ing.ptp = { s.ing.ptp with masters := [], selected := none, sync := none, holdSince := s.elapsed } ∧ t.flt = s.flt) ∧
    (ms = [] → s.ing.ptp.selected = none → ∃ t, exec .announceTimeout s = .next t ∧ RegsKept [] s t ∧
      t.ing.ptp = { s.ing.ptp with masters := [] }) ∧
    (∀ m, minBy PtpMaster.rank ms = some m → ∃ t, exec .announceTimeout s = .next t ∧ t.rd PTP_STATE_LPORT = m.lp % 8 ∧
      t.rd PTP_GM_ID_LO = m.id % 2 ^ 32 ∧ t.rd PTP_GM_ID_HI = m.id / 2 ^ 32 % 2 ^ 32 ∧ t.ing.ptp.masters = ms ∧
      t.ing.ptp.selected = some m.source ∧ t.flt = s.flt ∧
      (s.ing.ptp.selected = some m.source → t.rd PTP_STATE_STATE = s.rd PTP_STATE_STATE) ∧
      (s.ing.ptp.selected ≠ some m.source → t.rd PTP_STATE_STATE = ptpACQUIRING ∧ t.ing.ptp.good = 0 ∧ t.ing.ptp.bad = 0 ∧ t.ing.ptp.sync = none)) ∧
    (s.rd PTP_STATE_STATE = ptpHOLDOVER → s.ing.ptp.holdSince + 1000000000 * s.rd PTP_HOLDOVER_S < s.elapsed → s.flt.queue.length < 256 →
      ∃ t, exec .holdoverExpiry s = .next t ∧ t.rd PTP_STATE_STATE = ptpEXPIRED ∧ t.rd PTP_STATE_CHANGED = 1 ∧
        t.flt.queue = s.flt.queue ++ [{ cls := 19, at_ := s.elapsed }] ∧ RegsKept [PTP_STATE_STATE, PTP_STATE_CHANGED] s t ∧ t.ing = s.ing) ∧
    (s.rd PTP_STATE_STATE ≠ ptpHOLDOVER ∨ s.elapsed ≤ s.ing.ptp.holdSince + 1000000000 * s.rd PTP_HOLDOVER_S →
      exec .holdoverExpiry s = .next s.settle) ∧
    (∀ hi : Word, s.rd PTP_CTL_EN ≠ 1 → ∃ t, exec (.ptpSet hi) s = .next t ∧ t.devTime = (2 ^ 32 * hi.toNat + s.rd PTP_SET_LO) % 2 ^ 64 ∧
      RegsKept [] s t ∧ t.ing = s.ing) ∧
    (∀ hi : Word, s.rd PTP_CTL_EN = 1 → exec (.ptpSet hi) s = .next s.settle) ∧
    (∃ t, exec .ptpTimeRead s = .next t ∧ t.rd PTP_TIME_LO = s.devTime % 2 ^ 32 ∧ t.rd PTP_TIME_HI = s.devTime / 2 ^ 32 % 2 ^ 32 ∧
      RegsKept [PTP_TIME_LO, PTP_TIME_HI] s t ∧ t.ing = s.ing ∧ t.devTime = s.devTime)

/-- A due state-change report of a port is sent with the record as it stands, and while repeats are left is scheduled again within
one URI of now; a due current-state report is sent with the records asked for. EGRESS_PACKET_DUE, on an enabled channel that is
due, whose port, or with DUAL both of its two ports, have no due report and are in its round-robin turn, emits the first packet
of its oldest access unit, on path A and, with DUAL, on path B; PKTS counts it and the sequence number advances; with path A
open alone it leaves by A, and by B later; with the last packet the access unit ends (its chain goes back, AUS counts it).
EGRESS_DISABLE clears EN, empties the queue and releases each queued chain. When nothing is due, or egress is fenced, the state
stays. COMPLETES: STATE_CHANGE_REPORT, CURRENT_STATE_REPORT, EGRESS_PACKET_DUE, EGRESS_DISABLE. (R137, R138, R150, R151, R152,
03_stream_ingest.md) -/
def Obligations.ReportsAndEgressPackets : Prop :=
  ∀ (s : State) (lp e : Fin 8), s.held = false →
    (∀ r, s.unitUp mEGR = true → s.dueReport lp false = some r →
      let u := (s.takeReport r).sendReport lp r.v6 true [s.grpRecord lp r.v6 (r.group.getD 0)]
      (r.left = 0 → exec (.stateChangeReport lp) s = .next u.settle) ∧
      (r.left ≠ 0 → ∃ d, d < max u.uriNs 1 ∧ exec (.stateChangeReport lp) s = .next ({ u with fresh := u.fresh + 1, ing := { u.ing with
        reports := u.ing.reports ++ [{ r with due := u.elapsed + d, left := r.left - 1 }] } } : State).settle)) ∧
    (∀ r, s.unitUp mEGR = true → s.dueReport lp true = some r → exec (.currentStateReport lp) s =
      .next ((s.takeReport r).sendReport lp r.v6 false ((s.grpRecords lp).filter (fun x => x.v6 == r.v6 &&
        (r.group == none || r.group == some x.addr)))).settle) ∧
    (s.unitUp mEGR = false ∨ s.dueReport lp false = none → exec (.stateChangeReport lp) s = .next s.settle) ∧
    (s.unitUp mEGR = false ∨ s.dueReport lp true = none → exec (.currentStateReport lp) s = .next s.settle) ∧
    (∀ a as p ps (ports : List (Nat × Bool)), s.egrDue e = true → (s.egr e).queue = a :: as → a.packets = p :: ps → a.gone = [] → ports = s.egrPaths e →
      (s.rd (ING_EGR_CTL_DUAL e) = 1 → s.rd (ING_EGR_CTL_LPORT_A e) ≠ s.rd (ING_EGR_CTL_LPORT_B e)) →
      ((∀ q ∈ ports, s.reportDue q.1 = false ∧ s.egrTurn q.1 = some e.val) →
        ∃ u : State, (u.egr e).seq = ((s.egr e).seq + 1) % 65536 ∧ (u.egr e).queue.head? = some { a with packets := ps, sent := a.sent + 1 } ∧
        (u.egr e).queue.length = (s.egr e).queue.length ∧ u.rd (ING_EGR_PKTS e) = (s.rd (ING_EGR_PKTS e) + 1) % 2 ^ 32 ∧
        (∀ G : Fld, G.key ≠ (ING_EGR_PKTS e).key → u.rd G = s.rd G) ∧ u.hbm = s.hbm ∧ u.pool = s.pool ∧
        (s.rd (ING_EGR_CTL_DUAL e) ≠ 1 → s.portUp (s.rd (ING_EGR_CTL_LPORT_A e)) = true → ∃ id, u.out =
          .frame (s.rd (ING_EGR_CTL_LPORT_A e)) (s.egrFrame e (s.rd (ING_EGR_CTL_LPORT_A e)) false (s.rtpPacket e a p ps.isEmpty) id) :: s.out) ∧
        (s.rd (ING_EGR_CTL_DUAL e) = 1 → s.portUp (s.rd (ING_EGR_CTL_LPORT_A e)) = true → s.portUp (s.rd (ING_EGR_CTL_LPORT_B e)) = true →
          ∃ idA idB, u.out =
          .frame (s.rd (ING_EGR_CTL_LPORT_B e)) (s.egrFrame e (s.rd (ING_EGR_CTL_LPORT_B e)) true (s.rtpPacket e a p ps.isEmpty) idB) ::
          .frame (s.rd (ING_EGR_CTL_LPORT_A e)) (s.egrFrame e (s.rd (ING_EGR_CTL_LPORT_A e)) false (s.rtpPacket e a p ps.isEmpty) idA) :: s.out) ∧
        (ps ≠ [] → exec (.egressPacketDue e) s = .next u.settle) ∧
        (ps = [] → exec (.egressPacketDue e) s = .next (u.egrAuEnd e a).settle)) ∧
      (∀ x y, ports = [x, y] → s.reportDue x.1 = false → s.egrTurn x.1 = some e.val → s.reportDue y.1 = true ∨ s.egrTurn y.1 ≠ some e.val →
        ∃ t, exec (.egressPacketDue e) s = .next t ∧ (t.egr e).queue = { a with gone := [x.2] } :: as ∧ (t.egr e).seq = (s.egr e).seq ∧
          RegsKept [] s t ∧ t.hbm = s.hbm ∧ t.pool = s.pool) ∧
      ((∀ q ∈ ports, s.reportDue q.1 = true ∨ s.egrTurn q.1 ≠ some e.val) → exec (.egressPacketDue e) s = .next s.settle)) ∧
    (s.egrDue e = true → exec (.egressPacketDue e) s = .next (s.egrSend e).settle) ∧
    (s.egrDue e = false → exec (.egressPacketDue e) s = .next s.settle) ∧
    exec (.egressDisable e) s = .next (((s.wr (ING_EGR_CTL_EN e) 0).modEgr e (fun r => { r with queue := [] })).each
      (s.egr e).queue (fun a t => t.releaseChain mEGR a.chain)).settle

/-- Any command to a BUSY session, NOP too, is rejected with WHY 1. Else NOP stores CLASS, SOURCE and CTX of the written word in an
IDLE session and nothing elsewhere. OPEN of an IDLE session whose configuration passes clears its counters and makes it OPEN,
one that does not pass is rejected with WHY 2. START of an OPEN session whose tests pass writes its load, its home and an empty
bucket and makes it RUNNING; the first test that fails sets ADMIT_FAIL and its WHY. STOP of a RUNNING session drops its queued
sources and drains; CLOSE of an OPEN or FAULTED one gives its bobbins back and makes it IDLE; FORCE_INTRA waits in a RUNNING one
for the next anchor; RECOVER makes a FAULTED one OPEN once FAULT is clear, else WHY 7. In any other state each is rejected with
WHY 1. A host source reaches a RUNNING session of SOURCE 1 with a reference of its picture, as a missing source when the pool
refuses, is asked for again while the metadata answers RETRY, and is skipped when 16 are queued. COMPLETES: ENC_NOP, ENC_OPEN,
ENC_START, ENC_STOP, ENC_CLOSE, FORCE_INTRA, ENC_RECOVER, ENC_SRC_SUBMIT. (R225, R226, R227, R228, R231, R245, R251,
06_encode_spindles.md) -/
def Obligations.EncodeSessionCommands : Prop :=
  ∀ (s : State) (e : Fin 16) (w : Word), s.held = false → let u := s.encFields e w.toNat
    (s.encState e = encIDLE → s.rd (ENC_STATUS_BUSY e) ≠ 1 → ∃ t, exec (.encNop e w) s = .next t ∧ t.rd (ENC_CTL_CLASS e) = bitsOf w.toNat (ENC_CTL_CLASS e).lo (ENC_CTL_CLASS e).width ∧
      t.rd (ENC_CTL_SOURCE e) = bitsOf w.toNat (ENC_CTL_SOURCE e).lo (ENC_CTL_SOURCE e).width ∧
      t.rd (ENC_CTL_CTX e) = bitsOf w.toNat (ENC_CTL_CTX e).lo (ENC_CTL_CTX e).width ∧
      RegsKept [ENC_CTL_CLASS e, ENC_CTL_SOURCE e, ENC_CTL_CTX e] s t ∧ t.encs = s.encs) ∧
    (s.encState e ≠ encIDLE → u = s ∧ (s.rd (ENC_STATUS_BUSY e) ≠ 1 → exec (.encNop e w) s = .next s.settle)) ∧
    (u.rd (ENC_STATUS_BUSY e) = 1 → ∀ hdr rep, ∀ c ∈ [Instr.encNop e w, .encOpen e w, .encStart e w hdr rep, .encStop e w, .encClose e w, .forceIntra e w, .encRecover e w],
      exec c s = .next (u.encReject e 1).settle) ∧
    (u.rd (ENC_STATUS_BUSY e) ≠ 1 →
      (let v := if u.rd (ENC_CTL_SOURCE e) = 0 then u.wr (ENC_PERIOD_NS e) (u.rd (STC_PERIOD_PERIOD (u.rd (ENC_CTL_CTX e)))) else u;
        (u.encState e = encIDLE → v.encOk e = true → exec (.encOpen e w) s = .next ((((v.each (encCounters e) (fun F t => t.wr F 0)).modEnc e
          (fun r => { busyOn := r.busyOn })).wr (ENC_STATUS_STATE e) encOPEN).encDispatch).settle) ∧
        (u.encState e = encIDLE → v.encOk e = false → exec (.encOpen e w) s = .next ((v.encReject e 2).encDispatch).settle)) ∧
      (u.encState e ≠ encIDLE → exec (.encOpen e w) s = .next ((u.encReject e 1).encDispatch).settle) ∧
      (∀ hdr rep, u.encState e ≠ encOPEN ∨ u.wrp.hold.classes.contains (u.encClass e) = true →
        exec (.encStart e w hdr rep) s = .next ((u.encReject e 1).encDispatch).settle) ∧
      (∀ hdr rep, u.encState e = encOPEN → u.wrp.hold.classes.contains (u.encClass e) = false →
        let n := hdr + 64 * u.encSlices e + u.encUnits e * floorUnit (u.rd (ENC_CODEC_STANDARD e)) true
        let v := if u.capped e = true then (u.wr (ENC_FLOOR_I_BITS e) n).wr (ENC_REPEAT_BITS e) rep else u
        (∀ h, u.encStartWhy e n rep = 0 → u.encHome e = some h → exec (.encStart e w hdr rep) s = .next (((((((v.wr (ENC_ADMIT_LOAD e)
          (u.encLoad e)).wr (ENC_ADMIT_HOME e) h).releaseRefs e).modEnc e (fun r => { busyOn := r.busyOn, auSeq := r.auSeq })).wr
          (ENC_BUCKET_BITS e) 0).wr (ENC_STATUS_STATE e) encRUNNING).encDispatch).settle) ∧
        (u.encStartWhy e n rep ≠ 0 → exec (.encStart e w hdr rep) s =
          .next (((v.wr (ENC_STATUS_ADMIT_FAIL e) 1).wr (ENC_STATUS_WHY e) (u.encStartWhy e n rep)).encDispatch).settle)) ∧
      (u.encState e = encRUNNING → exec (.encStop e w) s = .next (((((u.dropSrcs e).wr (ENC_STATUS_STATE e) encDRAINING).wr
        (ENC_STATUS_BUSY e) 1).encDrainEnd e).encDispatch).settle) ∧
      (u.encState e ≠ encRUNNING → exec (.encStop e w) s = .next ((u.encReject e 1).encDispatch).settle ∧
        exec (.forceIntra e w) s = .next ((u.encReject e 1).encDispatch).settle) ∧
      (u.encState e = encOPEN ∨ u.encState e = encFAULTED → exec (.encClose e w) s =
        .next ((((u.releaseRefs e).dropSrcs e).wr (ENC_STATUS_STATE e) encIDLE).encDispatch).settle) ∧
      (u.encState e ≠ encOPEN → u.encState e ≠ encFAULTED → exec (.encClose e w) s = .next ((u.encReject e 1).encDispatch).settle) ∧
      (u.encState e = encRUNNING → exec (.forceIntra e w) s = .next ((u.modEnc e (fun r => { r with force := true })).encDispatch).settle) ∧
      (u.encState e = encFAULTED → u.rd (ENC_STATUS_FAULT e) ≠ 1 → exec (.encRecover e w) s =
        .next ((u.wr (ENC_STATUS_STATE e) encOPEN).encDispatch).settle) ∧
      (u.encState e = encFAULTED → u.rd (ENC_STATUS_FAULT e) = 1 → exec (.encRecover e w) s = .next ((u.encReject e 7).encDispatch).settle) ∧
      (u.encState e ≠ encFAULTED → exec (.encRecover e w) s = .next ((u.encReject e 1).encDispatch).settle)) ∧
    (∀ hi : Word, let addr := 2 ^ 32 * (hi.toNat % 512) + s.rd (ENC_SRC_LO e)
      let v := s.stamp.2
      let x : Src := { addr := addr, t := 2 ^ 32 * s.rd (ENC_SRC_TIME_HI e) + s.rd (ENC_SRC_TIME_LO e), q := s.stamp.1 }
      let o := (v.poolAsked { master := mCTX, op := 2, addr := addr, add := 1 }).poolOp { master := mCTX, op := 2, addr := addr, add := 1 }
      (s.encState e ≠ encRUNNING ∨ s.rd (ENC_CTL_SOURCE e) ≠ 1 → exec (.encSrcSubmit e hi) s = .next s.settle) ∧
      (s.encState e = encRUNNING → s.rd (ENC_CTL_SOURCE e) = 1 → 16 ≤ (s.enc e).srcs.length →
        exec (.encSrcSubmit e hi) s = .next ((s.wr (ENC_STATUS_SKIP e) 1).bump (ENC_SKIP_CNT e)).settle) ∧
      (s.encState e = encRUNNING → s.rd (ENC_CTL_SOURCE e) = 1 → (s.enc e).srcs.length < 16 →
        (o.1.code = 0 → let r := o.2.srcRecord e addr
          exec (.encSrcSubmit e hi) s = .next ((r.2.queueSrc e { x with gen := o.1.word / 2 ^ 32, missing := !r.1.1, concealed := r.1.2.1 }).encDispatch).settle) ∧
        (o.1.code = poolWaits → exec (.encSrcSubmit e hi) s =
          .next (((v.queueSrc e { x with ask := true }).again (.take e (s.enc e).taken)).encDispatch).settle) ∧
        (o.1.code ≠ 0 → o.1.code ≠ poolWaits → exec (.encSrcSubmit e hi) s =
          .next ((o.2.queueSrc e { x with addr := 0, missing := true }).encDispatch).settle)))

/-- ENC_ALLOC_DONE with a granted bobbin: a picture that waits for its reconstruction keeps it and asks for its first output bobbin;
one that waits for output adds it and goes on. ENC_ALLOC_TIMEOUT loses the picture whose allocation was answered without one.
ENC_PIC_DONE completes the picture when its coded bytes fit the output bobbins in hand (R258 to R261), and asks for one more
otherwise, and drops the picture of a session that has entered FAULTED; a spindle that is fenced or held by a drain does
nothing. CARD_SUBMIT queues the job whose descriptor's address was written, or sets SUBMIT_LOST with 16 queued or class 3 held
by a reweave. CARD_STRIPE_DONE runs the stripe, counts it and the records written, and frees its spindle. Each ends with the
dispatch of encode jobs and stripes; while a transfer meets RETRY ENC_ALLOC_DONE, ENC_PIC_DONE and CARD_STRIPE_DONE have not
come about. COMPLETES: ENC_ALLOC_DONE, ENC_ALLOC_TIMEOUT, ENC_PIC_DONE, CARD_SUBMIT, CARD_STRIPE_DONE. (R16, R58, R247, R258,
R259, R261, R263, R265, R272, 06_encode_spindles.md) -/
def Obligations.PicturesAreCodedAndCarded : Prop :=
  ∀ (s : State) (k : Fin 4), s.held = false →
    (∀ j r t, (s.spe k).cur = some j → (s.spe k).held = false → s.unitUp (0x10 + k) = true → j.phase = .waitRecon →
      s.takeAnswer (.encRecon k) = (some r, t) → r.code = 0 →
      let u := t.modSpe k (fun p => { p with cur := p.cur.map (fun x => { x with recon := some (r.addr, r.word / 2 ^ 32), phase := .waitOut }) })
      EndsOnce (.encAllocDone k) s (u.encAsk k (u.rd (ENC_POOLS_OUT j.session)) (.encOut k))) ∧
    (∀ j r t, (s.spe k).cur = some j → (s.spe k).held = false → s.unitUp (0x10 + k) = true → j.phase = .waitOut →
      s.takeAnswer (.encOut k) = (some r, t) → r.code = 0 →
      let u := t.modSpe k (fun p => { p with cur := p.cur.map (fun x => { x with outs := x.outs ++ [(r.addr, r.word / 2 ^ 32)] }) })
      EndsOnce (.encAllocDone k) s (u.encProceed k)) ∧
    ((s.spe k).held = true ∨ s.unitUp (0x10 + k) = false → exec (.encAllocDone k) s = .next (s.encDispatch).settle) ∧
    ((s.spe k).cur = none → exec (.encAllocDone k) s = .next (s.encDispatch).settle ∧ exec (.encAllocTimeout k) s = .next (s.encDispatch).settle ∧
      ∀ c, exec (.encPicDone k c) s = .next (s.encDispatch).settle) ∧
    (∀ j, (s.spe k).cur = some j → j.phase = .waitOut →
      (s.pool.done.any (fun r => r.forWhom == .encOut k && r.code != 0) = true →
        exec (.encAllocTimeout k) s = .next (((s.encLost k j).encDrainEnd j.session).encDispatch).settle) ∧
      (s.pool.done.any (fun r => r.forWhom == .encOut k && r.code != 0) = false →
        exec (.encAllocTimeout k) s = .next (s.encDispatch).settle)) ∧
    (∀ j, (s.spe k).cur = some j → j.phase = .waitRecon → s.pool.done.any (fun r => r.forWhom == .encRecon k && r.code != 0) = true →
      exec (.encAllocTimeout k) s = .next (((s.encLost k j).encDrainEnd j.session).encDispatch).settle) ∧
    (∀ j c, (s.spe k).cur = some j → j.stop = false → j.phase = .coding → (s.spe k).held = false → s.fenced (0x10 + k) = false →
      let u := s.modSpe k (fun p => { p with cur := p.cur.map (fun x => { x with facts := some c }) })
      let o := u.rateControl { j with facts := some c } c
      let need := max 1 (cdiv (u.codedData o c).1.length (u.outSize j.session - 64))
      (need ≤ j.outs.length → EndsOnce (.encPicDone k c) s (u.encFinish k { j with facts := some c } c)) ∧
      (j.outs.length < need →
        let v := u.modSpe k (fun p => { p with cur := p.cur.map (fun x => { x with phase := .waitOut }) })
        EndsOnce (.encPicDone k c) s (v.encAsk k (v.rd (ENC_POOLS_OUT j.session)) (.encOut k)))) ∧
    (∀ j c, (s.spe k).cur = some j → j.stop = true → s.fenced (0x10 + k) = false → EndsOnce (.encPicDone k c) s (s.encStopped k j)) ∧
    (∀ c, s.fenced (0x10 + k) = true ∨ (s.spe k).held = true ∧ (∀ j, (s.spe k).cur = some j → j.stop = false) → exec (.encPicDone k c) s = .next (s.encDispatch).settle) ∧
    (∀ hi : Word, s.card.jobs.length < 16 → s.wrp.hold.classes.contains 3 = false →
      let j : CardJob := { num := s.card.num, addr := 2 ^ 32 * (hi.toNat % 512) + s.rd SPE_CARD_SUBMIT_LO }
      exec (.cardSubmit hi) s = .next ((({ s with card := { jobs := s.card.jobs ++ [j], num := s.card.num + 1 } } : State).showCard).encDispatch).settle) ∧
    (∀ hi : Word, 16 ≤ s.card.jobs.length ∨ s.wrp.hold.classes.contains 3 = true →
      exec (.cardSubmit hi) s = .next ((s.wr SPE_CARD_STATUS_SUBMIT_LOST 1).encDispatch).settle) ∧
    (∀ g j, s.fenced (0x10 + k) = false → (s.spe k).held = false → (s.spe k).stripe = some g →
      s.card.jobs.find? (fun x => x.num == g.job) = some j →
      let o := s.cardStripe (0x10 + k) (cardDesc j.desc) g.idx
      let n := if (cardDesc j.desc).type = 0 then 0 else min (cardDesc j.desc).units ((g.idx + 1) * 4096) - g.idx * 4096
      EndsOnce (.cardStripeDone k) s ((((o.2.2.modSpe k (fun x => { x with stripe := none })).bump (SPE_STRIPES k)).countUnit 0x052 (0x10 + k) n).stripeEnd
        (0x10 + k) g.job (if o.1 then 2 else 0) o.2.1)) ∧
    (s.fenced (0x10 + k) = true ∨ (s.spe k).held = true → exec (.cardStripeDone k) s = .next (s.encDispatch).settle)

/-- REWEAVE_GO with BUSY 0 reads the image, once its transfers are answered, and checks it: a failed check ends BUSY and sets FAIL
and WHY, one that passes begins the reweave. REWEAVE_LOAD, once every fence has ended, sets DONE and clears BUSY, GO and WHY.
RESET_N low for 1 us or more puts every domain in reset, below 0.5 us it is ignored. START_EVENT begins a start on the rising
RESET_N or when one is due: a recovery boot when commanded or after 3 cold failures, with the start counted; with no valid
directory the start is about to fail with reason 1. START_READY brings the device to READY, a warm start whose quick check fails
as WARM_FALLBACK. START_FAIL records the reason, counts the start as warm or cold and sets the next start 100 ms later.
RESTART_TIMER begins it then. SVC_WDOG_EXPIRY raises SVC_WDOG. A recovery image that fails verification reads BAD_IMAGE and
leaves flash as it is, one that verifies is written to flash (PROGRAM) or run. A read of SEC_START_CNT_LO latches HI. COMPLETES:
reweaveGo, reweaveLoad, resetAssert, startEvent, startReady, startFail, restartTimer, svcWdogExpiry, recProgram, recRun and
startCntRead each answer a next state with their own effect. (R506, R507, R510, R516, R520, R521, R522, R526, R527, R544, R556,
15_startup_microcode_security.md) -/
def Obligations.StartsAndReweaves : Prop :=
  ∀ s : State,
    (s.held = false → s.rd WRP_STATUS_BUSY ≠ 1 →
      let x := ((s.wr WRP_STATUS_BUSY 1).wr WRP_CTL_GO 1).readLong 0x38 0 (2 ^ 32 * s.rd WRP_SRC_HI + s.rd WRP_SRC_LO) (s.rd WRP_LEN)
      let w := if x.1 ≠ 0 then (1, 0) else x.2.2.warpWhy x.2.2.sec.keys x.2.1 false
      (w.1 = 0 → EndsOnce .reweaveGo s (x.2.2.reweaveBegin ((warpSections x.2.1).getD [])) id) ∧
      (w.1 ≠ 0 → ∃ t, EndsOnce .reweaveGo s t id ∧ t.rd WRP_STATUS_BUSY = 0 ∧ t.rd WRP_CTL_GO = 0 ∧ t.rd WRP_STATUS_FAIL = 1 ∧
        t.rd WRP_STATUS_WHY = w.1 % 16 ∧ t.wrp = x.2.2.wrp ∧ t.fab.retry = x.2.2.fab.retry)) ∧
    (s.held = false → s.rd WRP_STATUS_BUSY = 1 → exec .reweaveGo s = .next s.settle) ∧
    (∀ r, s.held = false → s.wrp.reweave = some r → r.units.all s.fenceDone = true → ∃ t, exec .reweaveLoad s = .next t ∧
      t.rd WRP_STATUS_BUSY = 0 ∧ t.rd WRP_CTL_GO = 0 ∧ t.rd WRP_STATUS_DONE = 1 ∧ t.rd WRP_STATUS_WHY = 0) ∧
    (∀ r, s.held = false → s.wrp.reweave = some r → r.units.all s.fenceDone = false → exec .reweaveLoad s = .next s.settle) ∧
    (∀ ns : Word, s.aon.vdd = true → 1000 ≤ ns.toNat → ∃ t, exec (.resetAssert ns) s = .next t ∧ t.held = true ∧ t.aon.resetLow = true ∧
      t.hbm = [] ∧ t.devTime = 0 ∧ t.mram = s.mram ∧ t.flash = s.flash ∧ t.sec.startCnt = s.sec.startCnt ∧ t.sec.starting = false ∧
      (s.aon.thermtrip = true → t.aon.thermtrip = decide (110 ≤ s.aon.tj))) ∧
    (∀ ns : Word, ns.toNat < 500 → exec (.resetAssert ns) s = .next s.settle) ∧
    (∀ avs hbm, s.aon.vdd = true → s.aon.thermtrip = false →
      (s.aon.resetLow = true → exec (.startEvent avs hbm) s = .next (((({ s with aon := { s.aon with resetLow := false } } : State).emit
        (.pin "SPI_RESET_N" true)).nextStart .auto avs hbm).settle)) ∧
      (∀ c, s.aon.resetLow = false → s.sec.due = some c → s.recStuck = false →
        exec (.startEvent avs hbm) s = .next (s.nextStart c avs hbm).settle ∧
        (c = .recovery ∨ s.sec.coldFails = 3 → ∃ t, exec (.startEvent avs false) s = .next t ∧ t.rd SEC_BOOT_STATUS_PHASE = phRECOVERY ∧
          t.rd SEC_BOOT_STATUS_KIND = kdRECOVERY ∧ t.rd MEM_MODE_MODE = 3 ∧ t.rd SEC_REC_STATUS = 5 ∧ t.sec.startCnt = s.sec.startCnt + 1) ∧
        (c ≠ .recovery → s.sec.coldFails ≠ 3 → dirOf s.flash = none → ∃ t, exec (.startEvent avs hbm) s = .next t ∧
          t.rd SEC_BOOT_STATUS_PHASE = phROM ∧ t.sec.starting = true ∧ t.sec.failing = some 1 ∧ t.sec.startCnt = s.sec.startCnt + 1)) ∧
      (s.aon.resetLow = false → s.sec.due = none → exec (.startEvent avs hbm) s = .next s.settle)) ∧
    (∀ quick, s.held = false → s.sec.starting = true → s.sec.failing = none → s.rd SEC_BOOT_STATUS_PHASE = phBRINGUP →
      let u := if s.rd SEC_BOOT_STATUS_KIND = kdWARM ∧ quick = false then s.fallBack else s
      let v := u.bringUp.countReady.wr MEM_MODE_MODE 0
      exec (.startReady quick) s = .next ((((v.wr SEC_READY_MS (min 65535 ((v.elapsed - v.sec.t0) / 1000000))).wr
        SEC_BOOT_STATUS_PHASE phREADY).wr SEC_BOOT_STATUS_READY 1).enablePorts.autoBegin).settle) ∧
    (∀ quick, s.held = false → s.sec.starting = false → exec (.startReady quick) s = .next s.settle) ∧
    (∀ r : Fin 9, s.held = false → s.sec.starting = true → s.sec.failing = some r.val → ∃ t, exec (.startFail r) s = .next t ∧
      t.sec.starting = false ∧ t.sec.lastFail = r ∧ t.rd SEC_BOOT_STATUS_LAST_FAIL = r ∧
      (s.failsWarm = true → t.sec.coldFails = s.sec.coldFails ∧
        t.sec.warmFails = (if s.rd SEC_BOOT_STATUS_KIND = kdFALLBACK then s.sec.warmFails else min 3 (s.sec.warmFails + 1))) ∧
      (s.failsWarm = false → t.sec.warmFails = s.sec.warmFails ∧ t.sec.coldFails = min 3 (s.sec.coldFails + 1)) ∧
      (s.sec.fromImage = false → t.sec.coldFails ≠ 3 → r.val ≠ 7 → t.sec.restartAt = some (s.elapsed + 100000000)) ∧
      (s.sec.fromImage = true ∨ t.sec.coldFails = 3 → t.sec.restartAt = some s.elapsed)) ∧
    (∀ r : Fin 9, s.held = false → s.sec.starting = false → exec (.startFail r) s = .next s.settle) ∧
    (∀ a avs hbm, s.held = false → s.sec.restartAt = some a → s.sec.failing = none → s.recStuck = false →
      (a ≤ s.elapsed → exec (.restartTimer avs hbm) s = .next (s.nextStart (s.sec.due.getD .auto) avs hbm).settle) ∧
      (s.elapsed < a → exec (.restartTimer avs hbm) s = .next s.settle)) ∧
    (s.held = false → let at_ := if s.sec.coldFails = 3 then s.elapsed else s.elapsed + 1000000000
      let f := if s.sec.starting = true ∧ s.sec.failing = none then some 7 else s.sec.failing
      let u : State := { s with sec := { s.sec with warm := none, restartAt := some at_, failing := f } }
      exec .svcWdogExpiry s = .next (u.takeFault { cls := 23, master := 0x38 } false).settle) ∧
    (∀ flashOk avs, s.held = false → let u := s.wr SEC_REC_CTL_MODE 1
      (u.recWaits = true → u.recoveryOk s.hbm (u.rd SEC_REC_LEN) = false → ∃ t, exec (.recProgram flashOk avs) s = .next t ∧
        t.rd SEC_REC_STATUS = 3 ∧ t.flash = s.flash ∧ t.sec = s.sec) ∧
      (u.recWaits = true → u.recoveryOk s.hbm (u.rd SEC_REC_LEN) = true → ∃ t, exec (.recProgram flashOk avs) s = .next t ∧
        t.rd SEC_REC_STATUS = (if flashOk = true then 6 else 4) ∧ (flashOk = false → ∃ n ≤ writesLen (flashWrites s.hbm), t.flash = storeFirst s.flash n (flashWrites s.hbm))) ∧
      (u.recWaits = false → exec (.recProgram flashOk avs) s = .next u.settle)) ∧
    (∀ avs, s.held = false → let u := s.wr SEC_REC_CTL_MODE 0
      (u.recWaits = true → u.recoveryOk s.hbm (u.rd SEC_REC_LEN) = false → ∃ t, exec (.recRun avs) s = .next t ∧
        t.rd SEC_REC_STATUS = 3 ∧ t.flash = s.flash ∧ t.sec = s.sec) ∧
      (u.recWaits = true → u.recoveryOk s.hbm (u.rd SEC_REC_LEN) = true → exec (.recRun avs) s = .next (u.beginStart s.hbm true true avs).settle) ∧
      (u.recWaits = false → exec (.recRun avs) s = .next u.settle)) ∧
    (s.held = false → ∃ t, exec .startCntRead s = .next t ∧ t.rd SEC_START_CNT_HI = s.sec.startCnt / 2 ^ 32 % 2 ^ 32 ∧
      RegsKept [SEC_START_CNT_HI] s t ∧ t.sec = s.sec)

/-- Writing OUT word 0 of a FREE mailbox queues its message and makes it not FREE; otherwise LOST sets. With no other message
waiting, an unknown command is answered BAD_CMD at once. Clearing IN_VALID lets a waiting reply take its place. Each command is
executed when it is the oldest message: the mailbox is FREE again, and CMD and SEQ go back with STATUS and a result word.
SHUTDOWN is BUSY while the autonomous program or a reweave runs, and otherwise runs the orderly shutdown; RESTART 0, 1 and 2
make an automatic (after a shutdown), a cold or a recovery start due, other words are BAD_ARG; ATTEST and DEVCERT write the
report, with a time within 8 ns of device time, and the certificate to the destination once its transfers are answered, FAILED
on an error; ADVANCE raises the selected counters, or none of them with DENIED; OWNER_PROGRAM writes a free owner slot and
OWNER_REVOKE revokes one with the right check word; TALLY_FLUSH saves the tallies. With no message in front nothing happens.
COMPLETES: mailboxSend, mailboxRelease, shutdown, restart, attest, devcert, advance, ownerProgram, ownerRevoke and tallyFlush
each answer a next state with their own effect under the hypotheses named. (R24, R525, R532, R534, R535,
15_startup_microcode_security.md) -/
def Obligations.MailboxCommandsAreAnswered : Prop :=
  ∀ (s : State), s.held = false →
    (∀ (t : Fin 16) (w : Word), s.rd (SEC_MB_CTL_FREE t) ≠ 1 → ∃ u, exec (.mailboxSend t w) s = .next u ∧ u.rd (SEC_MB_CTL_LOST t) = 1 ∧
      RegsKept [SEC_MB_CTL_LOST t] s u ∧ u.sec = s.sec) ∧
    (∀ (t : Fin 16) (w : Word), s.rd (SEC_MB_CTL_FREE t) = 1 → s.sec.mail = [] →
      (1 ≤ w.toNat % 256 → w.toNat % 256 ≤ 8 → s.sec.halting = false → ∃ u m, exec (.mailboxSend t w) s = .next u ∧ u.sec.mail = [m] ∧ m.box = t ∧
        m.cmd = w.toNat % 256 ∧ (∀ i : Fin 15, m.word (i + 1) = s.rd (SEC_MB_OUT t (i + 1))) ∧ u.rd (SEC_MB_CTL_FREE t) = 0) ∧
      (w.toNat % 256 = 0 ∨ 8 < w.toNat % 256 → s.rd (SEC_MB_CTL_IN_VALID t) ≠ 1 → ∃ u, exec (.mailboxSend t w) s = .next u ∧ u.sec.mail = [] ∧
        u.rd (SEC_MB_CTL_FREE t) = 1 ∧ u.rd (SEC_MB_CTL_IN_VALID t) = 1 ∧ u.rd (SEC_MB_IN t 0) = w.toNat % 65536 + 65536 * stBADCMD)) ∧
    (∀ t : Fin 16, s.rd (SEC_MB_CTL_IN_VALID t) = 1 →
      (smGet [] s.sec.replies t = [] → ∃ u, exec (.mailboxRelease t) s = .next u ∧ u.rd (SEC_MB_CTL_IN_VALID t) = 0 ∧
        RegsKept [SEC_MB_CTL_IN_VALID t] s u ∧ u.sec = s.sec) ∧
      (∀ l r, smGet [] s.sec.replies t = l :: r → ∃ u, exec (.mailboxRelease t) s = .next u ∧ u.rd (SEC_MB_CTL_IN_VALID t) = 1 ∧
        u.rd (SEC_MB_IN t 0) = (l[0]?).getD 0 % 2 ^ 32 ∧ smGet [] u.sec.replies t = r)) ∧
    (∀ m rest, s.sec.mail = m :: rest → let u := s.takeMail m
      (m.cmd = mbSHUTDOWN →
        (u.rd WRP_STATUS_AUTO_RUN = 1 ∨ u.rd WRP_STATUS_BUSY = 1 → exec .shutdown s = .next ((u.reply m stBUSY 0).mailSettle).settle) ∧
        (u.rd WRP_STATUS_AUTO_RUN ≠ 1 → u.rd WRP_STATUS_BUSY ≠ 1 →
          exec .shutdown s = .next ((u.shutdownNow.2.reply m stOK u.shutdownNow.1).mailSettle).settle)) ∧
      (m.cmd = mbRESTART → s.rd WRP_STATUS_BUSY ≠ 1 →
        (m.word 1 = 0 → exec .restart s = .next ((((if u.sec.halting = true then u else u.shutdownNow.2).startDue .auto).reply m stOK 0).mailSettle).settle) ∧
        (m.word 1 = 1 → exec .restart s =
          .next (((({ u with sec := { u.sec with warm := none } } : State).startDue .cold).reply m stOK 0).mailSettle).settle) ∧
        (m.word 1 = 2 → exec .restart s = .next (((u.startDue .recovery).reply m stOK 0).mailSettle).settle) ∧
        (2 < m.word 1 → exec .restart s = .next ((u.reply m stBADARG 0).mailSettle).settle)) ∧
      (m.cmd = mbATTEST → ∃ d ≤ 16, let x := u.stamp.2.writeLong m.addr (u.report ((List.range 8).flatMap (fun j => natLe 4 (m.word (j + 1)))) (s.devTime + d - 8))
        EndsOnce .attest s ((x.2.reply m (if x.1 = 0 then stOK else stFAILED) 0).mailSettle) id) ∧
      (m.cmd = mbDEVCERT → let x := u.writeLong m.addr (padTo 7267 (slice Config.deviceCert 0 7267))
        EndsOnce .devcert s ((x.2.reply m (if x.1 = 0 then stOK else stFAILED) 0).mailSettle) id) ∧
      (m.cmd = mbADVANCE → let sel := (List.range 8).filter (fun j => bitSet (m.word 1) j)
        let low := sel.any (fun j => decide (4 ≤ j) && decide (u.advanceTo m j < smGet 0 u.sec.mctr j))
        (low = true → exec .advance s = .next ((u.reply m stDENIED 0).mailSettle).settle) ∧
        (low = false → exec .advance s = .next (((u.each sel (fun j t => t.setMctr j (max (smGet 0 t.sec.mctr j) (t.advanceTo m j)))).reply
          m stOK 0).mailSettle).settle)) ∧
      (m.cmd = mbOWNERPROGRAM → let x := u.readLong 0x38 0 m.addr 64
        (4 ≤ m.word 1 → exec .ownerProgram s = .next ((u.reply m stBADARG 0).mailSettle).settle) ∧
        (m.word 1 < 4 → u.rd SEC_OWNER_PROGRAMMED / 2 ^ m.word 1 % 2 = 1 → exec .ownerProgram s = .next ((u.reply m stDENIED 0).mailSettle).settle) ∧
        (m.word 1 < 4 → u.rd SEC_OWNER_PROGRAMMED / 2 ^ m.word 1 % 2 = 0 → x.1 ≠ 0 →
          EndsOnce .ownerProgram s ((x.2.2.reply m stFAILED 0).mailSettle) id) ∧
        (m.word 1 < 4 → u.rd SEC_OWNER_PROGRAMMED / 2 ^ m.word 1 % 2 = 0 → x.1 = 0 → let v := x.2.2
          EndsOnce .ownerProgram s (((({ v with sec := { v.sec with owner := smSet none v.sec.owner (m.word 1) (some x.2.1) } } : State).setBit
            SEC_OWNER_PROGRAMMED (m.word 1)).reply m stOK 0).mailSettle) id)) ∧
      (m.cmd = mbOWNERREVOKE →
        (4 ≤ m.word 1 ∨ m.word 2 ≠ (m.word 1).xor 0xA5 → exec .ownerRevoke s = .next ((u.reply m stBADARG 0).mailSettle).settle) ∧
        (m.word 1 < 4 → m.word 2 = (m.word 1).xor 0xA5 → exec .ownerRevoke s =
          .next (((({ u with sec := { u.sec with revoked := withBit u.sec.revoked (m.word 1) } } : State).setBit SEC_OWNER_REVOKED
            (m.word 1)).reply m stOK 0).mailSettle).settle)) ∧
      (m.cmd = mbTALLYFLUSH → exec .tallyFlush s = .next ((u.tallyFlush.reply m stOK 0).mailSettle).settle)) ∧
    (s.sec.mail = [] → ∀ c ∈ [Instr.shutdown, .restart, .attest, .devcert, .advance, .ownerProgram, .ownerRevoke, .tallyFlush],
      exec c s = .next s.settle)

/-- AON_POWER_ON raises VDD_AON, counts the power-on, records its time and holds RESET_N low. AON_BROWNOUT puts every domain in
reset and lowers VDD_AON and THERMTRIP. TEMP_SAMPLE takes the highest of the die readings into the AON record and, out of reset,
into GLB_TEMP with its peak, and the reading of each stack that is ON. MONITOR_TRIP of an evaluated monitor beyond its threshold
sets its GLB_ENV bit and raises ENV; MONITOR_RETURN inside the return limit clears the bit. THERMTRIP above 125 degrees resets
every domain and asserts THERMTRIP. AVS_STEP_DONE records the measured voltage and issues a next step of at most 10 mV.
I2C_SHUTDOWN with 0xA5 while READY queues one SHUTDOWN, and any byte written leaves the offset of the next read behind it. The
JTAG commands shift out BYPASS, IDCODE or the balls, and drive the balls from the cells or leave them high impedance. Otherwise
nothing happens. COMPLETES: aonPowerOn, aonBrownout, tempSample, monitorTrip, monitorReturn, thermtrip, avsStepDone,
i2cShutdown, bypass, idcode, samplePreload, extest, clamp and highz each answer a next state with their own effect under the
hypotheses named. (R549, R552, R553, R554, R561, R562, 16_electrical_and_package.md) -/
def Obligations.AlwaysOnEvents : Prop :=
  ∀ s : State,
    (s.aon.vdd = false → ∃ t, exec .aonPowerOn s = .next t ∧ t.out = .pin "SPI_RESET_N" false :: s.out ∧ RegsKept [] s t ∧
      t.aon = { s.aon with vdd := true, epoch := (s.aon.epoch + 1) % 2 ^ 16, since := s.elapsed, resetLow := true, peak := none, i2cOff := 0 }) ∧
    (s.aon.vdd = true → exec .aonPowerOn s = .next s.settle) ∧
    (∃ t, exec .aonBrownout s = .next t ∧ t.aon.vdd = false ∧ t.aon.thermtrip = false ∧ t.hbm = [] ∧ t.devTime = 0 ∧ t.mram = s.mram ∧
      t.flash = s.flash ∧ t.sec.startCnt = s.sec.startCnt) ∧
    (∀ (a : BitVec 8) r h0 h1, let m := (r.map BitVec.toInt).foldl max a.toInt
      let p := max (s.aon.startPeak.getD m) m
      ∃ t, exec (.tempSample (a :: r) h0 h1) s = .next t ∧ t.aon = { s.aon with tj := m, peak := some (max (s.aon.peak.getD m) m), startPeak := bif s.held then s.aon.startPeak else some p } ∧
        RegsKept [GLB_TEMP_TJ, GLB_TEMP_PEAK, MEM_TEMP 0, MEM_TEMP 1] s t ∧
        (s.held = false → t.rd GLB_TEMP_TJ = ofSign 8 m % 256 ∧ t.rd GLB_TEMP_PEAK = ofSign 8 p % 256 ∧
          (s.islOn 28 = true → t.rd (MEM_TEMP 0) = ofSign 8 h0.toInt % 256) ∧ (s.islOn 29 = true → t.rd (MEM_TEMP 1) = ofSign 8 h1.toInt % 256))) ∧
    (∀ (m : Fin 11) (v : Fin 4096), s.held = false →
      (s.monitored m = true → s.beyond m v = true → bitSet (s.rd GLB_ENV) m = false →
        exec (.monitorTrip m v) s = .next ((s.setBit GLB_ENV m).takeFault { cls := 22, addr := m } false).settle) ∧
      (s.monitored m = false ∨ s.beyond m v = false ∨ bitSet (s.rd GLB_ENV) m = true → exec (.monitorTrip m v) s = .next s.settle) ∧
      (s.monitored m = true → s.inside m v = true → exec (.monitorReturn m v) s = .next (s.clrBit GLB_ENV m).settle) ∧
      (s.monitored m = false ∨ s.inside m v = false → exec (.monitorReturn m v) s = .next s.settle)) ∧
    (∀ x : BitVec 8, (125 < x.toInt → s.aon.vdd = true → ∃ t, exec (.thermtrip x) s = .next t ∧ t.held = true ∧ t.aon.thermtrip = true ∧
        t.aon.tj = x.toInt ∧ t.hbm = [] ∧ t.mram = s.mram ∧ t.flash = s.flash ∧ t.sec.startCnt = s.sec.startCnt) ∧
      (x.toInt ≤ 125 ∨ s.aon.vdd = false → exec (.thermtrip x) s = .next s.settle)) ∧
    (∀ (meas v : Fin 4096), s.held = false → s.aon.avs.isSome = true →
      (∃ t, exec (.avsStepDone meas none) s = .next t ∧ t.rd GLB_VCORE_MEAS_MV = meas ∧ t.aon = { s.aon with avs := none } ∧
        RegsKept [GLB_VCORE_MEAS_MV] s t ∧ t.out = s.out) ∧
      (v.val ≤ s.rd GLB_VCORE_SET_MV + 10 → s.rd GLB_VCORE_SET_MV ≤ v.val + 10 → ∃ t, exec (.avsStepDone meas (some v)) s = .next t ∧
        t.rd GLB_VCORE_MEAS_MV = meas ∧ t.rd GLB_VCORE_SET_MV = v ∧ t.aon = { s.aon with avs := some v.val } ∧
        RegsKept [GLB_VCORE_MEAS_MV, GLB_VCORE_SET_MV] s t ∧ t.out = .serial "AVSBUS" [0, v.val] :: s.out)) ∧
    (∀ meas v, s.held = false → s.aon.avs = none → exec (.avsStepDone meas v) s = .next s.settle) ∧
    (s.held = false → s.rd SEC_BOOT_STATUS_PHASE = phREADY → s.aon.i2cAsked = false → s.sec.mail = [] → s.sec.halting = false →
      ∃ t, exec (.i2cShutdown 0xA5) s = .next t ∧ t.aon = { s.aon with i2cAsked := true, i2cOff := 0x11 } ∧ RegsKept [] s t ∧
        t.sec.mail = [{ box := 16, words := [mbSHUTDOWN] }]) ∧
    (∀ v : Byte, v ≠ 0xA5 ∨ s.held = true ∨ s.rd SEC_BOOT_STATUS_PHASE ≠ phREADY ∨ s.aon.i2cAsked = true →
      exec (.i2cShutdown v) s = .next (if s.aon.vdd then ({ s with aon := { s.aon with i2cOff := 0x11 } } : State) else s).settle) ∧
    (∀ bits : List Bool, exec (.bypass bits) s = .next ((s.jtag jtBYPASS).emit
      (.tdo (bits.foldr (fun b n => b2n b + 2 * n) 0 * 2 % 2 ^ bits.length) bits.length)).settle) ∧
    exec .idcode s = .next ((s.jtag jtIDCODE).emit (.tdo s.idcode 32)).settle ∧ s.idcode / 2 ^ 28 = Config.siliconStep % 16 ∧
    s.idcode / 2 ^ 12 % 2 ^ 16 = (if s.part = .ix9640 then 0x9640 else 0x9620) ∧ s.idcode % 2 ^ 12 = 0x4B3 * 2 + 1 ∧
    (∀ pins cells : List Bool, let v := pins.foldr (fun b n => b2n b + 2 * n) 0
      exec (.samplePreload pins cells) s = .next (({ s with aon := { s.aon with jtag := jtSAMPLE, cells := cells } } : State).emit (.tdo v pins.length)).settle ∧
      exec (.extest pins cells) s = .next ((({ s with aon := { s.aon with jtag := jtEXTEST, cells := cells } } : State).emit (.tdo v pins.length)).emit
        (.balls (some cells))).settle) ∧
    exec .clamp s = .next ((s.jtag jtCLAMP).emit (.balls (some s.aon.cells))).settle ∧
    exec .highz s = .next ((s.jtag jtHIGHZ).emit (.balls none)).settle
end

