-- ==== Sys2Proof/Laws/State.lean ====
section
/-! SUPPORT. Reading State after an update: one lemma per field per update. -/

namespace Sys2Proof.Machine

/-! ### Writing a register field -/

@[simp] theorem State.wr_part (s : State) (F : Fld) (v : Nat) : (s.wr F v).part = s.part := rfl
@[simp] theorem State.wr_hbm (s : State) (F : Fld) (v : Nat) : (s.wr F v).hbm = s.hbm := rfl
@[simp] theorem State.wr_hostMem (s : State) (F : Fld) (v : Nat) : (s.wr F v).hostMem = s.hostMem := rfl
@[simp] theorem State.wr_mram (s : State) (F : Fld) (v : Nat) : (s.wr F v).mram = s.mram := rfl
@[simp] theorem State.wr_flash (s : State) (F : Fld) (v : Nat) : (s.wr F v).flash = s.flash := rfl
@[simp] theorem State.wr_devTime (s : State) (F : Fld) (v : Nat) : (s.wr F v).devTime = s.devTime := rfl
@[simp] theorem State.wr_elapsed (s : State) (F : Fld) (v : Nat) : (s.wr F v).elapsed = s.elapsed := rfl
@[simp] theorem State.wr_fresh (s : State) (F : Fld) (v : Nat) : (s.wr F v).fresh = s.fresh := rfl
@[simp] theorem State.wr_out (s : State) (F : Fld) (v : Nat) : (s.wr F v).out = s.out := rfl
@[simp] theorem State.wr_pwr (s : State) (F : Fld) (v : Nat) : (s.wr F v).pwr = s.pwr := rfl
@[simp] theorem State.wr_fab (s : State) (F : Fld) (v : Nat) : (s.wr F v).fab = s.fab := rfl
@[simp] theorem State.wr_mem (s : State) (F : Fld) (v : Nat) : (s.wr F v).mem = s.mem := rfl
@[simp] theorem State.wr_pool (s : State) (F : Fld) (v : Nat) : (s.wr F v).pool = s.pool := rfl
@[simp] theorem State.wr_intr (s : State) (F : Fld) (v : Nat) : (s.wr F v).intr = s.intr := rfl
@[simp] theorem State.wr_flt (s : State) (F : Fld) (v : Nat) : (s.wr F v).flt = s.flt := rfl
@[simp] theorem State.wr_pcie (s : State) (F : Fld) (v : Nat) : (s.wr F v).pcie = s.pcie := rfl
@[simp] theorem State.wr_dma (s : State) (F : Fld) (v : Nat) : (s.wr F v).dma = s.dma := rfl
@[simp] theorem State.wr_cntLive (s : State) (F : Fld) (v : Nat) : (s.wr F v).cntLive = s.cntLive := rfl
@[simp] theorem State.wr_ctxs (s : State) (F : Fld) (v : Nat) : (s.wr F v).ctxs = s.ctxs := rfl
@[simp] theorem State.wr_spds (s : State) (F : Fld) (v : Nat) : (s.wr F v).spds = s.spds := rfl
@[simp] theorem State.wr_ing (s : State) (F : Fld) (v : Nat) : (s.wr F v).ing = s.ing := rfl
@[simp] theorem State.wr_encs (s : State) (F : Fld) (v : Nat) : (s.wr F v).encs = s.encs := rfl
@[simp] theorem State.wr_spes (s : State) (F : Fld) (v : Nat) : (s.wr F v).spes = s.spes := rfl
@[simp] theorem State.wr_card (s : State) (F : Fld) (v : Nat) : (s.wr F v).card = s.card := rfl
@[simp] theorem State.wr_canvas (s : State) (F : Fld) (v : Nat) : (s.wr F v).canvas = s.canvas := rfl
@[simp] theorem State.wr_plys (s : State) (F : Fld) (v : Nat) : (s.wr F v).plys = s.plys := rfl
@[simp] theorem State.wr_ports (s : State) (F : Fld) (v : Nat) : (s.wr F v).ports = s.ports := rfl
@[simp] theorem State.wr_wrp (s : State) (F : Fld) (v : Nat) : (s.wr F v).wrp = s.wrp := rfl
@[simp] theorem State.wr_sec (s : State) (F : Fld) (v : Nat) : (s.wr F v).sec = s.sec := rfl
@[simp] theorem State.wr_aon (s : State) (F : Fld) (v : Nat) : (s.wr F v).aon = s.aon := rfl
@[simp] theorem State.wr_pending (s : State) (F : Fld) (v : Nat) : (s.wr F v).pending = s.pending := rfl

/-! ### What leaves the device -/

@[simp] theorem State.emit_part (s : State) (o : Output) : (s.emit o).part = s.part := rfl
@[simp] theorem State.emit_flds (s : State) (o : Output) : (s.emit o).flds = s.flds := rfl
@[simp] theorem State.emit_hbm (s : State) (o : Output) : (s.emit o).hbm = s.hbm := rfl
@[simp] theorem State.emit_hostMem (s : State) (o : Output) : (s.emit o).hostMem = s.hostMem := rfl
@[simp] theorem State.emit_mram (s : State) (o : Output) : (s.emit o).mram = s.mram := rfl
@[simp] theorem State.emit_flash (s : State) (o : Output) : (s.emit o).flash = s.flash := rfl
@[simp] theorem State.emit_devTime (s : State) (o : Output) : (s.emit o).devTime = s.devTime := rfl
@[simp] theorem State.emit_elapsed (s : State) (o : Output) : (s.emit o).elapsed = s.elapsed := rfl
@[simp] theorem State.emit_fresh (s : State) (o : Output) : (s.emit o).fresh = s.fresh := rfl
@[simp] theorem State.emit_pwr (s : State) (o : Output) : (s.emit o).pwr = s.pwr := rfl
@[simp] theorem State.emit_fab (s : State) (o : Output) : (s.emit o).fab = s.fab := rfl
@[simp] theorem State.emit_mem (s : State) (o : Output) : (s.emit o).mem = s.mem := rfl
@[simp] theorem State.emit_pool (s : State) (o : Output) : (s.emit o).pool = s.pool := rfl
@[simp] theorem State.emit_intr (s : State) (o : Output) : (s.emit o).intr = s.intr := rfl
@[simp] theorem State.emit_flt (s : State) (o : Output) : (s.emit o).flt = s.flt := rfl
@[simp] theorem State.emit_pcie (s : State) (o : Output) : (s.emit o).pcie = s.pcie := rfl
@[simp] theorem State.emit_dma (s : State) (o : Output) : (s.emit o).dma = s.dma := rfl
@[simp] theorem State.emit_cntLive (s : State) (o : Output) : (s.emit o).cntLive = s.cntLive := rfl
@[simp] theorem State.emit_ctxs (s : State) (o : Output) : (s.emit o).ctxs = s.ctxs := rfl
@[simp] theorem State.emit_spds (s : State) (o : Output) : (s.emit o).spds = s.spds := rfl
@[simp] theorem State.emit_ing (s : State) (o : Output) : (s.emit o).ing = s.ing := rfl
@[simp] theorem State.emit_encs (s : State) (o : Output) : (s.emit o).encs = s.encs := rfl
@[simp] theorem State.emit_spes (s : State) (o : Output) : (s.emit o).spes = s.spes := rfl
@[simp] theorem State.emit_card (s : State) (o : Output) : (s.emit o).card = s.card := rfl
@[simp] theorem State.emit_canvas (s : State) (o : Output) : (s.emit o).canvas = s.canvas := rfl
@[simp] theorem State.emit_plys (s : State) (o : Output) : (s.emit o).plys = s.plys := rfl
@[simp] theorem State.emit_ports (s : State) (o : Output) : (s.emit o).ports = s.ports := rfl
@[simp] theorem State.emit_wrp (s : State) (o : Output) : (s.emit o).wrp = s.wrp := rfl
@[simp] theorem State.emit_sec (s : State) (o : Output) : (s.emit o).sec = s.sec := rfl
@[simp] theorem State.emit_aon (s : State) (o : Output) : (s.emit o).aon = s.aon := rfl
@[simp] theorem State.emit_pending (s : State) (o : Output) : (s.emit o).pending = s.pending := rfl

@[simp] theorem State.emit_out (s : State) (o : Output) : (s.emit o).out = o :: s.out := rfl
@[simp] theorem State.emit_rd (s : State) (o : Output) (F : Fld) : (s.emit o).rd F = s.rd F := rfl

/-! ### Drawing a free value -/

@[simp] theorem State.free2_part (s : State)  : (s.free.2).part = s.part := rfl
@[simp] theorem State.free2_flds (s : State)  : (s.free.2).flds = s.flds := rfl
@[simp] theorem State.free2_hbm (s : State)  : (s.free.2).hbm = s.hbm := rfl
@[simp] theorem State.free2_hostMem (s : State)  : (s.free.2).hostMem = s.hostMem := rfl
@[simp] theorem State.free2_mram (s : State)  : (s.free.2).mram = s.mram := rfl
@[simp] theorem State.free2_flash (s : State)  : (s.free.2).flash = s.flash := rfl
@[simp] theorem State.free2_devTime (s : State)  : (s.free.2).devTime = s.devTime := rfl
@[simp] theorem State.free2_elapsed (s : State)  : (s.free.2).elapsed = s.elapsed := rfl
@[simp] theorem State.free2_out (s : State)  : (s.free.2).out = s.out := rfl
@[simp] theorem State.free2_pwr (s : State)  : (s.free.2).pwr = s.pwr := rfl
@[simp] theorem State.free2_fab (s : State)  : (s.free.2).fab = s.fab := rfl
@[simp] theorem State.free2_mem (s : State)  : (s.free.2).mem = s.mem := rfl
@[simp] theorem State.free2_pool (s : State)  : (s.free.2).pool = s.pool := rfl
@[simp] theorem State.free2_intr (s : State)  : (s.free.2).intr = s.intr := rfl
@[simp] theorem State.free2_flt (s : State)  : (s.free.2).flt = s.flt := rfl
@[simp] theorem State.free2_pcie (s : State)  : (s.free.2).pcie = s.pcie := rfl
@[simp] theorem State.free2_dma (s : State)  : (s.free.2).dma = s.dma := rfl
@[simp] theorem State.free2_cntLive (s : State)  : (s.free.2).cntLive = s.cntLive := rfl
@[simp] theorem State.free2_ctxs (s : State)  : (s.free.2).ctxs = s.ctxs := rfl
@[simp] theorem State.free2_spds (s : State)  : (s.free.2).spds = s.spds := rfl
@[simp] theorem State.free2_ing (s : State)  : (s.free.2).ing = s.ing := rfl
@[simp] theorem State.free2_encs (s : State)  : (s.free.2).encs = s.encs := rfl
@[simp] theorem State.free2_spes (s : State)  : (s.free.2).spes = s.spes := rfl
@[simp] theorem State.free2_card (s : State)  : (s.free.2).card = s.card := rfl
@[simp] theorem State.free2_canvas (s : State)  : (s.free.2).canvas = s.canvas := rfl
@[simp] theorem State.free2_plys (s : State)  : (s.free.2).plys = s.plys := rfl
@[simp] theorem State.free2_ports (s : State)  : (s.free.2).ports = s.ports := rfl
@[simp] theorem State.free2_wrp (s : State)  : (s.free.2).wrp = s.wrp := rfl
@[simp] theorem State.free2_sec (s : State)  : (s.free.2).sec = s.sec := rfl
@[simp] theorem State.free2_aon (s : State)  : (s.free.2).aon = s.aon := rfl
@[simp] theorem State.free2_pending (s : State)  : (s.free.2).pending = s.pending := rfl

@[simp] theorem State.free2_fresh (s : State) : s.free.2.fresh = s.fresh + 1 := rfl
@[simp] theorem State.free2_rd (s : State) (F : Fld) : s.free.2.rd F = s.rd F := rfl

end Sys2Proof.Machine
end

