-- ==== Sys2Proof/Laws/Records.lean ====
section
/-! SUPPORT. Reading State after an update of one of the records beside the registers: one lemma per field per update. -/

namespace Sys2Proof.Machine

/-! ### modCtx -/

@[simp] theorem State.modCtx_rd (s : State) (n : Nat) (f : Ctx → Ctx) (F : Fld) : (s.modCtx n f).rd F = s.rd F := rfl
@[simp] theorem State.modCtx_part (s : State) (n : Nat) (f : Ctx → Ctx) : (s.modCtx n f).part = s.part := rfl
@[simp] theorem State.modCtx_flds (s : State) (n : Nat) (f : Ctx → Ctx) : (s.modCtx n f).flds = s.flds := rfl
@[simp] theorem State.modCtx_hbm (s : State) (n : Nat) (f : Ctx → Ctx) : (s.modCtx n f).hbm = s.hbm := rfl
@[simp] theorem State.modCtx_hostMem (s : State) (n : Nat) (f : Ctx → Ctx) : (s.modCtx n f).hostMem = s.hostMem := rfl
@[simp] theorem State.modCtx_mram (s : State) (n : Nat) (f : Ctx → Ctx) : (s.modCtx n f).mram = s.mram := rfl
@[simp] theorem State.modCtx_flash (s : State) (n : Nat) (f : Ctx → Ctx) : (s.modCtx n f).flash = s.flash := rfl
@[simp] theorem State.modCtx_devTime (s : State) (n : Nat) (f : Ctx → Ctx) : (s.modCtx n f).devTime = s.devTime := rfl
@[simp] theorem State.modCtx_elapsed (s : State) (n : Nat) (f : Ctx → Ctx) : (s.modCtx n f).elapsed = s.elapsed := rfl
@[simp] theorem State.modCtx_fresh (s : State) (n : Nat) (f : Ctx → Ctx) : (s.modCtx n f).fresh = s.fresh := rfl
@[simp] theorem State.modCtx_out (s : State) (n : Nat) (f : Ctx → Ctx) : (s.modCtx n f).out = s.out := rfl
@[simp] theorem State.modCtx_pwr (s : State) (n : Nat) (f : Ctx → Ctx) : (s.modCtx n f).pwr = s.pwr := rfl
@[simp] theorem State.modCtx_fab (s : State) (n : Nat) (f : Ctx → Ctx) : (s.modCtx n f).fab = s.fab := rfl
@[simp] theorem State.modCtx_mem (s : State) (n : Nat) (f : Ctx → Ctx) : (s.modCtx n f).mem = s.mem := rfl
@[simp] theorem State.modCtx_pool (s : State) (n : Nat) (f : Ctx → Ctx) : (s.modCtx n f).pool = s.pool := rfl
@[simp] theorem State.modCtx_intr (s : State) (n : Nat) (f : Ctx → Ctx) : (s.modCtx n f).intr = s.intr := rfl
@[simp] theorem State.modCtx_flt (s : State) (n : Nat) (f : Ctx → Ctx) : (s.modCtx n f).flt = s.flt := rfl
@[simp] theorem State.modCtx_pcie (s : State) (n : Nat) (f : Ctx → Ctx) : (s.modCtx n f).pcie = s.pcie := rfl
@[simp] theorem State.modCtx_dma (s : State) (n : Nat) (f : Ctx → Ctx) : (s.modCtx n f).dma = s.dma := rfl
@[simp] theorem State.modCtx_cntLive (s : State) (n : Nat) (f : Ctx → Ctx) : (s.modCtx n f).cntLive = s.cntLive := rfl
@[simp] theorem State.modCtx_spds (s : State) (n : Nat) (f : Ctx → Ctx) : (s.modCtx n f).spds = s.spds := rfl
@[simp] theorem State.modCtx_ing (s : State) (n : Nat) (f : Ctx → Ctx) : (s.modCtx n f).ing = s.ing := rfl
@[simp] theorem State.modCtx_encs (s : State) (n : Nat) (f : Ctx → Ctx) : (s.modCtx n f).encs = s.encs := rfl
@[simp] theorem State.modCtx_spes (s : State) (n : Nat) (f : Ctx → Ctx) : (s.modCtx n f).spes = s.spes := rfl
@[simp] theorem State.modCtx_card (s : State) (n : Nat) (f : Ctx → Ctx) : (s.modCtx n f).card = s.card := rfl
@[simp] theorem State.modCtx_canvas (s : State) (n : Nat) (f : Ctx → Ctx) : (s.modCtx n f).canvas = s.canvas := rfl
@[simp] theorem State.modCtx_plys (s : State) (n : Nat) (f : Ctx → Ctx) : (s.modCtx n f).plys = s.plys := rfl
@[simp] theorem State.modCtx_ports (s : State) (n : Nat) (f : Ctx → Ctx) : (s.modCtx n f).ports = s.ports := rfl
@[simp] theorem State.modCtx_wrp (s : State) (n : Nat) (f : Ctx → Ctx) : (s.modCtx n f).wrp = s.wrp := rfl
@[simp] theorem State.modCtx_sec (s : State) (n : Nat) (f : Ctx → Ctx) : (s.modCtx n f).sec = s.sec := rfl
@[simp] theorem State.modCtx_aon (s : State) (n : Nat) (f : Ctx → Ctx) : (s.modCtx n f).aon = s.aon := rfl
@[simp] theorem State.modCtx_pending (s : State) (n : Nat) (f : Ctx → Ctx) : (s.modCtx n f).pending = s.pending := rfl

/-! ### modEnc -/

@[simp] theorem State.modEnc_part (s : State) (e : Nat) (f : Enc → Enc) : (s.modEnc e f).part = s.part := rfl
@[simp] theorem State.modEnc_hbm (s : State) (e : Nat) (f : Enc → Enc) : (s.modEnc e f).hbm = s.hbm := rfl
@[simp] theorem State.modEnc_hostMem (s : State) (e : Nat) (f : Enc → Enc) : (s.modEnc e f).hostMem = s.hostMem := rfl
@[simp] theorem State.modEnc_mram (s : State) (e : Nat) (f : Enc → Enc) : (s.modEnc e f).mram = s.mram := rfl
@[simp] theorem State.modEnc_flash (s : State) (e : Nat) (f : Enc → Enc) : (s.modEnc e f).flash = s.flash := rfl
@[simp] theorem State.modEnc_devTime (s : State) (e : Nat) (f : Enc → Enc) : (s.modEnc e f).devTime = s.devTime := rfl
@[simp] theorem State.modEnc_elapsed (s : State) (e : Nat) (f : Enc → Enc) : (s.modEnc e f).elapsed = s.elapsed := rfl
@[simp] theorem State.modEnc_fresh (s : State) (e : Nat) (f : Enc → Enc) : (s.modEnc e f).fresh = s.fresh := rfl
@[simp] theorem State.modEnc_out (s : State) (e : Nat) (f : Enc → Enc) : (s.modEnc e f).out = s.out := rfl
@[simp] theorem State.modEnc_pwr (s : State) (e : Nat) (f : Enc → Enc) : (s.modEnc e f).pwr = s.pwr := rfl
@[simp] theorem State.modEnc_fab (s : State) (e : Nat) (f : Enc → Enc) : (s.modEnc e f).fab = s.fab := rfl
@[simp] theorem State.modEnc_mem (s : State) (e : Nat) (f : Enc → Enc) : (s.modEnc e f).mem = s.mem := rfl
@[simp] theorem State.modEnc_pool (s : State) (e : Nat) (f : Enc → Enc) : (s.modEnc e f).pool = s.pool := rfl
@[simp] theorem State.modEnc_intr (s : State) (e : Nat) (f : Enc → Enc) : (s.modEnc e f).intr = s.intr := rfl
@[simp] theorem State.modEnc_flt (s : State) (e : Nat) (f : Enc → Enc) : (s.modEnc e f).flt = s.flt := rfl
@[simp] theorem State.modEnc_pcie (s : State) (e : Nat) (f : Enc → Enc) : (s.modEnc e f).pcie = s.pcie := rfl
@[simp] theorem State.modEnc_dma (s : State) (e : Nat) (f : Enc → Enc) : (s.modEnc e f).dma = s.dma := rfl
@[simp] theorem State.modEnc_cntLive (s : State) (e : Nat) (f : Enc → Enc) : (s.modEnc e f).cntLive = s.cntLive := rfl
@[simp] theorem State.modEnc_ctxs (s : State) (e : Nat) (f : Enc → Enc) : (s.modEnc e f).ctxs = s.ctxs := rfl
@[simp] theorem State.modEnc_spds (s : State) (e : Nat) (f : Enc → Enc) : (s.modEnc e f).spds = s.spds := rfl
@[simp] theorem State.modEnc_ing (s : State) (e : Nat) (f : Enc → Enc) : (s.modEnc e f).ing = s.ing := rfl
@[simp] theorem State.modEnc_spes (s : State) (e : Nat) (f : Enc → Enc) : (s.modEnc e f).spes = s.spes := rfl
@[simp] theorem State.modEnc_card (s : State) (e : Nat) (f : Enc → Enc) : (s.modEnc e f).card = s.card := rfl
@[simp] theorem State.modEnc_canvas (s : State) (e : Nat) (f : Enc → Enc) : (s.modEnc e f).canvas = s.canvas := rfl
@[simp] theorem State.modEnc_plys (s : State) (e : Nat) (f : Enc → Enc) : (s.modEnc e f).plys = s.plys := rfl
@[simp] theorem State.modEnc_ports (s : State) (e : Nat) (f : Enc → Enc) : (s.modEnc e f).ports = s.ports := rfl
@[simp] theorem State.modEnc_wrp (s : State) (e : Nat) (f : Enc → Enc) : (s.modEnc e f).wrp = s.wrp := rfl
@[simp] theorem State.modEnc_sec (s : State) (e : Nat) (f : Enc → Enc) : (s.modEnc e f).sec = s.sec := rfl
@[simp] theorem State.modEnc_aon (s : State) (e : Nat) (f : Enc → Enc) : (s.modEnc e f).aon = s.aon := rfl
@[simp] theorem State.modEnc_pending (s : State) (e : Nat) (f : Enc → Enc) : (s.modEnc e f).pending = s.pending := rfl

/-! ### modChan -/

@[simp] theorem State.modChan_rd (s : State) (c : Nat) (f : DmaSt → DmaSt) (F : Fld) : (s.modChan c f).rd F = s.rd F := rfl
@[simp] theorem State.modChan_part (s : State) (c : Nat) (f : DmaSt → DmaSt) : (s.modChan c f).part = s.part := rfl
@[simp] theorem State.modChan_flds (s : State) (c : Nat) (f : DmaSt → DmaSt) : (s.modChan c f).flds = s.flds := rfl
@[simp] theorem State.modChan_hbm (s : State) (c : Nat) (f : DmaSt → DmaSt) : (s.modChan c f).hbm = s.hbm := rfl
@[simp] theorem State.modChan_hostMem (s : State) (c : Nat) (f : DmaSt → DmaSt) : (s.modChan c f).hostMem = s.hostMem := rfl
@[simp] theorem State.modChan_mram (s : State) (c : Nat) (f : DmaSt → DmaSt) : (s.modChan c f).mram = s.mram := rfl
@[simp] theorem State.modChan_flash (s : State) (c : Nat) (f : DmaSt → DmaSt) : (s.modChan c f).flash = s.flash := rfl
@[simp] theorem State.modChan_devTime (s : State) (c : Nat) (f : DmaSt → DmaSt) : (s.modChan c f).devTime = s.devTime := rfl
@[simp] theorem State.modChan_elapsed (s : State) (c : Nat) (f : DmaSt → DmaSt) : (s.modChan c f).elapsed = s.elapsed := rfl
@[simp] theorem State.modChan_fresh (s : State) (c : Nat) (f : DmaSt → DmaSt) : (s.modChan c f).fresh = s.fresh := rfl
@[simp] theorem State.modChan_out (s : State) (c : Nat) (f : DmaSt → DmaSt) : (s.modChan c f).out = s.out := rfl
@[simp] theorem State.modChan_pwr (s : State) (c : Nat) (f : DmaSt → DmaSt) : (s.modChan c f).pwr = s.pwr := rfl
@[simp] theorem State.modChan_fab (s : State) (c : Nat) (f : DmaSt → DmaSt) : (s.modChan c f).fab = s.fab := rfl
@[simp] theorem State.modChan_mem (s : State) (c : Nat) (f : DmaSt → DmaSt) : (s.modChan c f).mem = s.mem := rfl
@[simp] theorem State.modChan_pool (s : State) (c : Nat) (f : DmaSt → DmaSt) : (s.modChan c f).pool = s.pool := rfl
@[simp] theorem State.modChan_intr (s : State) (c : Nat) (f : DmaSt → DmaSt) : (s.modChan c f).intr = s.intr := rfl
@[simp] theorem State.modChan_flt (s : State) (c : Nat) (f : DmaSt → DmaSt) : (s.modChan c f).flt = s.flt := rfl
@[simp] theorem State.modChan_pcie (s : State) (c : Nat) (f : DmaSt → DmaSt) : (s.modChan c f).pcie = s.pcie := rfl
@[simp] theorem State.modChan_cntLive (s : State) (c : Nat) (f : DmaSt → DmaSt) : (s.modChan c f).cntLive = s.cntLive := rfl
@[simp] theorem State.modChan_ctxs (s : State) (c : Nat) (f : DmaSt → DmaSt) : (s.modChan c f).ctxs = s.ctxs := rfl
@[simp] theorem State.modChan_spds (s : State) (c : Nat) (f : DmaSt → DmaSt) : (s.modChan c f).spds = s.spds := rfl
@[simp] theorem State.modChan_ing (s : State) (c : Nat) (f : DmaSt → DmaSt) : (s.modChan c f).ing = s.ing := rfl
@[simp] theorem State.modChan_encs (s : State) (c : Nat) (f : DmaSt → DmaSt) : (s.modChan c f).encs = s.encs := rfl
@[simp] theorem State.modChan_spes (s : State) (c : Nat) (f : DmaSt → DmaSt) : (s.modChan c f).spes = s.spes := rfl
@[simp] theorem State.modChan_card (s : State) (c : Nat) (f : DmaSt → DmaSt) : (s.modChan c f).card = s.card := rfl
@[simp] theorem State.modChan_canvas (s : State) (c : Nat) (f : DmaSt → DmaSt) : (s.modChan c f).canvas = s.canvas := rfl
@[simp] theorem State.modChan_plys (s : State) (c : Nat) (f : DmaSt → DmaSt) : (s.modChan c f).plys = s.plys := rfl
@[simp] theorem State.modChan_ports (s : State) (c : Nat) (f : DmaSt → DmaSt) : (s.modChan c f).ports = s.ports := rfl
@[simp] theorem State.modChan_wrp (s : State) (c : Nat) (f : DmaSt → DmaSt) : (s.modChan c f).wrp = s.wrp := rfl
@[simp] theorem State.modChan_sec (s : State) (c : Nat) (f : DmaSt → DmaSt) : (s.modChan c f).sec = s.sec := rfl
@[simp] theorem State.modChan_aon (s : State) (c : Nat) (f : DmaSt → DmaSt) : (s.modChan c f).aon = s.aon := rfl
@[simp] theorem State.modChan_pending (s : State) (c : Nat) (f : DmaSt → DmaSt) : (s.modChan c f).pending = s.pending := rfl

/-! ### modPort -/

@[simp] theorem State.modPort_rd (s : State) (p : Nat) (f : PortSt → PortSt) (F : Fld) : (s.modPort p f).rd F = s.rd F := rfl
@[simp] theorem State.modPort_part (s : State) (p : Nat) (f : PortSt → PortSt) : (s.modPort p f).part = s.part := rfl
@[simp] theorem State.modPort_flds (s : State) (p : Nat) (f : PortSt → PortSt) : (s.modPort p f).flds = s.flds := rfl
@[simp] theorem State.modPort_hbm (s : State) (p : Nat) (f : PortSt → PortSt) : (s.modPort p f).hbm = s.hbm := rfl
@[simp] theorem State.modPort_hostMem (s : State) (p : Nat) (f : PortSt → PortSt) : (s.modPort p f).hostMem = s.hostMem := rfl
@[simp] theorem State.modPort_mram (s : State) (p : Nat) (f : PortSt → PortSt) : (s.modPort p f).mram = s.mram := rfl
@[simp] theorem State.modPort_flash (s : State) (p : Nat) (f : PortSt → PortSt) : (s.modPort p f).flash = s.flash := rfl
@[simp] theorem State.modPort_devTime (s : State) (p : Nat) (f : PortSt → PortSt) : (s.modPort p f).devTime = s.devTime := rfl
@[simp] theorem State.modPort_elapsed (s : State) (p : Nat) (f : PortSt → PortSt) : (s.modPort p f).elapsed = s.elapsed := rfl
@[simp] theorem State.modPort_fresh (s : State) (p : Nat) (f : PortSt → PortSt) : (s.modPort p f).fresh = s.fresh := rfl
@[simp] theorem State.modPort_out (s : State) (p : Nat) (f : PortSt → PortSt) : (s.modPort p f).out = s.out := rfl
@[simp] theorem State.modPort_pwr (s : State) (p : Nat) (f : PortSt → PortSt) : (s.modPort p f).pwr = s.pwr := rfl
@[simp] theorem State.modPort_fab (s : State) (p : Nat) (f : PortSt → PortSt) : (s.modPort p f).fab = s.fab := rfl
@[simp] theorem State.modPort_mem (s : State) (p : Nat) (f : PortSt → PortSt) : (s.modPort p f).mem = s.mem := rfl
@[simp] theorem State.modPort_pool (s : State) (p : Nat) (f : PortSt → PortSt) : (s.modPort p f).pool = s.pool := rfl
@[simp] theorem State.modPort_intr (s : State) (p : Nat) (f : PortSt → PortSt) : (s.modPort p f).intr = s.intr := rfl
@[simp] theorem State.modPort_flt (s : State) (p : Nat) (f : PortSt → PortSt) : (s.modPort p f).flt = s.flt := rfl
@[simp] theorem State.modPort_pcie (s : State) (p : Nat) (f : PortSt → PortSt) : (s.modPort p f).pcie = s.pcie := rfl
@[simp] theorem State.modPort_dma (s : State) (p : Nat) (f : PortSt → PortSt) : (s.modPort p f).dma = s.dma := rfl
@[simp] theorem State.modPort_cntLive (s : State) (p : Nat) (f : PortSt → PortSt) : (s.modPort p f).cntLive = s.cntLive := rfl
@[simp] theorem State.modPort_ctxs (s : State) (p : Nat) (f : PortSt → PortSt) : (s.modPort p f).ctxs = s.ctxs := rfl
@[simp] theorem State.modPort_spds (s : State) (p : Nat) (f : PortSt → PortSt) : (s.modPort p f).spds = s.spds := rfl
@[simp] theorem State.modPort_ing (s : State) (p : Nat) (f : PortSt → PortSt) : (s.modPort p f).ing = s.ing := rfl
@[simp] theorem State.modPort_encs (s : State) (p : Nat) (f : PortSt → PortSt) : (s.modPort p f).encs = s.encs := rfl
@[simp] theorem State.modPort_spes (s : State) (p : Nat) (f : PortSt → PortSt) : (s.modPort p f).spes = s.spes := rfl
@[simp] theorem State.modPort_card (s : State) (p : Nat) (f : PortSt → PortSt) : (s.modPort p f).card = s.card := rfl
@[simp] theorem State.modPort_canvas (s : State) (p : Nat) (f : PortSt → PortSt) : (s.modPort p f).canvas = s.canvas := rfl
@[simp] theorem State.modPort_plys (s : State) (p : Nat) (f : PortSt → PortSt) : (s.modPort p f).plys = s.plys := rfl
@[simp] theorem State.modPort_wrp (s : State) (p : Nat) (f : PortSt → PortSt) : (s.modPort p f).wrp = s.wrp := rfl
@[simp] theorem State.modPort_sec (s : State) (p : Nat) (f : PortSt → PortSt) : (s.modPort p f).sec = s.sec := rfl
@[simp] theorem State.modPort_aon (s : State) (p : Nat) (f : PortSt → PortSt) : (s.modPort p f).aon = s.aon := rfl
@[simp] theorem State.modPort_pending (s : State) (p : Nat) (f : PortSt → PortSt) : (s.modPort p f).pending = s.pending := rfl

/-! ### modPly -/

@[simp] theorem State.modPly_rd (s : State) (e : Nat) (f : PlySt → PlySt) (F : Fld) : (s.modPly e f).rd F = s.rd F := rfl
@[simp] theorem State.modPly_part (s : State) (e : Nat) (f : PlySt → PlySt) : (s.modPly e f).part = s.part := rfl
@[simp] theorem State.modPly_flds (s : State) (e : Nat) (f : PlySt → PlySt) : (s.modPly e f).flds = s.flds := rfl
@[simp] theorem State.modPly_hbm (s : State) (e : Nat) (f : PlySt → PlySt) : (s.modPly e f).hbm = s.hbm := rfl
@[simp] theorem State.modPly_hostMem (s : State) (e : Nat) (f : PlySt → PlySt) : (s.modPly e f).hostMem = s.hostMem := rfl
@[simp] theorem State.modPly_mram (s : State) (e : Nat) (f : PlySt → PlySt) : (s.modPly e f).mram = s.mram := rfl
@[simp] theorem State.modPly_flash (s : State) (e : Nat) (f : PlySt → PlySt) : (s.modPly e f).flash = s.flash := rfl
@[simp] theorem State.modPly_devTime (s : State) (e : Nat) (f : PlySt → PlySt) : (s.modPly e f).devTime = s.devTime := rfl
@[simp] theorem State.modPly_elapsed (s : State) (e : Nat) (f : PlySt → PlySt) : (s.modPly e f).elapsed = s.elapsed := rfl
@[simp] theorem State.modPly_fresh (s : State) (e : Nat) (f : PlySt → PlySt) : (s.modPly e f).fresh = s.fresh := rfl
@[simp] theorem State.modPly_out (s : State) (e : Nat) (f : PlySt → PlySt) : (s.modPly e f).out = s.out := rfl
@[simp] theorem State.modPly_pwr (s : State) (e : Nat) (f : PlySt → PlySt) : (s.modPly e f).pwr = s.pwr := rfl
@[simp] theorem State.modPly_fab (s : State) (e : Nat) (f : PlySt → PlySt) : (s.modPly e f).fab = s.fab := rfl
@[simp] theorem State.modPly_mem (s : State) (e : Nat) (f : PlySt → PlySt) : (s.modPly e f).mem = s.mem := rfl
@[simp] theorem State.modPly_pool (s : State) (e : Nat) (f : PlySt → PlySt) : (s.modPly e f).pool = s.pool := rfl
@[simp] theorem State.modPly_intr (s : State) (e : Nat) (f : PlySt → PlySt) : (s.modPly e f).intr = s.intr := rfl
@[simp] theorem State.modPly_flt (s : State) (e : Nat) (f : PlySt → PlySt) : (s.modPly e f).flt = s.flt := rfl
@[simp] theorem State.modPly_pcie (s : State) (e : Nat) (f : PlySt → PlySt) : (s.modPly e f).pcie = s.pcie := rfl
@[simp] theorem State.modPly_dma (s : State) (e : Nat) (f : PlySt → PlySt) : (s.modPly e f).dma = s.dma := rfl
@[simp] theorem State.modPly_cntLive (s : State) (e : Nat) (f : PlySt → PlySt) : (s.modPly e f).cntLive = s.cntLive := rfl
@[simp] theorem State.modPly_ctxs (s : State) (e : Nat) (f : PlySt → PlySt) : (s.modPly e f).ctxs = s.ctxs := rfl
@[simp] theorem State.modPly_spds (s : State) (e : Nat) (f : PlySt → PlySt) : (s.modPly e f).spds = s.spds := rfl
@[simp] theorem State.modPly_ing (s : State) (e : Nat) (f : PlySt → PlySt) : (s.modPly e f).ing = s.ing := rfl
@[simp] theorem State.modPly_encs (s : State) (e : Nat) (f : PlySt → PlySt) : (s.modPly e f).encs = s.encs := rfl
@[simp] theorem State.modPly_spes (s : State) (e : Nat) (f : PlySt → PlySt) : (s.modPly e f).spes = s.spes := rfl
@[simp] theorem State.modPly_card (s : State) (e : Nat) (f : PlySt → PlySt) : (s.modPly e f).card = s.card := rfl
@[simp] theorem State.modPly_canvas (s : State) (e : Nat) (f : PlySt → PlySt) : (s.modPly e f).canvas = s.canvas := rfl
@[simp] theorem State.modPly_ports (s : State) (e : Nat) (f : PlySt → PlySt) : (s.modPly e f).ports = s.ports := rfl
@[simp] theorem State.modPly_wrp (s : State) (e : Nat) (f : PlySt → PlySt) : (s.modPly e f).wrp = s.wrp := rfl
@[simp] theorem State.modPly_sec (s : State) (e : Nat) (f : PlySt → PlySt) : (s.modPly e f).sec = s.sec := rfl
@[simp] theorem State.modPly_aon (s : State) (e : Nat) (f : PlySt → PlySt) : (s.modPly e f).aon = s.aon := rfl
@[simp] theorem State.modPly_pending (s : State) (e : Nat) (f : PlySt → PlySt) : (s.modPly e f).pending = s.pending := rfl

/-! ### modPtp -/

@[simp] theorem State.modPtp_rd (s : State) (f : PtpSt → PtpSt) (F : Fld) : (s.modPtp f).rd F = s.rd F := rfl
@[simp] theorem State.modPtp_part (s : State) (f : PtpSt → PtpSt) : (s.modPtp f).part = s.part := rfl
@[simp] theorem State.modPtp_flds (s : State) (f : PtpSt → PtpSt) : (s.modPtp f).flds = s.flds := rfl
@[simp] theorem State.modPtp_hbm (s : State) (f : PtpSt → PtpSt) : (s.modPtp f).hbm = s.hbm := rfl
@[simp] theorem State.modPtp_hostMem (s : State) (f : PtpSt → PtpSt) : (s.modPtp f).hostMem = s.hostMem := rfl
@[simp] theorem State.modPtp_mram (s : State) (f : PtpSt → PtpSt) : (s.modPtp f).mram = s.mram := rfl
@[simp] theorem State.modPtp_flash (s : State) (f : PtpSt → PtpSt) : (s.modPtp f).flash = s.flash := rfl
@[simp] theorem State.modPtp_devTime (s : State) (f : PtpSt → PtpSt) : (s.modPtp f).devTime = s.devTime := rfl
@[simp] theorem State.modPtp_elapsed (s : State) (f : PtpSt → PtpSt) : (s.modPtp f).elapsed = s.elapsed := rfl
@[simp] theorem State.modPtp_fresh (s : State) (f : PtpSt → PtpSt) : (s.modPtp f).fresh = s.fresh := rfl
@[simp] theorem State.modPtp_out (s : State) (f : PtpSt → PtpSt) : (s.modPtp f).out = s.out := rfl
@[simp] theorem State.modPtp_pwr (s : State) (f : PtpSt → PtpSt) : (s.modPtp f).pwr = s.pwr := rfl
@[simp] theorem State.modPtp_fab (s : State) (f : PtpSt → PtpSt) : (s.modPtp f).fab = s.fab := rfl
@[simp] theorem State.modPtp_mem (s : State) (f : PtpSt → PtpSt) : (s.modPtp f).mem = s.mem := rfl
@[simp] theorem State.modPtp_pool (s : State) (f : PtpSt → PtpSt) : (s.modPtp f).pool = s.pool := rfl
@[simp] theorem State.modPtp_intr (s : State) (f : PtpSt → PtpSt) : (s.modPtp f).intr = s.intr := rfl
@[simp] theorem State.modPtp_flt (s : State) (f : PtpSt → PtpSt) : (s.modPtp f).flt = s.flt := rfl
@[simp] theorem State.modPtp_pcie (s : State) (f : PtpSt → PtpSt) : (s.modPtp f).pcie = s.pcie := rfl
@[simp] theorem State.modPtp_dma (s : State) (f : PtpSt → PtpSt) : (s.modPtp f).dma = s.dma := rfl
@[simp] theorem State.modPtp_cntLive (s : State) (f : PtpSt → PtpSt) : (s.modPtp f).cntLive = s.cntLive := rfl
@[simp] theorem State.modPtp_ctxs (s : State) (f : PtpSt → PtpSt) : (s.modPtp f).ctxs = s.ctxs := rfl
@[simp] theorem State.modPtp_spds (s : State) (f : PtpSt → PtpSt) : (s.modPtp f).spds = s.spds := rfl
@[simp] theorem State.modPtp_encs (s : State) (f : PtpSt → PtpSt) : (s.modPtp f).encs = s.encs := rfl
@[simp] theorem State.modPtp_spes (s : State) (f : PtpSt → PtpSt) : (s.modPtp f).spes = s.spes := rfl
@[simp] theorem State.modPtp_card (s : State) (f : PtpSt → PtpSt) : (s.modPtp f).card = s.card := rfl
@[simp] theorem State.modPtp_canvas (s : State) (f : PtpSt → PtpSt) : (s.modPtp f).canvas = s.canvas := rfl
@[simp] theorem State.modPtp_plys (s : State) (f : PtpSt → PtpSt) : (s.modPtp f).plys = s.plys := rfl
@[simp] theorem State.modPtp_ports (s : State) (f : PtpSt → PtpSt) : (s.modPtp f).ports = s.ports := rfl
@[simp] theorem State.modPtp_wrp (s : State) (f : PtpSt → PtpSt) : (s.modPtp f).wrp = s.wrp := rfl
@[simp] theorem State.modPtp_sec (s : State) (f : PtpSt → PtpSt) : (s.modPtp f).sec = s.sec := rfl
@[simp] theorem State.modPtp_aon (s : State) (f : PtpSt → PtpSt) : (s.modPtp f).aon = s.aon := rfl
@[simp] theorem State.modPtp_pending (s : State) (f : PtpSt → PtpSt) : (s.modPtp f).pending = s.pending := rfl

/-! ### modEgr -/

@[simp] theorem State.modEgr_rd (s : State) (e : Nat) (f : Egr → Egr) (F : Fld) : (s.modEgr e f).rd F = s.rd F := rfl
@[simp] theorem State.modEgr_part (s : State) (e : Nat) (f : Egr → Egr) : (s.modEgr e f).part = s.part := rfl
@[simp] theorem State.modEgr_flds (s : State) (e : Nat) (f : Egr → Egr) : (s.modEgr e f).flds = s.flds := rfl
@[simp] theorem State.modEgr_hbm (s : State) (e : Nat) (f : Egr → Egr) : (s.modEgr e f).hbm = s.hbm := rfl
@[simp] theorem State.modEgr_hostMem (s : State) (e : Nat) (f : Egr → Egr) : (s.modEgr e f).hostMem = s.hostMem := rfl
@[simp] theorem State.modEgr_mram (s : State) (e : Nat) (f : Egr → Egr) : (s.modEgr e f).mram = s.mram := rfl
@[simp] theorem State.modEgr_flash (s : State) (e : Nat) (f : Egr → Egr) : (s.modEgr e f).flash = s.flash := rfl
@[simp] theorem State.modEgr_devTime (s : State) (e : Nat) (f : Egr → Egr) : (s.modEgr e f).devTime = s.devTime := rfl
@[simp] theorem State.modEgr_elapsed (s : State) (e : Nat) (f : Egr → Egr) : (s.modEgr e f).elapsed = s.elapsed := rfl
@[simp] theorem State.modEgr_fresh (s : State) (e : Nat) (f : Egr → Egr) : (s.modEgr e f).fresh = s.fresh := rfl
@[simp] theorem State.modEgr_out (s : State) (e : Nat) (f : Egr → Egr) : (s.modEgr e f).out = s.out := rfl
@[simp] theorem State.modEgr_pwr (s : State) (e : Nat) (f : Egr → Egr) : (s.modEgr e f).pwr = s.pwr := rfl
@[simp] theorem State.modEgr_fab (s : State) (e : Nat) (f : Egr → Egr) : (s.modEgr e f).fab = s.fab := rfl
@[simp] theorem State.modEgr_mem (s : State) (e : Nat) (f : Egr → Egr) : (s.modEgr e f).mem = s.mem := rfl
@[simp] theorem State.modEgr_pool (s : State) (e : Nat) (f : Egr → Egr) : (s.modEgr e f).pool = s.pool := rfl
@[simp] theorem State.modEgr_intr (s : State) (e : Nat) (f : Egr → Egr) : (s.modEgr e f).intr = s.intr := rfl
@[simp] theorem State.modEgr_flt (s : State) (e : Nat) (f : Egr → Egr) : (s.modEgr e f).flt = s.flt := rfl
@[simp] theorem State.modEgr_pcie (s : State) (e : Nat) (f : Egr → Egr) : (s.modEgr e f).pcie = s.pcie := rfl
@[simp] theorem State.modEgr_dma (s : State) (e : Nat) (f : Egr → Egr) : (s.modEgr e f).dma = s.dma := rfl
@[simp] theorem State.modEgr_cntLive (s : State) (e : Nat) (f : Egr → Egr) : (s.modEgr e f).cntLive = s.cntLive := rfl
@[simp] theorem State.modEgr_ctxs (s : State) (e : Nat) (f : Egr → Egr) : (s.modEgr e f).ctxs = s.ctxs := rfl
@[simp] theorem State.modEgr_spds (s : State) (e : Nat) (f : Egr → Egr) : (s.modEgr e f).spds = s.spds := rfl
@[simp] theorem State.modEgr_encs (s : State) (e : Nat) (f : Egr → Egr) : (s.modEgr e f).encs = s.encs := rfl
@[simp] theorem State.modEgr_spes (s : State) (e : Nat) (f : Egr → Egr) : (s.modEgr e f).spes = s.spes := rfl
@[simp] theorem State.modEgr_card (s : State) (e : Nat) (f : Egr → Egr) : (s.modEgr e f).card = s.card := rfl
@[simp] theorem State.modEgr_canvas (s : State) (e : Nat) (f : Egr → Egr) : (s.modEgr e f).canvas = s.canvas := rfl
@[simp] theorem State.modEgr_plys (s : State) (e : Nat) (f : Egr → Egr) : (s.modEgr e f).plys = s.plys := rfl
@[simp] theorem State.modEgr_ports (s : State) (e : Nat) (f : Egr → Egr) : (s.modEgr e f).ports = s.ports := rfl
@[simp] theorem State.modEgr_wrp (s : State) (e : Nat) (f : Egr → Egr) : (s.modEgr e f).wrp = s.wrp := rfl
@[simp] theorem State.modEgr_sec (s : State) (e : Nat) (f : Egr → Egr) : (s.modEgr e f).sec = s.sec := rfl
@[simp] theorem State.modEgr_aon (s : State) (e : Nat) (f : Egr → Egr) : (s.modEgr e f).aon = s.aon := rfl
@[simp] theorem State.modEgr_pending (s : State) (e : Nat) (f : Egr → Egr) : (s.modEgr e f).pending = s.pending := rfl

/-! ### modFlow -/

@[simp] theorem State.modFlow_rd (s : State) (n : Nat) (f : Flow → Flow) (F : Fld) : (s.modFlow n f).rd F = s.rd F := rfl
@[simp] theorem State.modFlow_part (s : State) (n : Nat) (f : Flow → Flow) : (s.modFlow n f).part = s.part := rfl
@[simp] theorem State.modFlow_flds (s : State) (n : Nat) (f : Flow → Flow) : (s.modFlow n f).flds = s.flds := rfl
@[simp] theorem State.modFlow_hbm (s : State) (n : Nat) (f : Flow → Flow) : (s.modFlow n f).hbm = s.hbm := rfl
@[simp] theorem State.modFlow_hostMem (s : State) (n : Nat) (f : Flow → Flow) : (s.modFlow n f).hostMem = s.hostMem := rfl
@[simp] theorem State.modFlow_mram (s : State) (n : Nat) (f : Flow → Flow) : (s.modFlow n f).mram = s.mram := rfl
@[simp] theorem State.modFlow_flash (s : State) (n : Nat) (f : Flow → Flow) : (s.modFlow n f).flash = s.flash := rfl
@[simp] theorem State.modFlow_devTime (s : State) (n : Nat) (f : Flow → Flow) : (s.modFlow n f).devTime = s.devTime := rfl
@[simp] theorem State.modFlow_elapsed (s : State) (n : Nat) (f : Flow → Flow) : (s.modFlow n f).elapsed = s.elapsed := rfl
@[simp] theorem State.modFlow_fresh (s : State) (n : Nat) (f : Flow → Flow) : (s.modFlow n f).fresh = s.fresh := rfl
@[simp] theorem State.modFlow_out (s : State) (n : Nat) (f : Flow → Flow) : (s.modFlow n f).out = s.out := rfl
@[simp] theorem State.modFlow_pwr (s : State) (n : Nat) (f : Flow → Flow) : (s.modFlow n f).pwr = s.pwr := rfl
@[simp] theorem State.modFlow_fab (s : State) (n : Nat) (f : Flow → Flow) : (s.modFlow n f).fab = s.fab := rfl
@[simp] theorem State.modFlow_mem (s : State) (n : Nat) (f : Flow → Flow) : (s.modFlow n f).mem = s.mem := rfl
@[simp] theorem State.modFlow_pool (s : State) (n : Nat) (f : Flow → Flow) : (s.modFlow n f).pool = s.pool := rfl
@[simp] theorem State.modFlow_intr (s : State) (n : Nat) (f : Flow → Flow) : (s.modFlow n f).intr = s.intr := rfl
@[simp] theorem State.modFlow_flt (s : State) (n : Nat) (f : Flow → Flow) : (s.modFlow n f).flt = s.flt := rfl
@[simp] theorem State.modFlow_pcie (s : State) (n : Nat) (f : Flow → Flow) : (s.modFlow n f).pcie = s.pcie := rfl
@[simp] theorem State.modFlow_dma (s : State) (n : Nat) (f : Flow → Flow) : (s.modFlow n f).dma = s.dma := rfl
@[simp] theorem State.modFlow_cntLive (s : State) (n : Nat) (f : Flow → Flow) : (s.modFlow n f).cntLive = s.cntLive := rfl
@[simp] theorem State.modFlow_ctxs (s : State) (n : Nat) (f : Flow → Flow) : (s.modFlow n f).ctxs = s.ctxs := rfl
@[simp] theorem State.modFlow_spds (s : State) (n : Nat) (f : Flow → Flow) : (s.modFlow n f).spds = s.spds := rfl
@[simp] theorem State.modFlow_encs (s : State) (n : Nat) (f : Flow → Flow) : (s.modFlow n f).encs = s.encs := rfl
@[simp] theorem State.modFlow_spes (s : State) (n : Nat) (f : Flow → Flow) : (s.modFlow n f).spes = s.spes := rfl
@[simp] theorem State.modFlow_card (s : State) (n : Nat) (f : Flow → Flow) : (s.modFlow n f).card = s.card := rfl
@[simp] theorem State.modFlow_canvas (s : State) (n : Nat) (f : Flow → Flow) : (s.modFlow n f).canvas = s.canvas := rfl
@[simp] theorem State.modFlow_plys (s : State) (n : Nat) (f : Flow → Flow) : (s.modFlow n f).plys = s.plys := rfl
@[simp] theorem State.modFlow_ports (s : State) (n : Nat) (f : Flow → Flow) : (s.modFlow n f).ports = s.ports := rfl
@[simp] theorem State.modFlow_wrp (s : State) (n : Nat) (f : Flow → Flow) : (s.modFlow n f).wrp = s.wrp := rfl
@[simp] theorem State.modFlow_sec (s : State) (n : Nat) (f : Flow → Flow) : (s.modFlow n f).sec = s.sec := rfl
@[simp] theorem State.modFlow_aon (s : State) (n : Nat) (f : Flow → Flow) : (s.modFlow n f).aon = s.aon := rfl
@[simp] theorem State.modFlow_pending (s : State) (n : Nat) (f : Flow → Flow) : (s.modFlow n f).pending = s.pending := rfl

/-! ### modAon -/

@[simp] theorem State.modAon_rd (s : State) (f : AonSt → AonSt) (F : Fld) : (s.modAon f).rd F = s.rd F := rfl
@[simp] theorem State.modAon_part (s : State) (f : AonSt → AonSt) : (s.modAon f).part = s.part := rfl
@[simp] theorem State.modAon_flds (s : State) (f : AonSt → AonSt) : (s.modAon f).flds = s.flds := rfl
@[simp] theorem State.modAon_hbm (s : State) (f : AonSt → AonSt) : (s.modAon f).hbm = s.hbm := rfl
@[simp] theorem State.modAon_hostMem (s : State) (f : AonSt → AonSt) : (s.modAon f).hostMem = s.hostMem := rfl
@[simp] theorem State.modAon_mram (s : State) (f : AonSt → AonSt) : (s.modAon f).mram = s.mram := rfl
@[simp] theorem State.modAon_flash (s : State) (f : AonSt → AonSt) : (s.modAon f).flash = s.flash := rfl
@[simp] theorem State.modAon_devTime (s : State) (f : AonSt → AonSt) : (s.modAon f).devTime = s.devTime := rfl
@[simp] theorem State.modAon_elapsed (s : State) (f : AonSt → AonSt) : (s.modAon f).elapsed = s.elapsed := rfl
@[simp] theorem State.modAon_fresh (s : State) (f : AonSt → AonSt) : (s.modAon f).fresh = s.fresh := rfl
@[simp] theorem State.modAon_out (s : State) (f : AonSt → AonSt) : (s.modAon f).out = s.out := rfl
@[simp] theorem State.modAon_pwr (s : State) (f : AonSt → AonSt) : (s.modAon f).pwr = s.pwr := rfl
@[simp] theorem State.modAon_fab (s : State) (f : AonSt → AonSt) : (s.modAon f).fab = s.fab := rfl
@[simp] theorem State.modAon_mem (s : State) (f : AonSt → AonSt) : (s.modAon f).mem = s.mem := rfl
@[simp] theorem State.modAon_pool (s : State) (f : AonSt → AonSt) : (s.modAon f).pool = s.pool := rfl
@[simp] theorem State.modAon_intr (s : State) (f : AonSt → AonSt) : (s.modAon f).intr = s.intr := rfl
@[simp] theorem State.modAon_flt (s : State) (f : AonSt → AonSt) : (s.modAon f).flt = s.flt := rfl
@[simp] theorem State.modAon_pcie (s : State) (f : AonSt → AonSt) : (s.modAon f).pcie = s.pcie := rfl
@[simp] theorem State.modAon_dma (s : State) (f : AonSt → AonSt) : (s.modAon f).dma = s.dma := rfl
@[simp] theorem State.modAon_cntLive (s : State) (f : AonSt → AonSt) : (s.modAon f).cntLive = s.cntLive := rfl
@[simp] theorem State.modAon_ctxs (s : State) (f : AonSt → AonSt) : (s.modAon f).ctxs = s.ctxs := rfl
@[simp] theorem State.modAon_spds (s : State) (f : AonSt → AonSt) : (s.modAon f).spds = s.spds := rfl
@[simp] theorem State.modAon_ing (s : State) (f : AonSt → AonSt) : (s.modAon f).ing = s.ing := rfl
@[simp] theorem State.modAon_encs (s : State) (f : AonSt → AonSt) : (s.modAon f).encs = s.encs := rfl
@[simp] theorem State.modAon_spes (s : State) (f : AonSt → AonSt) : (s.modAon f).spes = s.spes := rfl
@[simp] theorem State.modAon_card (s : State) (f : AonSt → AonSt) : (s.modAon f).card = s.card := rfl
@[simp] theorem State.modAon_canvas (s : State) (f : AonSt → AonSt) : (s.modAon f).canvas = s.canvas := rfl
@[simp] theorem State.modAon_plys (s : State) (f : AonSt → AonSt) : (s.modAon f).plys = s.plys := rfl
@[simp] theorem State.modAon_ports (s : State) (f : AonSt → AonSt) : (s.modAon f).ports = s.ports := rfl
@[simp] theorem State.modAon_wrp (s : State) (f : AonSt → AonSt) : (s.modAon f).wrp = s.wrp := rfl
@[simp] theorem State.modAon_sec (s : State) (f : AonSt → AonSt) : (s.modAon f).sec = s.sec := rfl
@[simp] theorem State.modAon_pending (s : State) (f : AonSt → AonSt) : (s.modAon f).pending = s.pending := rfl

/-! ### setXq -/

@[simp] theorem State.setXq_rd (s : State) (k : Nat) (l : List FabReq) (F : Fld) : (s.setXq k l).rd F = s.rd F := rfl
@[simp] theorem State.setXq_part (s : State) (k : Nat) (l : List FabReq) : (s.setXq k l).part = s.part := rfl
@[simp] theorem State.setXq_flds (s : State) (k : Nat) (l : List FabReq) : (s.setXq k l).flds = s.flds := rfl
@[simp] theorem State.setXq_hbm (s : State) (k : Nat) (l : List FabReq) : (s.setXq k l).hbm = s.hbm := rfl
@[simp] theorem State.setXq_hostMem (s : State) (k : Nat) (l : List FabReq) : (s.setXq k l).hostMem = s.hostMem := rfl
@[simp] theorem State.setXq_mram (s : State) (k : Nat) (l : List FabReq) : (s.setXq k l).mram = s.mram := rfl
@[simp] theorem State.setXq_flash (s : State) (k : Nat) (l : List FabReq) : (s.setXq k l).flash = s.flash := rfl
@[simp] theorem State.setXq_devTime (s : State) (k : Nat) (l : List FabReq) : (s.setXq k l).devTime = s.devTime := rfl
@[simp] theorem State.setXq_elapsed (s : State) (k : Nat) (l : List FabReq) : (s.setXq k l).elapsed = s.elapsed := rfl
@[simp] theorem State.setXq_fresh (s : State) (k : Nat) (l : List FabReq) : (s.setXq k l).fresh = s.fresh := rfl
@[simp] theorem State.setXq_out (s : State) (k : Nat) (l : List FabReq) : (s.setXq k l).out = s.out := rfl
@[simp] theorem State.setXq_pwr (s : State) (k : Nat) (l : List FabReq) : (s.setXq k l).pwr = s.pwr := rfl
@[simp] theorem State.setXq_fab (s : State) (k : Nat) (l : List FabReq) : (s.setXq k l).fab = s.fab := rfl
@[simp] theorem State.setXq_pool (s : State) (k : Nat) (l : List FabReq) : (s.setXq k l).pool = s.pool := rfl
@[simp] theorem State.setXq_intr (s : State) (k : Nat) (l : List FabReq) : (s.setXq k l).intr = s.intr := rfl
@[simp] theorem State.setXq_flt (s : State) (k : Nat) (l : List FabReq) : (s.setXq k l).flt = s.flt := rfl
@[simp] theorem State.setXq_pcie (s : State) (k : Nat) (l : List FabReq) : (s.setXq k l).pcie = s.pcie := rfl
@[simp] theorem State.setXq_dma (s : State) (k : Nat) (l : List FabReq) : (s.setXq k l).dma = s.dma := rfl
@[simp] theorem State.setXq_cntLive (s : State) (k : Nat) (l : List FabReq) : (s.setXq k l).cntLive = s.cntLive := rfl
@[simp] theorem State.setXq_ctxs (s : State) (k : Nat) (l : List FabReq) : (s.setXq k l).ctxs = s.ctxs := rfl
@[simp] theorem State.setXq_spds (s : State) (k : Nat) (l : List FabReq) : (s.setXq k l).spds = s.spds := rfl
@[simp] theorem State.setXq_ing (s : State) (k : Nat) (l : List FabReq) : (s.setXq k l).ing = s.ing := rfl
@[simp] theorem State.setXq_encs (s : State) (k : Nat) (l : List FabReq) : (s.setXq k l).encs = s.encs := rfl
@[simp] theorem State.setXq_spes (s : State) (k : Nat) (l : List FabReq) : (s.setXq k l).spes = s.spes := rfl
@[simp] theorem State.setXq_card (s : State) (k : Nat) (l : List FabReq) : (s.setXq k l).card = s.card := rfl
@[simp] theorem State.setXq_canvas (s : State) (k : Nat) (l : List FabReq) : (s.setXq k l).canvas = s.canvas := rfl
@[simp] theorem State.setXq_plys (s : State) (k : Nat) (l : List FabReq) : (s.setXq k l).plys = s.plys := rfl
@[simp] theorem State.setXq_ports (s : State) (k : Nat) (l : List FabReq) : (s.setXq k l).ports = s.ports := rfl
@[simp] theorem State.setXq_wrp (s : State) (k : Nat) (l : List FabReq) : (s.setXq k l).wrp = s.wrp := rfl
@[simp] theorem State.setXq_sec (s : State) (k : Nat) (l : List FabReq) : (s.setXq k l).sec = s.sec := rfl
@[simp] theorem State.setXq_aon (s : State) (k : Nat) (l : List FabReq) : (s.setXq k l).aon = s.aon := rfl
@[simp] theorem State.setXq_pending (s : State) (k : Nat) (l : List FabReq) : (s.setXq k l).pending = s.pending := rfl

/-! ### setPch -/

@[simp] theorem State.setPch_rd (s : State) (p : Nat) (c : PchSt) (F : Fld) : (s.setPch p c).rd F = s.rd F := rfl
@[simp] theorem State.setPch_part (s : State) (p : Nat) (c : PchSt) : (s.setPch p c).part = s.part := rfl
@[simp] theorem State.setPch_flds (s : State) (p : Nat) (c : PchSt) : (s.setPch p c).flds = s.flds := rfl
@[simp] theorem State.setPch_hbm (s : State) (p : Nat) (c : PchSt) : (s.setPch p c).hbm = s.hbm := rfl
@[simp] theorem State.setPch_hostMem (s : State) (p : Nat) (c : PchSt) : (s.setPch p c).hostMem = s.hostMem := rfl
@[simp] theorem State.setPch_mram (s : State) (p : Nat) (c : PchSt) : (s.setPch p c).mram = s.mram := rfl
@[simp] theorem State.setPch_flash (s : State) (p : Nat) (c : PchSt) : (s.setPch p c).flash = s.flash := rfl
@[simp] theorem State.setPch_devTime (s : State) (p : Nat) (c : PchSt) : (s.setPch p c).devTime = s.devTime := rfl
@[simp] theorem State.setPch_elapsed (s : State) (p : Nat) (c : PchSt) : (s.setPch p c).elapsed = s.elapsed := rfl
@[simp] theorem State.setPch_fresh (s : State) (p : Nat) (c : PchSt) : (s.setPch p c).fresh = s.fresh := rfl
@[simp] theorem State.setPch_out (s : State) (p : Nat) (c : PchSt) : (s.setPch p c).out = s.out := rfl
@[simp] theorem State.setPch_pwr (s : State) (p : Nat) (c : PchSt) : (s.setPch p c).pwr = s.pwr := rfl
@[simp] theorem State.setPch_fab (s : State) (p : Nat) (c : PchSt) : (s.setPch p c).fab = s.fab := rfl
@[simp] theorem State.setPch_pool (s : State) (p : Nat) (c : PchSt) : (s.setPch p c).pool = s.pool := rfl
@[simp] theorem State.setPch_intr (s : State) (p : Nat) (c : PchSt) : (s.setPch p c).intr = s.intr := rfl
@[simp] theorem State.setPch_flt (s : State) (p : Nat) (c : PchSt) : (s.setPch p c).flt = s.flt := rfl
@[simp] theorem State.setPch_pcie (s : State) (p : Nat) (c : PchSt) : (s.setPch p c).pcie = s.pcie := rfl
@[simp] theorem State.setPch_dma (s : State) (p : Nat) (c : PchSt) : (s.setPch p c).dma = s.dma := rfl
@[simp] theorem State.setPch_cntLive (s : State) (p : Nat) (c : PchSt) : (s.setPch p c).cntLive = s.cntLive := rfl
@[simp] theorem State.setPch_ctxs (s : State) (p : Nat) (c : PchSt) : (s.setPch p c).ctxs = s.ctxs := rfl
@[simp] theorem State.setPch_spds (s : State) (p : Nat) (c : PchSt) : (s.setPch p c).spds = s.spds := rfl
@[simp] theorem State.setPch_ing (s : State) (p : Nat) (c : PchSt) : (s.setPch p c).ing = s.ing := rfl
@[simp] theorem State.setPch_encs (s : State) (p : Nat) (c : PchSt) : (s.setPch p c).encs = s.encs := rfl
@[simp] theorem State.setPch_spes (s : State) (p : Nat) (c : PchSt) : (s.setPch p c).spes = s.spes := rfl
@[simp] theorem State.setPch_card (s : State) (p : Nat) (c : PchSt) : (s.setPch p c).card = s.card := rfl
@[simp] theorem State.setPch_canvas (s : State) (p : Nat) (c : PchSt) : (s.setPch p c).canvas = s.canvas := rfl
@[simp] theorem State.setPch_plys (s : State) (p : Nat) (c : PchSt) : (s.setPch p c).plys = s.plys := rfl
@[simp] theorem State.setPch_ports (s : State) (p : Nat) (c : PchSt) : (s.setPch p c).ports = s.ports := rfl
@[simp] theorem State.setPch_wrp (s : State) (p : Nat) (c : PchSt) : (s.setPch p c).wrp = s.wrp := rfl
@[simp] theorem State.setPch_sec (s : State) (p : Nat) (c : PchSt) : (s.setPch p c).sec = s.sec := rfl
@[simp] theorem State.setPch_aon (s : State) (p : Nat) (c : PchSt) : (s.setPch p c).aon = s.aon := rfl
@[simp] theorem State.setPch_pending (s : State) (p : Nat) (c : PchSt) : (s.setPch p c).pending = s.pending := rfl

/-! ### setEcc -/

@[simp] theorem State.setEcc_rd (s : State) (a v : Nat) (F : Fld) : (s.setEcc a v).rd F = s.rd F := rfl
@[simp] theorem State.setEcc_part (s : State) (a v : Nat) : (s.setEcc a v).part = s.part := rfl
@[simp] theorem State.setEcc_flds (s : State) (a v : Nat) : (s.setEcc a v).flds = s.flds := rfl
@[simp] theorem State.setEcc_hbm (s : State) (a v : Nat) : (s.setEcc a v).hbm = s.hbm := rfl
@[simp] theorem State.setEcc_hostMem (s : State) (a v : Nat) : (s.setEcc a v).hostMem = s.hostMem := rfl
@[simp] theorem State.setEcc_mram (s : State) (a v : Nat) : (s.setEcc a v).mram = s.mram := rfl
@[simp] theorem State.setEcc_flash (s : State) (a v : Nat) : (s.setEcc a v).flash = s.flash := rfl
@[simp] theorem State.setEcc_devTime (s : State) (a v : Nat) : (s.setEcc a v).devTime = s.devTime := rfl
@[simp] theorem State.setEcc_elapsed (s : State) (a v : Nat) : (s.setEcc a v).elapsed = s.elapsed := rfl
@[simp] theorem State.setEcc_fresh (s : State) (a v : Nat) : (s.setEcc a v).fresh = s.fresh := rfl
@[simp] theorem State.setEcc_out (s : State) (a v : Nat) : (s.setEcc a v).out = s.out := rfl
@[simp] theorem State.setEcc_pwr (s : State) (a v : Nat) : (s.setEcc a v).pwr = s.pwr := rfl
@[simp] theorem State.setEcc_fab (s : State) (a v : Nat) : (s.setEcc a v).fab = s.fab := rfl
@[simp] theorem State.setEcc_pool (s : State) (a v : Nat) : (s.setEcc a v).pool = s.pool := rfl
@[simp] theorem State.setEcc_intr (s : State) (a v : Nat) : (s.setEcc a v).intr = s.intr := rfl
@[simp] theorem State.setEcc_flt (s : State) (a v : Nat) : (s.setEcc a v).flt = s.flt := rfl
@[simp] theorem State.setEcc_pcie (s : State) (a v : Nat) : (s.setEcc a v).pcie = s.pcie := rfl
@[simp] theorem State.setEcc_dma (s : State) (a v : Nat) : (s.setEcc a v).dma = s.dma := rfl
@[simp] theorem State.setEcc_cntLive (s : State) (a v : Nat) : (s.setEcc a v).cntLive = s.cntLive := rfl
@[simp] theorem State.setEcc_ctxs (s : State) (a v : Nat) : (s.setEcc a v).ctxs = s.ctxs := rfl
@[simp] theorem State.setEcc_spds (s : State) (a v : Nat) : (s.setEcc a v).spds = s.spds := rfl
@[simp] theorem State.setEcc_ing (s : State) (a v : Nat) : (s.setEcc a v).ing = s.ing := rfl
@[simp] theorem State.setEcc_encs (s : State) (a v : Nat) : (s.setEcc a v).encs = s.encs := rfl
@[simp] theorem State.setEcc_spes (s : State) (a v : Nat) : (s.setEcc a v).spes = s.spes := rfl
@[simp] theorem State.setEcc_card (s : State) (a v : Nat) : (s.setEcc a v).card = s.card := rfl
@[simp] theorem State.setEcc_canvas (s : State) (a v : Nat) : (s.setEcc a v).canvas = s.canvas := rfl
@[simp] theorem State.setEcc_plys (s : State) (a v : Nat) : (s.setEcc a v).plys = s.plys := rfl
@[simp] theorem State.setEcc_ports (s : State) (a v : Nat) : (s.setEcc a v).ports = s.ports := rfl
@[simp] theorem State.setEcc_wrp (s : State) (a v : Nat) : (s.setEcc a v).wrp = s.wrp := rfl
@[simp] theorem State.setEcc_sec (s : State) (a v : Nat) : (s.setEcc a v).sec = s.sec := rfl
@[simp] theorem State.setEcc_aon (s : State) (a v : Nat) : (s.setEcc a v).aon = s.aon := rfl
@[simp] theorem State.setEcc_pending (s : State) (a v : Nat) : (s.setEcc a v).pending = s.pending := rfl

/-! ### mramStore -/

@[simp] theorem State.mramStore_rd (s : State) (a : Nat) (l : List Byte) (F : Fld) : (s.mramStore a l).rd F = s.rd F := rfl
@[simp] theorem State.mramStore_part (s : State) (a : Nat) (l : List Byte) : (s.mramStore a l).part = s.part := rfl
@[simp] theorem State.mramStore_flds (s : State) (a : Nat) (l : List Byte) : (s.mramStore a l).flds = s.flds := rfl
@[simp] theorem State.mramStore_hbm (s : State) (a : Nat) (l : List Byte) : (s.mramStore a l).hbm = s.hbm := rfl
@[simp] theorem State.mramStore_hostMem (s : State) (a : Nat) (l : List Byte) : (s.mramStore a l).hostMem = s.hostMem := rfl
@[simp] theorem State.mramStore_flash (s : State) (a : Nat) (l : List Byte) : (s.mramStore a l).flash = s.flash := rfl
@[simp] theorem State.mramStore_devTime (s : State) (a : Nat) (l : List Byte) : (s.mramStore a l).devTime = s.devTime := rfl
@[simp] theorem State.mramStore_elapsed (s : State) (a : Nat) (l : List Byte) : (s.mramStore a l).elapsed = s.elapsed := rfl
@[simp] theorem State.mramStore_fresh (s : State) (a : Nat) (l : List Byte) : (s.mramStore a l).fresh = s.fresh := rfl
@[simp] theorem State.mramStore_out (s : State) (a : Nat) (l : List Byte) : (s.mramStore a l).out = s.out := rfl
@[simp] theorem State.mramStore_pwr (s : State) (a : Nat) (l : List Byte) : (s.mramStore a l).pwr = s.pwr := rfl
@[simp] theorem State.mramStore_fab (s : State) (a : Nat) (l : List Byte) : (s.mramStore a l).fab = s.fab := rfl
@[simp] theorem State.mramStore_mem (s : State) (a : Nat) (l : List Byte) : (s.mramStore a l).mem = s.mem := rfl
@[simp] theorem State.mramStore_pool (s : State) (a : Nat) (l : List Byte) : (s.mramStore a l).pool = s.pool := rfl
@[simp] theorem State.mramStore_intr (s : State) (a : Nat) (l : List Byte) : (s.mramStore a l).intr = s.intr := rfl
@[simp] theorem State.mramStore_flt (s : State) (a : Nat) (l : List Byte) : (s.mramStore a l).flt = s.flt := rfl
@[simp] theorem State.mramStore_pcie (s : State) (a : Nat) (l : List Byte) : (s.mramStore a l).pcie = s.pcie := rfl
@[simp] theorem State.mramStore_dma (s : State) (a : Nat) (l : List Byte) : (s.mramStore a l).dma = s.dma := rfl
@[simp] theorem State.mramStore_cntLive (s : State) (a : Nat) (l : List Byte) : (s.mramStore a l).cntLive = s.cntLive := rfl
@[simp] theorem State.mramStore_ctxs (s : State) (a : Nat) (l : List Byte) : (s.mramStore a l).ctxs = s.ctxs := rfl
@[simp] theorem State.mramStore_spds (s : State) (a : Nat) (l : List Byte) : (s.mramStore a l).spds = s.spds := rfl
@[simp] theorem State.mramStore_ing (s : State) (a : Nat) (l : List Byte) : (s.mramStore a l).ing = s.ing := rfl
@[simp] theorem State.mramStore_encs (s : State) (a : Nat) (l : List Byte) : (s.mramStore a l).encs = s.encs := rfl
@[simp] theorem State.mramStore_spes (s : State) (a : Nat) (l : List Byte) : (s.mramStore a l).spes = s.spes := rfl
@[simp] theorem State.mramStore_card (s : State) (a : Nat) (l : List Byte) : (s.mramStore a l).card = s.card := rfl
@[simp] theorem State.mramStore_canvas (s : State) (a : Nat) (l : List Byte) : (s.mramStore a l).canvas = s.canvas := rfl
@[simp] theorem State.mramStore_plys (s : State) (a : Nat) (l : List Byte) : (s.mramStore a l).plys = s.plys := rfl
@[simp] theorem State.mramStore_ports (s : State) (a : Nat) (l : List Byte) : (s.mramStore a l).ports = s.ports := rfl
@[simp] theorem State.mramStore_wrp (s : State) (a : Nat) (l : List Byte) : (s.mramStore a l).wrp = s.wrp := rfl
@[simp] theorem State.mramStore_sec (s : State) (a : Nat) (l : List Byte) : (s.mramStore a l).sec = s.sec := rfl
@[simp] theorem State.mramStore_aon (s : State) (a : Nat) (l : List Byte) : (s.mramStore a l).aon = s.aon := rfl
@[simp] theorem State.mramStore_pending (s : State) (a : Nat) (l : List Byte) : (s.mramStore a l).pending = s.pending := rfl

end Sys2Proof.Machine
end

