-- ==== Sys2Proof/Laws/Store.lean ====
section
/-! SUPPORT. The sparse store: reading after a write, and the canonical form of memories and registers. -/

namespace Sys2Proof.Machine

variable {α : Type}

theorem smGet_erase_same (d : α) (m : SMap α) (i : Nat) : smGet d (smErase m i) i = d := by
  induction m with
  | nil => rfl
  | cons p r ih =>
    obtain ⟨k, v⟩ := p
    unfold smErase
    split
    · exact ih
    · simp [smGet, *]

theorem smGet_erase_ne (d : α) (m : SMap α) {i j : Nat} (h : j ≠ i) : smGet d (smErase m i) j = smGet d m j := by
  induction m with
  | nil => rfl
  | cons p r ih =>
    obtain ⟨k, v⟩ := p
    unfold smErase
    split
    · next hk => subst hk; rw [ih]; simp [smGet, Ne.symm h]
    · simp [smGet, ih]

theorem smGet_insert_ne (d : α) (m : SMap α) {i j : Nat} (x : α) (h : j ≠ i) : smGet d (smInsert i x m) j = smGet d m j := by
  induction m with
  | nil => simp [smInsert, smGet, Ne.symm h]
  | cons p r ih =>
    obtain ⟨k, v⟩ := p
    unfold smInsert
    split
    · simp [smGet, Ne.symm h]
    · simp [smGet, ih]

/-- An inserted key reads as its value when it was absent. -/
theorem smGet_insert_same (d : α) (m : SMap α) (i : Nat) (x : α) (h : ∀ p ∈ m, p.1 ≠ i) : smGet d (smInsert i x m) i = x := by
  induction m with
  | nil => simp [smInsert, smGet]
  | cons p r ih =>
    obtain ⟨k, v⟩ := p
    unfold smInsert
    split
    · simp [smGet]
    · have hk : k ≠ i := h (k, v) (by simp)
      simp [smGet, hk]
      exact ih (fun q hq => h q (by simp [hq]))

theorem smErase_absent (m : SMap α) (i : Nat) : ∀ p ∈ smErase m i, p.1 ≠ i := by
  induction m with
  | nil => simp [smErase]
  | cons p r ih =>
    obtain ⟨k, v⟩ := p
    unfold smErase
    split
    · exact ih
    · intro q hq
      rcases List.mem_cons.mp hq with rfl | hq
      · assumption
      · exact ih q hq

section
variable [DecidableEq α]

/-- A store reads back what was written. -/
@[simp] theorem smGet_smSet_same (d : α) (m : SMap α) (i : Nat) (x : α) : smGet d (smSet d m i x) i = x := by
  unfold smSet
  split
  · next h => rw [smGet_erase_same, h]
  · exact smGet_insert_same d _ i x (smErase_absent m i)

/-- A write leaves every other key alone. -/
theorem smGet_smSet_ne (d : α) (m : SMap α) {i j : Nat} (x : α) (h : j ≠ i) : smGet d (smSet d m i x) j = smGet d m j := by
  unfold smSet
  split
  · exact smGet_erase_ne d m h
  · rw [smGet_insert_ne d _ x h, smGet_erase_ne d m h]

/-- The same for a reader that takes another default for an absent key. -/
theorem smGet_smSet_ne' (d d' : α) (m : SMap α) {i j : Nat} (x : α) (h : j ≠ i) :
    smGet d' (smSet d m i x) j = smGet d' m j := by
  unfold smSet
  split
  · exact smGet_erase_ne d' m h
  · rw [smGet_insert_ne d' _ x h, smGet_erase_ne d' m h]

/-! ### The canonical form -/

theorem smWfFrom_mono (d : α) (m : SMap α) {a b : Option Nat} (hab : ∀ y, b = some y → ∃ x, a = some x ∧ y ≤ x)
    (h : smWfFrom d a m = true) : smWfFrom d b m = true := by
  cases m with
  | nil => cases b <;> rfl
  | cons p r =>
    obtain ⟨k, v⟩ := p
    cases b with
    | none => cases a <;> simp_all [smWfFrom]
    | some y =>
      obtain ⟨x, rfl, hxy⟩ := hab y rfl
      simp only [smWfFrom, Bool.and_eq_true, decide_eq_true_eq] at h ⊢
      exact ⟨⟨by omega, h.1.2⟩, h.2⟩

theorem smWfFrom_erase (d : α) (m : SMap α) (i : Nat) (a : Option Nat) (h : smWfFrom d a m = true) :
    smWfFrom d a (smErase m i) = true := by
  induction m generalizing a with
  | nil => exact h
  | cons p r ih =>
    obtain ⟨k, v⟩ := p
    have hr : smWfFrom d (some k) r = true := by
      cases a <;> simp_all [smWfFrom]
    unfold smErase
    split
    · refine ih a (smWfFrom_mono d r ?_ hr)
      intro y hy
      subst hy
      simp only [smWfFrom, Bool.and_eq_true, decide_eq_true_eq] at h
      exact ⟨k, rfl, by omega⟩
    · cases a <;> simp_all [smWfFrom]

theorem smWfFrom_insert (d : α) (m : SMap α) (i : Nat) (x : α) (a : Option Nat) (hx : x ≠ d) (hm : ∀ p ∈ m, p.1 ≠ i)
    (ha : ∀ y, a = some y → y < i) (h : smWfFrom d a m = true) : smWfFrom d a (smInsert i x m) = true := by
  induction m generalizing a with
  | nil =>
    cases a with
    | none => simp [smInsert, smWfFrom, hx]
    | some y => simp [smInsert, smWfFrom, hx, ha y rfl]
  | cons p r ih =>
    obtain ⟨k, v⟩ := p
    have hr : smWfFrom d (some k) r = true := by
      cases a <;> simp_all [smWfFrom]
    have hv : v ≠ d := by
      cases a <;> simp_all [smWfFrom]
    have hk : k ≠ i := hm (k, v) (by simp)
    unfold smInsert
    split
    · next hlt =>
      cases a with
      | none => simp [smWfFrom, hx, hlt, hv, hr]
      | some y => simp [smWfFrom, hx, hlt, hv, hr, ha y rfl]
    · next hlt =>
      have := ih (some k) (fun q hq => hm q (by simp [hq])) (by intro y hy; cases hy; omega) hr
      cases a with
      | none => simp [smWfFrom, hv, this]
      | some y =>
        simp only [smWfFrom, Bool.and_eq_true, decide_eq_true_eq] at h
        simp [smWfFrom, hv, this, h.1.1]

/-- Every write keeps the canonical form. -/
theorem smWf_smSet (d : α) (m : SMap α) (i : Nat) (x : α) (h : smWf d m = true) : smWf d (smSet d m i x) = true := by
  unfold smSet smWf at *
  split
  · exact smWfFrom_erase d m i none h
  · next hx =>
    exact smWfFrom_insert d _ i x none hx (smErase_absent m i) (by simp) (smWfFrom_erase d m i none h)

end

/-! ### Memories -/

/-- Storing bytes keeps a memory's canonical form. -/
theorem memStore_wf (m : SMap Byte) (a : Nat) (l : List Byte) (h : Memory.wf m = true) : Memory.wf (memStore m a l) = true := by
  induction l generalizing m a with
  | nil => exact h
  | cons b r ih => exact ih _ _ (smWf_smSet 0 m a b h)

/-- A store leaves every address outside its bytes alone. -/
theorem memStore_other (m : SMap Byte) (a : Nat) (l : List Byte) (b : Nat) (h : b < a ∨ a + l.length ≤ b) :
    smGet 0 (memStore m a l) b = smGet 0 m b := by
  induction l generalizing m a with
  | nil => rfl
  | cons x r ih =>
    rw [memStore, ih _ _ (by simp at h; omega)]
    exact smGet_smSet_ne 0 m x (by simp at h; omega)

/-- A store reads back. -/
theorem memBytes_memStore (m : SMap Byte) (a : Nat) (l : List Byte) : memBytes (memStore m a l) a l.length = l := by
  induction l generalizing m a with
  | nil => rfl
  | cons x r ih =>
    simp only [memStore, List.length_cons, memBytes]
    rw [ih, memStore_other _ _ _ _ (by omega), smGet_smSet_same]

/-- HBM keeps its canonical form under every write to it. -/
theorem State.hbmWrite_wf (s : State) (m a : Nat) (l : List Byte) (h : Memory.wf s.hbm = true) :
    Memory.wf (s.hbmWrite m a l).2.hbm = true := by
  have hecc : ∀ (t : State) (ws : List Nat), (t.each ws (fun w t => t.eccAfter a l.length w)).hbm = t.hbm := by
    intro t ws
    induction ws generalizing t with
    | nil => rfl
    | cons w r ih =>
      have : (t.eccAfter a l.length w).hbm = t.hbm := by
        unfold State.eccAfter
        split
        · dsimp only; split <;> rfl
        · rfl
      simpa [State.each, this] using ih (t.eccAfter a l.length w)
  have hr : ∀ (t : State) (f : FaultReq), (t.raise f).hbm = t.hbm := by
    intro t f; unfold State.raise; split <;> rfl
  have hf : ∀ (t : State) (g : Nat → Nat) (is : List Nat), (t.each is (fun i t => t.finding m 1 a i (g i))).hbm = t.hbm := by
    intro t g is
    induction is generalizing t with
    | nil => rfl
    | cons i r ih =>
      have : (t.finding m 1 a i (g i)).hbm = t.hbm := by
        unfold State.finding
        split <;> simp [hr, State.bump]
      exact (ih (t.finding m 1 a i (g i))).trans this
  unfold State.hbmWrite
  dsimp only
  rw [hf]
  exact memStore_wf _ _ _ (by rw [hecc]; exact h)

/-- Host memory keeps its canonical form under a posted write. -/
theorem State.hostWrite_wf (s : State) (a : Nat) (l : List Byte) (h : Memory.wf s.hostMem = true) :
    Memory.wf (s.hostWrite a l).hostMem = true := memStore_wf _ _ _ h

/-- MRAM keeps its canonical form. -/
theorem State.mramStore_wf (s : State) (a : Nat) (l : List Byte) (h : Memory.wf s.mram = true) :
    Memory.wf (s.mramStore a l).mram = true := memStore_wf _ _ _ h

/-! ### Register fields -/

/-- A field reads back what was written, narrowed to its width. -/
@[simp] theorem State.rd_wr_same (s : State) (F : Fld) (v : Nat) : (s.wr F v).rd F = v % 2 ^ F.width :=
  smGet_smSet_same _ _ _ _

/-- A write leaves every other field alone. -/
theorem State.rd_wr_ne (s : State) (F G : Fld) (v : Nat) (h : G.key ≠ F.key) : (s.wr F v).rd G = s.rd G :=
  smGet_smSet_ne' _ _ _ _ h

end Sys2Proof.Machine
end

