-- ==== Sys2Proof/Laws/Views.lean ====
section
/-! SUPPORT. What bringing the condition fields up to date changes, how a command ends, and what register fields a chain of writes
leaves alone. -/

namespace Sys2Proof.Machine

open R

@[simp] theorem State.each_nil {α : Type} (s : State) (f : α → State → State) : s.each [] f = s := rfl

@[simp] theorem State.each_cons {α : Type} (s : State) (a : α) (l : List α) (f : α → State → State) :
    s.each (a :: l) f = (f a s).each l f := rfl

/-- A fold of changes that each keep something keeps it. -/
theorem State.each_keeps {α β : Type} (g : State → β) (l : List α) (f : α → State → State)
    (h : ∀ a t, a ∈ l → g (f a t) = g t) (s : State) : g (s.each l f) = g s := by
  induction l generalizing s with
  | nil => rfl
  | cons a r ih =>
    rw [State.each_cons, ih (fun b t hb => h b t (List.mem_cons_of_mem a hb)), h a s (List.mem_cons_self)]

@[simp] theorem State.iff_true (s : State) (f : State → State) : s.iff true f = f s := rfl
@[simp] theorem State.iff_false (s : State) (f : State → State) : s.iff false f = s := rfl

/-- A command on a device that is not held in reset has its effect. -/
theorem State.finish_on {s : State} (t : State) (h : s.held = false) : s.finish t = .next t.settle := by
  simp [State.finish, State.done, h]

/-- A command on a device that is held in reset has none. -/
theorem State.finish_held {s : State} (t : State) (h : s.held = true) : s.finish t = .next s := by
  simp [State.finish, h]

/-- An event that comes about once every transfer has been answered ends as its effect does, or has not come about. -/
theorem State.finishOnce_ends (s t : State) (after : State → State) :
    s.finishOnce t after = s.finish (after t) ∨ s.finishOnce t after = .next s := by
  unfold State.finishOnce
  split
  · exact Or.inr rfl
  · exact Or.inl rfl

/-- Such an event comes about when none of its transfers meets RETRY. -/
theorem State.finishOnce_on {s t : State} (after : State → State) (h : s.held = false) (hr : t.fab.retry.length ≤ s.fab.retry.length) :
    s.finishOnce t after = .next (after t).settle := by
  rw [State.finishOnce, if_neg (Nat.not_lt.mpr hr), State.finish_on _ h]

/-- A command whose meaning ends so does what `EndsOnce` says. -/
theorem EndsOnce.of_finishOnce {c : Instr} {s t : State} {after : State → State} (h : s.held = false) (hc : exec c s = s.finishOnce t after) :
    EndsOnce c s t after :=
  ⟨fun hr => hc.trans (State.finishOnce_on after h hr), fun hr => by rw [hc, State.finishOnce, if_pos hr]⟩

/-! ### Bringing the condition fields up to date changes nothing but them -/

/-- `settle` leaves every other register field alone. -/
theorem State.rd_settle (s : State) (G : Fld) (h : ∀ F ∈ condFlds, G.key ≠ F.key) : s.settle.rd G = s.rd G := by
  have h0 : G.key ≠ PLY_CANVAS_STATUS_TIME_UNLOCKED.key := h _ (by simp [condFlds])
  have h1 : ∀ k ∈ [0, 1], G.key ≠ (MEM_STATUS_HOT k).key := fun k hk => h _ (by
    simp only [condFlds, List.mem_append, List.mem_map]; exact Or.inl (Or.inl (Or.inr ⟨k, hk, rfl⟩)))
  have h2 : ∀ c ∈ condClasses, G.key ≠ (FLT_CLASS_CAUSE c).key := fun c hc => h _ (by
    simp only [condFlds, List.mem_append, List.mem_map]; exact Or.inl (Or.inr ⟨c, hc, rfl⟩))
  have h3 : ∀ i ∈ List.range 30, G.key ≠ (PWR_ISL_STATE_OUTSTANDING i).key := fun i hi => h _ (by
    simp only [condFlds, List.mem_append, List.mem_map]; exact Or.inr ⟨i, hi, rfl⟩)
  unfold State.settle State.showOutstanding
  dsimp only
  rw [State.each_keeps (·.rd G) _ _ (fun i t hi => State.rd_wr_ne t _ G _ (h3 i hi)),
    State.each_keeps (·.rd G) _ _ (fun c t hc => State.rd_wr_ne t _ G _ (h2 c hc)),
    State.each_keeps (·.rd G) _ _ (fun k t hk => State.rd_wr_ne t _ G _ (h1 k hk)), State.rd_wr_ne _ _ G _ h0]

/-- A field outside the words that hold the condition fields is none of them. -/
theorem notCond (G : Fld) (h : G.key / 32 ≠ 0x00800014 ∧ G.key / 32 ≠ 0x00D00008 ∧
    (G.key / 32 < 0x01000100 ∨ 0x01000400 ≤ G.key / 32) ∧ (G.key / 32 < 0x01200100 ∨ 0x01200178 ≤ G.key / 32)) :
    ∀ F ∈ condFlds, G.key ≠ F.key := by
  have all : ∀ F ∈ condFlds, F.key / 32 = 0x00800014 ∨ F.key / 32 = 0x00D00008 ∨
      (0x01000100 ≤ F.key / 32 ∧ F.key / 32 < 0x01000400) ∨ (0x01200100 ≤ F.key / 32 ∧ F.key / 32 < 0x01200178) := by decide
  intro F hF e
  have := all F hF
  rw [← e] at this
  omega

/-- `settle` leaves a field outside those words alone. -/
theorem State.rd_settle' (s : State) (G : Fld) (h : G.key / 32 ≠ 0x00800014 ∧ G.key / 32 ≠ 0x00D00008 ∧
    (G.key / 32 < 0x01000100 ∨ 0x01000400 ≤ G.key / 32) ∧ (G.key / 32 < 0x01200100 ∨ 0x01200178 ≤ G.key / 32)) :
    s.settle.rd G = s.rd G := State.rd_settle s G (notCond G h)

/-- `settle` writes register fields only. -/
theorem State.settle_eq (s : State) : s.settle = { s with flds := s.settle.flds } := by
  have key : ∀ (β : Type) (g : State → β) (_ : ∀ t F v, g (State.wr t F v) = g t), g s.settle = g s := by
    intro β g hg
    unfold State.settle State.showOutstanding
    dsimp only
    rw [State.each_keeps g _ _ (fun i t _ => hg t _ _), State.each_keeps g _ _ (fun c t _ => hg t _ _),
      State.each_keeps g _ _ (fun k t _ => hg t _ _), hg]
  have h := key State (fun t => { t with flds := [] }) (fun _ _ _ => rfl)
  revert h
  cases s.settle
  intro h
  simp only [State.mk.injEq] at h ⊢
  exact ⟨h.1, trivial, h.2.2⟩

@[simp] theorem State.settle_part (s : State) : s.settle.part = s.part := by rw [State.settle_eq]
@[simp] theorem State.settle_hbm (s : State) : s.settle.hbm = s.hbm := by rw [State.settle_eq]
@[simp] theorem State.settle_hostMem (s : State) : s.settle.hostMem = s.hostMem := by rw [State.settle_eq]
@[simp] theorem State.settle_mram (s : State) : s.settle.mram = s.mram := by rw [State.settle_eq]
@[simp] theorem State.settle_flash (s : State) : s.settle.flash = s.flash := by rw [State.settle_eq]
@[simp] theorem State.settle_devTime (s : State) : s.settle.devTime = s.devTime := by rw [State.settle_eq]
@[simp] theorem State.settle_elapsed (s : State) : s.settle.elapsed = s.elapsed := by rw [State.settle_eq]
@[simp] theorem State.settle_fresh (s : State) : s.settle.fresh = s.fresh := by rw [State.settle_eq]
@[simp] theorem State.settle_out (s : State) : s.settle.out = s.out := by rw [State.settle_eq]
@[simp] theorem State.settle_pwr (s : State) : s.settle.pwr = s.pwr := by rw [State.settle_eq]
@[simp] theorem State.settle_fab (s : State) : s.settle.fab = s.fab := by rw [State.settle_eq]
@[simp] theorem State.settle_mem (s : State) : s.settle.mem = s.mem := by rw [State.settle_eq]
@[simp] theorem State.settle_pool (s : State) : s.settle.pool = s.pool := by rw [State.settle_eq]
@[simp] theorem State.settle_intr (s : State) : s.settle.intr = s.intr := by rw [State.settle_eq]
@[simp] theorem State.settle_flt (s : State) : s.settle.flt = s.flt := by rw [State.settle_eq]
@[simp] theorem State.settle_pcie (s : State) : s.settle.pcie = s.pcie := by rw [State.settle_eq]
@[simp] theorem State.settle_dma (s : State) : s.settle.dma = s.dma := by rw [State.settle_eq]
@[simp] theorem State.settle_cntLive (s : State) : s.settle.cntLive = s.cntLive := by rw [State.settle_eq]
@[simp] theorem State.settle_ctxs (s : State) : s.settle.ctxs = s.ctxs := by rw [State.settle_eq]
@[simp] theorem State.settle_spds (s : State) : s.settle.spds = s.spds := by rw [State.settle_eq]
@[simp] theorem State.settle_ing (s : State) : s.settle.ing = s.ing := by rw [State.settle_eq]
@[simp] theorem State.settle_encs (s : State) : s.settle.encs = s.encs := by rw [State.settle_eq]
@[simp] theorem State.settle_spes (s : State) : s.settle.spes = s.spes := by rw [State.settle_eq]
@[simp] theorem State.settle_card (s : State) : s.settle.card = s.card := by rw [State.settle_eq]
@[simp] theorem State.settle_canvas (s : State) : s.settle.canvas = s.canvas := by rw [State.settle_eq]
@[simp] theorem State.settle_plys (s : State) : s.settle.plys = s.plys := by rw [State.settle_eq]
@[simp] theorem State.settle_ports (s : State) : s.settle.ports = s.ports := by rw [State.settle_eq]
@[simp] theorem State.settle_wrp (s : State) : s.settle.wrp = s.wrp := by rw [State.settle_eq]
@[simp] theorem State.settle_sec (s : State) : s.settle.sec = s.sec := by rw [State.settle_eq]
@[simp] theorem State.settle_aon (s : State) : s.settle.aon = s.aon := by rw [State.settle_eq]
@[simp] theorem State.settle_pending (s : State) : s.settle.pending = s.pending := by rw [State.settle_eq]

/-! ### What a chain of writes leaves alone -/

theorem RegsKept.refl (l : List Fld) (s : State) : RegsKept l s s := fun _ _ _ => rfl

/-- A write of a listed field. -/
theorem RegsKept.wr {l : List Fld} {s t : State} (F : Fld) (v : Nat) (hF : F ∈ l) (h : RegsKept l s t) : RegsKept l s (t.wr F v) :=
  fun G hl hc => (State.rd_wr_ne t F G v (hl F hF)).trans (h G hl hc)

/-- A change of anything but the register fields. -/
theorem RegsKept.of_flds {l : List Fld} {s t u : State} (hu : u.flds = t.flds) (h : RegsKept l s t) : RegsKept l s u :=
  fun G hl hc => (show u.rd G = t.rd G by simp only [State.rd, hu]).trans (h G hl hc)

/-- The fields that show a condition are no exception. -/
theorem RegsKept.settle {l : List Fld} {s t : State} (h : RegsKept l s t) : RegsKept l s t.settle :=
  fun G hl hc => (State.rd_settle t G hc).trans (h G hl hc)

/-- Fewer exceptions say more. -/
theorem RegsKept.mono {l m : List Fld} {s t : State} (hlm : ∀ F ∈ l, F ∈ m) (h : RegsKept l s t) : RegsKept m s t :=
  fun G hm hc => h G (fun F hF => hm F (hlm F hF)) hc

end Sys2Proof.Machine
end

