-- ==== Sys2Proof/Laws/Ops.lean ====
section
/-! SUPPORT. What the shared operations leave alone: counting, raising a fault, answering a request, interrupt arbitration and
dispatch. -/

namespace Sys2Proof.Machine

open R

theorem State.iff_keeps {β : Type} (g : State → β) (c : Bool) (f : State → State) (s : State) (h : g (f s) = g s) :
    g (s.iff c f) = g s := by
  cases c <;> simp [State.iff, h]

/-- A state without what counting touches. -/
def State.sansCnt (t : State) : State := { t with flds := [], cntLive := [] }

theorem State.eq_of_sansCnt {s t : State} (h : t.sansCnt = s.sansCnt) :
    t = { s with flds := t.flds, cntLive := t.cntLive } := by
  cases s
  cases t
  simp only [State.sansCnt, State.mk.injEq] at h ⊢
  simp only [h, and_self]

theorem State.cntAdd_sans (s : State) (i n : Nat) : (s.cntAdd i n).sansCnt = s.sansCnt := by
  unfold State.cntAdd
  dsimp only
  split
  · rfl
  · split
    · split <;> rfl
    · rfl

theorem State.cntAdd_rd (s : State) (i n : Nat) (G : Fld) (h : G.key ≠ CNT_STATUS_OVF.key) : (s.cntAdd i n).rd G = s.rd G := by
  have hb : ∀ (t : State) (j : Nat), (t.setBit CNT_STATUS_OVF j).rd G = t.rd G := fun t j => State.rd_wr_ne t _ G _ h
  unfold State.cntAdd
  dsimp only
  split
  · rfl
  · split
    · split
      · rfl
      · rw [hb]; rfl
    · rw [hb]; rfl

theorem State.count_sans (s : State) (ev n : Nat) : (s.count ev n).sansCnt = s.sansCnt :=
  State.each_keeps _ _ _ (fun _ t _ => State.iff_keeps _ _ _ t (State.cntAdd_sans t _ n)) s

theorem State.countUnit_sans (s : State) (ev m n : Nat) : (s.countUnit ev m n).sansCnt = s.sansCnt :=
  State.each_keeps _ _ _ (fun _ t _ => State.iff_keeps _ _ _ t (State.cntAdd_sans t _ n)) s

theorem State.countReq_sans (s : State) (ev : Nat) (r : FabReq) (n : Nat) : (s.countReq ev r n).sansCnt = s.sansCnt :=
  State.each_keeps _ _ _ (fun _ t _ => State.iff_keeps _ _ _ t (State.cntAdd_sans t _ n)) s

theorem State.count_eq (s : State) (ev n : Nat) : s.count ev n = { s with flds := (s.count ev n).flds, cntLive := (s.count ev n).cntLive } :=
  State.eq_of_sansCnt (State.count_sans s ev n)

theorem State.countUnit_eq (s : State) (ev m n : Nat) : s.countUnit ev m n = { s with flds := (s.countUnit ev m n).flds, cntLive := (s.countUnit ev m n).cntLive } :=
  State.eq_of_sansCnt (State.countUnit_sans s ev m n)

theorem State.countReq_eq (s : State) (ev : Nat) (r : FabReq) (n : Nat) : s.countReq ev r n = { s with flds := (s.countReq ev r n).flds, cntLive := (s.countReq ev r n).cntLive } :=
  State.eq_of_sansCnt (State.countReq_sans s ev r n)

theorem State.fabAccept_sans (s : State) (r : FabReq) : (s.fabAccept r).sansCnt = s.sansCnt := by
  unfold State.fabAccept
  dsimp only
  split
  · exact (State.countReq_sans ..).trans (State.countReq_sans ..)
  · exact (State.countReq_sans ..).trans (State.countReq_sans ..)
  · exact State.countReq_sans ..

theorem State.countDone_sans (s : State) (r : FabReq) : (s.countDone r).sansCnt = s.sansCnt := by
  unfold State.countDone
  split
  · split
    · exact (State.countReq_sans ..).trans (State.fabAccept_sans s r)
    · exact (State.countReq_sans ..).trans (State.fabAccept_sans s r)
    · exact State.fabAccept_sans s r
  · exact State.fabAccept_sans s r

theorem State.countOwn_sans (s : State) (r : FabReq) (code : Nat) : (s.countOwn r code).sansCnt = s.sansCnt := by
  unfold State.countOwn
  split
  · split
    · exact State.countReq_sans ..
    · split
      · exact State.countDone_sans s r
      · split
        · exact (State.countReq_sans ..).trans (State.countDone_sans s r)
        · exact State.countReq_sans ..
  · rfl

/-- Counting a unit's own access moves counters and their overflow bits alone. -/
theorem State.countOwn_eq (s : State) (r : FabReq) (code : Nat) : s.countOwn r code = { s with flds := (s.countOwn r code).flds, cntLive := (s.countOwn r code).cntLive } :=
  State.eq_of_sansCnt (State.countOwn_sans s r code)

/-- Counting changes no register field but `CNT_STATUS.OVF`. -/
theorem State.count_rd (s : State) (ev n : Nat) (G : Fld) (h : G.key ≠ CNT_STATUS_OVF.key) : (s.count ev n).rd G = s.rd G :=
  State.each_keeps (·.rd G) _ _ (fun _ t _ => State.iff_keeps (·.rd G) _ _ t (State.cntAdd_rd t _ n G h)) s

theorem State.countUnit_rd (s : State) (ev m n : Nat) (G : Fld) (h : G.key ≠ CNT_STATUS_OVF.key) :
    (s.countUnit ev m n).rd G = s.rd G :=
  State.each_keeps (·.rd G) _ _ (fun _ t _ => State.iff_keeps (·.rd G) _ _ t (State.cntAdd_rd t _ n G h)) s

theorem State.countReq_rd (s : State) (ev : Nat) (r : FabReq) (n : Nat) (G : Fld) (h : G.key ≠ CNT_STATUS_OVF.key) :
    (s.countReq ev r n).rd G = s.rd G :=
  State.each_keeps (·.rd G) _ _ (fun _ t _ => State.iff_keeps (·.rd G) _ _ t (State.cntAdd_rd t _ n G h)) s

theorem State.fabAccept_rd (s : State) (r : FabReq) (G : Fld) (h : G.key ≠ CNT_STATUS_OVF.key) : (s.fabAccept r).rd G = s.rd G := by
  unfold State.fabAccept
  dsimp only
  split
  · exact (State.countReq_rd _ _ _ _ G h).trans (State.countReq_rd _ _ _ _ G h)
  · exact (State.countReq_rd _ _ _ _ G h).trans (State.countReq_rd _ _ _ _ G h)
  · exact State.countReq_rd _ _ _ _ G h

theorem State.countDone_rd (s : State) (r : FabReq) (G : Fld) (h : G.key ≠ CNT_STATUS_OVF.key) : (s.countDone r).rd G = s.rd G := by
  unfold State.countDone
  split
  · split
    · exact (State.countReq_rd _ _ _ _ G h).trans (State.fabAccept_rd s r G h)
    · exact (State.countReq_rd _ _ _ _ G h).trans (State.fabAccept_rd s r G h)
    · exact State.fabAccept_rd s r G h
  · exact State.fabAccept_rd s r G h

theorem State.countOwn_rd (s : State) (r : FabReq) (code : Nat) (G : Fld) (h : G.key ≠ CNT_STATUS_OVF.key) :
    (s.countOwn r code).rd G = s.rd G := by
  unfold State.countOwn
  split
  · split
    · exact State.countReq_rd _ _ _ _ G h
    · split
      · exact State.countDone_rd s r G h
      · split
        · exact (State.countReq_rd _ _ _ _ G h).trans (State.countDone_rd s r G h)
        · exact State.countReq_rd _ _ _ _ G h
  · rfl

/-- A unit that no counter listens to counts nothing. -/
theorem State.countOwn_quiet (s : State) (r : FabReq) (code : Nat) (h : ∀ i < 32, s.on (CNT_CTL_EN i) = false) : s.countOwn r code = s := by
  unfold State.countOwn
  rw [if_neg]
  simpa using h

/-- A state without what raising a fault touches. -/
def State.sansFlt (t : State) : State := { t with flds := [], flt := {} }

theorem State.eq_of_sansFlt {s t : State} (h : t.sansFlt = s.sansFlt) :
    t = { s with flds := t.flds, flt := t.flt } := by
  cases s
  cases t
  simp only [State.sansFlt, State.mk.injEq] at h ⊢
  simp only [h, and_self]

theorem State.raise_sans (s : State) (f : FaultReq) : (s.raise f).sansFlt = s.sansFlt := by
  unfold State.raise; split <;> rfl

/-- A fault that finds room joins the queue and changes nothing else (R470). -/
theorem State.raise_room (s : State) (f : FaultReq) (h : s.flt.queue.length < 256) :
    s.raise f = { s with flt := { s.flt with queue := s.flt.queue ++ [{ f with at_ := s.elapsed }] } } := by
  simp [State.raise, h]

theorem State.raise_rd (s : State) (f : FaultReq) (G : Fld) (h0 : G.key ≠ (FLT_COUNT f.cls).key) (h1 : G.key ≠ FLT_LOST.key) :
    (s.raise f).rd G = s.rd G := by
  unfold State.raise
  split
  · rfl
  · unfold State.bump
    rw [State.rd_wr_ne _ _ G _ h1, State.rd_wr_ne _ _ G _ h0]

/-- A state without what a response touches. -/
def State.sansResp (t : State) : State := { t with flds := [], cntLive := [], out := [], fab := {} }

theorem State.eq_of_sansResp {s t : State} (h : t.sansResp = s.sansResp) :
    t = { s with flds := t.flds, cntLive := t.cntLive, out := t.out, fab := t.fab } := by
  cases s
  cases t
  simp only [State.sansResp, State.mk.injEq] at h ⊢
  simp only [h, and_self]

theorem State.respond_sans (s : State) (r : FabReq) (code : Nat) (data : List Byte) : (s.respond r code data).sansResp = s.sansResp := by
  have h : (s.iff (decide (2 ≤ code)) (·.countReq 0x014 r 1)).sansResp = s.sansResp :=
    State.iff_keeps State.sansResp _ _ s (by rw [State.countReq_eq]; simp only [State.sansResp])
  unfold State.respond
  dsimp only
  split
  · exact h
  · split
    · split
      · exact h
      · exact h
    · exact h

theorem State.respFault_sans (s : State) (m acc a code : Nat) : (s.respFault m acc a code).sansFlt = s.sansFlt := by
  unfold State.respFault
  split
  · rw [State.raise_sans]; rfl
  · split
    · exact State.raise_sans _ _
    · split
      · exact State.raise_sans _ _
      · split
        · exact State.raise_sans _ _
        · rfl

/-- A state without what interrupt arbitration touches. -/
def State.sansIntr (t : State) : State := { t with flds := [], cntLive := [], out := [], intr := {} }

theorem State.eq_of_sansIntr {s t : State} (h : t.sansIntr = s.sansIntr) :
    t = { s with flds := t.flds, cntLive := t.cntLive, out := t.out, intr := t.intr } := by
  cases s
  cases t
  simp only [State.sansIntr, State.mk.injEq] at h ⊢
  simp only [h, and_self]

theorem State.sendMsg_sans (s : State) (t p : Nat) : (s.sendMsg t p).sansIntr = s.sansIntr := by
  have h : ∀ (u : State) (a b : Nat), (u.count a b).sansIntr = u.sansIntr := fun u a b => by rw [State.count_eq]; simp only [State.sansIntr]
  unfold State.sendMsg
  dsimp only
  split
  · rfl
  · refine Eq.trans ?_ (h ({ s with intr := { s.intr with lastMsg := smSet 16 s.intr.lastMsg t p } }) 0x0A0 1)
    simp only [State.sansIntr, State.emit]

theorem State.evalTarget_sans (s : State) (t : Nat) (f : Bool) : (s.evalTarget t f).sansIntr = s.sansIntr := by
  unfold State.evalTarget
  dsimp only
  split
  · rfl
  · split
    · rw [State.sendMsg_sans]; rfl
    · rfl

theorem State.arbitrate_sans (s : State) : s.arbitrate.sansIntr = s.sansIntr :=
  State.each_keeps _ _ _ (fun t u _ => State.evalTarget_sans u t false) s

theorem State.sendMsg_rd (s : State) (t p : Nat) (G : Fld) (h : ¬ intrFld G) : (s.sendMsg t p).rd G = s.rd G := by
  simp only [intrFld, not_or, not_exists] at h
  unfold State.sendMsg
  dsimp only
  split
  · unfold State.setBit
    rw [State.rd_wr_ne _ _ G _ (h.2.2 t), State.rd_wr_ne _ _ G _ (h.2.1 _)]; rfl
  · rw [State.emit_rd, State.count_rd _ _ _ G h.1]; rfl

theorem State.evalTarget_rd (s : State) (t : Nat) (f : Bool) (G : Fld) (h : ¬ intrFld G) : (s.evalTarget t f).rd G = s.rd G := by
  unfold State.evalTarget
  dsimp only
  split
  · rfl
  · split
    · rw [State.sendMsg_rd _ _ _ G h]; rfl
    · rfl

theorem State.arbitrate_rd (s : State) (G : Fld) (h : ¬ intrFld G) : s.arbitrate.rd G = s.rd G :=
  State.each_keeps (·.rd G) _ _ (fun t u _ => State.evalTarget_rd u t false G h) s

/-- A state without what dispatch touches. -/
def State.sansSched (t : State) : State := { t with flds := [], ctxs := [], spds := [] }

theorem State.eq_of_sansSched {s t : State} (h : t.sansSched = s.sansSched) :
    t = { s with flds := t.flds, ctxs := t.ctxs, spds := t.spds } := by
  cases s
  cases t
  simp only [State.sansSched, State.mk.injEq] at h ⊢
  simp only [h, and_self]

theorem State.showSpd_sans (s : State) (k : Nat) : (s.showSpd k).sansSched = s.sansSched := by
  unfold State.showSpd
  dsimp only
  split
  · rfl
  · split <;> rfl

theorem State.modSpd_sans (s : State) (k : Nat) (f : Spd → Spd) : (s.modSpd k f).sansSched = s.sansSched := by
  unfold State.modSpd
  dsimp only
  rw [State.iff_keeps State.sansSched _ _ _ (State.showSpd_sans _ _), State.showSpd_sans]
  rfl

theorem State.putOn_sans (s : State) (k : Nat) (r : RunJob) : (s.putOn k r).sansSched = s.sansSched := by
  unfold State.putOn
  dsimp only
  split
  · rw [State.modSpd_sans, State.modSpd_sans]; rfl
  · rw [State.modSpd_sans]; rfl

theorem State.take_sans (s : State) (k : Nat) (c : Cand) : (s.take k c).sansSched = s.sansSched := by
  unfold State.take
  dsimp only
  split
  · rw [State.putOn_sans, State.modSpd_sans]
  · rw [State.putOn_sans]
    exact State.iff_keeps State.sansSched _ _ s rfl

theorem State.dispatch_sans (s : State) : s.dispatch.sansSched = s.sansSched := by
  have h0 : s.showHomes.sansSched = s.sansSched := by
    unfold State.showHomes
    refine State.each_keeps State.sansSched _ _ (fun n t _ => ?_) s
    rfl
  have h1 : ∀ (t : State) (k : Nat), (t.serveSpd k).sansSched = t.sansSched := by
    intro t k
    unfold State.serveSpd
    split
    · split
      · rfl
      · split
        · exact State.take_sans _ _ _
        · rfl
    · rfl
  have h2 : ∀ (t : State) (k : Nat), (t.askYield k).sansSched = t.sansSched := by
    intro t k
    unfold State.askYield
    split
    · dsimp only
      split
      · rfl
      · exact State.modSpd_sans _ _ _
    · rfl
  unfold State.dispatch
  dsimp only
  rw [State.each_keeps _ _ _ (fun k t _ => h2 t k), State.each_keeps _ _ _ (fun k t _ => h1 t k), h0]

theorem State.showSpd_rd (s : State) (k : Nat) (G : Fld) (h : ¬ schedFld G) : (s.showSpd k).rd G = s.rd G := by
  simp only [schedFld, not_or, not_exists, not_and] at h
  have h1 := fun F hF => h.1 k F hF
  unfold State.showSpd
  dsimp only
  split
  · rw [State.rd_wr_ne _ _ G _ (h1 _ (by simp)), State.rd_wr_ne _ _ G _ (h1 _ (by simp)), State.rd_wr_ne _ _ G _ (h1 _ (by simp))]
  · split
    · rw [State.rd_wr_ne _ _ G _ (h1 _ (by simp)), State.rd_wr_ne _ _ G _ (h1 _ (by simp)), State.rd_wr_ne _ _ G _ (h1 _ (by simp)),
        State.rd_wr_ne _ _ G _ (h1 _ (by simp))]
    · rw [State.rd_wr_ne _ _ G _ (h1 _ (by simp)), State.rd_wr_ne _ _ G _ (h1 _ (by simp)), State.rd_wr_ne _ _ G _ (h1 _ (by simp)),
        State.rd_wr_ne _ _ G _ (h1 _ (by simp)), State.rd_wr_ne _ _ G _ (h1 _ (by simp))]

theorem State.modSpd_rd (s : State) (k : Nat) (f : Spd → Spd) (G : Fld) (h : ¬ schedFld G) : (s.modSpd k f).rd G = s.rd G := by
  unfold State.modSpd
  dsimp only
  rw [State.iff_keeps (·.rd G) _ _ _ (State.showSpd_rd _ _ G h), State.showSpd_rd _ _ G h]
  rfl

theorem State.putOn_rd (s : State) (k : Nat) (r : RunJob) (G : Fld) (h : ¬ schedFld G) : (s.putOn k r).rd G = s.rd G := by
  unfold State.putOn
  dsimp only
  split
  · rw [State.modSpd_rd _ _ _ G h, State.modSpd_rd _ _ _ G h]; rfl
  · rw [State.modSpd_rd _ _ _ G h]; rfl

theorem State.take_rd (s : State) (k : Nat) (c : Cand) (G : Fld) (h : ¬ schedFld G) : (s.take k c).rd G = s.rd G := by
  unfold State.take
  dsimp only
  split
  · rw [State.putOn_rd _ _ _ G h, State.modSpd_rd _ _ _ G h]
  · rw [State.putOn_rd _ _ _ G h]
    refine State.iff_keeps (·.rd G) _ _ s ?_
    simp only [schedFld, not_or, not_exists, not_and] at h
    have h2 := fun F hF => h.2 c.job.ctx F hF
    show ((s.wr _ _).bump _).rd G = s.rd G
    unfold State.bump
    rw [State.rd_wr_ne _ _ G _ (h2 _ (by simp)), State.rd_wr_ne _ _ G _ (h2 _ (by simp))]

/-- Dispatch changes no register field but those of `schedFld`. -/
theorem State.dispatch_rd (s : State) (G : Fld) (h : ¬ schedFld G) : s.dispatch.rd G = s.rd G := by
  have h0 : s.showHomes.rd G = s.rd G := by
    unfold State.showHomes
    refine State.each_keeps (·.rd G) _ _ (fun n t _ => ?_) s
    simp only [schedFld, not_or, not_exists, not_and] at h
    exact State.rd_wr_ne _ _ G _ (h.2 n _ (by simp))
  have h1 : ∀ (t : State) (k : Nat), (t.serveSpd k).rd G = t.rd G := by
    intro t k
    unfold State.serveSpd
    split
    · split
      · rfl
      · split
        · exact State.take_rd _ _ _ G h
        · rfl
    · rfl
  have h2 : ∀ (t : State) (k : Nat), (t.askYield k).rd G = t.rd G := by
    intro t k
    unfold State.askYield
    split
    · dsimp only
      split
      · rfl
      · exact State.modSpd_rd _ _ _ G h
    · rfl
  unfold State.dispatch
  dsimp only
  rw [State.each_keeps (·.rd G) _ _ (fun k t _ => h2 t k), State.each_keeps (·.rd G) _ _ (fun k t _ => h1 t k), h0]

/-! ### cntAdd -/

theorem State.cntAdd_eq (s : State) (i n : Nat) : s.cntAdd i n = { s with flds := (s.cntAdd i n).flds, cntLive := (s.cntAdd i n).cntLive } :=
  State.eq_of_sansCnt (State.cntAdd_sans s i n)

@[simp] theorem State.cntAdd_part (s : State) (i n : Nat) : (s.cntAdd i n).part = s.part := by rw [State.cntAdd_eq]
@[simp] theorem State.cntAdd_hbm (s : State) (i n : Nat) : (s.cntAdd i n).hbm = s.hbm := by rw [State.cntAdd_eq]
@[simp] theorem State.cntAdd_hostMem (s : State) (i n : Nat) : (s.cntAdd i n).hostMem = s.hostMem := by rw [State.cntAdd_eq]
@[simp] theorem State.cntAdd_mram (s : State) (i n : Nat) : (s.cntAdd i n).mram = s.mram := by rw [State.cntAdd_eq]
@[simp] theorem State.cntAdd_flash (s : State) (i n : Nat) : (s.cntAdd i n).flash = s.flash := by rw [State.cntAdd_eq]
@[simp] theorem State.cntAdd_devTime (s : State) (i n : Nat) : (s.cntAdd i n).devTime = s.devTime := by rw [State.cntAdd_eq]
@[simp] theorem State.cntAdd_elapsed (s : State) (i n : Nat) : (s.cntAdd i n).elapsed = s.elapsed := by rw [State.cntAdd_eq]
@[simp] theorem State.cntAdd_fresh (s : State) (i n : Nat) : (s.cntAdd i n).fresh = s.fresh := by rw [State.cntAdd_eq]
@[simp] theorem State.cntAdd_out (s : State) (i n : Nat) : (s.cntAdd i n).out = s.out := by rw [State.cntAdd_eq]
@[simp] theorem State.cntAdd_pwr (s : State) (i n : Nat) : (s.cntAdd i n).pwr = s.pwr := by rw [State.cntAdd_eq]
@[simp] theorem State.cntAdd_fab (s : State) (i n : Nat) : (s.cntAdd i n).fab = s.fab := by rw [State.cntAdd_eq]
@[simp] theorem State.cntAdd_mem (s : State) (i n : Nat) : (s.cntAdd i n).mem = s.mem := by rw [State.cntAdd_eq]
@[simp] theorem State.cntAdd_pool (s : State) (i n : Nat) : (s.cntAdd i n).pool = s.pool := by rw [State.cntAdd_eq]
@[simp] theorem State.cntAdd_intr (s : State) (i n : Nat) : (s.cntAdd i n).intr = s.intr := by rw [State.cntAdd_eq]
@[simp] theorem State.cntAdd_flt (s : State) (i n : Nat) : (s.cntAdd i n).flt = s.flt := by rw [State.cntAdd_eq]
@[simp] theorem State.cntAdd_pcie (s : State) (i n : Nat) : (s.cntAdd i n).pcie = s.pcie := by rw [State.cntAdd_eq]
@[simp] theorem State.cntAdd_dma (s : State) (i n : Nat) : (s.cntAdd i n).dma = s.dma := by rw [State.cntAdd_eq]
@[simp] theorem State.cntAdd_ctxs (s : State) (i n : Nat) : (s.cntAdd i n).ctxs = s.ctxs := by rw [State.cntAdd_eq]
@[simp] theorem State.cntAdd_spds (s : State) (i n : Nat) : (s.cntAdd i n).spds = s.spds := by rw [State.cntAdd_eq]
@[simp] theorem State.cntAdd_ing (s : State) (i n : Nat) : (s.cntAdd i n).ing = s.ing := by rw [State.cntAdd_eq]
@[simp] theorem State.cntAdd_encs (s : State) (i n : Nat) : (s.cntAdd i n).encs = s.encs := by rw [State.cntAdd_eq]
@[simp] theorem State.cntAdd_spes (s : State) (i n : Nat) : (s.cntAdd i n).spes = s.spes := by rw [State.cntAdd_eq]
@[simp] theorem State.cntAdd_card (s : State) (i n : Nat) : (s.cntAdd i n).card = s.card := by rw [State.cntAdd_eq]
@[simp] theorem State.cntAdd_canvas (s : State) (i n : Nat) : (s.cntAdd i n).canvas = s.canvas := by rw [State.cntAdd_eq]
@[simp] theorem State.cntAdd_plys (s : State) (i n : Nat) : (s.cntAdd i n).plys = s.plys := by rw [State.cntAdd_eq]
@[simp] theorem State.cntAdd_ports (s : State) (i n : Nat) : (s.cntAdd i n).ports = s.ports := by rw [State.cntAdd_eq]
@[simp] theorem State.cntAdd_wrp (s : State) (i n : Nat) : (s.cntAdd i n).wrp = s.wrp := by rw [State.cntAdd_eq]
@[simp] theorem State.cntAdd_sec (s : State) (i n : Nat) : (s.cntAdd i n).sec = s.sec := by rw [State.cntAdd_eq]
@[simp] theorem State.cntAdd_aon (s : State) (i n : Nat) : (s.cntAdd i n).aon = s.aon := by rw [State.cntAdd_eq]
@[simp] theorem State.cntAdd_pending (s : State) (i n : Nat) : (s.cntAdd i n).pending = s.pending := by rw [State.cntAdd_eq]

/-! ### count -/

@[simp] theorem State.count_part (s : State) (ev n : Nat) : (s.count ev n).part = s.part := by rw [State.count_eq]
@[simp] theorem State.count_hbm (s : State) (ev n : Nat) : (s.count ev n).hbm = s.hbm := by rw [State.count_eq]
@[simp] theorem State.count_hostMem (s : State) (ev n : Nat) : (s.count ev n).hostMem = s.hostMem := by rw [State.count_eq]
@[simp] theorem State.count_mram (s : State) (ev n : Nat) : (s.count ev n).mram = s.mram := by rw [State.count_eq]
@[simp] theorem State.count_flash (s : State) (ev n : Nat) : (s.count ev n).flash = s.flash := by rw [State.count_eq]
@[simp] theorem State.count_devTime (s : State) (ev n : Nat) : (s.count ev n).devTime = s.devTime := by rw [State.count_eq]
@[simp] theorem State.count_elapsed (s : State) (ev n : Nat) : (s.count ev n).elapsed = s.elapsed := by rw [State.count_eq]
@[simp] theorem State.count_fresh (s : State) (ev n : Nat) : (s.count ev n).fresh = s.fresh := by rw [State.count_eq]
@[simp] theorem State.count_out (s : State) (ev n : Nat) : (s.count ev n).out = s.out := by rw [State.count_eq]
@[simp] theorem State.count_pwr (s : State) (ev n : Nat) : (s.count ev n).pwr = s.pwr := by rw [State.count_eq]
@[simp] theorem State.count_fab (s : State) (ev n : Nat) : (s.count ev n).fab = s.fab := by rw [State.count_eq]
@[simp] theorem State.count_mem (s : State) (ev n : Nat) : (s.count ev n).mem = s.mem := by rw [State.count_eq]
@[simp] theorem State.count_pool (s : State) (ev n : Nat) : (s.count ev n).pool = s.pool := by rw [State.count_eq]
@[simp] theorem State.count_intr (s : State) (ev n : Nat) : (s.count ev n).intr = s.intr := by rw [State.count_eq]
@[simp] theorem State.count_flt (s : State) (ev n : Nat) : (s.count ev n).flt = s.flt := by rw [State.count_eq]
@[simp] theorem State.count_pcie (s : State) (ev n : Nat) : (s.count ev n).pcie = s.pcie := by rw [State.count_eq]
@[simp] theorem State.count_dma (s : State) (ev n : Nat) : (s.count ev n).dma = s.dma := by rw [State.count_eq]
@[simp] theorem State.count_ctxs (s : State) (ev n : Nat) : (s.count ev n).ctxs = s.ctxs := by rw [State.count_eq]
@[simp] theorem State.count_spds (s : State) (ev n : Nat) : (s.count ev n).spds = s.spds := by rw [State.count_eq]
@[simp] theorem State.count_ing (s : State) (ev n : Nat) : (s.count ev n).ing = s.ing := by rw [State.count_eq]
@[simp] theorem State.count_encs (s : State) (ev n : Nat) : (s.count ev n).encs = s.encs := by rw [State.count_eq]
@[simp] theorem State.count_spes (s : State) (ev n : Nat) : (s.count ev n).spes = s.spes := by rw [State.count_eq]
@[simp] theorem State.count_card (s : State) (ev n : Nat) : (s.count ev n).card = s.card := by rw [State.count_eq]
@[simp] theorem State.count_canvas (s : State) (ev n : Nat) : (s.count ev n).canvas = s.canvas := by rw [State.count_eq]
@[simp] theorem State.count_plys (s : State) (ev n : Nat) : (s.count ev n).plys = s.plys := by rw [State.count_eq]
@[simp] theorem State.count_ports (s : State) (ev n : Nat) : (s.count ev n).ports = s.ports := by rw [State.count_eq]
@[simp] theorem State.count_wrp (s : State) (ev n : Nat) : (s.count ev n).wrp = s.wrp := by rw [State.count_eq]
@[simp] theorem State.count_sec (s : State) (ev n : Nat) : (s.count ev n).sec = s.sec := by rw [State.count_eq]
@[simp] theorem State.count_aon (s : State) (ev n : Nat) : (s.count ev n).aon = s.aon := by rw [State.count_eq]
@[simp] theorem State.count_pending (s : State) (ev n : Nat) : (s.count ev n).pending = s.pending := by rw [State.count_eq]

/-! ### countUnit -/

@[simp] theorem State.countUnit_part (s : State) (ev m n : Nat) : (s.countUnit ev m n).part = s.part := by rw [State.countUnit_eq]
@[simp] theorem State.countUnit_hbm (s : State) (ev m n : Nat) : (s.countUnit ev m n).hbm = s.hbm := by rw [State.countUnit_eq]
@[simp] theorem State.countUnit_hostMem (s : State) (ev m n : Nat) : (s.countUnit ev m n).hostMem = s.hostMem := by rw [State.countUnit_eq]
@[simp] theorem State.countUnit_mram (s : State) (ev m n : Nat) : (s.countUnit ev m n).mram = s.mram := by rw [State.countUnit_eq]
@[simp] theorem State.countUnit_flash (s : State) (ev m n : Nat) : (s.countUnit ev m n).flash = s.flash := by rw [State.countUnit_eq]
@[simp] theorem State.countUnit_devTime (s : State) (ev m n : Nat) : (s.countUnit ev m n).devTime = s.devTime := by rw [State.countUnit_eq]
@[simp] theorem State.countUnit_elapsed (s : State) (ev m n : Nat) : (s.countUnit ev m n).elapsed = s.elapsed := by rw [State.countUnit_eq]
@[simp] theorem State.countUnit_fresh (s : State) (ev m n : Nat) : (s.countUnit ev m n).fresh = s.fresh := by rw [State.countUnit_eq]
@[simp] theorem State.countUnit_out (s : State) (ev m n : Nat) : (s.countUnit ev m n).out = s.out := by rw [State.countUnit_eq]
@[simp] theorem State.countUnit_pwr (s : State) (ev m n : Nat) : (s.countUnit ev m n).pwr = s.pwr := by rw [State.countUnit_eq]
@[simp] theorem State.countUnit_fab (s : State) (ev m n : Nat) : (s.countUnit ev m n).fab = s.fab := by rw [State.countUnit_eq]
@[simp] theorem State.countUnit_mem (s : State) (ev m n : Nat) : (s.countUnit ev m n).mem = s.mem := by rw [State.countUnit_eq]
@[simp] theorem State.countUnit_pool (s : State) (ev m n : Nat) : (s.countUnit ev m n).pool = s.pool := by rw [State.countUnit_eq]
@[simp] theorem State.countUnit_intr (s : State) (ev m n : Nat) : (s.countUnit ev m n).intr = s.intr := by rw [State.countUnit_eq]
@[simp] theorem State.countUnit_flt (s : State) (ev m n : Nat) : (s.countUnit ev m n).flt = s.flt := by rw [State.countUnit_eq]
@[simp] theorem State.countUnit_pcie (s : State) (ev m n : Nat) : (s.countUnit ev m n).pcie = s.pcie := by rw [State.countUnit_eq]
@[simp] theorem State.countUnit_dma (s : State) (ev m n : Nat) : (s.countUnit ev m n).dma = s.dma := by rw [State.countUnit_eq]
@[simp] theorem State.countUnit_ctxs (s : State) (ev m n : Nat) : (s.countUnit ev m n).ctxs = s.ctxs := by rw [State.countUnit_eq]
@[simp] theorem State.countUnit_spds (s : State) (ev m n : Nat) : (s.countUnit ev m n).spds = s.spds := by rw [State.countUnit_eq]
@[simp] theorem State.countUnit_ing (s : State) (ev m n : Nat) : (s.countUnit ev m n).ing = s.ing := by rw [State.countUnit_eq]
@[simp] theorem State.countUnit_encs (s : State) (ev m n : Nat) : (s.countUnit ev m n).encs = s.encs := by rw [State.countUnit_eq]
@[simp] theorem State.countUnit_spes (s : State) (ev m n : Nat) : (s.countUnit ev m n).spes = s.spes := by rw [State.countUnit_eq]
@[simp] theorem State.countUnit_card (s : State) (ev m n : Nat) : (s.countUnit ev m n).card = s.card := by rw [State.countUnit_eq]
@[simp] theorem State.countUnit_canvas (s : State) (ev m n : Nat) : (s.countUnit ev m n).canvas = s.canvas := by rw [State.countUnit_eq]
@[simp] theorem State.countUnit_plys (s : State) (ev m n : Nat) : (s.countUnit ev m n).plys = s.plys := by rw [State.countUnit_eq]
@[simp] theorem State.countUnit_ports (s : State) (ev m n : Nat) : (s.countUnit ev m n).ports = s.ports := by rw [State.countUnit_eq]
@[simp] theorem State.countUnit_wrp (s : State) (ev m n : Nat) : (s.countUnit ev m n).wrp = s.wrp := by rw [State.countUnit_eq]
@[simp] theorem State.countUnit_sec (s : State) (ev m n : Nat) : (s.countUnit ev m n).sec = s.sec := by rw [State.countUnit_eq]
@[simp] theorem State.countUnit_aon (s : State) (ev m n : Nat) : (s.countUnit ev m n).aon = s.aon := by rw [State.countUnit_eq]
@[simp] theorem State.countUnit_pending (s : State) (ev m n : Nat) : (s.countUnit ev m n).pending = s.pending := by rw [State.countUnit_eq]

/-! ### countReq -/

@[simp] theorem State.countReq_part (s : State) (ev : Nat) (r : FabReq) (n : Nat) : (s.countReq ev r n).part = s.part := by rw [State.countReq_eq]
@[simp] theorem State.countReq_hbm (s : State) (ev : Nat) (r : FabReq) (n : Nat) : (s.countReq ev r n).hbm = s.hbm := by rw [State.countReq_eq]
@[simp] theorem State.countReq_hostMem (s : State) (ev : Nat) (r : FabReq) (n : Nat) : (s.countReq ev r n).hostMem = s.hostMem := by rw [State.countReq_eq]
@[simp] theorem State.countReq_mram (s : State) (ev : Nat) (r : FabReq) (n : Nat) : (s.countReq ev r n).mram = s.mram := by rw [State.countReq_eq]
@[simp] theorem State.countReq_flash (s : State) (ev : Nat) (r : FabReq) (n : Nat) : (s.countReq ev r n).flash = s.flash := by rw [State.countReq_eq]
@[simp] theorem State.countReq_devTime (s : State) (ev : Nat) (r : FabReq) (n : Nat) : (s.countReq ev r n).devTime = s.devTime := by rw [State.countReq_eq]
@[simp] theorem State.countReq_elapsed (s : State) (ev : Nat) (r : FabReq) (n : Nat) : (s.countReq ev r n).elapsed = s.elapsed := by rw [State.countReq_eq]
@[simp] theorem State.countReq_fresh (s : State) (ev : Nat) (r : FabReq) (n : Nat) : (s.countReq ev r n).fresh = s.fresh := by rw [State.countReq_eq]
@[simp] theorem State.countReq_out (s : State) (ev : Nat) (r : FabReq) (n : Nat) : (s.countReq ev r n).out = s.out := by rw [State.countReq_eq]
@[simp] theorem State.countReq_pwr (s : State) (ev : Nat) (r : FabReq) (n : Nat) : (s.countReq ev r n).pwr = s.pwr := by rw [State.countReq_eq]
@[simp] theorem State.countReq_fab (s : State) (ev : Nat) (r : FabReq) (n : Nat) : (s.countReq ev r n).fab = s.fab := by rw [State.countReq_eq]
@[simp] theorem State.countReq_mem (s : State) (ev : Nat) (r : FabReq) (n : Nat) : (s.countReq ev r n).mem = s.mem := by rw [State.countReq_eq]
@[simp] theorem State.countReq_pool (s : State) (ev : Nat) (r : FabReq) (n : Nat) : (s.countReq ev r n).pool = s.pool := by rw [State.countReq_eq]
@[simp] theorem State.countReq_intr (s : State) (ev : Nat) (r : FabReq) (n : Nat) : (s.countReq ev r n).intr = s.intr := by rw [State.countReq_eq]
@[simp] theorem State.countReq_flt (s : State) (ev : Nat) (r : FabReq) (n : Nat) : (s.countReq ev r n).flt = s.flt := by rw [State.countReq_eq]
@[simp] theorem State.countReq_pcie (s : State) (ev : Nat) (r : FabReq) (n : Nat) : (s.countReq ev r n).pcie = s.pcie := by rw [State.countReq_eq]
@[simp] theorem State.countReq_dma (s : State) (ev : Nat) (r : FabReq) (n : Nat) : (s.countReq ev r n).dma = s.dma := by rw [State.countReq_eq]
@[simp] theorem State.countReq_ctxs (s : State) (ev : Nat) (r : FabReq) (n : Nat) : (s.countReq ev r n).ctxs = s.ctxs := by rw [State.countReq_eq]
@[simp] theorem State.countReq_spds (s : State) (ev : Nat) (r : FabReq) (n : Nat) : (s.countReq ev r n).spds = s.spds := by rw [State.countReq_eq]
@[simp] theorem State.countReq_ing (s : State) (ev : Nat) (r : FabReq) (n : Nat) : (s.countReq ev r n).ing = s.ing := by rw [State.countReq_eq]
@[simp] theorem State.countReq_encs (s : State) (ev : Nat) (r : FabReq) (n : Nat) : (s.countReq ev r n).encs = s.encs := by rw [State.countReq_eq]
@[simp] theorem State.countReq_spes (s : State) (ev : Nat) (r : FabReq) (n : Nat) : (s.countReq ev r n).spes = s.spes := by rw [State.countReq_eq]
@[simp] theorem State.countReq_card (s : State) (ev : Nat) (r : FabReq) (n : Nat) : (s.countReq ev r n).card = s.card := by rw [State.countReq_eq]
@[simp] theorem State.countReq_canvas (s : State) (ev : Nat) (r : FabReq) (n : Nat) : (s.countReq ev r n).canvas = s.canvas := by rw [State.countReq_eq]
@[simp] theorem State.countReq_plys (s : State) (ev : Nat) (r : FabReq) (n : Nat) : (s.countReq ev r n).plys = s.plys := by rw [State.countReq_eq]
@[simp] theorem State.countReq_ports (s : State) (ev : Nat) (r : FabReq) (n : Nat) : (s.countReq ev r n).ports = s.ports := by rw [State.countReq_eq]
@[simp] theorem State.countReq_wrp (s : State) (ev : Nat) (r : FabReq) (n : Nat) : (s.countReq ev r n).wrp = s.wrp := by rw [State.countReq_eq]
@[simp] theorem State.countReq_sec (s : State) (ev : Nat) (r : FabReq) (n : Nat) : (s.countReq ev r n).sec = s.sec := by rw [State.countReq_eq]
@[simp] theorem State.countReq_aon (s : State) (ev : Nat) (r : FabReq) (n : Nat) : (s.countReq ev r n).aon = s.aon := by rw [State.countReq_eq]
@[simp] theorem State.countReq_pending (s : State) (ev : Nat) (r : FabReq) (n : Nat) : (s.countReq ev r n).pending = s.pending := by rw [State.countReq_eq]

/-! ### raise -/

theorem State.raise_eq (s : State) (f : FaultReq) : s.raise f = { s with flds := (s.raise f).flds, flt := (s.raise f).flt } :=
  State.eq_of_sansFlt (State.raise_sans s f)

@[simp] theorem State.raise_part (s : State) (f : FaultReq) : (s.raise f).part = s.part := by rw [State.raise_eq]
@[simp] theorem State.raise_hbm (s : State) (f : FaultReq) : (s.raise f).hbm = s.hbm := by rw [State.raise_eq]
@[simp] theorem State.raise_hostMem (s : State) (f : FaultReq) : (s.raise f).hostMem = s.hostMem := by rw [State.raise_eq]
@[simp] theorem State.raise_mram (s : State) (f : FaultReq) : (s.raise f).mram = s.mram := by rw [State.raise_eq]
@[simp] theorem State.raise_flash (s : State) (f : FaultReq) : (s.raise f).flash = s.flash := by rw [State.raise_eq]
@[simp] theorem State.raise_devTime (s : State) (f : FaultReq) : (s.raise f).devTime = s.devTime := by rw [State.raise_eq]
@[simp] theorem State.raise_elapsed (s : State) (f : FaultReq) : (s.raise f).elapsed = s.elapsed := by rw [State.raise_eq]
@[simp] theorem State.raise_fresh (s : State) (f : FaultReq) : (s.raise f).fresh = s.fresh := by rw [State.raise_eq]
@[simp] theorem State.raise_out (s : State) (f : FaultReq) : (s.raise f).out = s.out := by rw [State.raise_eq]
@[simp] theorem State.raise_pwr (s : State) (f : FaultReq) : (s.raise f).pwr = s.pwr := by rw [State.raise_eq]
@[simp] theorem State.raise_fab (s : State) (f : FaultReq) : (s.raise f).fab = s.fab := by rw [State.raise_eq]
@[simp] theorem State.raise_mem (s : State) (f : FaultReq) : (s.raise f).mem = s.mem := by rw [State.raise_eq]
@[simp] theorem State.raise_pool (s : State) (f : FaultReq) : (s.raise f).pool = s.pool := by rw [State.raise_eq]
@[simp] theorem State.raise_intr (s : State) (f : FaultReq) : (s.raise f).intr = s.intr := by rw [State.raise_eq]
@[simp] theorem State.raise_pcie (s : State) (f : FaultReq) : (s.raise f).pcie = s.pcie := by rw [State.raise_eq]
@[simp] theorem State.raise_dma (s : State) (f : FaultReq) : (s.raise f).dma = s.dma := by rw [State.raise_eq]
@[simp] theorem State.raise_cntLive (s : State) (f : FaultReq) : (s.raise f).cntLive = s.cntLive := by rw [State.raise_eq]
@[simp] theorem State.raise_ctxs (s : State) (f : FaultReq) : (s.raise f).ctxs = s.ctxs := by rw [State.raise_eq]
@[simp] theorem State.raise_spds (s : State) (f : FaultReq) : (s.raise f).spds = s.spds := by rw [State.raise_eq]
@[simp] theorem State.raise_ing (s : State) (f : FaultReq) : (s.raise f).ing = s.ing := by rw [State.raise_eq]
@[simp] theorem State.raise_encs (s : State) (f : FaultReq) : (s.raise f).encs = s.encs := by rw [State.raise_eq]
@[simp] theorem State.raise_spes (s : State) (f : FaultReq) : (s.raise f).spes = s.spes := by rw [State.raise_eq]
@[simp] theorem State.raise_card (s : State) (f : FaultReq) : (s.raise f).card = s.card := by rw [State.raise_eq]
@[simp] theorem State.raise_canvas (s : State) (f : FaultReq) : (s.raise f).canvas = s.canvas := by rw [State.raise_eq]
@[simp] theorem State.raise_plys (s : State) (f : FaultReq) : (s.raise f).plys = s.plys := by rw [State.raise_eq]
@[simp] theorem State.raise_ports (s : State) (f : FaultReq) : (s.raise f).ports = s.ports := by rw [State.raise_eq]
@[simp] theorem State.raise_wrp (s : State) (f : FaultReq) : (s.raise f).wrp = s.wrp := by rw [State.raise_eq]
@[simp] theorem State.raise_sec (s : State) (f : FaultReq) : (s.raise f).sec = s.sec := by rw [State.raise_eq]
@[simp] theorem State.raise_aon (s : State) (f : FaultReq) : (s.raise f).aon = s.aon := by rw [State.raise_eq]
@[simp] theorem State.raise_pending (s : State) (f : FaultReq) : (s.raise f).pending = s.pending := by rw [State.raise_eq]

/-! ### respFault -/

theorem State.respFault_eq (s : State) (m acc a code : Nat) : s.respFault m acc a code = { s with flds := (s.respFault m acc a code).flds, flt := (s.respFault m acc a code).flt } :=
  State.eq_of_sansFlt (State.respFault_sans s m acc a code)

@[simp] theorem State.respFault_part (s : State) (m acc a code : Nat) : (s.respFault m acc a code).part = s.part := by rw [State.respFault_eq]
@[simp] theorem State.respFault_hbm (s : State) (m acc a code : Nat) : (s.respFault m acc a code).hbm = s.hbm := by rw [State.respFault_eq]
@[simp] theorem State.respFault_hostMem (s : State) (m acc a code : Nat) : (s.respFault m acc a code).hostMem = s.hostMem := by rw [State.respFault_eq]
@[simp] theorem State.respFault_mram (s : State) (m acc a code : Nat) : (s.respFault m acc a code).mram = s.mram := by rw [State.respFault_eq]
@[simp] theorem State.respFault_flash (s : State) (m acc a code : Nat) : (s.respFault m acc a code).flash = s.flash := by rw [State.respFault_eq]
@[simp] theorem State.respFault_devTime (s : State) (m acc a code : Nat) : (s.respFault m acc a code).devTime = s.devTime := by rw [State.respFault_eq]
@[simp] theorem State.respFault_elapsed (s : State) (m acc a code : Nat) : (s.respFault m acc a code).elapsed = s.elapsed := by rw [State.respFault_eq]
@[simp] theorem State.respFault_fresh (s : State) (m acc a code : Nat) : (s.respFault m acc a code).fresh = s.fresh := by rw [State.respFault_eq]
@[simp] theorem State.respFault_out (s : State) (m acc a code : Nat) : (s.respFault m acc a code).out = s.out := by rw [State.respFault_eq]
@[simp] theorem State.respFault_pwr (s : State) (m acc a code : Nat) : (s.respFault m acc a code).pwr = s.pwr := by rw [State.respFault_eq]
@[simp] theorem State.respFault_fab (s : State) (m acc a code : Nat) : (s.respFault m acc a code).fab = s.fab := by rw [State.respFault_eq]
@[simp] theorem State.respFault_mem (s : State) (m acc a code : Nat) : (s.respFault m acc a code).mem = s.mem := by rw [State.respFault_eq]
@[simp] theorem State.respFault_pool (s : State) (m acc a code : Nat) : (s.respFault m acc a code).pool = s.pool := by rw [State.respFault_eq]
@[simp] theorem State.respFault_intr (s : State) (m acc a code : Nat) : (s.respFault m acc a code).intr = s.intr := by rw [State.respFault_eq]
@[simp] theorem State.respFault_pcie (s : State) (m acc a code : Nat) : (s.respFault m acc a code).pcie = s.pcie := by rw [State.respFault_eq]
@[simp] theorem State.respFault_dma (s : State) (m acc a code : Nat) : (s.respFault m acc a code).dma = s.dma := by rw [State.respFault_eq]
@[simp] theorem State.respFault_cntLive (s : State) (m acc a code : Nat) : (s.respFault m acc a code).cntLive = s.cntLive := by rw [State.respFault_eq]
@[simp] theorem State.respFault_ctxs (s : State) (m acc a code : Nat) : (s.respFault m acc a code).ctxs = s.ctxs := by rw [State.respFault_eq]
@[simp] theorem State.respFault_spds (s : State) (m acc a code : Nat) : (s.respFault m acc a code).spds = s.spds := by rw [State.respFault_eq]
@[simp] theorem State.respFault_ing (s : State) (m acc a code : Nat) : (s.respFault m acc a code).ing = s.ing := by rw [State.respFault_eq]
@[simp] theorem State.respFault_encs (s : State) (m acc a code : Nat) : (s.respFault m acc a code).encs = s.encs := by rw [State.respFault_eq]
@[simp] theorem State.respFault_spes (s : State) (m acc a code : Nat) : (s.respFault m acc a code).spes = s.spes := by rw [State.respFault_eq]
@[simp] theorem State.respFault_card (s : State) (m acc a code : Nat) : (s.respFault m acc a code).card = s.card := by rw [State.respFault_eq]
@[simp] theorem State.respFault_canvas (s : State) (m acc a code : Nat) : (s.respFault m acc a code).canvas = s.canvas := by rw [State.respFault_eq]
@[simp] theorem State.respFault_plys (s : State) (m acc a code : Nat) : (s.respFault m acc a code).plys = s.plys := by rw [State.respFault_eq]
@[simp] theorem State.respFault_ports (s : State) (m acc a code : Nat) : (s.respFault m acc a code).ports = s.ports := by rw [State.respFault_eq]
@[simp] theorem State.respFault_wrp (s : State) (m acc a code : Nat) : (s.respFault m acc a code).wrp = s.wrp := by rw [State.respFault_eq]
@[simp] theorem State.respFault_sec (s : State) (m acc a code : Nat) : (s.respFault m acc a code).sec = s.sec := by rw [State.respFault_eq]
@[simp] theorem State.respFault_aon (s : State) (m acc a code : Nat) : (s.respFault m acc a code).aon = s.aon := by rw [State.respFault_eq]
@[simp] theorem State.respFault_pending (s : State) (m acc a code : Nat) : (s.respFault m acc a code).pending = s.pending := by rw [State.respFault_eq]

/-! ### respond -/

theorem State.respond_eq (s : State) (r : FabReq) (code : Nat) (data : List Byte) : s.respond r code data = { s with flds := (s.respond r code data).flds, cntLive := (s.respond r code data).cntLive, out := (s.respond r code data).out, fab := (s.respond r code data).fab } :=
  State.eq_of_sansResp (State.respond_sans s r code data)

@[simp] theorem State.respond_part (s : State) (r : FabReq) (code : Nat) (data : List Byte) : (s.respond r code data).part = s.part := by rw [State.respond_eq]
@[simp] theorem State.respond_hbm (s : State) (r : FabReq) (code : Nat) (data : List Byte) : (s.respond r code data).hbm = s.hbm := by rw [State.respond_eq]
@[simp] theorem State.respond_hostMem (s : State) (r : FabReq) (code : Nat) (data : List Byte) : (s.respond r code data).hostMem = s.hostMem := by rw [State.respond_eq]
@[simp] theorem State.respond_mram (s : State) (r : FabReq) (code : Nat) (data : List Byte) : (s.respond r code data).mram = s.mram := by rw [State.respond_eq]
@[simp] theorem State.respond_flash (s : State) (r : FabReq) (code : Nat) (data : List Byte) : (s.respond r code data).flash = s.flash := by rw [State.respond_eq]
@[simp] theorem State.respond_devTime (s : State) (r : FabReq) (code : Nat) (data : List Byte) : (s.respond r code data).devTime = s.devTime := by rw [State.respond_eq]
@[simp] theorem State.respond_elapsed (s : State) (r : FabReq) (code : Nat) (data : List Byte) : (s.respond r code data).elapsed = s.elapsed := by rw [State.respond_eq]
@[simp] theorem State.respond_fresh (s : State) (r : FabReq) (code : Nat) (data : List Byte) : (s.respond r code data).fresh = s.fresh := by rw [State.respond_eq]
@[simp] theorem State.respond_pwr (s : State) (r : FabReq) (code : Nat) (data : List Byte) : (s.respond r code data).pwr = s.pwr := by rw [State.respond_eq]
@[simp] theorem State.respond_mem (s : State) (r : FabReq) (code : Nat) (data : List Byte) : (s.respond r code data).mem = s.mem := by rw [State.respond_eq]
@[simp] theorem State.respond_pool (s : State) (r : FabReq) (code : Nat) (data : List Byte) : (s.respond r code data).pool = s.pool := by rw [State.respond_eq]
@[simp] theorem State.respond_intr (s : State) (r : FabReq) (code : Nat) (data : List Byte) : (s.respond r code data).intr = s.intr := by rw [State.respond_eq]
@[simp] theorem State.respond_flt (s : State) (r : FabReq) (code : Nat) (data : List Byte) : (s.respond r code data).flt = s.flt := by rw [State.respond_eq]
@[simp] theorem State.respond_pcie (s : State) (r : FabReq) (code : Nat) (data : List Byte) : (s.respond r code data).pcie = s.pcie := by rw [State.respond_eq]
@[simp] theorem State.respond_dma (s : State) (r : FabReq) (code : Nat) (data : List Byte) : (s.respond r code data).dma = s.dma := by rw [State.respond_eq]
@[simp] theorem State.respond_ctxs (s : State) (r : FabReq) (code : Nat) (data : List Byte) : (s.respond r code data).ctxs = s.ctxs := by rw [State.respond_eq]
@[simp] theorem State.respond_spds (s : State) (r : FabReq) (code : Nat) (data : List Byte) : (s.respond r code data).spds = s.spds := by rw [State.respond_eq]
@[simp] theorem State.respond_ing (s : State) (r : FabReq) (code : Nat) (data : List Byte) : (s.respond r code data).ing = s.ing := by rw [State.respond_eq]
@[simp] theorem State.respond_encs (s : State) (r : FabReq) (code : Nat) (data : List Byte) : (s.respond r code data).encs = s.encs := by rw [State.respond_eq]
@[simp] theorem State.respond_spes (s : State) (r : FabReq) (code : Nat) (data : List Byte) : (s.respond r code data).spes = s.spes := by rw [State.respond_eq]
@[simp] theorem State.respond_card (s : State) (r : FabReq) (code : Nat) (data : List Byte) : (s.respond r code data).card = s.card := by rw [State.respond_eq]
@[simp] theorem State.respond_canvas (s : State) (r : FabReq) (code : Nat) (data : List Byte) : (s.respond r code data).canvas = s.canvas := by rw [State.respond_eq]
@[simp] theorem State.respond_plys (s : State) (r : FabReq) (code : Nat) (data : List Byte) : (s.respond r code data).plys = s.plys := by rw [State.respond_eq]
@[simp] theorem State.respond_ports (s : State) (r : FabReq) (code : Nat) (data : List Byte) : (s.respond r code data).ports = s.ports := by rw [State.respond_eq]
@[simp] theorem State.respond_wrp (s : State) (r : FabReq) (code : Nat) (data : List Byte) : (s.respond r code data).wrp = s.wrp := by rw [State.respond_eq]
@[simp] theorem State.respond_sec (s : State) (r : FabReq) (code : Nat) (data : List Byte) : (s.respond r code data).sec = s.sec := by rw [State.respond_eq]
@[simp] theorem State.respond_aon (s : State) (r : FabReq) (code : Nat) (data : List Byte) : (s.respond r code data).aon = s.aon := by rw [State.respond_eq]
@[simp] theorem State.respond_pending (s : State) (r : FabReq) (code : Nat) (data : List Byte) : (s.respond r code data).pending = s.pending := by rw [State.respond_eq]

/-! ### evalTarget -/

theorem State.evalTarget_eq (s : State) (t : Nat) (f : Bool) : s.evalTarget t f = { s with flds := (s.evalTarget t f).flds, cntLive := (s.evalTarget t f).cntLive, out := (s.evalTarget t f).out, intr := (s.evalTarget t f).intr } :=
  State.eq_of_sansIntr (State.evalTarget_sans s t f)

@[simp] theorem State.evalTarget_part (s : State) (t : Nat) (f : Bool) : (s.evalTarget t f).part = s.part := by rw [State.evalTarget_eq]
@[simp] theorem State.evalTarget_hbm (s : State) (t : Nat) (f : Bool) : (s.evalTarget t f).hbm = s.hbm := by rw [State.evalTarget_eq]
@[simp] theorem State.evalTarget_hostMem (s : State) (t : Nat) (f : Bool) : (s.evalTarget t f).hostMem = s.hostMem := by rw [State.evalTarget_eq]
@[simp] theorem State.evalTarget_mram (s : State) (t : Nat) (f : Bool) : (s.evalTarget t f).mram = s.mram := by rw [State.evalTarget_eq]
@[simp] theorem State.evalTarget_flash (s : State) (t : Nat) (f : Bool) : (s.evalTarget t f).flash = s.flash := by rw [State.evalTarget_eq]
@[simp] theorem State.evalTarget_devTime (s : State) (t : Nat) (f : Bool) : (s.evalTarget t f).devTime = s.devTime := by rw [State.evalTarget_eq]
@[simp] theorem State.evalTarget_elapsed (s : State) (t : Nat) (f : Bool) : (s.evalTarget t f).elapsed = s.elapsed := by rw [State.evalTarget_eq]
@[simp] theorem State.evalTarget_fresh (s : State) (t : Nat) (f : Bool) : (s.evalTarget t f).fresh = s.fresh := by rw [State.evalTarget_eq]
@[simp] theorem State.evalTarget_pwr (s : State) (t : Nat) (f : Bool) : (s.evalTarget t f).pwr = s.pwr := by rw [State.evalTarget_eq]
@[simp] theorem State.evalTarget_fab (s : State) (t : Nat) (f : Bool) : (s.evalTarget t f).fab = s.fab := by rw [State.evalTarget_eq]
@[simp] theorem State.evalTarget_mem (s : State) (t : Nat) (f : Bool) : (s.evalTarget t f).mem = s.mem := by rw [State.evalTarget_eq]
@[simp] theorem State.evalTarget_pool (s : State) (t : Nat) (f : Bool) : (s.evalTarget t f).pool = s.pool := by rw [State.evalTarget_eq]
@[simp] theorem State.evalTarget_flt (s : State) (t : Nat) (f : Bool) : (s.evalTarget t f).flt = s.flt := by rw [State.evalTarget_eq]
@[simp] theorem State.evalTarget_pcie (s : State) (t : Nat) (f : Bool) : (s.evalTarget t f).pcie = s.pcie := by rw [State.evalTarget_eq]
@[simp] theorem State.evalTarget_dma (s : State) (t : Nat) (f : Bool) : (s.evalTarget t f).dma = s.dma := by rw [State.evalTarget_eq]
@[simp] theorem State.evalTarget_ctxs (s : State) (t : Nat) (f : Bool) : (s.evalTarget t f).ctxs = s.ctxs := by rw [State.evalTarget_eq]
@[simp] theorem State.evalTarget_spds (s : State) (t : Nat) (f : Bool) : (s.evalTarget t f).spds = s.spds := by rw [State.evalTarget_eq]
@[simp] theorem State.evalTarget_ing (s : State) (t : Nat) (f : Bool) : (s.evalTarget t f).ing = s.ing := by rw [State.evalTarget_eq]
@[simp] theorem State.evalTarget_encs (s : State) (t : Nat) (f : Bool) : (s.evalTarget t f).encs = s.encs := by rw [State.evalTarget_eq]
@[simp] theorem State.evalTarget_spes (s : State) (t : Nat) (f : Bool) : (s.evalTarget t f).spes = s.spes := by rw [State.evalTarget_eq]
@[simp] theorem State.evalTarget_card (s : State) (t : Nat) (f : Bool) : (s.evalTarget t f).card = s.card := by rw [State.evalTarget_eq]
@[simp] theorem State.evalTarget_canvas (s : State) (t : Nat) (f : Bool) : (s.evalTarget t f).canvas = s.canvas := by rw [State.evalTarget_eq]
@[simp] theorem State.evalTarget_plys (s : State) (t : Nat) (f : Bool) : (s.evalTarget t f).plys = s.plys := by rw [State.evalTarget_eq]
@[simp] theorem State.evalTarget_ports (s : State) (t : Nat) (f : Bool) : (s.evalTarget t f).ports = s.ports := by rw [State.evalTarget_eq]
@[simp] theorem State.evalTarget_wrp (s : State) (t : Nat) (f : Bool) : (s.evalTarget t f).wrp = s.wrp := by rw [State.evalTarget_eq]
@[simp] theorem State.evalTarget_sec (s : State) (t : Nat) (f : Bool) : (s.evalTarget t f).sec = s.sec := by rw [State.evalTarget_eq]
@[simp] theorem State.evalTarget_aon (s : State) (t : Nat) (f : Bool) : (s.evalTarget t f).aon = s.aon := by rw [State.evalTarget_eq]
@[simp] theorem State.evalTarget_pending (s : State) (t : Nat) (f : Bool) : (s.evalTarget t f).pending = s.pending := by rw [State.evalTarget_eq]

/-! ### arbitrate -/

theorem State.arbitrate_eq (s : State) : s.arbitrate  = { s with flds := (s.arbitrate).flds, cntLive := (s.arbitrate).cntLive, out := (s.arbitrate).out, intr := (s.arbitrate).intr } :=
  State.eq_of_sansIntr (State.arbitrate_sans s)

@[simp] theorem State.arbitrate_part (s : State) : (s.arbitrate).part = s.part := by rw [State.arbitrate_eq]
@[simp] theorem State.arbitrate_hbm (s : State) : (s.arbitrate).hbm = s.hbm := by rw [State.arbitrate_eq]
@[simp] theorem State.arbitrate_hostMem (s : State) : (s.arbitrate).hostMem = s.hostMem := by rw [State.arbitrate_eq]
@[simp] theorem State.arbitrate_mram (s : State) : (s.arbitrate).mram = s.mram := by rw [State.arbitrate_eq]
@[simp] theorem State.arbitrate_flash (s : State) : (s.arbitrate).flash = s.flash := by rw [State.arbitrate_eq]
@[simp] theorem State.arbitrate_devTime (s : State) : (s.arbitrate).devTime = s.devTime := by rw [State.arbitrate_eq]
@[simp] theorem State.arbitrate_elapsed (s : State) : (s.arbitrate).elapsed = s.elapsed := by rw [State.arbitrate_eq]
@[simp] theorem State.arbitrate_fresh (s : State) : (s.arbitrate).fresh = s.fresh := by rw [State.arbitrate_eq]
@[simp] theorem State.arbitrate_pwr (s : State) : (s.arbitrate).pwr = s.pwr := by rw [State.arbitrate_eq]
@[simp] theorem State.arbitrate_fab (s : State) : (s.arbitrate).fab = s.fab := by rw [State.arbitrate_eq]
@[simp] theorem State.arbitrate_mem (s : State) : (s.arbitrate).mem = s.mem := by rw [State.arbitrate_eq]
@[simp] theorem State.arbitrate_pool (s : State) : (s.arbitrate).pool = s.pool := by rw [State.arbitrate_eq]
@[simp] theorem State.arbitrate_flt (s : State) : (s.arbitrate).flt = s.flt := by rw [State.arbitrate_eq]
@[simp] theorem State.arbitrate_pcie (s : State) : (s.arbitrate).pcie = s.pcie := by rw [State.arbitrate_eq]
@[simp] theorem State.arbitrate_dma (s : State) : (s.arbitrate).dma = s.dma := by rw [State.arbitrate_eq]
@[simp] theorem State.arbitrate_ctxs (s : State) : (s.arbitrate).ctxs = s.ctxs := by rw [State.arbitrate_eq]
@[simp] theorem State.arbitrate_spds (s : State) : (s.arbitrate).spds = s.spds := by rw [State.arbitrate_eq]
@[simp] theorem State.arbitrate_ing (s : State) : (s.arbitrate).ing = s.ing := by rw [State.arbitrate_eq]
@[simp] theorem State.arbitrate_encs (s : State) : (s.arbitrate).encs = s.encs := by rw [State.arbitrate_eq]
@[simp] theorem State.arbitrate_spes (s : State) : (s.arbitrate).spes = s.spes := by rw [State.arbitrate_eq]
@[simp] theorem State.arbitrate_card (s : State) : (s.arbitrate).card = s.card := by rw [State.arbitrate_eq]
@[simp] theorem State.arbitrate_canvas (s : State) : (s.arbitrate).canvas = s.canvas := by rw [State.arbitrate_eq]
@[simp] theorem State.arbitrate_plys (s : State) : (s.arbitrate).plys = s.plys := by rw [State.arbitrate_eq]
@[simp] theorem State.arbitrate_ports (s : State) : (s.arbitrate).ports = s.ports := by rw [State.arbitrate_eq]
@[simp] theorem State.arbitrate_wrp (s : State) : (s.arbitrate).wrp = s.wrp := by rw [State.arbitrate_eq]
@[simp] theorem State.arbitrate_sec (s : State) : (s.arbitrate).sec = s.sec := by rw [State.arbitrate_eq]
@[simp] theorem State.arbitrate_aon (s : State) : (s.arbitrate).aon = s.aon := by rw [State.arbitrate_eq]
@[simp] theorem State.arbitrate_pending (s : State) : (s.arbitrate).pending = s.pending := by rw [State.arbitrate_eq]

/-! ### dispatch -/

theorem State.dispatch_eq (s : State) : s.dispatch  = { s with flds := (s.dispatch).flds, ctxs := (s.dispatch).ctxs, spds := (s.dispatch).spds } :=
  State.eq_of_sansSched (State.dispatch_sans s)

@[simp] theorem State.dispatch_part (s : State) : (s.dispatch).part = s.part := by rw [State.dispatch_eq]
@[simp] theorem State.dispatch_hbm (s : State) : (s.dispatch).hbm = s.hbm := by rw [State.dispatch_eq]
@[simp] theorem State.dispatch_hostMem (s : State) : (s.dispatch).hostMem = s.hostMem := by rw [State.dispatch_eq]
@[simp] theorem State.dispatch_mram (s : State) : (s.dispatch).mram = s.mram := by rw [State.dispatch_eq]
@[simp] theorem State.dispatch_flash (s : State) : (s.dispatch).flash = s.flash := by rw [State.dispatch_eq]
@[simp] theorem State.dispatch_devTime (s : State) : (s.dispatch).devTime = s.devTime := by rw [State.dispatch_eq]
@[simp] theorem State.dispatch_elapsed (s : State) : (s.dispatch).elapsed = s.elapsed := by rw [State.dispatch_eq]
@[simp] theorem State.dispatch_fresh (s : State) : (s.dispatch).fresh = s.fresh := by rw [State.dispatch_eq]
@[simp] theorem State.dispatch_out (s : State) : (s.dispatch).out = s.out := by rw [State.dispatch_eq]
@[simp] theorem State.dispatch_pwr (s : State) : (s.dispatch).pwr = s.pwr := by rw [State.dispatch_eq]
@[simp] theorem State.dispatch_fab (s : State) : (s.dispatch).fab = s.fab := by rw [State.dispatch_eq]
@[simp] theorem State.dispatch_mem (s : State) : (s.dispatch).mem = s.mem := by rw [State.dispatch_eq]
@[simp] theorem State.dispatch_pool (s : State) : (s.dispatch).pool = s.pool := by rw [State.dispatch_eq]
@[simp] theorem State.dispatch_intr (s : State) : (s.dispatch).intr = s.intr := by rw [State.dispatch_eq]
@[simp] theorem State.dispatch_flt (s : State) : (s.dispatch).flt = s.flt := by rw [State.dispatch_eq]
@[simp] theorem State.dispatch_pcie (s : State) : (s.dispatch).pcie = s.pcie := by rw [State.dispatch_eq]
@[simp] theorem State.dispatch_dma (s : State) : (s.dispatch).dma = s.dma := by rw [State.dispatch_eq]
@[simp] theorem State.dispatch_cntLive (s : State) : (s.dispatch).cntLive = s.cntLive := by rw [State.dispatch_eq]
@[simp] theorem State.dispatch_ing (s : State) : (s.dispatch).ing = s.ing := by rw [State.dispatch_eq]
@[simp] theorem State.dispatch_encs (s : State) : (s.dispatch).encs = s.encs := by rw [State.dispatch_eq]
@[simp] theorem State.dispatch_spes (s : State) : (s.dispatch).spes = s.spes := by rw [State.dispatch_eq]
@[simp] theorem State.dispatch_card (s : State) : (s.dispatch).card = s.card := by rw [State.dispatch_eq]
@[simp] theorem State.dispatch_canvas (s : State) : (s.dispatch).canvas = s.canvas := by rw [State.dispatch_eq]
@[simp] theorem State.dispatch_plys (s : State) : (s.dispatch).plys = s.plys := by rw [State.dispatch_eq]
@[simp] theorem State.dispatch_ports (s : State) : (s.dispatch).ports = s.ports := by rw [State.dispatch_eq]
@[simp] theorem State.dispatch_wrp (s : State) : (s.dispatch).wrp = s.wrp := by rw [State.dispatch_eq]
@[simp] theorem State.dispatch_sec (s : State) : (s.dispatch).sec = s.sec := by rw [State.dispatch_eq]
@[simp] theorem State.dispatch_aon (s : State) : (s.dispatch).aon = s.aon := by rw [State.dispatch_eq]
@[simp] theorem State.dispatch_pending (s : State) : (s.dispatch).pending = s.pending := by rw [State.dispatch_eq]

/-! ### showSpd -/

theorem State.showSpd_eq (s : State) (k : Nat) : s.showSpd k = { s with flds := (s.showSpd k).flds, ctxs := (s.showSpd k).ctxs, spds := (s.showSpd k).spds } :=
  State.eq_of_sansSched (State.showSpd_sans s k)

@[simp] theorem State.showSpd_part (s : State) (k : Nat) : (s.showSpd k).part = s.part := by rw [State.showSpd_eq]
@[simp] theorem State.showSpd_hbm (s : State) (k : Nat) : (s.showSpd k).hbm = s.hbm := by rw [State.showSpd_eq]
@[simp] theorem State.showSpd_hostMem (s : State) (k : Nat) : (s.showSpd k).hostMem = s.hostMem := by rw [State.showSpd_eq]
@[simp] theorem State.showSpd_mram (s : State) (k : Nat) : (s.showSpd k).mram = s.mram := by rw [State.showSpd_eq]
@[simp] theorem State.showSpd_flash (s : State) (k : Nat) : (s.showSpd k).flash = s.flash := by rw [State.showSpd_eq]
@[simp] theorem State.showSpd_devTime (s : State) (k : Nat) : (s.showSpd k).devTime = s.devTime := by rw [State.showSpd_eq]
@[simp] theorem State.showSpd_elapsed (s : State) (k : Nat) : (s.showSpd k).elapsed = s.elapsed := by rw [State.showSpd_eq]
@[simp] theorem State.showSpd_fresh (s : State) (k : Nat) : (s.showSpd k).fresh = s.fresh := by rw [State.showSpd_eq]
@[simp] theorem State.showSpd_out (s : State) (k : Nat) : (s.showSpd k).out = s.out := by rw [State.showSpd_eq]
@[simp] theorem State.showSpd_pwr (s : State) (k : Nat) : (s.showSpd k).pwr = s.pwr := by rw [State.showSpd_eq]
@[simp] theorem State.showSpd_fab (s : State) (k : Nat) : (s.showSpd k).fab = s.fab := by rw [State.showSpd_eq]
@[simp] theorem State.showSpd_mem (s : State) (k : Nat) : (s.showSpd k).mem = s.mem := by rw [State.showSpd_eq]
@[simp] theorem State.showSpd_pool (s : State) (k : Nat) : (s.showSpd k).pool = s.pool := by rw [State.showSpd_eq]
@[simp] theorem State.showSpd_intr (s : State) (k : Nat) : (s.showSpd k).intr = s.intr := by rw [State.showSpd_eq]
@[simp] theorem State.showSpd_flt (s : State) (k : Nat) : (s.showSpd k).flt = s.flt := by rw [State.showSpd_eq]
@[simp] theorem State.showSpd_pcie (s : State) (k : Nat) : (s.showSpd k).pcie = s.pcie := by rw [State.showSpd_eq]
@[simp] theorem State.showSpd_dma (s : State) (k : Nat) : (s.showSpd k).dma = s.dma := by rw [State.showSpd_eq]
@[simp] theorem State.showSpd_cntLive (s : State) (k : Nat) : (s.showSpd k).cntLive = s.cntLive := by rw [State.showSpd_eq]
@[simp] theorem State.showSpd_ing (s : State) (k : Nat) : (s.showSpd k).ing = s.ing := by rw [State.showSpd_eq]
@[simp] theorem State.showSpd_encs (s : State) (k : Nat) : (s.showSpd k).encs = s.encs := by rw [State.showSpd_eq]
@[simp] theorem State.showSpd_spes (s : State) (k : Nat) : (s.showSpd k).spes = s.spes := by rw [State.showSpd_eq]
@[simp] theorem State.showSpd_card (s : State) (k : Nat) : (s.showSpd k).card = s.card := by rw [State.showSpd_eq]
@[simp] theorem State.showSpd_canvas (s : State) (k : Nat) : (s.showSpd k).canvas = s.canvas := by rw [State.showSpd_eq]
@[simp] theorem State.showSpd_plys (s : State) (k : Nat) : (s.showSpd k).plys = s.plys := by rw [State.showSpd_eq]
@[simp] theorem State.showSpd_ports (s : State) (k : Nat) : (s.showSpd k).ports = s.ports := by rw [State.showSpd_eq]
@[simp] theorem State.showSpd_wrp (s : State) (k : Nat) : (s.showSpd k).wrp = s.wrp := by rw [State.showSpd_eq]
@[simp] theorem State.showSpd_sec (s : State) (k : Nat) : (s.showSpd k).sec = s.sec := by rw [State.showSpd_eq]
@[simp] theorem State.showSpd_aon (s : State) (k : Nat) : (s.showSpd k).aon = s.aon := by rw [State.showSpd_eq]
@[simp] theorem State.showSpd_pending (s : State) (k : Nat) : (s.showSpd k).pending = s.pending := by rw [State.showSpd_eq]

/-! ### modSpd -/

theorem State.modSpd_eq (s : State) (k : Nat) (f : Spd → Spd) : s.modSpd k f = { s with flds := (s.modSpd k f).flds, ctxs := (s.modSpd k f).ctxs, spds := (s.modSpd k f).spds } :=
  State.eq_of_sansSched (State.modSpd_sans s k f)

@[simp] theorem State.modSpd_part (s : State) (k : Nat) (f : Spd → Spd) : (s.modSpd k f).part = s.part := by rw [State.modSpd_eq]
@[simp] theorem State.modSpd_hbm (s : State) (k : Nat) (f : Spd → Spd) : (s.modSpd k f).hbm = s.hbm := by rw [State.modSpd_eq]
@[simp] theorem State.modSpd_hostMem (s : State) (k : Nat) (f : Spd → Spd) : (s.modSpd k f).hostMem = s.hostMem := by rw [State.modSpd_eq]
@[simp] theorem State.modSpd_mram (s : State) (k : Nat) (f : Spd → Spd) : (s.modSpd k f).mram = s.mram := by rw [State.modSpd_eq]
@[simp] theorem State.modSpd_flash (s : State) (k : Nat) (f : Spd → Spd) : (s.modSpd k f).flash = s.flash := by rw [State.modSpd_eq]
@[simp] theorem State.modSpd_devTime (s : State) (k : Nat) (f : Spd → Spd) : (s.modSpd k f).devTime = s.devTime := by rw [State.modSpd_eq]
@[simp] theorem State.modSpd_elapsed (s : State) (k : Nat) (f : Spd → Spd) : (s.modSpd k f).elapsed = s.elapsed := by rw [State.modSpd_eq]
@[simp] theorem State.modSpd_fresh (s : State) (k : Nat) (f : Spd → Spd) : (s.modSpd k f).fresh = s.fresh := by rw [State.modSpd_eq]
@[simp] theorem State.modSpd_out (s : State) (k : Nat) (f : Spd → Spd) : (s.modSpd k f).out = s.out := by rw [State.modSpd_eq]
@[simp] theorem State.modSpd_pwr (s : State) (k : Nat) (f : Spd → Spd) : (s.modSpd k f).pwr = s.pwr := by rw [State.modSpd_eq]
@[simp] theorem State.modSpd_fab (s : State) (k : Nat) (f : Spd → Spd) : (s.modSpd k f).fab = s.fab := by rw [State.modSpd_eq]
@[simp] theorem State.modSpd_mem (s : State) (k : Nat) (f : Spd → Spd) : (s.modSpd k f).mem = s.mem := by rw [State.modSpd_eq]
@[simp] theorem State.modSpd_pool (s : State) (k : Nat) (f : Spd → Spd) : (s.modSpd k f).pool = s.pool := by rw [State.modSpd_eq]
@[simp] theorem State.modSpd_intr (s : State) (k : Nat) (f : Spd → Spd) : (s.modSpd k f).intr = s.intr := by rw [State.modSpd_eq]
@[simp] theorem State.modSpd_flt (s : State) (k : Nat) (f : Spd → Spd) : (s.modSpd k f).flt = s.flt := by rw [State.modSpd_eq]
@[simp] theorem State.modSpd_pcie (s : State) (k : Nat) (f : Spd → Spd) : (s.modSpd k f).pcie = s.pcie := by rw [State.modSpd_eq]
@[simp] theorem State.modSpd_dma (s : State) (k : Nat) (f : Spd → Spd) : (s.modSpd k f).dma = s.dma := by rw [State.modSpd_eq]
@[simp] theorem State.modSpd_cntLive (s : State) (k : Nat) (f : Spd → Spd) : (s.modSpd k f).cntLive = s.cntLive := by rw [State.modSpd_eq]
@[simp] theorem State.modSpd_ing (s : State) (k : Nat) (f : Spd → Spd) : (s.modSpd k f).ing = s.ing := by rw [State.modSpd_eq]
@[simp] theorem State.modSpd_encs (s : State) (k : Nat) (f : Spd → Spd) : (s.modSpd k f).encs = s.encs := by rw [State.modSpd_eq]
@[simp] theorem State.modSpd_spes (s : State) (k : Nat) (f : Spd → Spd) : (s.modSpd k f).spes = s.spes := by rw [State.modSpd_eq]
@[simp] theorem State.modSpd_card (s : State) (k : Nat) (f : Spd → Spd) : (s.modSpd k f).card = s.card := by rw [State.modSpd_eq]
@[simp] theorem State.modSpd_canvas (s : State) (k : Nat) (f : Spd → Spd) : (s.modSpd k f).canvas = s.canvas := by rw [State.modSpd_eq]
@[simp] theorem State.modSpd_plys (s : State) (k : Nat) (f : Spd → Spd) : (s.modSpd k f).plys = s.plys := by rw [State.modSpd_eq]
@[simp] theorem State.modSpd_ports (s : State) (k : Nat) (f : Spd → Spd) : (s.modSpd k f).ports = s.ports := by rw [State.modSpd_eq]
@[simp] theorem State.modSpd_wrp (s : State) (k : Nat) (f : Spd → Spd) : (s.modSpd k f).wrp = s.wrp := by rw [State.modSpd_eq]
@[simp] theorem State.modSpd_sec (s : State) (k : Nat) (f : Spd → Spd) : (s.modSpd k f).sec = s.sec := by rw [State.modSpd_eq]
@[simp] theorem State.modSpd_aon (s : State) (k : Nat) (f : Spd → Spd) : (s.modSpd k f).aon = s.aon := by rw [State.modSpd_eq]
@[simp] theorem State.modSpd_pending (s : State) (k : Nat) (f : Spd → Spd) : (s.modSpd k f).pending = s.pending := by rw [State.modSpd_eq]

end Sys2Proof.Machine
end

