-- ==== Sys2Proof/Laws/Pool.lean ====
section
/-! SUPPORT. What the bobbin pool's bookkeeping leaves alone, and a request that finds no other at its pool. -/

namespace Sys2Proof.Machine

open R

@[simp] theorem State.setHead_rd (t : State) (p a : Nat) (F : Fld) : (t.setHead p a).rd F = t.rd F := by
  simp only [State.rd, State.setHead]
@[simp] theorem poolServed_rd (s : State) (p m : Nat) (F : Fld) : (poolServed s p m).rd F = s.rd F := by
  simp only [State.rd, poolServed]
@[simp] theorem poolServed_flds (s : State) (p m : Nat) : (poolServed s p m).flds = s.flds := rfl
@[simp] theorem poolServed_part (s : State) (p m : Nat) : (poolServed s p m).part = s.part := rfl
@[simp] theorem poolServed_hbm (s : State) (p m : Nat) : (poolServed s p m).hbm = s.hbm := rfl
@[simp] theorem poolServed_hostMem (s : State) (p m : Nat) : (poolServed s p m).hostMem = s.hostMem := rfl
@[simp] theorem poolServed_mem (s : State) (p m : Nat) : (poolServed s p m).mem = s.mem := rfl
@[simp] theorem poolServed_flt (s : State) (p m : Nat) : (poolServed s p m).flt = s.flt := rfl
@[simp] theorem poolServed_fab (s : State) (p m : Nat) : (poolServed s p m).fab = s.fab := rfl
@[simp] theorem poolServed_pcie (s : State) (p m : Nat) : (poolServed s p m).pcie = s.pcie := rfl
@[simp] theorem poolServed_elapsed (s : State) (p m : Nat) : (poolServed s p m).elapsed = s.elapsed := rfl
@[simp] theorem poolServed_held (s : State) (p m : Nat) : (poolServed s p m).held = s.held := rfl
@[simp] theorem poolServed_queue (s : State) (p m : Nat) : (poolServed s p m).pool.queue = s.pool.queue := rfl
@[simp] theorem poolServed_head (s : State) (p m : Nat) : (poolServed s p m).pool.head = s.pool.head := rfl
@[simp] theorem poolServed_ledgers (s : State) (p m : Nat) : (poolServed s p m).pool.ledger = s.pool.ledger := rfl
@[simp] theorem poolServed_parked (s : State) (p m : Nat) : (poolServed s p m).pool.parked = s.pool.parked := rfl
@[simp] theorem poolServed_poolHead (s : State) (p m q : Nat) : (poolServed s p m).poolHead q = s.poolHead q := by
  simp only [State.poolHead, poolServed_head]
@[simp] theorem poolServed_ledger (s : State) (p m q : Nat) : (poolServed s p m).ledger q = s.ledger q := by
  simp only [State.ledger, poolServed_ledgers]
@[simp] theorem poolServed_ledgerFull (s : State) (p m q : Nat) : (poolServed s p m).ledgerFull q = s.ledgerFull q := by
  simp [State.ledgerFull, poolServed_ledger]
@[simp] theorem poolServed_poolState (s : State) (p m q : Nat) : (poolServed s p m).poolState q = s.poolState q := by
  simp only [State.poolState, poolServed_rd]
@[simp] theorem poolServed_poolBase (s : State) (p m q : Nat) : (poolServed s p m).poolBase q = s.poolBase q := by
  simp only [State.poolBase, poolServed_rd]
@[simp] theorem poolServed_poolMeta (s : State) (p m q : Nat) : (poolServed s p m).poolMeta q = s.poolMeta q := by
  simp only [State.poolMeta, poolServed_rd]
@[simp] theorem poolServed_bobIdx (s : State) (p m q a : Nat) : (poolServed s p m).bobIdx q a = s.bobIdx q a := rfl
@[simp] theorem poolServed_locate (s : State) (p m a : Nat) : (poolServed s p m).locate a = s.locate a := by
  simp [State.locate, poolServed_poolState, poolServed_bobIdx]
@[simp] theorem poolServed_winHost (s : State) (p m a : Nat) : (poolServed s p m).winHost a = s.winHost a := by
  simp [State.winHost, State.on, poolServed_rd]
@[simp] theorem poolServed_linkOf (s : State) (p m a : Nat) : (poolServed s p m).linkOf a = s.linkOf a := by
  simp [State.linkOf, poolServed_winHost, poolServed_hbm, poolServed_hostMem]
@[simp] theorem poolServed_metaAddr (s : State) (p m q i : Nat) : (poolServed s p m).metaAddr q i = s.metaAddr q i := by
  simp only [State.metaAddr, poolServed_poolMeta]
@[simp] theorem poolServed_metaOf (s : State) (p m q i : Nat) : (poolServed s p m).metaOf q i = s.metaOf q i := by
  simp only [State.metaOf, poolServed_metaAddr, poolServed_hbm]
@[simp] theorem poolServed_isl (s : State) (p m i : Nat) : (poolServed s p m).isl i = s.isl i := by
  simp only [State.isl, poolServed_rd]
@[simp] theorem poolServed_stackOf (s : State) (p m a : Nat) : (poolServed s p m).stackOf a = s.stackOf a := by
  simp [State.stackOf, State.present, State.caps, poolServed_part]
@[simp] theorem poolServed_pathCode (s : State) (p m a : Nat) : (poolServed s p m).pathCode a = s.pathCode a := by
  simp [State.pathCode, poolServed_stackOf, poolServed_isl, poolServed_winHost, poolServed_pcie]
@[simp] theorem poolServed_eccOf (s : State) (p m a : Nat) : (poolServed s p m).eccOf a = s.eccOf a := by
  simp only [State.eccOf, poolServed_mem]
@[simp] theorem poolServed_atomFinding (s : State) (p m i : Nat) : (poolServed s p m).atomFinding i = s.atomFinding i := by
  simp only [State.atomFinding, poolServed_eccOf]
@[simp] theorem poolServed_findingOf (s : State) (p m a n : Nat) : (poolServed s p m).findingOf a n = s.findingOf a n := by
  simp only [State.findingOf, poolServed_atomFinding]
@[simp] theorem poolServed_poolReadCode (s : State) (p m a : Nat) : (poolServed s p m).poolReadCode a = s.poolReadCode a := by
  unfold State.poolReadCode; rw [poolServed_pathCode, poolServed_findingOf]
@[simp] theorem poolServed_metaCode (s : State) (p m q i : Nat) : (poolServed s p m).metaCode q i = s.metaCode q i := by
  simp only [State.metaCode, poolServed_metaAddr, poolServed_poolReadCode]
@[simp] theorem poolServed_headCodes (s : State) (p m q : Nat) : (poolServed s p m).headCodes q = s.headCodes q := by
  simp only [State.headCodes, poolServed_poolHead, poolServed_bobIdx, poolServed_metaCode, poolServed_poolReadCode]
@[simp] theorem poolServed_headOk (s : State) (p m q : Nat) : (poolServed s p m).headOk q = s.headOk q := by
  have h1 := poolServed_poolHead s p m q
  have h2 := poolServed_bobIdx s p m q
  have h3 := poolServed_linkOf s p m
  have h4 := poolServed_metaOf s p m q
  have h5 := poolServed_rd s p m
  generalize poolServed s p m = u at *
  simp only [State.headOk, h1, h2, h3, h4, h5]

/-- A pool with no request has no turn to take. -/
theorem State.poolTurns_empty (s : State) (p : Nat) (r : PoolReq) (n : Nat) (h : s.pool.queue = []) : s.poolTurns p r n = s := by
  cases n <;> simp [State.poolTurns, h]

theorem State.poolAsked_eq (s : State) (r : PoolReq) :
    s.poolAsked r = { s with flds := (s.poolAsked r).flds, cntLive := (s.poolAsked r).cntLive } := State.countOwn_eq ..

theorem State.poolAsked_rd (s : State) (r : PoolReq) (G : Fld) (h : G.key ≠ CNT_STATUS_OVF.key) : (s.poolAsked r).rd G = s.rd G :=
  State.countOwn_rd _ _ _ G h

@[simp] theorem State.poolAsked_queue (s : State) (r : PoolReq) : (s.poolAsked r).pool.queue = s.pool.queue := by rw [State.poolAsked_eq]

/-- A request that finds no other at the pool is served at once. -/
theorem State.poolRequest_alone (s : State) (r : PoolReq) (h : s.pool.queue = []) :
    s.poolRequest r = (poolTaken s ((s.poolAsked r).poolOf r) r).poolServe r := by
  have h : (s.poolAsked r).pool.queue = [] := by rw [State.poolAsked_queue, h]
  unfold poolTaken State.poolRequest
  generalize s.poolAsked r = s at h ⊢
  have e : ∀ q, State.poolOf { s with pool := q } r = s.poolOf r := fun q => rfl
  have e3 : ({ s with pool := { s.pool with
      queue := [], rr := smSet 255 s.pool.rr (8 * s.poolOf r + poolClass r.master) r.master } } : State) =
      poolServed s (s.poolOf r) r.master := by rw [poolServed, ← h]
  simp only [h, List.nil_append, List.length_singleton, State.poolTurns, e, List.contains_cons, BEq.rfl,
    Bool.true_or, if_true, State.poolTurn, List.filter, minBy, List.erase_cons_head]
  exact congrArg (fun t : State => t.poolServe r) e3

/-- The findings of a range that starts clean say that every atom is clean. -/
theorem foldl_max_zero {α : Type} (l : List α) (f : α → Nat) (m : Nat) (h : l.foldl (fun m i => max m (f i)) m = 0) :
    m = 0 ∧ ∀ i ∈ l, f i = 0 := by
  induction l generalizing m with
  | nil => exact ⟨h, by simp⟩
  | cons a r ih =>
    have := ih (max m (f a)) h
    have h0 := Nat.le_max_left m (f a)
    have h1 := Nat.le_max_right m (f a)
    refine ⟨by omega, ?_⟩
    intro i hi
    rcases List.mem_cons.mp hi with rfl | hi
    · omega
    · exact this.2 i hi

/-- A clean read counts and raises nothing. -/
theorem State.findings_clean (s : State) (master acc a n : Nat) (h : s.findingOf a n = 0) : s.findings master acc a n 0 = s := by
  have hz := (foldl_max_zero _ _ _ h).2
  have : ∀ l : List Nat, (∀ i ∈ l, s.atomFinding i = 0) → ∀ t : State,
      t.each l (fun i u => u.finding master acc a i (if i = a / 64 then worse (s.atomFinding i) 0 else s.atomFinding i)) = t := by
    intro l hl
    induction l with
    | nil => intro t; rfl
    | cons i r ih =>
      intro t
      have h0 : s.atomFinding i = 0 := hl i (by simp)
      have h1 : (if i = a / 64 then worse (s.atomFinding i) 0 else s.atomFinding i) = 0 := by simp [h0, worse]
      rw [State.each_cons, h1]
      exact ih (fun j hj => hl j (by simp [hj])) t
  exact this _ hz s

/-- A read by the pool of a clean word over an open path is only counted. -/
theorem State.poolReadSeen_clean (s : State) (a : Nat) (h : s.pathCode a = 0) (hf : s.findingOf a 8 = 0) :
    s.poolReadSeen a = s.countOwn (ownReq 0x30 0 a (.read 8)) 0 := by
  unfold State.poolReadSeen State.poolReadCode
  simp [h, hf, State.iff, State.findings_clean s 0x30 0 a 8 hf]

end Sys2Proof.Machine
end

