-- ==== Sys2Proof/Laws/Steps.lean ====
section
/-! SUPPORT. What a command can do, said once: every meaning ends through `State.finish`, or has not come about and leaves the state as it is,
but for the commands of the always-on domain, which end through `State.done`. -/

namespace Sys2Proof.Machine

/-- How each command ends. -/
theorem exec_ends (c : Instr) (s : State) :
    (aonCommand c = false → ∃ u : State, exec c s = s.finish u ∨ exec c s = .next s) ∧
      (aonCommand c = true → ∃ u : State, exec c s = State.done u) := by
  cases c
  case attest | cardStripeDone | dataArrived | dataTimeout | descComplete | devcert | encAllocDone | encPicDone | grainAllocDone | jobStart | ownerProgram | parseEnd | picAllocDone | pictureReady | plyRowBuilt | reweaveGo =>
    refine ⟨fun _ => ?_, fun h => by cases h⟩
    simp only [exec, execAttest, execCardStripeDone, execDataArrived, execDataTimeout, execDescComplete, execDevcert, execEncAllocDone, execEncPicDone, execGrainAllocDone, execJobStart, execOwnerProgram, execParseEnd, execPicAllocDone, execPictureReady, execPlyRowBuilt, execReweaveGo]
    exact ⟨_, State.finishOnce_ends _ _ _⟩
  all_goals first
    | exact ⟨fun _ => ⟨_, Or.inl rfl⟩, fun h => by cases h⟩
    | exact ⟨(fun h => by cases h), fun _ => ⟨_, rfl⟩⟩

end Sys2Proof.Machine
end

