-- ==== Sys2Proof/Laws/Tick.lean ====
section
/-! SUPPORT. What a nanosecond of idle time leaves alone. -/

namespace Sys2Proof.Machine

/-- Counting a spindle's cycles leaves the queue of commands. -/
@[simp] theorem State.countSpd_pending (s : State) (k c : Nat) : (s.countSpd k c).pending = s.pending := by
  unfold State.countSpd
  simp only [State.countUnit_pending]
  rfl

/-- Counting cycles leaves the queue of commands. -/
@[simp] theorem State.countTick_pending (s : State) : s.countTick.pending = s.pending := by
  unfold State.countTick
  simp only []
  rw [State.each_keeps (·.pending) _ _ (fun p t _ => by simp), State.each_keeps (·.pending) _ _ (fun k t _ => by simp),
    State.each_keeps (·.pending) _ _ (fun k t _ => by simp)]
  simp

end Sys2Proof.Machine
end

