-- ==== Sys2Proof/Tests/Slice0.lean ====
section
/-! SUPPORT. The author's tests: the well-formedness check, worked examples of the spec, single steps, and for each obligation with
hypotheses a state and operands that meet them. -/

namespace Sys2Proof.Tests

open Sys2Proof Sys2Proof.Machine Sys2Proof.Machine.R

/-! ### Ill-formed commands are refused by the check -/

def goodReq : FabReq := { master := 0x20, addr := 64 }
theorem test_wf_good : (Instr.fabricRequest goodReq).wellFormed = true ∧ (Instr.alloc { op := 1 } 0).wellFormed = true ∧
    (Instr.bar2Access 0 (some [1, 2]) 2 0).wellFormed = true ∧ (Instr.tempSample (List.replicate 24 0) 0 0).wellFormed = true := by decide
theorem test_wf_master : (Instr.fabricRequest { goodReq with master := 256 }).wellFormed = false := by decide
theorem test_wf_address : (Instr.completionTimeout { goodReq with addr := 2 ^ 48 }).wellFormed = false := by decide
theorem test_wf_access : (Instr.fabricRequest { goodReq with access := 8 }).wellFormed = false := by decide
theorem test_wf_dead : (Instr.fabricRequest { goodReq with dead := true }).wellFormed = false := by decide
theorem test_wf_length : (Instr.fabricRequest { goodReq with kind := .read 0 }).wellFormed = false ∧
    (Instr.fabricRequest { goodReq with kind := .write [] }).wellFormed = false ∧
    (Instr.hostWindowAccess { goodReq with kind := .atomic [1] } []).wellFormed = false := by decide
theorem test_wf_pool_op : (Instr.share { op := 1 } 0).wellFormed = false ∧ (Instr.release { op := 2 } 0).wellFormed = false ∧
    (Instr.setOwner { op := 3 } 0).wellFormed = false ∧ (Instr.query { op := 4 } 0).wellFormed = false := by decide
theorem test_wf_pool_ranges : (Instr.alloc { op := 1, master := 256 } 0).wellFormed = false ∧
    (Instr.alloc { op := 1, pool := 256 } 0).wellFormed = false ∧ (Instr.release { op := 3, addr := 2 ^ 41 } 0).wellFormed = false ∧
    (Instr.share { op := 2, add := 256 } 0).wellFormed = false ∧ (Instr.share { op := 2, gen := 2 ^ 32 } 0).wellFormed = false ∧
    (Instr.alloc { op := 1, timeoutUs := 65536 } 0).wellFormed = false ∧ (Instr.setOwner { op := 4, newTag := 256 } 0).wellFormed = false := by
  decide
theorem test_wf_bar2 : (Instr.bar2Access 0 none 0 0).wellFormed = false ∧ (Instr.bar2Access 0 none 4097 0).wellFormed = false ∧
    (Instr.bar2Access 0 (some [1]) 2 0).wellFormed = false := by decide
theorem test_wf_descriptor : (Instr.descFetched 0 false [[]]).wellFormed = false := by decide
theorem test_wf_config : (Instr.busMasterEnable true { mps := 100 }).wellFormed = false ∧ (Instr.busMasterEnable true { cplTimeout := 1 }).wellFormed = false := by decide
theorem test_wf_readings : (Instr.tempSample [] 0 0).wellFormed = false := by decide
theorem test_wf_boundary : (Instr.samplePreload [true] []).wellFormed = false ∧ (Instr.extest [] [false]).wellFormed = false := by decide
theorem test_no_word_spells_a_command : decodeTableWord 32 0 = none ∧ State.reset.withFetchWord 32 0 = State.reset := by decide +kernel

/-! ### Worked examples of the spec -/

/-- The picture of the example under R166 (04_decode_spindles.md). -/
theorem test_layout_example :
    (layoutOf 3840 2160 1 10 false false true).offCb = 0x00FF1000 ∧ (layoutOf 3840 2160 1 10 false false true).offMeta = 0x017E9000 ∧
    (layoutOf 3840 2160 1 10 false false true).total = 27160576 ∧ (layoutOf 8192 4352 3 10 true false true).total = 222826496 := by decide
/-- The address of the example after R392 (10_memory_controller.md). -/
theorem test_address_example :
    cellOf 4096 (stackOffset 0x00900FF1040) = { pch := 17, sid := 0, bank := 12, row := 31, col := 1 } ∧ stackNo 0x00900FF1040 = 1 := by decide
/-- The aging gains of the table after R311 (07_ply_engines.md), hours in 1/65536 h. -/
theorem test_aging_example :
    [0, 12000, 40000, 70000].map (fun h => agingGain 0x1400 3482 179 50000 (65536 * h)) = [0x0D9A, 0x0ED2, 0x121C, 0x1400] ∧
    [40000, 70000].map (fun h => agingLimited 0x1400 3482 179 50000 (65536 * h)) = [false, true] := by decide +kernel
/-- Row times of the table after R337 (08_brodys_link.md), in quarters of a ns. -/
theorem test_row_times : linkTime 1 2316 = 4 * 1450 ∧ linkTime 2 2316 = 2409 ∧ linkTime 3 2316 = 1221 := by decide
/-- The row quantisers of the table after R254 (06_encode_spindles.md): rows 1, 14 and 15. -/
theorem test_row_quantisers :
    rowQuant 6 19 51 120000 30 480 478736 = 32 ∧ rowQuant 6 32 51 90000 30 90 76736 = 43 ∧ rowQuant 6 43 51 40000 30 60 36736 = 50 := by
  decide +kernel
/-- The allowances of the example after R193 (04_decode_spindles.md). -/
theorem test_allowances :
    allowance {} 1 1500000 [(1200, 4096)] = 23795136 ∧ allowance { mult := 24 } 1 1500000 [(1200, 4096)] = 8964736 := by decide
/-- The loads of the example after R95 (02_stream_contexts_and_scheduling.md): whole and cropped feeds. -/
def loadState (pix : Nat) : State :=
  (((((State.reset.wr (STC_PERIOD_PERIOD 0) 16666667).wr (STC_MAX_AU_BYTES 0) 300000).wr (STC_PICSIZE_MAX_W 0) 3840).wr
    (STC_PICSIZE_MAX_H 0) 2160).wr (STC_CODEC_CHROMA 0) 0).wr (STC_ADMIT_PIX_PIX 0) pix
theorem test_loads :
    (loadState 0).pictureCost 0 = 6651904 ∧ (loadState 0).loadAt 0 1600000 = 16348 ∧ (loadState 4147200).pictureCost 0 = 3334144 ∧
    (loadState 4147200).loadAt 0 1600000 = 8194 := by decide +kernel
/-- The check value of the CRC that IEEE 802.3 uses for the FCS. -/
theorem test_crc32 : crc32 ("123456789".toList.map (fun c => BitVec.ofNat 8 c.toNat)) = 0xCBF43926 := by decide +kernel

/-! ### Single steps -/

/-- A ns passes when nothing waits (log entry 2). -/
theorem test_idle_step : (match step State.reset with | .next t => t.elapsed == 1 && t.pending.isEmpty | _ => false) = true := by decide +kernel
/-- The queue is first in, first out. -/
theorem test_queue_order :
    (match step { State.reset with pending := [.ptpSet 1, .ptpTimeRead] } with
    | .next t => t.devTime == 2 ^ 32 && t.pending == [.ptpTimeRead] | _ => false) = true := by decide +kernel
/-- R448: TARGET 3, K 2 makes source 26 pending. -/
theorem test_sgi :
    (match step { State.reset with pending := [.intSgi true 3 2] } with
    | .next t => t.rd (INT_SRC_PENDING 26) == 1 && t.rd INT_STATUS_TGT_REJECT == 0 | _ => false) = true := by decide +kernel
/-- R448: host inbound may not name TS. -/
theorem test_sgi_host_names_ts :
    (match step { State.reset with pending := [.intSgi true 16 0] } with
    | .next t => t.rd (INT_SRC_PENDING 128) == 0 && t.rd INT_STATUS_TGT_REJECT == 1 | _ => false) = true := by decide +kernel
/-- R553: the die temperature is the highest of the readings, as a signed byte. -/
theorem test_temperature :
    (match step { State.reset with pending := [.tempSample [20, 41, 0xF0, 7] 0 0] } with
    | .next t => t.rd GLB_TEMP_TJ == 41 && t.aon.tj == 41 | _ => false) = true := by decide +kernel

/-! ### What meets the hypotheses of the obligations -/

/-! ### StepRunsFrontCommand -/

theorem wit_StepRunsFrontCommand : ({ State.reset with pending := [.ctxNop 0 0] } : State).pending = [.ctxNop 0 0] ∧
    State.reset.pending = [] := by decide

/-! ### ConditionFieldsStayShown -/

theorem wit_ConditionFieldsStayShown : State.reset.rd PLY_CANVAS_STATUS_TIME_UNLOCKED = b2n State.reset.timeUnlocked ∧
    State.reset.rd (MEM_STATUS_HOT 0) = b2n (State.reset.hot 0) ∧ State.reset.rd (MEM_STATUS_HOT 1) = b2n (State.reset.hot 1) ∧
    (∀ c ∈ condClasses, State.reset.rd (FLT_CLASS_CAUSE c) = b2n (State.reset.faultCause c)) ∧
    (∀ i < 30, State.reset.rd (PWR_ISL_STATE_OUTSTANDING i) = min 255 (State.reset.outstanding i)) := by decide

/-! ### ResetHoldsEverythingButAlwaysOn -/

theorem wit_ResetHoldsEverythingButAlwaysOn :
    ({ State.reset with aon := { State.reset.aon with resetLow := true } } : State).held = true ∧ aonCommand (.ctxNop 0 0) = false := by
  decide

/-! ### RegisterWriteByAccessType -/

theorem wit_RegisterWriteByAccessType :
    State.reset.held = false ∧ State.reset.regCode 0x00280000 = 0 ∧ State.reset.regAbsent 0x00280000 = false ∧
    (fieldsAt 0x00280000) ≠ [] ∧ ((fieldsAt 0x00280000).map (fun p => p.2.key)).Nodup ∧
    (∀ p ∈ fieldsAt 0x00280000, ∀ F ∈ condFlds, p.2.key ≠ F.key) := by decide +kernel

/-! ### FabricRequestAnsweredByIslandState -/

theorem wit_FabricRequestAnsweredByIslandState :
    (∀ v < 4, let s := State.reset.wr (PWR_ISL_STATE_STATE 28) v
      s.held = false ∧ s.unitUp 0x60 = true ∧ s.stackOf 0x8FFFFFFFF = some 0 ∧ s.isl 28 = v ∧ s.flt.queue.length < 256) ∧
    (let s := State.reset.wr (PWR_ISL_STATE_STATE 29) 0;
      s.unitUp 0x60 = true ∧ s.stackOf 0x900000000 = some 1 ∧ s.isl 29 = islON) := by decide +kernel

/-! ### RetryIssuesTheRequestAgain -/

theorem wit_RetryIssuesTheRequestAgain :
    let s := { State.reset.wr (PWR_ISL_STATE_STATE 28) 0 with fab := { retry := [(0, .fabric { master := 0x60 })] } }
    s.held = false ∧ s.fab.retry = [(0, .fabric { master := 0x60 })] ∧ s.pcie.waiting = [] ∧ s.stackOf 0 = some 0 ∧
      s.isl 28 = islON ∧ s.unitUp 0x60 = true ∧ s.unitUp 0 = false := by decide +kernel

/-! ### AutonomousProgramRuns -/

/-- A state that runs an autonomous program of one entry. -/
def autoState (op t off v m : Nat) : State :=
  { State.reset.wr WRP_STATUS_AUTO_RUN 1 with
    wrp := { sects := [(secAUTONOMOUS, natLe 2 op ++ natLe 2 t ++ natLe 4 off ++ natLe 4 v ++ natLe 4 m)] }, elapsed := 7000000 }
theorem wit_AutonomousProgramRuns :
    (autoState 1 0 0x00280000 5 0).autoEntry = some { op := 1, off := 0x00280000, value := 5 } ∧
    ((autoState 1 0 0x00280000 5 0).writeAs mSVC 0x00280000 5).1 = 0 ∧
    (autoState 2 7 4 0 0).autoEntry = some { op := 2, timeout := 7, off := 4 } ∧
    ((autoState 2 7 4 0 0).readAs mSVC 4).1 = 0 ∧ ((autoState 2 7 4 0 0).readAs mSVC 4).2.1 &&& 0 = 0 ∧
    (autoState 3 0 0 7000 0).autoEntry = some { op := 3, value := 7000 } ∧ (autoState 3 0 0 7000 0).held = false ∧
    ((autoState 3 0 0 7000 0).sect secAUTONOMOUS).length < 32 := by decide +kernel

/-! ### BarAccessesReachTheirTargets -/

theorem wit_BarAccessesReachTheirTargets :
    State.reset.held = false ∧ State.reset.pcie.waiting = [] ∧ State.reset.hostWrites = false ∧ State.reset.barOpen 4 = true ∧
    (State.reset.readAs mHOST 4).1 = 0 ∧ (State.reset.writeAs mHOST 4 9).1 = 0 ∧
    (let s := (State.reset.wr SEC_BOOT_STATUS_READY 1).wr (PWR_ISL_STATE_STATE 29) 0;
      s.rd SEC_BOOT_STATUS_READY = 1 ∧ s.rd (HIF_AP_SEG 15) * 2 ^ 32 + 0xFFFFFFFF = 0xFFFFFFFFF ∧ s.stackOf 0xFFFFFFFFF = some 1 ∧
        s.isl 29 = islON) := by decide +kernel

/-! ### HostWindowTranslated -/

theorem wit_HostWindowTranslated :
    let s := { (State.reset.wr (HIF_OB_CTL_EN 255) 1).wr (HIF_OB_LO_ADDR 255) 3 with pcie := { bme := true } }
    s.held = false ∧ s.unitUp 0x29 = true ∧ s.pcie.bme = true ∧ s.pcie.d3 = false ∧
      s.winHost (winEnd - 1) = some (3 * 4096 + 0xFFFFFFFF) := by decide +kernel

/-! ### EndpointResetsAndLink -/

theorem wit_EndpointResetsAndLink :
    ({ State.reset with pcie := { flrSince := some 5 } } : State).held = false ∧ State.reset.rd HIF_LINK_SPEED ≠ 5 := by decide +kernel

/-! ### PowerControlIgnoredWhileGo -/

theorem wit_PowerControlIgnoredWhileGo :
    (State.reset.wr PWR_CTL_GO 1).held = false ∧ (State.reset.wr PWR_CTL_GO 1).rd PWR_CTL_GO = 1 := by decide

/-! ### PowerRequestRejectedOrDoneAtOnce -/

theorem wit_PowerRequestRejectedOrDoneAtOnce :
    let s := State.reset.wr (PWR_ISL_STATE_SWITCHABLE 29) 1
    s.held = false ∧ s.rd PWR_CTL_GO ≠ 1 ∧ s.present 29 = true ∧ s.rd (PWR_ISL_STATE_SWITCHABLE 29) = 1 ∧
      s.wrp.hold.active = false ∧ s.isl 29 = islOFF ∧ s.rd (PWR_ISL_STATE_SWITCHABLE 28) ≠ 1 ∧
      ({ s with part := .ix9620 } : State).present 29 = false := by decide

/-! ### PowerRequestsMoveTheIsland -/

theorem wit_PowerRequestsMoveTheIsland :
    (∀ v < 4, let s := (State.reset.wr (PWR_ISL_STATE_SWITCHABLE 29) 1).wr (PWR_ISL_STATE_STATE 29) v
      s.rd PWR_CTL_GO ≠ 1 ∧ (islandMasters 29).any s.fenced = false ∧ s.isl 29 = v ∧ s.reqOk 29 islON = true ∧
        s.reqOk 29 islOFF = true ∧ (v = 0 → s.reqOk 29 islRETENTION = true)) ∧
    (let s := { State.reset with pwr := { req := some { island := 29, draining := true } }, elapsed := 1000000000 };
      s.held = false ∧ s.outstanding 29 = 0 ∧ s.unitsIdle 29 = true ∧ 40 * s.rd PWR_DRAIN_LIMIT_LIMIT ≤ s.elapsed ∧
        s.rd PWR_CTL_FORCE ≠ 1 ∧ ({ s with mem := { xq := [(1, [{ addr := hbmSplit }])] } } : State).outstanding 29 ≠ 0) := by decide

/-! ### DrainOfAMemoryIsland -/

theorem wit_DrainOfAMemoryIsland :
    let s := (State.reset.wr (PWR_ISL_STATE_SWITCHABLE 28) 1).wr (PWR_ISL_STATE_STATE 28) 0
    s.held = false ∧ s.rd PWR_CTL_GO ≠ 1 ∧ s.reqOk 28 islRETENTION = true ∧ s.reqOk 28 islOFF = true ∧ s.isl 28 = islON ∧
      s.stackOf 0x8FFFFFFFF = some 0 := by decide

/-! ### UnitResetAndFenceSteps -/

theorem wit_UnitResetAndFenceSteps :
    (let s := State.reset.wr (PWR_ISL_STATE_STATE 15) 0;
      s.held = false ∧ s.rd PWR_UNIT_RST_GO ≠ 1 ∧ (resettable 15 && s.masterOn 15 && !s.pwrBusy 15 && !s.fenced 15) = true ∧
        (resettable 0x40 && s.masterOn 0x40 && !s.pwrBusy 0x40 && !s.fenced 0x40) = false ∧
        15 ∈ ({ s with pwr := { held := [15] } } : State).pwr.held) ∧
    (let s := { State.reset with pwr := { fences := [(15, some {})] }, elapsed := 1000000 };
      s.fence 15 = some {} ∧ s.queued = [] ∧ s.fabNs 65536 ≤ s.elapsed) ∧
    (let s := { State.reset with pwr := { fences := [(15, some { phase := .inReset })] }, elapsed := 1000000 };
      s.fence 15 = some { phase := .inReset } ∧ cdiv 64000000 (s.unitKhz 15) ≤ s.elapsed) := by decide

/-! ### WatchdogsAndParityStopTheUnit -/

theorem wit_WatchdogsAndParityStopTheUnit :
    let s := (State.reset.wr (PWR_ISL_STATE_STATE 0) 0).wr (PWR_ISL_STATE_STATE 19) 0
    s.held = false ∧ s.unitRuns 0 = true ∧ s.unitRuns (0x10 + 3) = true ∧ s.unitRuns (seqMaster 23) = true ∧
      s.unitRuns (seqMaster 0) = true ∧ s.unitRuns (seqMaster 19) = true := by decide

/-! ### CommitsOfShadowTables -/

theorem wit_CommitsOfShadowTables :
    let s := { (State.reset.wr (PWR_ISL_STATE_STATE 20) 0).wr (PWR_ISL_STATE_STATE 21) 0 with plys := [(1, { asked := some 0 })] }
    s.held = false ∧ s.unitUp (plyMaster 1) = true ∧ (s.ply 1).asked.isSome = true ∧ (s.ply 1).valid = false ∧ s.commitWhy 1 = 0 ∧
      (s.wr (TILE_CTL_EN 1 511) 1).commitWhy 1 = 2 ∧ 1 ∉ s.wrp.hold.engines ∧ bitSet (s.rd PLY_COMMIT) 0 = false := by decide +kernel

/-! ### CanvasTimingStartsFrames -/

theorem wit_CanvasTimingStartsFrames :
    (let s := (State.reset.wr PLY_CANVAS_RATE_N 60).wr PLY_CANVAS_RATE_D 1;
      s.held = false ∧ s.rd PLY_CANVAS_CTL_EN ≠ 1 ∧ s.rateOk = true ∧ (s.wr PLY_CANVAS_RATE_N 0).rateOk = false) ∧
    (let s := { ((State.reset.wr PLY_CANVAS_RATE_N 60).wr PLY_CANVAS_RATE_D 1).wr PLY_CANVAS_CTL_EN 1 with devTime := 5 };
      s.rd PLY_CANVAS_CTL_EN = 1 ∧ s.rd PLY_CANVAS_CTL_SOURCE ≠ 2 ∧ s.gridAt s.canvas.next ≤ s.devTime ∧ s.tooEarly = false ∧
        ({ s with canvas := { at_ := some 0 } } : State).tooEarly = true) ∧
    (let s := (((State.reset.wr PLY_CANVAS_RATE_N 60).wr PLY_CANVAS_RATE_D 1).wr PLY_CANVAS_CTL_EN 1).wr PLY_CANVAS_CTL_SOURCE 2;
      s.rd PLY_CANVAS_CTL_SOURCE = 2 ∧ (s.wr (PWR_ISL_STATE_STATE 21) 0).isl 21 = islON ∧ s.tooEarly = false ∧
        3 * s.canvasPeriod.1 ≤ 2 * (({ s with elapsed := 25000000 } : State).elapsed - s.canvas.enAt) * s.canvasPeriod.2) := by
  decide +kernel

/-! ### RowsAreBuiltAndSent -/

theorem wit_RowsAreBuiltAndSent :
    let f : PlyFrame := { todo := [(7, [(3, 1)])], tiles := [{ t := 3 }] }
    let s := { ((State.reset.wr (PWR_ISL_STATE_STATE 21) 0).wr (BLK_STATUS_STATE 15) blkACTIVE).wr (PLY_PORTEN 1) 0x80 with
      plys := [(1, { frames := [f], sync := some (0, 0, 0), due := (1, 34000) })], ports := [(15, { rows := [{ pos := 63 }] })]
      canvas := { at_ := some 0, ord := 1 }, elapsed := 40000 }
    s.held = false ∧ s.unitUp (plyMaster 1) = true ∧ (s.ply 1).frames.find? (fun f => f.todo.any (fun q => q.1 == 7)) = some f ∧
      smGet [] f.todo 7 = (3, 1) :: [] ∧ (s.port 15).rows = { pos := 63 } :: [] ∧ s.portState 15 = blkACTIVE ∧ s.awake 15 = true ∧
      s.rowFits 15 { pos := 63 } = true ∧ s.rowGoes 15 63 = false ∧ (s.wr (BLK_TILE_PRESENT 15 63) 1).rowGoes 15 63 = true ∧
      0 < s.staleRows 1 1 ∧ (s.ply 1).due = (1, 34000) ∧ s.fab.retry.length ≤ s.fab.retry.length := by decide +kernel

/-! ### TalliesGainsAndLatchedReads -/

theorem wit_TalliesGainsAndLatchedReads :
    let s := State.reset.wr (PWR_ISL_STATE_STATE 21) 0
    s.held = false ∧ s.unitUp (plyMaster 1) = true ∧ s.unitUp (plyMaster 0) = false ∧ smGet (0, 0, 0) (s.ply 1).tally 511 = (0, 0, 0) := by
  decide +kernel

/-! ### PortComesUpAndGoesDown -/

/-- A state in which the Brodys groups are ON, port 15 is of generation 2 and in state `st` with the record `r`. -/
def portState15 (st : Nat) (r : PortSt) : State :=
  { (((State.reset.wr (PWR_ISL_STATE_STATE 25) 0).wr (BLK_CTL_GEN 15) 2).wr (BLK_CTL_AUTO_ENUM 15) 1).wr (BLK_STATUS_STATE 15) st with
    ports := [(15, r)], elapsed := 20000000 }
theorem wit_PortComesUpAndGoesDown :
    (portState15 0 {}).held = false ∧ (portState15 0 {}).unitUp (blkMaster 15) = true ∧ (portState15 0 {}).gen 15 ≠ 0 ∧
    (portState15 0 {}).portState 15 = blkOFF ∧ 15 ∉ (portState15 0 {}).wrp.hold.ports ∧ (portState15 4 {}).portState 15 ≠ blkOFF ∧
    (portState15 1 {}).portState 15 = blkCLOCK ∧ (portState15 2 {}).portState 15 = blkTRAIN ∧
    1000 * max 100 ((portState15 2 {}).rd (BLK_TIMING_TRAIN_US 15)) ≤ (portState15 2 {}).elapsed ∧
    ((portState15 3 { lock := true, lostAt := some 10000000 }).port 15).lostAt = some 10000000 ∧
    (portState15 3 {}).rd (BLK_CTL_AUTO_ENUM 15) = 1 ∧ (portState15 3 {}).portState 15 = blkENUM := by decide

/-! ### PortCommands -/

theorem wit_PortCommands :
    (portState15 4 {}).rd (BLK_STATUS_BUSY 15) ≠ 1 ∧ (portState15 4 {}).portState 15 = blkACTIVE ∧
    (portState15 6 {}).portState 15 = blkNOCHAIN ∧ (portState15 4 {}).rd (BLK_TEST_MODE 15) ≠ 3 ∧ (portState15 5 {}).portState 15 = blkTEST ∧
    ((portState15 4 {}).wr (BLK_STATUS_BUSY 15) 1).rd (BLK_STATUS_BUSY 15) = 1 ∧
    ((portState15 4 {}).wr (BLK_STATUS_BUSY 15) 1).unitUp (blkMaster 15) = true ∧ (portState15 4 {}).rd (BLK_TXCFG_SWING 15) = 8 := by
  decide

/-! ### PortManagement -/

theorem wit_PortManagement :
    ((portState15 4 { trans := some { addr := 63, seq := 255 } }).port 15).trans = some { addr := 63, seq := 255 } ∧
    1000 * max 1 ((portState15 4 {}).rd (BLK_MGMT_TO_US 15)) ≤ (portState15 4 {}).elapsed ∧
    ((portState15 4 {}).port 15).enum = none ∧
    (((portState15 4 {}).wr (BLK_TILE_PRESENT 15 63) 1).tilesOf 15).find? (fun n => decide (0 ≤ n)) = some 63 ∧
    ((portState15 4 { auth := some { verify := 2, busyAt := some 0 } }).port 15).auth = some { verify := 2, busyAt := some 0 } ∧
    (portState15 4 {}).certVerdict 15 { verify := 1 } ≠ 2 := by decide +kernel

/-! ### HostTransactionsAndInjection -/

theorem wit_HostTransactionsAndInjection :
    (portState15 4 {}).rd (BLK_HM_CTL_GO 15) ≠ 1 ∧ hostOpOk 2 0 0 [] = false ∧ hostOpOk 3 0xFE 1030 [] = true ∧
    hostOpOk 3 0x3F 0 [] = true ∧ ((portState15 4 { idle := true }).port 15).idle = true ∧
    ((portState15 4 { idle := true }).port 15).burst = none := by decide

/-! ### PoolCommands -/

/-- Reset with pool 0 described: 4 KiB bobbins from 64 KiB, metadata at 4 KiB, in a state and with a count of free bobbins. -/
def poolState15 (st free : Nat) : State :=
  (((((State.reset.wr (PWR_ISL_STATE_STATE 28) 0).wr (POOL_BASE_LO 0) 0x10000).wr (POOL_META_LO 0) 0x1000).wr (POOL_COUNT 0) 2).wr
    (POOL_CTL_STATE 0) st).wr (POOL_FREE 0) free
theorem wit_PoolCommands :
    (poolState15 0 0).held = false ∧ (poolState15 0 0).poolState 0 = poolOFF ∧ ((poolState15 0 0).wr (POOL_CTL_LOG2 0) 0).poolWhy 0 = 0 ∧
    ((poolState15 0 0).wr (POOL_CTL_LOG2 0) 31).poolWhy 0 = 2 ∧ (poolState15 2 2).poolState 0 ≠ poolOFF ∧
    (poolState15 2 2).rd (POOL_CTL_LOG2 0) = 0 ∧ (poolState15 2 2).rd (POOL_FREE 0) = (poolState15 2 2).poolCount 0 ∧
    (poolState15 2 1).rd (POOL_FREE 0) ≠ (poolState15 2 1).poolCount 0 ∧ (poolState15 3 0).poolState 0 = poolBROKEN ∧
    (poolState15 1 0).poolState 0 = poolINIT ∧
    (∀ i < (poolState15 1 0).poolCount 0, (poolState15 1 0).pathCode ((poolState15 1 0).metaAddr 0 i) = 0 ∧ (poolState15 1 0).pathCode ((poolState15 1 0).bobAddr 0 i) = 0) := by
  decide +kernel

/-! ### PoolOperationsServed -/

/-- Pool 0 READY with `free` bobbins, the head at bobbin 0, whose metadata word is `m`. -/
def poolReady15 (free : Nat) (m : Meta) : State :=
  ({ poolState15 2 free with
    hbm := memStore [] 0x1000 (natLe 8 m.pack), pool := { head := [(0, 0x10000)] } } : State)
theorem wit_PoolOperationsServed :
    (let s := poolReady15 1 { free := true };
      s.held = false ∧ s.unitUp 0x60 = true ∧ s.pool.queue = [] ∧ s.poolState 0 = poolREADY ∧ s.ledgerFull 0x60 = false ∧
      s.rd (POOL_FREE 0) ≠ 0 ∧ (∀ c ∈ s.headCodes 0, c = 0) ∧ s.headOk 0 = true ∧ s.locate 0x10000 = some (0, 0) ∧ s.locate 0 = none) ∧
    (poolReady15 0 {}).rd (POOL_FREE 0) = 0 ∧
    (∀ n ∈ [1, 2], (poolReady15 0 { ref := n, owner := 0x60 }).pathCode 0x1000 = 0 ∧
      (poolReady15 0 { ref := n, owner := 0x60 }).findingOf 0x1000 8 = 0 ∧
      (poolReady15 0 { ref := n, owner := 0x60 }).metaOf 0 0 = { ref := n, owner := 0x60 }) ∧
    (poolReady15 0 { ref := 1, owner := 0x60 }).pathCode 0x10000 = 0 ∧ (poolReady15 0 { ref := 1, owner := 0x60 }).ledgerFull 0x38 = false ∧
    (let s := { poolReady15 0 {} with pool := { parked := [{ req := {}, due := 0 }] } };
      (s.parkedOf 0).find? (fun k => decide (k.due ≤ s.elapsed)) = some { req := {}, due := 0 }) := by decide +kernel

/-! ### ReleaseUnderflowIsDiscarded -/

theorem wit_ReleaseUnderflowIsDiscarded :
    let s := poolReady15 1 { free := true }
    s.held = false ∧ s.unitUp 0x60 = true ∧ s.pool.queue = [] ∧ s.flt.queue.length < 256 ∧ s.locate 0x10000 = some (0, 0) ∧
      s.pathCode 0x1000 = 0 ∧ s.findingOf 0x1000 8 = 0 ∧ s.metaAddr 0 0 = 0x1000 ∧ (s.metaOf 0 0).free = true := by decide +kernel

/-! ### AddressMappingIsOneToOne -/

theorem wit_AddressMappingIsOneToOne : (0 ≤ 8 ∧ 0x8FFFFFFC0 < 0x900000000 ∧ 0x8FFFFFFC0 % 64 = 0) ∧
    cellOf (2 ^ 12) 0xFF1040 = { pch := 17, sid := 0, bank := 12, row := 31, col := 1 } := by decide

/-! ### MemoryRequestsEnterTheirQueues -/

theorem wit_MemoryRequestsEnterTheirQueues :
    let s := { State.reset with mem := { xq := [(1, [{ addr := hbmSplit }])] } }
    s.held = false ∧ s.xq 1 = [] ++ { addr := hbmSplit } :: [] ∧ (s.pch (s.gpch hbmSplit)).input.length < 16 ∧ s.xq 0 = [] := by decide +kernel

/-! ### MemoryRequestsArePerformed -/

/-- Reset with stack 0 ON and one request of the service controller in the queue of pseudo-channel 0. -/
def memState15 (k : FabKind) : State :=
  { State.reset.wr (PWR_ISL_STATE_STATE 28) 0 with
    mem := { pch := [(0, { entries := [{ req := { master := 0x38, kind := k } }] })] }, elapsed := 1000000 }
theorem wit_MemoryRequestsArePerformed :
    ∀ k ∈ [.read 8, .write [1, 2], .atomic [1, 2, 3, 4, 5, 6, 7, 8]], let s := memState15 k
      s.held = false ∧ (s.pch 0).pausing = false ∧ s.isl 28 < islRETENTION ∧ s.pick (s.pch 0) = some { req := { master := 0x38, kind := k } } ∧
      s.fenced 0x38 = false ∧ worse (s.findingOf 0 8) 2 = 2 ∧ worse (s.findingOf 0 8) 0 ≠ 2 := by decide +kernel

/-! ### RefreshRetrainingAndScrubbing -/

theorem wit_RefreshRetrainingAndScrubbing :
    (let s := (((State.reset.wr (PWR_ISL_STATE_STATE 28) 0).wr (MEM_STATUS_TRAINED 0) 1).wr MEM_SCRUB_HOURS 1);
      s.held = false ∧ s.isl 28 ≤ islDRAINING ∧ (s.pch 0).entries = [] ∧ s.rd MEM_SCRUB_HOURS ≠ 0 ∧ s.rd (MEM_STATUS_TRAINED 0) = 1 ∧
      (∀ w < 8, s.eccOf (8 * w) = 0) ∧ 1 ≠ stackAtoms ∧ ({ s with elapsed := 1000000000 } : State).retrainTrigger 0 = true) ∧
    (let s := { memState15 (.read 8) with elapsed := 0 };
      s.urgency { req := { master := 0x38, kind := .read 8 } } = 0 ∧
      ({ s with elapsed := 1000000000 } : State).urgency { req := { master := 0x38, kind := .read 8 } } = 3) ∧
    (let s := { State.reset with mem := { pch := [(0, { pausing := true }), (1, { trainAsked := true })] } };
      (s.pch 0).pausing = true ∧ (s.pch 1).trainAsked = true ∧ (∀ i < 32, (s.pch (32 + i)).pausing = false)) ∧
    256 ≤ ({ State.reset with elapsed := 1000 } : State).mcCycles 0 1000 := by decide +kernel

/-! ### MemoryModesTestEngineAndInjection -/

theorem wit_MemoryModesTestEngineAndInjection :
    (let s := ((State.reset.wr MEM_MODE_MODE 2).wr (PWR_ISL_STATE_STATE 28) 0);
      s.held = false ∧ s.rd MEM_TEST_CTL_GO ≠ 1 ∧ s.rd MEM_MODE_MODE = 2 ∧ s.testRangeOk = true ∧
      (s.wr MEM_TEST_START_LO 1).testRangeOk = false ∧ (s.wr MEM_TEST_CTL_GO 1).rd MEM_TEST_CTL_GO = 1) ∧
    State.reset.rd MEM_MODE_MODE = 1 ∧ bitsOf (0x00020000 : Word).toNat 16 2 = 2 ∧ bitsOf (0 : Word).toNat 16 2 = 0 := by decide +kernel

/-! ### SoftwareInterrupts -/

theorem wit_SoftwareInterrupts : State.reset.held = false ∧ (15 : Fin 32).val ≤ 15 ∧ (16 : Fin 32).val = 16 ∧ 17 ≤ (17 : Fin 32).val := by decide

/-! ### TimersFireOnce -/

theorem wit_TimersFireOnce :
    State.reset.held = false ∧ State.reset.devTime < 2 ^ 32 * (1 : Word).toNat + State.reset.rd (INT_TGT_TIMER_LO 16) ∧
    2 ^ 32 * (0 : Word).toNat + State.reset.rd (INT_TGT_TIMER_LO 0) ≤ State.reset.devTime ∧ smGet false State.reset.intr.timerArmed 3 = false ∧
    (let s := { State.reset with intr := { timerArmed := [(3, true)] } };
      smGet false s.intr.timerArmed 3 = true ∧ s.timerAt 3 ≤ s.devTime) := by decide

/-! ### ClaimsAndEndsOfInterrupt -/

/-- Reset with target 2 enabled, source 16 pending and enabled for it, at priority 3. -/
def intState15 : State :=
  ((((State.reset.wr (INT_TGT_CTL_EN 2) 1).wr (INT_SRC_TARGET 16) 2).wr (INT_SRC_EN 16) 1).wr (INT_SRC_PENDING 16) 1).wr
    (INT_SRC_PRIORITY 16) 3
theorem wit_ClaimsAndEndsOfInterrupt :
    intState15.held = false ∧ intState15.signal 2 = some (3, 16) ∧ State.reset.signal 2 = none ∧
    (let s := { State.reset with intr := { stack := [(2, [(3, 16)])] } };
      s.intStack 2 = (3, (16 : Fin 1024).val) :: [] ∧ s.intStack 1 = []) := by decide +kernel

/-! ### SourcesAreRoutedAndParked -/

theorem wit_SourcesAreRoutedAndParked :
    (let s := State.reset;
      s.held = false ∧ bitsOf (0x000F0301 : Word).toNat 16 5 < 16 ∧ s.rd (INT_SRC_TARGET 319) < 16 ∧ s.rd WRP_STATUS_LOCKED ≠ 1 ∧
      319 ∉ s.wrp.hold.sources ∧ (∀ t < 16, s.rd (INT_TGT_STATUS_REDIRECTED t) = 0) ∧ 16 ≤ bitsOf (0x001F0000 : Word).toNat 16 5 ∧
      s.rd (INT_TGT_CTL_PARKED 15) ≠ 1 ∧ s.parkDue 0 = false) ∧
    (let s := { ((State.reset.wr (INT_TGT_CTL_PARKED 15) 1).wr (INT_TGT_WAKE_EN 15) 1).wr (INT_TGT_WAKE_ALT 15) 3 with devTime := 10 ^ 12 };
      s.rd (INT_TGT_CTL_PARKED 15) = 1 ∧ s.parkDue 15 = true) := by decide +kernel

/-! ### MessagesHeldAndReleased -/

theorem wit_MessagesHeldAndReleased :
    (let s := { ((intState15.wr (MSIX_CTRL_MASK 67) 0)) with pcie := { bme := true, msixEn := true, fnMask := false } };
      s.held = false ∧ (∀ t < 16, s.heldOf t = []) ∧ s.signal 2 = some (3, 16) ∧ s.rd (INT_TGT_CTL_PARKED 2) ≠ 1 ∧
      s.vectorMasked 67 = false ∧
      (let h := { s with intr := { heldVec := [(2, [67])] } };
        h.heldOf 2 = [67] ∧ (∀ u < 16, u ≠ 2 → h.heldOf u = []))) := by decide +kernel

/-! ### FaultsAreTaken -/

theorem wit_FaultsAreTaken :
    (let s := { State.reset with flt := { queue := [{ cls := 13, master := 0x60 }, { cls := 22 }] } };
      s.held = false ∧ s.nextFault 13 = some { cls := 13, master := 0x60 } ∧ s.rd (FLT_CLASS_RAISED 13) ≠ 1 ∧ defaultLevel 13 = 1 ∧
      s.nextFault 22 = some { cls := 22 } ∧ min 4 (defaultLevel 22) = 4 ∧
      (s.wr (FLT_CLASS_RAISED 13) 1).rd (FLT_CLASS_RAISED 13) = 1) := by decide +kernel

/-! ### FaultsAcknowledgedInjectedAndRead -/

theorem wit_FaultsAcknowledgedInjectedAndRead :
    (let s := State.reset.wr (FLT_CLASS_RAISED 5) 1;
      s.held = false ∧ s.nextFault 5 = none ∧ ({ s with flt := { queue := [{ cls := 5 }] } } : State).nextFault 5 ≠ none ∧ s.rd (FLT_CLASS_RAISED 5) = 1 ∧ (((s.wr (FLT_CLASS_RAISED 5) 0).freeCapture 5).showFaults).faultCause 5 = false) ∧
    (let s := (State.reset.wr (FLT_CLASS_RAISED 5) 1).wr (POOL_CTL_STATE 9) 3;
      (((s.wr (FLT_CLASS_RAISED 5) 0).freeCapture 5).showFaults).faultCause 5 = true) := by decide +kernel

/-! ### CountersClearedAndRead -/

theorem wit_CountersClearedAndRead :
    State.reset.held = false ∧ State.reset.rd (CNT_CTL_CHAIN 31) ≠ 1 ∧ (State.reset.wr (CNT_CTL_CHAIN 31) 1).rd (CNT_CTL_CHAIN ((30 : Fin 32) + 1)) = 1 := by
  decide

/-! ### DmaChannelCommands -/

theorem wit_DmaChannelCommands :
    State.reset.held = false ∧ State.reset.chanState 63 = dmaIDLE ∧ State.reset.rd (DMA_STATUS_BUSY 63) ≠ 1 ∧
    (State.reset.wr (DMA_STATUS_BUSY 63) 1).rd (DMA_STATUS_BUSY 63) = 1 ∧
    State.reset.rd (DMA_RING_LO 63) % 64 = 0 ∧ State.reset.rd (DMA_CREC_LO 63) % 16 = 0 ∧ bitsOf (0x10100000 : Word).toNat 16 5 = 16 ∧
    bitsOf (0x10100000 : Word).toNat 0 2 = 0 ∧ (State.reset.wr (DMA_STATUS_STATE 63) 3).chanState 63 = dmaHALTED ∧
    (State.reset.chan 63).started = [] ∧ ({ State.reset with dma := [(63, { started := [{}] })] } : State).chan 63 ≠ {} ∧
    (15 : Word).toNat % 65536 < State.reset.ringSize 63 ∧ State.reset.ringSize 63 ≤ (16 : Word).toNat % 65536 := by decide

/-! ### DescriptorsFetchedAndWrittenBack -/

/-- Channel 0 RUNNING in a mode with TAIL 1 and bus mastering. -/
def dmaState15 (mode : Nat) (started : List Desc) : State :=
  { (((State.reset.wr (DMA_STATUS_STATE 0) 1).wr (DMA_CTL_MODE 0) mode).wr (DMA_TAIL 0) 1).wr (PWR_ISL_STATE_STATE 28) 0 with
    pcie := { bme := true }, dma := [(0, { started := started })] }
theorem wit_DescriptorsFetchedAndWrittenBack :
    (∀ m < 2, (dmaState15 m []).held = false ∧ (dmaState15 m []).mayFetch 0 = true ∧ (dmaState15 m []).streams 0 = false) ∧
    badDesc false (descOf 0 (natLe 8 0x1000 ++ natLe 8 0x2000 ++ natLe 4 16 ++ natLe 4 1 ++ natLe 8 0)) = false ∧
    badDesc false (descOf 0 (natLe 32 0)) = true := by decide +kernel

/-! ### TransfersMoveTheirBytes -/

theorem wit_TransfersMoveTheirBytes :
    ∀ m < 2, let s := dmaState15 m [{ hostAddr := 0x1000, devAddr := 0x2000, len := 4, word := 1 }]
      s.held = false ∧ s.chanState 0 = dmaRUNNING ∧ s.mayMove 0 { hostAddr := 0x1000, devAddr := 0x2000, len := 4, word := 1 } = true ∧
      s.unitCode 0x2000 = 0 ∧ s.rd (DMA_CTL_MODE 0) = m ∧ s.partialUe 0x2000 4 = false ∧ s.findingOf 0x2000 4 < 2 := by decide +kernel

/-! ### ContextCommandsUpToRunning -/

theorem wit_ContextCommandsUpToRunning :
    (let s := State.reset;
      s.held = false ∧ s.ctxState 127 = ctxIDLE ∧ s.rd (STC_STATUS_BUSY 127) ≠ 1 ∧ (s.ctxFields 127 0).ctxState 127 = ctxIDLE ∧
      (s.declOk 127 && s.bindOk 127) = false) ∧
    (let s := State.reset.wr (STC_STATUS_STATE 3) ctxOPEN;
      s.ctxState 3 = ctxOPEN ∧ s.wrp.hold.classes.contains (s.ctxClass 3) = false ∧ s.admitWhy 3 ≠ 0) := by decide +kernel

/-! ### ContextCommandsFromRunning -/

theorem wit_ContextCommandsFromRunning :
    ∀ v ∈ [1, 2, 3, 4, 5], let s := State.reset.wr (STC_STATUS_STATE 127) v
      s.held = false ∧ s.rd (STC_STATUS_BUSY 127) ≠ 1 ∧ s.ctxState 127 = v ∧ s.ctxState 127 ≠ ctxIDLE ∧
      s.wrp.hold.classes.contains (s.ctxClass 127) = false ∧ s.rd (STC_STATUS_FAULT 127) ≠ 1 ∧
      (s.wr (STC_STATUS_FAULT 127) 1).rd (STC_STATUS_FAULT 127) = 1 := by decide +kernel

/-! ### AccessUnitsArePosted -/

theorem wit_AccessUnitsArePosted :
    (let s := { State.reset.wr (STC_STATUS_STATE 127) ctxRUNNING with ctxs := [(127, { toPost := [{}] })] };
      s.held = false ∧ (s.ctx 127).toPost = {} :: [] ∧ s.ctxState 127 = ctxRUNNING ∧ s.heldJobs 127 < 16 ∧ ({} : ToPost).due = none) ∧
    (let s := { State.reset with ctxs := [(127, { toPost := [{ due := some 5 }] })] };
      (s.ctx 127).toPost = { due := some 5 } :: [] ∧ s.devTime < 5 ∧ s.ctxState 127 ≠ ctxRUNNING) := by decide +kernel

/-! ### JobsReadTheirHeaders -/

/-- Spindle 0 ON with a job of context 0. -/
def spdState15 (j : RunJob) : State := { State.reset.wr (PWR_ISL_STATE_STATE 0) 0 with spds := [(0, { cur := some j })] }
theorem wit_JobsReadTheirHeaders :
    (∀ b ∈ [true, false], (spdState15 { job := { chain := { complete := b } } }).held = false ∧ ({ complete := b } : Chain).has 0 = b ∧
      (spdState15 { job := { chain := { complete := b } } }).running 0 = some { job := { chain := { complete := b } } }) ∧
    (let s := { spdState15 { job := { chain := { complete := true } }, phase := .waitData } with elapsed := 10 ^ 9 };
      s.running 0 = some { job := { chain := { complete := true } }, phase := .waitData } ∧
      (s.spd 0).set.dataTo * 1000 < s.waitedNs { phase := .waitData } ∧ ({ s with elapsed := 0 } : State).waitedNs { phase := .waitData } ≤ (s.spd 0).set.dataTo * 1000 ∧
      (s.goOn 0 { job := { chain := { complete := true } }, phase := .waitData }).fab.retry.length ≤ s.fab.retry.length) ∧
    (({} : PicFacts).hasPicture = true ∧ ({} : Ctx).skips 0 {} = false ∧ (({} : Ctx).parse 0 { items := [] }).parses = false ∧
      (({} : Ctx).parse 0 { items := [.slice { count := 1 }] }).parses = true) ∧
    (let s := spdState15 { facts := { width := 9000 } };
      let u := (s.modJob 0 (fun r => { r with phase := .parse })).seqCheck 0 0 { width := 9000 }
      (s.spd 0).cur = some { facts := { width := 9000 } } ∧ (u.ctx 0).rejecting = some 0x10) := by decide +kernel

/-! ### PicturesGetTheirBobbins -/

theorem wit_PicturesGetTheirBobbins :
    (∀ c ∈ [0, 1], let s := { spdState15 { phase := .waitBobbin } with pool := { done := [{ forWhom := .spdPic 0, code := c }] } }
      s.held = false ∧ s.running 0 = some { phase := .waitBobbin } ∧ (s.takeAnswer (.spdPic 0)).1 = some { forWhom := .spdPic 0, code := c }) ∧
    (let s := { State.reset with spds := [(0, { grain := some 0 })], pool := { done := [{ forWhom := .spdGrain 0, code := 1 }] }
                                 ctxs := [(0, { outs := [{ dec := 1 }], pics := [{ decSeq := 1 }] })] };
      let u := (s.takeAnswer (.spdGrain 0)).2.modSpd 0 (fun x => { x with grain := none })
      (s.spd 0).grain = some 0 ∧ (s.takeAnswer (.spdGrain 0)).1 = some { forWhom := .spdGrain 0, code := 1 } ∧
      (u.ctx 0).outs = { dec := 1 } :: [] ∧ u.picOf 0 1 = some { decSeq := 1 }) ∧
    State.reset.rd (STC_ENT_PIC 127 63) ≠ 1 ∧
    (let s := (State.reset.wr (STC_ENT_OUT_SEQ 127 63) 63).wr (STC_ENT_PIC 127 63) 1;
      s.rd (STC_ENT_OUT_SEQ 127 63) = 63 ∧ s.rd (STC_ENT_PIC 127 63) = 1) := by decide +kernel

/-! ### ParsingYieldingAndReadiness -/

theorem wit_ParsingYieldingAndReadiness :
    (∀ b ∈ [true, false], let s := spdState15 { phase := .recon, parsed := b }
      s.working 0 = some { phase := .recon, parsed := b } ∧ ({ complete := false } : Chain).has 1 = false ∧ ({ job := { chain := { complete := true } } } : RunJob).job.chain.complete = true ∧
      s.held = false ∧ s.running 0 = some { phase := .recon, parsed := b } ∧ (s.spd 0).gangLead = 0 ∧ (s.spd 0).cancel = false ∧
      allowance (s.spd 0).set 1 0 [] < 10 ^ 9 ∧ s.drainsJob 0 { phase := .recon, parsed := b } = false) ∧
    (let j : RunJob := { phase := .recon, parsed := true, pic := some (0x100000, 1) };
      let s := (spdState15 j).wr (PWR_ISL_STATE_STATE 28) 0
      s.running 0 = some j ∧ s.reconWrites 0 j [] = (true, s) ∧ (s.spd 0).cur = some j ∧ s.pathCode 0x100000 ≤ 1) ∧
    (let s := { (spdState15 {}).wr (PWR_ISL_STATE_STATE 0) 1 with spds := [(0, { cur := some {}, cancel := true })] };
      s.working 0 = some {} ∧ (s.spd 0).cancel = true ∧ s.drainsJob 0 {} = true ∧ s.picParked 0 = false) ∧
    (let s := { State.reset.wr (PWR_ISL_STATE_STATE 19) 1 with spes := [(3, { stripe := some {} })] };
      s.isl (19 : Fin 20) = islDRAINING ∧ s.fenced (19 : Fin 20) = false ∧
      ((s.spe (19 - 16)).cur.map (·.stop)).getD false = false ∧ ((s.spe (19 - 16)).cur.isSome || (s.spe (19 - 16)).stripe.isSome) = true) ∧
    (let s := { State.reset with spes := [(3, { cur := some { stop := true } })] };
      (s.spe (19 - 16)).cur = some { stop := true } ∧ s.fenced (19 : Fin 20) = false) := by decide +kernel

/-! ### FramesAreCheckedAndHeld -/

/-- Port 0 up; flow entry 0 matches UDP port 5004 to the port's own address 10.0.0.2 and is bound by context 0, RUNNING HEVC. -/
def ingState15 : State :=
  ((((((((((((State.reset.wr (ING_PORT_CTL_EN 0) 1).wr (PWR_ISL_STATE_STATE 26) 0).wr (PWR_ISL_STATE_STATE 24) 0).wr
    (PWR_ISL_STATE_STATE 25) 0).wr (ING_FLOW_CTL_EN 0) 1).wr (ING_FLOW_CTL_LPORTS 0) 1).wr (ING_FLOW_DADDR 0 0) 0x0A000002).wr
    (ING_FLOW_UDP_DPORT 0) 5004).wr (ING_PORT_IP4_ADDR 0) 0x0A000002).wr (ING_FLOW_UDP_PT 0) 96).wr (STC_STATUS_STATE 0) ctxRUNNING).wr
    (STC_CODEC_STANDARD 0) 1).wr (STC_CTL_FLOW 0) 0
/-- An RTP packet for that entry, in a frame. -/
def ingFrame15 (port : Nat) : List Byte :=
  let u := udpDatagram (natBe 4 0x0A000001) (natBe 4 0x0A000002) 4000 port
    (natBe 1 0x80 ++ natBe 1 (128 + 96) ++ natBe 2 7 ++ natBe 4 90000 ++ natBe 4 1 ++ [0x26, 0x01, 0xAA, 0xBB])
  ethFrame (natBe 6 0) (natBe 6 1) none 0x0800 (ip4Header 0 1 64 17 [] 0x0A000001 0x0A000002 u.length ++ u)
theorem wit_FramesAreCheckedAndHeld_frames :
    ingState15.held = false ∧ ingState15.portUp 0 = true ∧ ingState15.unitUp mING = true ∧
    (∀ d ∈ [5004, 5005], macControl false (ingFrame15 d) = false ∧ ingState15.frameFails 0 false (ingFrame15 d) = none ∧
      (ethOf (ingFrame15 d)).ptp = false ∧ (ethOf (ingFrame15 d)).udp = true) ∧
    ingState15.matchFlow 0 (ethOf (ingFrame15 5005)) = none ∧ ingState15.matchFlow 0 (ethOf (ingFrame15 5004)) = some 0 ∧
    (let u := ingState15.pathSeen 0;
      let b := (ethOf (ingFrame15 5004)).body.drop 8
      u.rtpOk 0 b = true ∧ u.binder 0 = some 0 ∧ (depack (u.ctxStd 0) (rtpBody b)).isNone = false ∧ u.ctxState 0 = ctxRUNNING) ∧
    ingState15.frameFails 0 false [] = some 1 ∧ macControl false (ethFrame (natBe 6 0) (natBe 6 1) none 0x8808 []) = true := by decide +kernel
theorem wit_FramesAreCheckedAndHeld_events :
    (let s := { ingState15 with ing := { flows := [(0, { parked := [({ seq := 0 }, true)] })] }, pool := { done := [{ forWhom := .ingest 0 0 }] } };
      (s.ingAnswer 0).1 = some (0, { forWhom := .ingest 0 0 }) ∧ ((s.ingAnswer 0).2.flow 0).parked.find? (fun q => q.1.seq == 0) = some ({ seq := 0 }, true) ∧
      (s.ingAnswer 0).2.binder 0 = some 0 ∧ ((s.ingAnswer 0).2.flow 0).base ≤ 0 ∧ (s.ingAnswer 1).1 = none) ∧
    (let s := { ingState15 with ing := { flows := [(0, { parked := [({ seq := 4 }, true)], base := 5 })] }, pool := { done := [{ forWhom := .ingest 0 4 }] } };
      (s.ingAnswer 0).1 = some (4, { forWhom := .ingest 0 4 }) ∧ ((s.ingAnswer 0).2.flow 0).parked.find? (fun q => q.1.seq == 4) = some ({ seq := 4 }, true) ∧
      4 < ((s.ingAnswer 0).2.flow 0).base) ∧
    (let s := { ingState15 with ing := { flows := [(0, { pkts := [{ seq := 5, marker := true, at_ := 0 }] })] } };
      s.binder 0 = some 0 ∧ spanEnd (s.flow 0).pkts = some (5, 0, true)) ∧
    (let s := { State.reset.wr (ING_FLOW_STATUS_PATH_UP 255) 1 with elapsed := 50000000 };
      s.rd (ING_FLOW_STATUS_PATH_UP 255) = 1 ∧ (s.flow 255).lastMatch + 50000000 ≤ s.elapsed) ∧
    State.reset.rd (ING_FLOW_STATUS_PATH_UP 0) ≠ 1 ∧ State.reset.portExists 0 = true ∧ State.reset.portExists 1 = false := by decide +kernel

/-! ### MastersLostAndHoldoverExpired -/

/-- Reset with a servo record. -/
def ptpState15 (p : PtpSt) : State := { State.reset with ing := { ptp := p } }
theorem wit_MastersLostAndHoldoverExpired :
    (ptpState15 {}).held = false ∧ (ptpState15 { selected := some 5 }).ing.ptp.selected.isSome = true ∧
    (ptpState15 {}).ing.ptp.selected = none ∧ (ptpState15 {}).ing.ptp.masters.filter (fun m => decide ((ptpState15 {}).elapsed < m.due)) = [] ∧
    minBy PtpMaster.rank ((ptpState15 { masters := [{ due := 9, source := 5 }] }).ing.ptp.masters.filter
      (fun m => decide ((ptpState15 {}).elapsed < m.due))) = some { due := 9, source := 5 } ∧
    (let s := { State.reset.wr PTP_STATE_STATE ptpHOLDOVER with elapsed := 1000000000 * 86400 + 1 };
      s.rd PTP_STATE_STATE = ptpHOLDOVER ∧ s.ing.ptp.holdSince + 1000000000 * s.rd PTP_HOLDOVER_S < s.elapsed ∧ s.flt.queue.length < 256) ∧
    State.reset.rd PTP_CTL_EN ≠ 1 ∧ (State.reset.wr PTP_CTL_EN 1).rd PTP_CTL_EN = 1 := by decide

/-! ### ReportsAndEgressPackets -/

/-- Reset with channel 2 enabled, two packets in its queue. -/
def egrState15 : State :=
  { (State.reset.wr (ING_EGR_CTL_EN 2) 1).wr (ING_EGR_CTL_LPORT_A 2) 1 with
    ing := { egr := [(2, { queue := [{ packets := [[1], [2]], total := 2 }] })], reports := [{ lp := 0, left := 1 }, { lp := 3, current := true }] } }
theorem wit_ReportsAndEgressPackets :
    egrState15.held = false ∧ egrState15.unitUp mEGR = true ∧ egrState15.dueReport 0 false = some { lp := 0, left := 1 } ∧
    egrState15.dueReport 3 true = some { lp := 3, current := true } ∧ egrState15.dueReport 1 true = none ∧ egrState15.egrDue 2 = true ∧
    egrState15.rd (ING_EGR_CTL_LPORT_A 2) = 1 ∧ egrState15.reportDue 1 = false ∧ egrState15.egrTurn 1 = some 2 ∧ egrState15.egrPaths 2 = [(1, false)] ∧
    (let s := (egrState15.wr (ING_EGR_CTL_DUAL 2) 1).wr (ING_EGR_CTL_LPORT_B 2) 0;
      s.egrPaths 2 = [(1, false), (0, true)] ∧ s.reportDue 1 = false ∧ s.egrTurn 1 = some 2 ∧ s.reportDue 0 = true ∧ s.egrDue 2 = true) ∧
    (egrState15.egr 2).queue = { packets := [[1], [2]], total := 2 } :: [] ∧ egrState15.egrDue 3 = false := by decide +kernel

/-! ### EncodeSessionCommands -/

/-- Reset with session 15 in a state. -/
def encState15 (v : Nat) : State := State.reset.wr (ENC_STATUS_STATE 15) v
theorem wit_EncodeSessionCommands :
    State.reset.held = false ∧ State.reset.encState 15 = encIDLE ∧ (encState15 encOPEN).held = false ∧
    (∀ v ∈ [encOPEN, encRUNNING, encFAULTED], (encState15 v).encState 15 = v ∧ (encState15 v).rd (ENC_STATUS_BUSY 15) ≠ 1) ∧
    (State.reset.wr (ENC_STATUS_BUSY 15) 1).rd (ENC_STATUS_BUSY 15) = 1 ∧ ((encState15 encFAULTED).wr (ENC_STATUS_FAULT 15) 1).rd (ENC_STATUS_FAULT 15) = 1 := by decide

/-! ### PicturesAreCodedAndCarded -/

/-- Reset with a picture on encode spindle 3 and answers for it from the pool. -/
def speState15 (p : EncPhase) (code : Nat) : State :=
  { State.reset with
    spes := [(3, { cur := some { phase := p, outs := [(0x1000, 1)] } })]
    pool := { done := [{ code := code, forWhom := .encRecon 3 }, { code := code, forWhom := .encOut 3 }] } }
theorem wit_PicturesAreCodedAndCarded :
    (speState15 .coding 0).held = false ∧ ((speState15 .waitOut 0).wr (PWR_ISL_STATE_STATE 19) 0).unitUp 0x13 = true ∧ ((speState15 .coding 0).spe 3).held = false ∧ (speState15 .coding 0).fenced 0x13 = false ∧
    (∀ p ∈ [EncPhase.coding, .waitOut, .waitRecon], (((speState15 p 0).spe 3).cur).map (·.phase) = some p) ∧
    (((speState15 .waitRecon 0).takeAnswer (.encRecon 3)).1.map (·.code)) = some 0 ∧
    (((speState15 .waitOut 0).takeAnswer (.encOut 3)).1.map (·.code)) = some 0 ∧
    (speState15 .waitOut 2).pool.done.any (fun r => r.forWhom == .encOut 3 && r.code != 0) = true ∧
    (speState15 .waitRecon 2).pool.done.any (fun r => r.forWhom == .encRecon 3 && r.code != 0) = true ∧
    (State.reset.spe 3).cur = none ∧ State.reset.card.jobs.length < 16 ∧ State.reset.wrp.hold.classes.contains 3 = false ∧
    (let s := { State.reset with spes := [(1, { stripe := some { job := 4 } })], card := { jobs := [{ num := 4 }] } };
      (s.spe 1).stripe = some { job := 4 } ∧ s.card.jobs.find? (fun x => x.num == 4) = some { num := 4 }) := by decide +kernel

/-! ### StartsAndReweaves -/

theorem wit_StartsAndReweaves :
    State.reset.held = false ∧ State.reset.aon.vdd = true ∧ State.reset.aon.thermtrip = false ∧ State.reset.aon.resetLow = false ∧
    State.reset.sec.due = some .auto ∧ State.reset.recStuck = false ∧ dirOf State.reset.flash = none ∧ State.reset.sec.coldFails ≠ 3 ∧ State.reset.rd WRP_STATUS_BUSY ≠ 1 ∧
    1000 ≤ (1000 : Word).toNat ∧ (499 : Word).toNat < 500 ∧ State.reset.sec.starting = false ∧
    (let s := { State.reset.wr SEC_BOOT_STATUS_PHASE phBRINGUP with sec := { starting := true, restartAt := some 0 } };
      s.held = false ∧ s.sec.starting = true ∧ s.sec.failing = none ∧ s.rd SEC_BOOT_STATUS_PHASE = phBRINGUP ∧ s.sec.restartAt = some 0 ∧ s.recStuck = false) ∧
    (let s := { State.reset with sec := { starting := true, failing := some 8 } };
      s.held = false ∧ s.sec.starting = true ∧ s.sec.failing = some (8 : Fin 9).val ∧ s.failsWarm = false ∧ s.sec.fromImage = false) ∧
    (let s := { State.reset with wrp := { reweave := some {} } };
      s.wrp.reweave = some {} ∧ ({} : Reweave).units.all s.fenceDone = true) ∧
    (((State.reset.wr SEC_BOOT_STATUS_PHASE phRECOVERY).wr SEC_REC_CTL_MODE 1).recWaits = true ∧ State.reset.recWaits = false) := by decide +kernel

/-! ### MailboxCommandsAreAnswered -/

/-- Reset with a message of a command in front. -/
def mailState15 (w0 w1 w2 : Nat) : State := { State.reset with sec := { mail := [{ box := 15, words := [w0, w1, w2] }] } }
theorem wit_MailboxCommandsAreAnswered :
    (mailState15 1 0 0).held = false ∧ State.reset.sec.mail = [] ∧ State.reset.rd (SEC_MB_CTL_FREE 15) = 1 ∧
    (State.reset.wr (SEC_MB_CTL_FREE 0) 0).rd (SEC_MB_CTL_FREE 0) ≠ 1 ∧ (State.reset.wr (SEC_MB_CTL_IN_VALID 15) 1).rd (SEC_MB_CTL_IN_VALID 15) = 1 ∧
    State.reset.rd (SEC_MB_CTL_IN_VALID 15) ≠ 1 ∧ (∀ w ∈ [1, 2, 3, 4, 5, 6, 7, 8], (mailState15 w 3 166).sec.mail.map (·.cmd) = [w]) ∧
    (mailState15 7 3 166).sec.mail.map (fun m => (m.word 1, m.word 2)) = [(3, Nat.xor 3 0xA5)] ∧
    State.reset.rd WRP_STATUS_BUSY ≠ 1 ∧ State.reset.rd WRP_STATUS_AUTO_RUN ≠ 1 ∧ State.reset.rd SEC_OWNER_PROGRAMMED / 2 ^ 3 % 2 = 0 := by decide

/-! ### AlwaysOnEvents -/

theorem wit_AlwaysOnEvents :
    State.reset.held = false ∧ State.reset.aon.vdd = true ∧ ({ State.reset with aon := { vdd := false } } : State).aon.vdd = false ∧
    State.reset.monitored 10 = true ∧ State.reset.beyond 10 4095 = true ∧ bitSet (State.reset.rd GLB_ENV) 10 = false ∧
    State.reset.inside 10 1800 = true ∧ State.reset.inside 10 4095 = false ∧ State.reset.monitored 1 = false ∧ (125 : Int) < (126 : BitVec 8).toInt ∧
    (127 : BitVec 8).toInt = 127 ∧ (128 : BitVec 8).toInt ≤ 125 ∧ ({ State.reset with aon := { avs := some 700 } } : State).aon.avs.isSome = true ∧
    State.reset.aon.avs = none ∧ (let s := State.reset.wr SEC_BOOT_STATUS_PHASE phREADY;
      s.held = false ∧ s.rd SEC_BOOT_STATUS_PHASE = phREADY ∧ s.aon.i2cAsked = false ∧ s.sec.mail = [] ∧ s.sec.halting = false) := by decide

end Sys2Proof.Tests
end

/-! # Register writes by access type -/

namespace Sys2Proof.Machine

open R

/-! ### One field (Table 0-5) -/

/-- What field `p` of a word reads once `w` has been written to the word in state `s`, by its access type (Table 0-5, R8). -/
def State.afterWrite (s : State) (w : Nat) (p : Acc × Fld) : Nat :=
  match p.1 with
  | .ro => s.rd p.2
  | .rc => s.rd p.2
  | .rw => bitsOf w p.2.lo p.2.width
  | .wo => bitsOf w p.2.lo p.2.width
  | .rwl => if s.rd WRP_STATUS_LOCKED = 1 then s.rd p.2 else bitsOf w p.2.lo p.2.width
  | .w1c => (s.rd p.2 - (s.rd p.2 &&& bitsOf w p.2.lo p.2.width)) % 2 ^ p.2.width
  | .w1s => (s.rd p.2 ||| bitsOf w p.2.lo p.2.width) % 2 ^ p.2.width

/-- The bits taken out of a word fit the field they are written to. -/
@[simp] theorem bitsOf_mod (w lo width : Nat) : bitsOf w lo width % 2 ^ width = bitsOf w lo width :=
  Nat.mod_mod _ _

/-- What is asked of the state before: the field itself and warp lock. -/
theorem State.afterWrite_congr {s t : State} (w : Nat) (p : Acc × Fld) (hp : t.rd p.2 = s.rd p.2)
    (hl : t.rd WRP_STATUS_LOCKED = s.rd WRP_STATUS_LOCKED) : t.afterWrite w p = s.afterWrite w p := by
  unfold State.afterWrite
  rw [hp, hl]

/-- A write by access type either keeps the state or writes the field once. -/
theorem State.writeFld_cases (s : State) (w : Nat) (p : Acc × Fld) :
    s.writeFld w p = s ∨ ∃ v, s.writeFld w p = s.wr p.2 v := by
  obtain ⟨acc, F⟩ := p
  cases acc
  case ro | rc => exact .inl rfl
  case rw | wo | w1c | w1s => exact .inr ⟨_, rfl⟩
  case rwl =>
    cases hl : s.on WRP_STATUS_LOCKED
    · exact .inr ⟨bitsOf w F.lo F.width, by simp [State.writeFld, hl]⟩
    · exact .inl (by simp [State.writeFld, hl])

/-- A write by access type leaves the field at the value of Table 0-5. -/
theorem State.rd_writeFld_same (s : State) (w : Nat) (p : Acc × Fld) : (s.writeFld w p).rd p.2 = s.afterWrite w p := by
  obtain ⟨acc, F⟩ := p
  cases acc
  case ro | rc => rfl
  case rw | wo => exact (State.rd_wr_same ..).trans (bitsOf_mod ..)
  case w1c | w1s => exact State.rd_wr_same ..
  case rwl =>
    by_cases hl : s.rd WRP_STATUS_LOCKED = 1
    · simp [State.writeFld, State.afterWrite, State.on, hl]
    · have hoff : s.on WRP_STATUS_LOCKED = false := beq_false_of_ne hl
      simp [State.writeFld, State.afterWrite, hoff, hl]

/-- It leaves every other field alone. -/
theorem State.rd_writeFld_ne (s : State) (w : Nat) (p : Acc × Fld) (G : Fld) (h : G.key ≠ p.2.key) :
    (s.writeFld w p).rd G = s.rd G := by
  obtain e | ⟨v, e⟩ := s.writeFld_cases w p <;> rw [e]
  exact State.rd_wr_ne s _ G v h

/-- It changes nothing beside the register fields. -/
theorem State.writeFld_flds (s : State) (w : Nat) (p : Acc × Fld) : ∃ f, s.writeFld w p = { s with flds := f } := by
  obtain e | ⟨v, e⟩ := s.writeFld_cases w p
  · exact ⟨s.flds, e⟩
  · exact ⟨_, e⟩

/-! ### Every field of a word -/

/-- Writing a list of fields leaves a field outside the list alone. -/
theorem State.rd_writeFlds_ne (s : State) (l : List (Acc × Fld)) (w : Nat) (G : Fld) (h : ∀ p ∈ l, G.key ≠ p.2.key) :
    (s.writeFlds l w).rd G = s.rd G :=
  State.each_keeps (·.rd G) l _ (fun p t hp => t.rd_writeFld_ne w p G (h p hp)) s

/-- Writing a list of fields with distinct places, warp lock not among them, leaves each at the value of Table 0-5. -/
theorem State.rd_writeFlds_mem (s : State) (l : List (Acc × Fld)) (w : Nat) (hn : (l.map (fun p => p.2.key)).Nodup)
    (hlock : ∀ p ∈ l, WRP_STATUS_LOCKED.key ≠ p.2.key) : ∀ p ∈ l, (s.writeFlds l w).rd p.2 = s.afterWrite w p := by
  induction l generalizing s with
  | nil => simp
  | cons q r ih =>
    obtain ⟨hq, hr⟩ := List.nodup_cons.mp hn
    have hdiff : ∀ p ∈ r, p.2.key ≠ q.2.key := fun p hp e => hq (List.mem_map.mpr ⟨p, hp, e⟩)
    intro p hp
    change ((s.writeFld w q).writeFlds r w).rd p.2 = _
    obtain rfl | hp := List.mem_cons.mp hp
    · rw [State.rd_writeFlds_ne _ r w p.2 (fun x hx => (hdiff x hx).symm), State.rd_writeFld_same]
    · rw [ih _ hr (fun x hx => hlock x (List.mem_cons_of_mem _ hx)) p hp]
      exact State.afterWrite_congr w p (s.rd_writeFld_ne w q _ (hdiff p hp))
        (s.rd_writeFld_ne w q _ (hlock q List.mem_cons_self))

/-- Writing a list of fields changes nothing beside the register fields. -/
theorem State.writeFlds_flds (s : State) (l : List (Acc × Fld)) (w : Nat) :
    ∃ f, s.writeFlds l w = { s with flds := f } := by
  induction l generalizing s with
  | nil => exact ⟨s.flds, rfl⟩
  | cons p r ih =>
    obtain ⟨g, hg⟩ := s.writeFld_flds w p
    obtain ⟨f, hf⟩ := ih (s.writeFld w p)
    exact ⟨f, by rw [hg] at hf; exact (congrArg (·.writeFlds r w) hg).trans hf⟩

/-! ### Words without effects of their own -/

/-- The words of the scheduler, Ethernet port, flow status, spindle and carding-free encode spindle blocks: none acts when it is
written. -/
def inertWord (a : Nat) : Prop :=
  0x00280000 ≤ a ∧ a < 0x00404000 ∨ 0x00408000 ≤ a ∧ a < 0x0040A000 ∨ 0x00600000 ≤ a ∧ a < 0x00780000

theorem fieldsIn_off (off base stride n : Nat) (regs : Nat → List (Acc × Fld)) : ∀ p ∈ fieldsIn off base stride n regs, p.2.off = off := by
  unfold fieldsIn
  split <;> simp +contextual

/-- The fields of a word below the canvas lie in that word. -/
theorem fieldsLow_off (a : Nat) : ∀ p ∈ fieldsLow a, p.2.off = a := by
  intro p hp
  simp only [fieldsLow, List.mem_append, or_assoc] at hp
  rcases hp with h | h | h | h | h | h | h | h | h | h | h | h | h | h | h <;> exact fieldsIn_off _ _ _ _ _ p h

/-- Warp lock is none of the fields of a word of those blocks. -/
theorem inertWord.lock_key_ne {a : Nat} (h : inertWord a) : ∀ p ∈ fieldsAt a, WRP_STATUS_LOCKED.key ≠ p.2.key := by
  intro p hp
  rw [fieldsAt, if_pos (by unfold inertWord at h; omega)] at hp
  have hoff : p.2.off = a := fieldsLow_off a p hp
  unfold inertWord at h
  simp only [Fld.key, WRP_STATUS_LOCKED, hoff]
  omega

/-- A write that reaches such a word gives each field its access type and has no other effect. -/
theorem State.writeReg_inert (s : State) (m w : Nat) {a : Nat} (h : inertWord a) : s.writeReg m a w = s.plainWrite a w := by
  unfold inertWord at h
  rw [State.writeReg, if_pos (by omega), State.writeLow, if_neg (by omega), if_neg (by omega)]
  by_cases hstc : a < 0x00400000
  · rw [if_pos hstc, State.writeStc, if_pos (by omega)]
  rw [if_neg hstc]
  by_cases hing : a < 0x00500000
  · rw [if_pos hing, State.writeIng, if_neg (by omega), if_neg (by omega), if_neg (by omega)]
  · rw [if_neg hing, if_neg (by omega), if_pos (by omega)]

/-- A write of such a word, its unit present and reachable, sets the fields of the word by access type, less the flags to clear that
hardware sets in the same cycle (R9). -/
theorem State.writeAgainst_inert (s : State) (m off hw : Nat) {w a : Nat} (hw32 : w < 2 ^ 32) (ha : a = off / 4 * 4) (h : inertWord a)
    (hc : s.regCode a = 0) (hp : s.regAbsent a = false) :
    s.writeAgainst m off w hw = s.plainWrite a (w - (w &&& hw &&& clearBits a)) := by
  have hcanon : canon (off / 4 * 4) = a := by
    rw [canon, if_neg (by unfold inertWord at h; omega), ha]
  have hflt : decide (0x01000100 ≤ a) = false := by
    unfold inertWord at h
    simp only [decide_eq_false_iff_not]
    omega
  simp only [State.writeAgainst, State.writeWord, hcanon, hc, hp, hflt, Bool.false_and, State.iff_false, ne_eq, not_true, false_or,
    Bool.false_eq_true, if_false]
  rw [State.writeReg_inert _ _ _ h]
  exact congrArg (s.plainWrite a) (Nat.mod_eq_of_lt (by omega))

/-- REGISTER_WRITE ends with the write it makes. -/
theorem exec_registerWrite (svc : Bool) (off : Word) (d : RegData) (s : State) (h : s.held = false) :
    exec (.registerWrite svc off d) s =
      .next (s.writeAgainst (if svc then mSVC else mHOST) off.toNat d.word.toNat d.hw.toNat).settle :=
  State.finish_on _ h

/-- Settles O7: the write is the word's fields in turn, each by its access type, and then the condition fields. -/
theorem registerWriteByAccessType : Obligations.RegisterWriteByAccessType := by
  intro svc off d s a v hheld ha hv hin hc hp hn hcond
  have hin : inertWord a := hin
  have hrun : exec (.registerWrite svc off d) s = .next (s.writeFlds (fieldsAt a) v).settle := by
    rw [exec_registerWrite svc off d s hheld, State.writeAgainst_inert s _ _ _ d.word.isLt ha hin hc hp, hv]
    rfl
  refine ⟨_, hrun, fun p hpa => ?_, RegsKept.settle fun G hG _ => ?_, ?_⟩
  · rw [State.rd_settle _ _ (hcond p hpa), State.rd_writeFlds_mem s _ v hn hin.lock_key_ne p hpa]
    rfl
  · exact State.rd_writeFlds_ne s _ v G fun p hpa => hG p.2 (List.mem_map.mpr ⟨p, hpa, rfl⟩)
  · obtain ⟨f, hf⟩ := s.writeFlds_flds (fieldsAt a) v
    rw [State.settle_eq, hf]

end Sys2Proof.Machine

/-! # Acknowledging, injecting and reading faults -/

namespace Sys2Proof.Machine

open R

/-! ### What an acknowledgement leaves -/

/-- Class `c` made CLEAR: its capture registers at their reset values and the summary up to date (R474). -/
def State.cleared (s : State) (c : Nat) : State := ((s.wr (FLT_CLASS_RAISED c) 0).freeCapture c).showFaults

/-- Freeing a class's capture leaves every class's RAISED alone: it lies in a word of its own. -/
theorem State.freeCapture_raised (s : State) (c d : Nat) :
    (s.freeCapture c).rd (FLT_CLASS_RAISED d) = s.rd (FLT_CLASS_RAISED d) :=
  State.each_keeps (·.rd (FLT_CLASS_RAISED d)) _ _ (fun F t hF => State.rd_wr_ne t F _ _ (by
    simp only [List.mem_cons, List.not_mem_nil, or_false] at hF
    rcases hF with rfl | rfl | rfl | rfl | rfl | rfl | rfl | rfl | rfl <;>
      simp only [Fld.key, FLT_CLASS_RAISED, FLT_FIRST_ADDR_LO, FLT_FIRST_ADDR_HI, FLT_FIRST_TIME_LO, FLT_FIRST_TIME_HI,
        FLT_FIRST_INFO_MASTER, FLT_FIRST_INFO_ACCESS, FLT_FIRST_INFO_CTX, FLT_FIRST_INFO_LEVEL, FLT_FIRST_INFO_VALID] <;> omega)) s

/-- Freeing a class's capture leaves the faults that wait alone. -/
theorem State.freeCapture_queue (s : State) (c : Nat) : (s.freeCapture c).flt.queue = s.flt.queue := by
  unfold State.freeCapture
  exact State.each_keeps (·.flt.queue) _ (fun F t => t.rst F) (fun _ _ _ => rfl) s

theorem State.freeCapture_hbm (s : State) (c : Nat) : (s.freeCapture c).hbm = s.hbm := by
  unfold State.freeCapture
  exact State.each_keeps (·.hbm) _ (fun F t => t.rst F) (fun _ _ _ => rfl) s

/-- Showing the faults writes the summary words alone. -/
theorem State.showFaults_rd (s : State) (G : Fld) (h : ∀ F ∈ [FLT_SUMMARY, FLT_STATE_HIGHEST, FLT_STATE_ANY, FLT_STATE_DEVICE], G.key ≠ F.key) :
    s.showFaults.rd G = s.rd G := by
  unfold State.showFaults
  dsimp only
  rw [State.iff_keeps (·.rd G) _ _ _ rfl, State.rd_wr_ne _ _ G _ (h _ (by simp)), State.rd_wr_ne _ _ G _ (h _ (by simp)),
    State.rd_wr_ne _ _ G _ (h _ (by simp)), State.rd_wr_ne _ _ G _ (h _ (by simp))]

/-- Showing the faults leaves the collector's queue, captures and log alone. -/
theorem State.showFaults_flt (s : State) : s.showFaults.flt = s.flt := State.iff_keeps (·.flt) _ _ _ rfl

theorem State.showFaults_hbm (s : State) : s.showFaults.hbm = s.hbm := State.iff_keeps (·.hbm) _ _ _ rfl

/-- A cleared class is not RAISED. -/
theorem State.cleared_raised (s : State) (c : Nat) : (s.cleared c).rd (FLT_CLASS_RAISED c) = 0 := by
  have hsum : ∀ F ∈ [FLT_SUMMARY, FLT_STATE_HIGHEST, FLT_STATE_ANY, FLT_STATE_DEVICE], (FLT_CLASS_RAISED c).key ≠ F.key := by
    simp only [List.forall_mem_cons, List.not_mem_nil, false_imp_iff, implies_true, and_true, Fld.key, FLT_CLASS_RAISED,
      FLT_SUMMARY, FLT_STATE_HIGHEST, FLT_STATE_ANY, FLT_STATE_DEVICE]
    omega
  rw [State.cleared, State.showFaults_rd _ _ hsum, State.freeCapture_raised, State.rd_wr_same, Nat.zero_mod]

theorem State.cleared_queue (s : State) (c : Nat) : (s.cleared c).flt.queue = s.flt.queue := by
  rw [State.cleared, State.showFaults_flt, State.freeCapture_queue, State.wr_flt]

theorem State.cleared_hbm (s : State) (c : Nat) : (s.cleared c).hbm = s.hbm := by
  rw [State.cleared, State.showFaults_hbm, State.freeCapture_hbm, State.wr_hbm]

/-- RAISED of a class shows no condition: it is bit 0 of its word, where no condition field lies. -/
theorem raised_notCond (c : Nat) : ∀ F ∈ condFlds, (FLT_CLASS_RAISED c).key ≠ F.key := by
  have hbit : ∀ F ∈ condFlds, F.key % 32 ≠ 0 := by decide
  intro F hF e
  exact hbit F hF (e ▸ Nat.mul_add_mod' _ 32 0)

/-! ### The three operations, case by case -/

/-- An acknowledgement of a CLEAR class does nothing. -/
theorem State.faultAck_clear (s : State) (c : Nat) (h : s.rd (FLT_CLASS_RAISED c) ≠ 1) : s.faultAck c = s := by
  simp [State.faultAck, State.on, h]

/-- An acknowledgement of a RAISED class clears it, and takes its fault anew while its condition holds (R474, R475). -/
theorem State.faultAck_raised (s : State) (c : Nat) (h : s.rd (FLT_CLASS_RAISED c) = 1) :
    s.faultAck c = (s.cleared c).iff ((s.cleared c).faultCause c) (·.takeFault (s.causeFault c) true) := by
  rw [State.faultAck, if_pos (by simp [State.on, h])]
  rfl

/-- With no fault of the class taken in the same cycle an acknowledgement is one. -/
theorem State.faultAckIn_alone (s : State) (c : Nat) (b : Bool) (h : b = false ∨ s.nextFault c = none) :
    s.faultAckIn c b = s.faultAck c := by
  obtain rfl | h := h <;> simp [State.faultAckIn, *]

/-- An existing class at a level from NOTE to DEVICE, or at its default, is injected (R478). -/
theorem State.faultInject_valid (s : State) {c l : Nat} (hc : c < 24) (hl : l ≤ lvDEVICE ∨ l = 7) :
    s.faultInject c l = s.raise { cls := c, level := if l = 7 then none else some l, master := 0x40, injected := true } :=
  if_pos ⟨hc, hl⟩

/-- Any other value injects nothing. -/
theorem State.faultInject_invalid (s : State) {c l : Nat} (h : ¬ (c < 24 ∧ (l ≤ lvDEVICE ∨ l = 7))) : s.faultInject c l = s :=
  if_neg h

/-- A read of a class's captured address latches its upper word (R478). -/
theorem State.faultLoRead_addr (s : State) (c : Nat) :
    s.faultLoRead (1 + 2 * c) = s.wr (FLT_FIRST_ADDR_HI c) ((smGet (0, 0) s.flt.cap c).1 / 2 ^ 32) := by
  have hc : (1 + 2 * c - 1) / 2 = c := by omega
  rw [State.faultLoRead, if_neg (by omega), hc]
  exact if_pos (by omega)

/-- A read of a class's captured time latches its upper word (R478). -/
theorem State.faultLoRead_time (s : State) (c : Nat) :
    s.faultLoRead (2 + 2 * c) = s.wr (FLT_FIRST_TIME_HI c) ((smGet (0, 0) s.flt.cap c).2 / 2 ^ 32) := by
  have hc : (2 + 2 * c - 1) / 2 = c := by omega
  rw [State.faultLoRead, if_neg (by omega), hc]
  exact if_neg (by omega)

/-! ### The three commands -/

section
variable {s : State} (hs : s.held = false)
include hs

theorem exec_faultAck (c : Fin 24) (b : Bool) : exec (.faultAck ⟨c, b⟩) s = .next (s.faultAckIn c b).settle :=
  State.finish_on _ hs

theorem exec_faultInject (c : Fin 32) (l : Fin 8) : exec (.faultInject c l) s = .next (s.faultInject c l).settle :=
  State.finish_on _ hs

theorem exec_faultLoRead (w : Fin 49) : exec (.faultLoRead w) s = .next (s.faultLoRead w).settle :=
  State.finish_on _ hs

/-- FAULT_ACK in a cycle in which no fault of the class is taken, of a RAISED class. -/
theorem exec_faultAck_raised (c : Fin 24) (b : Bool) (hb : b = false ∨ s.nextFault c = none) (hr : s.rd (FLT_CLASS_RAISED c) = 1) :
    exec (.faultAck ⟨c, b⟩) s =
      .next ((s.cleared c).iff ((s.cleared c).faultCause c) (·.takeFault (s.causeFault c) true)).settle := by
  rw [exec_faultAck hs, State.faultAckIn_alone s c b hb, State.faultAck_raised s c hr]

/-- FAULT_INJECT of an existing class at a level that the field names. -/
theorem exec_faultInject_level (c : Fin 32) (l : Fin 8) (hc : c.val < 24) (hl : l.val < 5) :
    exec (.faultInject c l) s = .next (s.raise { cls := c, level := some l, master := 0x40, injected := true }).settle := by
  rw [exec_faultInject hs, State.faultInject_valid s hc (.inl (by unfold lvDEVICE; omega)), if_neg (by omega)]

end

/-- What FAULT_ACK does: in the cycle in which a fault of the class is taken, and in any other (R9, R474, R475). -/
theorem faultAck_effect (s : State) (c : Fin 24) (b : Bool) (hs : s.held = false) :
    (b = true → (s.nextFault c).isSome = true → exec (.faultAck ⟨c, b⟩) s = .next (s.faultTake c).settle) ∧
    (b = false ∨ s.nextFault c = none →
      (s.rd (FLT_CLASS_RAISED c) = 1 → (s.cleared c).faultCause c = false →
        exec (.faultAck ⟨c, b⟩) s = .next (s.cleared c).settle) ∧
      (s.rd (FLT_CLASS_RAISED c) = 1 → (s.cleared c).faultCause c = true →
        exec (.faultAck ⟨c, b⟩) s = .next ((s.cleared c).takeFault (s.causeFault c) true).settle) ∧
      (s.rd (FLT_CLASS_RAISED c) ≠ 1 → exec (.faultAck ⟨c, b⟩) s = .next s.settle)) := by
  refine ⟨fun hb hq => ?_, fun hb => ⟨fun hr hcause => ?_, fun hr hcause => ?_, fun hr => ?_⟩⟩
  · rw [exec_faultAck hs, State.faultAckIn, hb, hq]
    rfl
  · rw [exec_faultAck_raised hs c b hb hr, hcause, State.iff_false]
  · rw [exec_faultAck_raised hs c b hb hr, hcause, State.iff_true]
  · rw [exec_faultAck hs, State.faultAckIn_alone s c b hb, State.faultAck_clear s c hr]

/-- Settles O42: each command ends with its operation, whose cases are said above. -/
theorem faultsAcknowledgedInjectedAndRead : Obligations.FaultsAcknowledgedInjectedAndRead := by
  refine ⟨faultAck_effect, fun s c l hs => ⟨exec_faultInject_level hs c l, fun hc hl => ?_, fun hbad => ?_, fun hc hl hroom => ?_⟩,
    fun s c hs hr hcause => ?_, fun s hs => exec_faultLoRead hs 0, fun s w c hs => ⟨fun hw => ?_, fun hw => ?_⟩⟩
  · rw [exec_faultInject hs, State.faultInject_valid s hc (.inr hl), if_pos hl]
  · rw [exec_faultInject hs, State.faultInject_invalid s (by unfold lvDEVICE; omega)]
  · refine ⟨_, exec_faultInject_level hs c l hc hl, ?_⟩
    rw [State.raise_room _ _ hroom]
    exact ⟨RegsKept.settle (RegsKept.of_flds rfl (RegsKept.refl _ _)), by rw [State.settle_flt]⟩
  · refine ⟨_, ((faultAck_effect s c false hs).2 (.inl rfl)).1 hr hcause, ?_, ?_, ?_⟩
    · exact (State.rd_settle _ _ (raised_notCond c)).trans (State.cleared_raised s c)
    · rw [State.settle_flt, State.cleared_queue]
    · rw [State.settle_hbm, State.cleared_hbm]
  · rw [exec_faultLoRead hs, hw, State.faultLoRead_addr]
  · rw [exec_faultLoRead hs, hw, State.faultLoRead_time]

end Sys2Proof.Machine

/-! # What the pool and the scheduler leave of a context's registers -/

namespace Sys2Proof.Machine

open R

/-! ### Fields below the blocks of ingest, the spindles, the pool and memory -/

/-- The field lies below ingest's registers: in the global block, the stream contexts or the scheduler (R49, Table 3-2). -/
def lowFld (G : Fld) : Prop := G.key < 0x00400000 * 32

/-- The field lies in ingest's registers or above them: the spindles, the pool, memory, the fault collector and the counters do. -/
def highFld (F : Fld) : Prop := 0x00400000 ≤ F.off

theorem lowFld.key_ne {F G : Fld} (hG : lowFld G) (hF : highFld F) : G.key ≠ F.key := by
  unfold lowFld highFld Fld.key at *
  omega

/-- The pool's own registers are high fields. -/
theorem poolFld_high (p : Nat) : ∀ F ∈ [POOL_CTL_STATE p, POOL_FREE p, POOL_STATUS_LOW p, POOL_STATUS_HIGH p, POOL_STATUS_BROKEN p,
    POOL_STATUS_MISUSE p, POOL_PROV p, POOL_PARKED p, POOL_ALLOC_CNT p, POOL_TIMEOUT_CNT p, POOL_MISUSE_CNT p], highFld F := by
  simp only [List.forall_mem_cons, List.not_mem_nil, false_imp_iff, implies_true, and_true, highFld, POOL_CTL_STATE, POOL_FREE,
    POOL_STATUS_LOW, POOL_STATUS_HIGH, POOL_STATUS_BROKEN, POOL_STATUS_MISUSE, POOL_PROV, POOL_PARKED, POOL_ALLOC_CNT,
    POOL_TIMEOUT_CNT, POOL_MISUSE_CNT]
  omega

/-- So are the host slots' answer registers. -/
theorem hopFld_high (k : Nat) : ∀ F ∈ [POOL_HOP_RES_RESULT k, POOL_HOP_RES_DONE k, POOL_HOP_RADDR_LO k, POOL_HOP_RADDR_HI k,
    POOL_HOP_RMETA_LO k, POOL_HOP_RMETA_HI k], highFld F := by
  simp only [List.forall_mem_cons, List.not_mem_nil, false_imp_iff, implies_true, and_true, highFld, POOL_HOP_RES_RESULT,
    POOL_HOP_RES_DONE, POOL_HOP_RADDR_LO, POOL_HOP_RADDR_HI, POOL_HOP_RMETA_LO, POOL_HOP_RMETA_HI]
  omega

/-- So are the memory controller's counts and status bits. -/
theorem memFld_high (k : Nat) : ∀ F ∈ [MEM_CE_CNT k, MEM_UE_CNT k, MEM_ODC_CNT k, MEM_STATUS_CE, MEM_STATUS_UE, MEM_INJECT_HI_ARM],
    highFld F := by
  simp only [List.forall_mem_cons, List.not_mem_nil, false_imp_iff, implies_true, and_true, highFld, MEM_CE_CNT, MEM_UE_CNT,
    MEM_ODC_CNT, MEM_STATUS_CE, MEM_STATUS_UE, MEM_INJECT_HI_ARM]
  omega

/-- So are the status words of the counters, the fault collector and the host interface. -/
theorem statusFld_high : ∀ F ∈ [CNT_STATUS_OVF, FLT_LOST, HIF_STATUS_XLAT], highFld F := by
  unfold highFld
  decide

theorem fltCount_high (c : Nat) : highFld (FLT_COUNT c) := by
  simp only [highFld, FLT_COUNT]
  omega

theorem flowDiscard_high (f : Nat) : highFld (ING_FLOW_DISCARD f) := by
  simp only [highFld, ING_FLOW_DISCARD]
  omega

/-! ### A low field through one operation after another -/

@[simp] theorem State.ledgerAdd_rd (s : State) (m a : Nat) (F : Fld) : (s.ledgerAdd m a).rd F = s.rd F := by
  unfold State.ledgerAdd
  split <;> rfl

section
variable {G : Fld} (hG : lowFld G)
include hG

theorem State.wr_low (s : State) {F : Fld} (v : Nat) (hF : highFld F) : (s.wr F v).rd G = s.rd G :=
  s.rd_wr_ne F G v (hG.key_ne hF)

theorem State.bump_low (s : State) {F : Fld} (k : Nat) (hF : highFld F) : (s.bump F k).rd G = s.rd G :=
  s.wr_low hG _ hF

theorem State.countUnit_low (s : State) (ev m n : Nat) : (s.countUnit ev m n).rd G = s.rd G :=
  s.countUnit_rd ev m n G (hG.key_ne (statusFld_high _ (by simp)))

theorem State.countOwn_low (s : State) (r : FabReq) (c : Nat) : (s.countOwn r c).rd G = s.rd G :=
  s.countOwn_rd r c G (hG.key_ne (statusFld_high _ (by simp)))

theorem State.raise_low (s : State) (f : FaultReq) : (s.raise f).rd G = s.rd G :=
  s.raise_rd f G (hG.key_ne (fltCount_high _)) (hG.key_ne (statusFld_high _ (by simp)))

/-! Memory -/

theorem State.finding_low (s : State) (m acc a i f : Nat) : (s.finding m acc a i f).rd G = s.rd G := by
  have hmem := memFld_high ((s.stackOf (64 * i)).getD 0)
  unfold State.finding
  split
  · rw [State.raise_low hG, State.wr_low hG _ _ (hmem _ (by simp)), State.bump_low hG _ _ (hmem _ (by simp))]
  · rw [State.raise_low hG, State.wr_low hG _ _ (hmem _ (by simp)), State.bump_low hG _ _ (hmem _ (by simp))]
  · exact State.bump_low hG _ _ (hmem _ (by simp))
  · rfl

theorem State.findings_low (s : State) (m acc a n f : Nat) : (s.findings m acc a n f).rd G = s.rd G :=
  State.each_keeps (·.rd G) _ _ (fun _ t _ => t.finding_low hG ..) s

theorem State.eccAfter_low (s : State) (a n w : Nat) : (s.eccAfter a n w).rd G = s.rd G := by
  unfold State.eccAfter
  dsimp only
  split
  · split
    · exact State.wr_low hG _ _ (memFld_high 0 _ (by simp))
    · rfl
  · rfl

theorem State.hbmWrite_low (s : State) (m a : Nat) (l : List Byte) : (s.hbmWrite m a l).2.rd G = s.rd G := by
  unfold State.hbmWrite
  dsimp only
  rw [State.each_keeps (·.rd G) _ _ (fun i t _ => t.finding_low hG ..)]
  exact State.each_keeps (·.rd G) _ _ (fun w t _ => t.eccAfter_low hG ..) s

theorem State.respFault_low (s : State) (m acc a c : Nat) : (s.respFault m acc a c).rd G = s.rd G := by
  unfold State.respFault
  split
  · rw [State.raise_low hG, State.wr_low hG _ _ (statusFld_high _ (by simp))]
  · split
    · exact s.raise_low hG _
    · split
      · exact s.raise_low hG _
      · split
        · exact s.raise_low hG _
        · rfl

theorem State.store_low (s : State) (m a : Nat) (l : List Byte) : (s.store m a l).rd G = s.rd G := by
  unfold State.store State.busWrite
  dsimp only
  rw [State.countOwn_low hG]
  split
  · rfl
  · split
    · split
      · exact s.hbmWrite_low hG m a l
      · rfl
    · exact s.respFault_low hG ..

theorem State.setMeta_low (s : State) (p i : Nat) (m : Meta) : (s.setMeta p i m).rd G = s.rd G := s.store_low hG ..

theorem State.poolReadSeen_low (s : State) (a : Nat) : (s.poolReadSeen a).rd G = s.rd G := by
  unfold State.poolReadSeen
  dsimp only
  rw [State.countOwn_low hG]
  split
  · exact State.iff_keeps (·.rd G) _ _ s (s.findings_low hG ..)
  · exact s.respFault_low hG ..

/-! The pool -/

theorem State.showParked_low (s : State) (p : Nat) : (s.showParked p).rd G = s.rd G := s.wr_low hG _ (poolFld_high p _ (by simp))

theorem State.setFree_low (s : State) (p v : Nat) : (s.setFree p v).rd G = s.rd G := by
  have hp := poolFld_high p
  unfold State.setFree
  dsimp only
  rw [State.iff_keeps (·.rd G) _ _ _ (State.wr_low hG _ _ (hp _ (by simp))),
    State.iff_keeps (·.rd G) _ _ _ (State.wr_low hG _ _ (hp _ (by simp))), State.wr_low hG _ _ (hp _ (by simp))]

theorem State.poolAnswer_low (s : State) (r : PoolRes) : (s.poolAnswer r).rd G = s.rd G := by
  unfold State.poolAnswer
  split
  case h_3 k _ =>
    have hk := hopFld_high k
    dsimp only
    rw [State.iff_keeps (·.rd G) _ _ _ (by rw [State.wr_low hG _ _ (hk _ (by simp)), State.wr_low hG _ _ (hk _ (by simp))]),
      State.iff_keeps (·.rd G) _ _ _ (by rw [State.wr_low hG _ _ (hk _ (by simp)), State.wr_low hG _ _ (hk _ (by simp))]),
      State.wr_low hG _ _ (hk _ (by simp)), State.wr_low hG _ _ (hk _ (by simp))]
  all_goals rfl

theorem State.answerParked_low (s : State) (p c : Nat) : (s.answerParked p c).rd G = s.rd G :=
  (State.showParked_low hG _ p).trans (State.each_keeps (·.rd G) _ _ (fun _ t _ => t.poolAnswer_low hG _) _)

theorem State.poolBreak_low (s : State) (p a : Nat) : (s.poolBreak p a).rd G = s.rd G := by
  have hp := poolFld_high p
  unfold State.poolBreak
  dsimp only
  split
  · rfl
  · rw [State.raise_low hG, State.answerParked_low hG, State.wr_low hG _ _ (hp _ (by simp)), State.bump_low hG _ _ (hp _ (by simp)),
      State.wr_low hG _ _ (hp _ (by simp)), State.wr_low hG _ _ (hp _ (by simp))]

theorem State.grant_low (s : State) (p i : Nat) (r : PoolReq) : (s.grant p i r).2.rd G = s.rd G := by
  have hp := poolFld_high p
  unfold State.grant
  dsimp only
  rw [State.iff_keeps (·.rd G) _ _ _ (by rw [State.countUnit_low hG, State.bump_low hG _ _ (hp _ (by simp))]),
    State.countUnit_low hG, State.bump_low hG _ _ (hp _ (by simp)), State.ledgerAdd_rd, State.setMeta_low hG]

theorem State.offer_low (l : List Parked) (s : State) (p i : Nat) : (s.offer p i l).2.rd G = s.rd G := by
  induction l generalizing s with
  | nil => rfl
  | cons k rest ih =>
    unfold State.offer
    dsimp only
    split
    · rw [ih, State.poolAnswer_low hG]
      rfl
    · rw [State.poolAnswer_low hG, State.grant_low hG]
      rfl

theorem State.freeBob_low (s : State) (p i : Nat) (m : Meta) : (s.freeBob p i m).rd G = s.rd G := by
  have hprov : ((s.iff m.prov (fun t => t.wr (POOL_PROV p) (t.rd (POOL_PROV p) - 1))).ledgerDel m.owner (s.bobAddr p i)).rd G =
      s.rd G := State.iff_keeps (·.rd G) _ _ s (State.wr_low hG _ _ (poolFld_high p _ (by simp)))
  unfold State.freeBob
  dsimp only
  split
  · rw [State.setMeta_low hG, hprov]
  · split
    · rw [State.showParked_low hG, State.offer_low hG, State.setMeta_low hG, hprov]
    · rw [State.setFree_low hG, State.setHead_rd, State.setMeta_low hG, State.store_low hG, State.showParked_low hG,
        State.offer_low hG, State.setMeta_low hG, hprov]

theorem State.misuse_low (s : State) (p : Option Nat) (r : PoolReq) (c : Nat) : (s.misuse p r c).rd G = s.rd G := by
  unfold State.misuse
  rw [State.raise_low hG]
  cases p with
  | none => rfl
  | some p =>
    have hp := poolFld_high p
    exact (State.bump_low hG _ _ (hp _ (by simp))).trans (State.wr_low hG _ _ (hp _ (by simp)))

/-- An operation on a bobbin keeps what its effect on the bobbin keeps. -/
theorem State.withBob_low (s : State) (r : PoolReq) (f : State → Nat → Nat → Meta → PoolRes × State)
    (hf : ∀ t p i m, (f t p i m).2.rd G = t.rd G) : (s.withBob r f).2.rd G = s.rd G := by
  unfold State.withBob
  split
  · split
    · exact s.misuse_low hG ..
    · rfl
  · dsimp only
    split
    · rw [hf, State.poolReadSeen_low hG]
    · split
      · exact s.poolReadSeen_low hG _
      · rw [State.poolBreak_low hG, State.poolReadSeen_low hG]

theorem State.poolRelease_low (s : State) (r : PoolReq) : (s.poolRelease r).2.rd G = s.rd G := by
  refine s.withBob_low hG r _ fun t p i m => ?_
  split
  · exact t.misuse_low hG ..
  · split
    · exact t.misuse_low hG ..
    · split
      · exact t.setMeta_low hG ..
      · dsimp only
        generalize (if t.linkWritten p m r.addr then t.pathCode r.addr else 0) = c
        split
        · exact t.freeBob_low hG ..
        · split
          · rfl
          · rw [State.poolBreak_low hG, State.respFault_low hG]

/-- Serving a request keeps what its operation keeps: the answer is no low field. -/
theorem State.poolServe_low (s : State) {r : PoolReq} (h : (s.poolOp r).2.rd G = s.rd G) : (s.poolServe r).rd G = s.rd G := by
  unfold State.poolServe
  dsimp only
  split
  · exact h
  · rw [State.poolAnswer_low hG, h]

/-- A unit's release touches no register of the contexts or the scheduler. -/
theorem State.release_low (s : State) (m a g : Nat) : (s.release m a g).rd G = s.rd G := by
  unfold State.release
  refine (State.poolServe_low hG _ ?_).trans (s.countOwn_low hG ..)
  exact State.poolRelease_low hG _ _

theorem State.releaseEach_low {α : Type} (s : State) (l : List α) (m : Nat) (a g : α → Nat) :
    (s.each l (fun b t => t.release m (a b) (g b))).rd G = s.rd G :=
  State.each_keeps (·.rd G) _ _ (fun _ t _ => t.release_low hG ..) s

theorem State.dropWaits_low (s : State) (w : AllocFor → Bool) : (s.dropWaits w).rd G = s.rd G := by
  unfold State.dropWaits
  dsimp only
  rw [State.each_keeps (·.rd G) _ _ (fun r t _ => State.iff_keeps (·.rd G) _ _ t (t.release_low hG ..)),
    State.each_keeps (·.rd G) _ _ (fun p t _ => t.showParked_low hG p)]
  rfl

/-! Chains and access units that go -/

theorem State.releaseChain_low (s : State) (m : Nat) (c : Chain) : (s.releaseChain m c).rd G = s.rd G := by
  unfold State.releaseChain
  split
  · rfl
  · exact s.releaseEach_low hG ..

theorem State.releaseJobs_low (s : State) (l : List Job) : (s.releaseJobs l).rd G = s.rd G :=
  State.each_keeps (·.rd G) _ _ (fun _ t _ => t.releaseChain_low hG ..) s

theorem State.dropBuilding_low (s : State) (n : Nat) : (s.dropBuilding n).rd G = s.rd G := by
  have hflow : ∀ (t : State) (f k : Nat) (x : SMap Flow) (l : List (Nat × Nat)),
      (((({ t with ing := { t.ing with flows := x } } : State).dropWaits (forFlow f)).bump (ING_FLOW_DISCARD f) k).each l
        (fun b u => u.release 0x20 b.1 b.2)).rd G = t.rd G := fun t f k x l => by
    rw [State.releaseEach_low hG, State.bump_low hG _ _ (flowDiscard_high f), State.dropWaits_low hG]
    rfl
  unfold State.dropBuilding
  dsimp only
  split
  · exact State.each_keeps (·.rd G) _ _ (fun f t _ => hflow t f ..) s
  · rw [State.each_keeps (·.rd G) _ _ (fun a t _ => t.releaseEach_low hG ..), State.dropWait, State.dropWaits_low hG]
    exact State.each_keeps (·.rd G) _ _ (fun f t _ => hflow t f ..) s

/-! What the scheduler itself shows -/

/-- No low field shows a condition. -/
theorem State.settle_low (s : State) : s.settle.rd G = s.rd G :=
  s.rd_settle' G (by unfold lowFld at hG; omega)

theorem State.cancelAhead_low (hS : ¬ schedFld G) (s : State) (k : Nat) : (s.cancelAhead k).rd G = s.rd G := by
  unfold State.cancelAhead
  dsimp only
  split
  · rfl
  · rw [State.modCtx_rd]
    split
    · rw [State.countUnit_low hG, State.modSpd_rd _ _ _ G hS]
    · rw [State.release_low hG, State.countUnit_low hG, State.modSpd_rd _ _ _ G hS]

theorem State.cancelPending_low (hS : ¬ schedFld G) (s : State) (n : Nat) (keep : Bool) : (s.cancelPending n keep).rd G = s.rd G := by
  unfold State.cancelPending
  dsimp only
  rw [State.releaseJobs_low hG, State.modCtx_rd]
  exact State.each_keeps (·.rd G) _ _ (fun k t _ => t.cancelAhead_low hG hS k) s

/-- The end of a command that makes the scheduler choose. -/
theorem State.rd_dispatch_settle (hS : ¬ schedFld G) (s : State) : s.dispatch.settle.rd G = s.rd G := by
  rw [State.settle_low hG, State.dispatch_rd _ G hS]

end

/-! ### The fields of a context that a command shows its outcome in -/

/-- The state, BUSY, RAP_WAIT and PIC_OUT of a context: the pool, memory and the scheduler write none of them. -/
theorem ctxShown_low (n : Fin 128) : ∀ G ∈ [STC_STATUS_STATE n, STC_STATUS_BUSY n, STC_DAMAGE_RAP_WAIT n, STC_PIC_OUT n], lowFld G := by
  simp only [List.forall_mem_cons, List.not_mem_nil, false_imp_iff, implies_true, and_true, lowFld, Fld.key, STC_STATUS_STATE,
    STC_STATUS_BUSY, STC_DAMAGE_RAP_WAIT, STC_PIC_OUT]
  omega

/-- Where in its 4 KiB block a field that dispatch may change lies: a spindle's status, and the home and overrun status. -/
theorem schedFld_place {G : Fld} (h : schedFld G) :
    G.key % 0x20000 ∈ [0x80, 0x83, 0x84, 0x88, 0x8F, 0x587, 0x588, 0x700] := by
  obtain ⟨k, F, hF, e⟩ | ⟨n, F, hF, e⟩ := h <;> simp only [List.mem_cons, List.not_mem_nil, or_false] at hF ⊢ <;> rw [e]
  · obtain rfl | rfl | rfl | rfl | rfl := hF <;>
      simp only [Fld.key, SPD_STATUS_RUNAHEAD, SPD_STATUS_SUSPENDED, SPD_STATUS_STATE, SPD_STATUS_GANGED, SPD_STATUS_CTX] <;> omega
  · obtain rfl | rfl | rfl := hF <;> simp only [Fld.key, STC_STATUS_UNHOMED, STC_STATUS_OVERRUN, STC_OVERRUN_CNT] <;> omega

theorem ctxShown_not_schedFld (n : Nat) :
    ∀ G ∈ [STC_STATUS_STATE n, STC_STATUS_BUSY n, STC_DAMAGE_RAP_WAIT n, STC_PIC_OUT n], ¬ schedFld G := by
  intro G hG hS
  have place := schedFld_place hS
  simp only [List.mem_cons, List.not_mem_nil, or_false] at hG place
  obtain rfl | rfl | rfl | rfl := hG <;>
    simp only [Fld.key, STC_STATUS_STATE, STC_STATUS_BUSY, STC_DAMAGE_RAP_WAIT, STC_PIC_OUT] at place <;> omega

end Sys2Proof.Machine

/-! # Posting access units -/

namespace Sys2Proof.Machine

open R

/-- Context `n` with `rest` still waiting and job `j` posted last (R74). -/
def State.posting (s : State) (n : Nat) (rest : List ToPost) (j : Job) : State :=
  s.modCtx n (fun x => { x with toPost := rest, posted := x.posted ++ [j] })

/-- The deadline, by class (R75). -/
theorem State.deadline_eq (s : State) (n r : Nat) :
    s.deadline n r = if s.ctxClass n = 0 then r + s.rd (STC_PERIOD_PERIOD n)
      else r + s.rd (STC_PERIOD_PERIOD n) + s.rd (STC_SLACK_NS n) := by
  unfold State.deadline
  split <;> rfl

section
variable {s : State} {n : Nat} {p : ToPost} {rest : List ToPost} (hp : (s.ctx n).toPost = p :: rest) (shape : PicShape)
include hp

theorem State.waitsPlayout_head : s.waitsPlayout n = p.due := by
  rw [State.waitsPlayout, hp]
  rfl

/-- A RUNNING context with room posts its first waiting access unit, and the scheduler chooses (R76). -/
theorem State.postJob_room (hr : s.ctxState n = ctxRUNNING ∧ s.heldJobs n < 16) :
    s.postJob n shape = (s.posting n rest { p.job with ctx := n, d := s.deadline n p.job.r, shape := shape }).dispatch := by
  simp only [State.postJob, hp]
  exact if_pos hr

/-- Any other context posts nothing. -/
theorem State.postJob_full (hr : ¬ (s.ctxState n = ctxRUNNING ∧ s.heldJobs n < 16)) : s.postJob n shape = s := by
  simp only [State.postJob, hp]
  exact if_neg hr

end

section
variable {s : State} (hs : s.held = false) (n : Fin 128) (shape : PicShape)
include hs

theorem exec_jobPost : exec (.jobPost n shape) s = .next (if (s.waitsPlayout n).isNone then s.postJob n shape else s).settle :=
  State.finish_on _ hs

theorem exec_playoutDue {t : Nat} (ht : s.waitsPlayout n = some t) :
    exec (.playoutDue n shape) s = .next (if t ≤ s.devTime then s.postJob n shape else s).settle := by
  refine (State.finish_on _ hs).trans ?_
  rw [ht]

end

/-- Settles O49: both events post the first waiting access unit, when it is due and there is room. -/
theorem accessUnitsArePosted : Obligations.AccessUnitsArePosted := by
  intro s n shape p rest hs hp
  have hw : s.waitsPlayout n = p.due := State.waitsPlayout_head hp
  refine ⟨fun hrun hroom j hj => ?_, fun hno => ?_, fun t ht hlt => ?_⟩
  · have hpost : s.postJob n shape = (s.posting n rest j).dispatch := by
      rw [State.postJob_room hp shape ⟨hrun, hroom⟩, State.deadline_eq, hj]
    refine ⟨fun hdue => ?_, fun t ht hle => ?_⟩
    · rw [exec_jobPost hs, hw, hdue, Option.isNone_none, if_pos rfl, hpost, State.posting]
    · rw [exec_playoutDue hs n shape (hw.trans ht), if_pos hle, hpost, State.posting]
  · rw [exec_jobPost hs, State.postJob_full hp shape (by omega), ite_self]
  · rw [exec_playoutDue hs n shape (hw.trans ht), if_neg (Nat.not_le.mpr hlt)]

end Sys2Proof.Machine

/-! # Context commands -/

namespace Sys2Proof.Machine

open R

/-! ### A write of `STC_CTL` -/

/-- Outside IDLE a command word stores nothing (R50). -/
theorem State.ctxFields_of_not_idle {s : State} {n : Nat} (w : Nat) (h : s.ctxState n ≠ ctxIDLE) : s.ctxFields n w = s := if_neg h

/-- In IDLE it stores the configuration fields. -/
theorem State.ctxFields_of_idle {s : State} {n : Nat} (w : Nat) (h : s.ctxState n = ctxIDLE) :
    s.ctxFields n w = (((((s.wr (STC_CTL_VSD n) (bitOf w 19)).wr (STC_CTL_RUNAHEAD n) (bitOf w 18)).wr (STC_CTL_GANG n)
      (bitOf w 17)).wr (STC_CTL_CLASS n) (bitsOf w 14 2)).wr (STC_CTL_SOURCE n) (bitsOf w 12 2)).wr (STC_CTL_FLOW n) (bitsOf w 0 8) :=
  if_pos h

/-- The word written is another than the status word. -/
theorem State.ctxFields_busy (s : State) (n w : Nat) : (s.ctxFields n w).rd (STC_STATUS_BUSY n) = s.rd (STC_STATUS_BUSY n) := by
  unfold State.ctxFields
  split
  · refine State.each_keeps (·.rd (STC_STATUS_BUSY n)) _ _ (fun F t hF => State.rd_wr_ne t F _ _ ?_) s
    simp only [List.mem_cons, List.not_mem_nil, or_false] at hF
    obtain rfl | rfl | rfl | rfl | rfl | rfl := hF <;>
      simp only [Fld.key, STC_STATUS_BUSY, STC_CTL_VSD, STC_CTL_RUNAHEAD, STC_CTL_GANG, STC_CTL_CLASS, STC_CTL_SOURCE, STC_CTL_FLOW] <;>
      omega
  · rfl

/-- Command `c` is a write of `w` to context `n`'s `STC_CTL` that has effect `g` once the context is not BUSY (R50, R53). -/
def CtxActs (n : Fin 128) (w : Word) (c : Instr) (g : State → State) : Prop :=
  ∀ s : State, exec c s = s.finish
    (let t := s.ctxFields n w.toNat
     if t.on (STC_STATUS_BUSY n) then t.ctxReject n 1 else g t)

section
variable (n : Fin 128) (w : Word)

theorem ctxNop_acts : CtxActs n w (.ctxNop n w) id := fun _ => rfl
theorem ctxOpen_acts : CtxActs n w (.ctxOpen n w) (fun t => (t.ctxOpen n).dispatch) := fun _ => rfl
theorem ctxStart_acts : CtxActs n w (.ctxStart n w) (fun t => (t.ctxStart n).dispatch) := fun _ => rfl
theorem ctxPause_acts : CtxActs n w (.ctxPause n w) (fun t => (t.ctxPause n).dispatch) := fun _ => rfl
theorem ctxResume_acts : CtxActs n w (.ctxResume n w) (fun t => (t.ctxResume n).dispatch) := fun _ => rfl
theorem ctxStop_acts : CtxActs n w (.ctxStop n w) (fun t => (t.ctxStop n).dispatch) := fun _ => rfl
theorem ctxClose_acts : CtxActs n w (.ctxClose n w) (fun t => (t.ctxClose n).dispatch) := fun _ => rfl
theorem ctxFlush_acts : CtxActs n w (.ctxFlush n w) (fun t => (t.ctxFlush n).dispatch) := fun _ => rfl
theorem ctxRecover_acts : CtxActs n w (.ctxRecover n w) (fun t => (t.ctxRecover n).dispatch) := fun _ => rfl

end

section
variable {s : State} {n : Fin 128} {w : Word} {c : Instr} {g : State → State} (hc : CtxActs n w c g) (hs : s.held = false)
include hc hs

/-- A context that is not BUSY takes the command. -/
theorem CtxActs.ready (hb : s.rd (STC_STATUS_BUSY n) ≠ 1) : exec c s = .next (g (s.ctxFields n w.toNat)).settle := by
  rw [hc s, State.finish_on _ hs]
  simp only [State.on, State.ctxFields_busy, beq_iff_eq, if_neg hb]

/-- Outside IDLE it takes it as it stands. -/
theorem CtxActs.not_idle (hb : s.rd (STC_STATUS_BUSY n) ≠ 1) (hi : s.ctxState n ≠ ctxIDLE) : exec c s = .next (g s).settle := by
  rw [hc.ready hs hb, State.ctxFields_of_not_idle _ hi]

/-- A BUSY one rejects it (R53). -/
theorem CtxActs.busy (hb : s.rd (STC_STATUS_BUSY n) = 1) (hi : s.ctxState n ≠ ctxIDLE) :
    exec c s = .next (s.ctxReject n 1).settle := by
  rw [hc s, State.finish_on _ hs, State.ctxFields_of_not_idle _ hi]
  simp only [State.on, hb, BEq.rfl, if_true]

end

/-! ### The commands, case by case -/

section
variable {s : State} {n : Nat}

theorem State.ctxOpen_wrong (h : s.ctxState n ≠ ctxIDLE) : s.ctxOpen n = s.ctxReject n 1 := if_pos h

theorem State.ctxOpen_failed (h : s.ctxState n = ctxIDLE) (hd : (s.declOk n && s.bindOk n) = false) : s.ctxOpen n = s.ctxReject n 2 := by
  rw [State.ctxOpen, if_neg (not_not_intro h), hd]
  rfl

theorem State.ctxOpen_passed (h : s.ctxState n = ctxIDLE) (hd : (s.declOk n && s.bindOk n) = true) :
    s.ctxOpen n =
      let a := s.each (ctxCounters n) (fun F t => t.wr F 0)
      let b := a.each (List.range 64) (fun i t => t.each (listEntry n i) (fun F u => u.wr F 0))
      let d := (b.each ((b.flowsOf n).flatMap flowCounters) (fun F t => t.wr F 0)).modCtx n (fun c => { busyOn := c.busyOn })
      (d.each (d.flowsOf n) (fun f t =>
        { t with ing := { t.ing with flows := smSet {} t.ing.flows f { (smGet {} t.ing.flows f : Flow) with last := 0 } } })).wr
          (STC_STATUS_STATE n) ctxOPEN := by
  rw [State.ctxOpen, if_neg (not_not_intro h), if_pos hd]

theorem State.ctxStart_wrong (h : s.ctxState n ≠ ctxOPEN) : s.ctxStart n = s.ctxReject n 1 := if_pos (.inl h)

theorem State.ctxStart_admitted (h : s.ctxState n = ctxOPEN) (hw : s.wrp.hold.classes.contains (s.ctxClass n) = false)
    (ha : s.admitWhy n = 0) :
    s.ctxStart n = (((s.charge n).modCtx n (fun c => { c with pfxDue := true })).wr (STC_STATUS_STATE n) ctxRUNNING).showHomes := by
  rw [State.ctxStart, if_neg (not_or.mpr ⟨not_not_intro h, ne_true_of_eq_false hw⟩), ha]
  rfl

theorem State.ctxStart_refused (h : s.ctxState n = ctxOPEN) (hw : s.wrp.hold.classes.contains (s.ctxClass n) = false)
    (ha : s.admitWhy n ≠ 0) : s.ctxStart n = (s.wr (STC_STATUS_ADMIT_FAIL n) 1).wr (STC_STATUS_WHY n) (s.admitWhy n) := by
  rw [State.ctxStart, if_neg (not_or.mpr ⟨not_not_intro h, ne_true_of_eq_false hw⟩)]
  split
  · contradiction
  · rfl

theorem State.ctxPause_running (h : s.ctxState n = ctxRUNNING) :
    s.ctxPause n = ((s.cancelPending n true).dropBuilding n).wr (STC_STATUS_STATE n) ctxPAUSED := if_pos h

theorem State.ctxPause_wrong (h : s.ctxState n ≠ ctxRUNNING) : s.ctxPause n = s.ctxReject n 1 := if_neg h

theorem State.ctxResume_paused (h : s.ctxState n = ctxPAUSED) (hw : s.wrp.hold.classes.contains (s.ctxClass n) = false) :
    s.ctxResume n =
      ((s.wr (STC_DAMAGE_RAP_WAIT n) 1).modCtx n (fun c => { c with pfxDue := true })).wr (STC_STATUS_STATE n) ctxRUNNING :=
  if_pos ⟨h, ne_true_of_eq_false hw⟩

theorem State.ctxResume_wrong (h : s.ctxState n ≠ ctxPAUSED) : s.ctxResume n = s.ctxReject n 1 := if_neg (fun hp => h hp.1)

theorem State.ctxStop_started (h : s.ctxState n = ctxRUNNING ∨ s.ctxState n = ctxPAUSED) :
    s.ctxStop n =
      ((((s.cancelPending n true).dropBuilding n).wr (STC_STATUS_STATE n) ctxDRAINING).wr (STC_STATUS_BUSY n) 1).drainEnd n := if_pos h

theorem State.ctxStop_wrong (h : ¬ (s.ctxState n = ctxRUNNING ∨ s.ctxState n = ctxPAUSED)) : s.ctxStop n = s.ctxReject n 1 := if_neg h

theorem State.ctxClose_stopped (h : s.ctxState n = ctxOPEN ∨ s.ctxState n = ctxFAULTED) :
    s.ctxClose n =
      (((((s.cancelPending n false).dropBuilding n).releasePics n).plyForget n).wr (STC_PIC_OUT n) 0).wr (STC_STATUS_STATE n) ctxIDLE :=
  if_pos h

theorem State.ctxClose_wrong (h : ¬ (s.ctxState n = ctxOPEN ∨ s.ctxState n = ctxFAULTED)) : s.ctxClose n = s.ctxReject n 1 := if_neg h

theorem State.ctxFlush_running (h : s.ctxState n = ctxRUNNING) :
    s.ctxFlush n = (((s.cancelPending n false).dropBuilding n).wr (STC_DAMAGE_RAP_WAIT n) 1).modCtx n
      (fun c => { c with pfxDue := true }) := if_pos h

theorem State.ctxFlush_wrong (h : s.ctxState n ≠ ctxRUNNING) : s.ctxFlush n = s.ctxReject n 1 := if_neg h

theorem State.ctxRecover_faulted (h : s.ctxState n = ctxFAULTED) :
    s.ctxRecover n = if s.rd (STC_STATUS_FAULT n) = 1 then s.ctxReject n 7 else s.wr (STC_STATUS_STATE n) ctxOPEN := by
  rw [State.ctxRecover, if_pos h]
  simp only [State.on, beq_iff_eq]

theorem State.ctxRecover_wrong (h : s.ctxState n ≠ ctxFAULTED) : s.ctxRecover n = s.ctxReject n 1 := if_neg h

end

/-- Settles O47: a BUSY context rejects every command; else NOP stores the fields, and OPEN and START have the effects above. -/
theorem contextCommandsUpToRunning : Obligations.ContextCommandsUpToRunning := by
  intro s n w hs
  refine ⟨fun hb hi => ?_, fun hb hi => (ctxNop_acts n w).not_idle hs hb hi, fun hb hi => ?_, fun hb => ⟨fun f hf hi _ => ?_, fun hi => ?_,
    fun ho hw => ?_, fun hi ho => ?_⟩⟩
  · simp only [List.forall_mem_cons, List.not_mem_nil, false_imp_iff, implies_true, and_true]
    exact ⟨(ctxNop_acts n w).busy hs hb hi, (ctxOpen_acts n w).busy hs hb hi, (ctxStart_acts n w).busy hs hb hi,
      (ctxPause_acts n w).busy hs hb hi, (ctxResume_acts n w).busy hs hb hi, (ctxStop_acts n w).busy hs hb hi,
      (ctxClose_acts n w).busy hs hb hi, (ctxFlush_acts n w).busy hs hb hi, (ctxRecover_acts n w).busy hs hb hi⟩
  · rw [(ctxNop_acts n w).ready hs hb, State.ctxFields_of_idle _ hi]
    rfl
  · rw [(ctxOpen_acts n w).ready hs hb, hf]
    exact ⟨fun hd => by rw [State.ctxOpen_passed hi hd], fun hd => by rw [State.ctxOpen_failed hi hd]⟩
  · rw [(ctxOpen_acts n w).not_idle hs hb hi, State.ctxOpen_wrong hi]
  · rw [(ctxStart_acts n w).not_idle hs hb (by rw [ho]; decide)]
    exact ⟨fun ha => by rw [State.ctxStart_admitted ho hw ha],
      fun y ha hy => by rw [State.ctxStart_refused ho hw (ha ▸ hy), ha]⟩
  · rw [(ctxStart_acts n w).not_idle hs hb hi, State.ctxStart_wrong ho]

/-! ### What a context shows after a command -/

/-- A field of context `n` that shows a command's outcome survives the scheduler's choice and the end of the command. -/
theorem State.ctxShown_ended (n : Fin 128) (s : State) :
    ∀ G ∈ [STC_STATUS_STATE n, STC_STATUS_BUSY n, STC_DAMAGE_RAP_WAIT n, STC_PIC_OUT n], s.dispatch.settle.rd G = s.rd G :=
  fun G hG => State.rd_dispatch_settle (ctxShown_low n G hG) (ctxShown_not_schedFld n G hG) s

theorem State.ctxState_ended (n : Fin 128) (s : State) : s.dispatch.settle.ctxState n = s.ctxState n :=
  State.ctxShown_ended n s _ (by simp)

@[simp] theorem State.ctxState_modCtx (s : State) (n m : Nat) (f : Ctx → Ctx) : (s.modCtx m f).ctxState n = s.ctxState n := rfl

/-- The state of a context reads what was entered. -/
theorem State.ctxState_enter (s : State) (n : Nat) {v : Nat} (hv : v < 8) : (s.wr (STC_STATUS_STATE n) v).ctxState n = v :=
  (State.rd_wr_same ..).trans (Nat.mod_eq_of_lt hv)

/-- The other fields that show a command's outcome stay when the state is entered. -/
theorem State.enter_rd (s : State) (n v : Nat) :
    ∀ G ∈ [STC_STATUS_BUSY n, STC_DAMAGE_RAP_WAIT n, STC_PIC_OUT n], (s.wr (STC_STATUS_STATE n) v).rd G = s.rd G := by
  intro G hG
  refine State.rd_wr_ne _ _ _ _ ?_
  simp only [List.mem_cons, List.not_mem_nil, or_false] at hG
  obtain rfl | rfl | rfl := hG <;> simp only [Fld.key, STC_STATUS_STATE, STC_STATUS_BUSY, STC_DAMAGE_RAP_WAIT, STC_PIC_OUT] <;> omega

/-- BUSY and RAP_WAIT are not the state. -/
theorem State.ctxState_wr (s : State) (n v : Nat) :
    ∀ F ∈ [STC_STATUS_BUSY n, STC_DAMAGE_RAP_WAIT n], (s.wr F v).ctxState n = s.ctxState n := by
  intro F hF
  refine State.rd_wr_ne _ _ _ _ ?_
  simp only [List.mem_cons, List.not_mem_nil, or_false] at hF
  obtain rfl | rfl := hF <;> simp only [Fld.key, STC_STATUS_STATE, STC_STATUS_BUSY, STC_DAMAGE_RAP_WAIT] <;> omega

/-- Giving up pending work leaves the state of the context alone. -/
theorem State.ctxState_cancelled (s : State) (n : Fin 128) (keep : Bool) :
    ((s.cancelPending n keep).dropBuilding n).ctxState n = s.ctxState n := by
  have hG : lowFld (STC_STATUS_STATE n) := ctxShown_low n _ (by simp)
  exact (State.dropBuilding_low hG _ n).trans (State.cancelPending_low hG (ctxShown_not_schedFld n _ (by simp)) s n keep)

/-- A context in DRAINING and BUSY stays so while a job is left, else it is OPEN and not BUSY (R55, R57). -/
theorem State.drainEnd_shown (s : State) (n : Nat) (hst : s.ctxState n = ctxDRAINING) (hb : s.rd (STC_STATUS_BUSY n) = 1) :
    (s.drainEnd n).ctxState n = ctxDRAINING ∧ (s.drainEnd n).rd (STC_STATUS_BUSY n) = 1 ∨
      (s.drainEnd n).ctxState n = ctxOPEN ∧ (s.drainEnd n).rd (STC_STATUS_BUSY n) = 0 := by
  unfold State.drainEnd
  dsimp only
  split
  · exact .inr ⟨(State.ctxState_wr _ n _ _ (by simp)).trans (State.ctxState_enter _ n (by decide)), State.rd_wr_same ..⟩
  · exact .inl ⟨hst, hb⟩

/-- Settles O48: the effects above, and what the context's fields then read. -/
theorem contextCommandsFromRunning : Obligations.ContextCommandsFromRunning := by
  intro s n w hs hb hi
  have pause := (ctxPause_acts n w).not_idle hs hb hi
  have resume := (ctxResume_acts n w).not_idle hs hb hi
  have stop := (ctxStop_acts n w).not_idle hs hb hi
  have close := (ctxClose_acts n w).not_idle hs hb hi
  have flush := (ctxFlush_acts n w).not_idle hs hb hi
  have recover := (ctxRecover_acts n w).not_idle hs hb hi
  refine ⟨fun h => ⟨?_, ?_⟩, fun h hw => ?_, fun h => ?_, fun h => ?_, fun h => ⟨fun hf => ?_, fun hf => ?_⟩,
    fun h => ⟨⟨_, pause, ?_⟩, _, flush, ?_, ?_⟩, fun h hw => ⟨_, resume, ?_, ?_⟩, fun h => ⟨_, stop, ?_⟩, fun h => ⟨_, close, ?_, ?_⟩,
    fun h hf => ⟨_, recover, ?_⟩, fun h => ?_⟩
  · rw [pause, State.ctxPause_running h]
  · rw [flush, State.ctxFlush_running h]
  · rw [resume, State.ctxResume_paused h hw]
  · rw [stop, State.ctxStop_started h]
  · rw [close, State.ctxClose_stopped h]
  · rw [recover, State.ctxRecover_faulted h, if_neg hf]
  · rw [recover, State.ctxRecover_faulted h, if_pos hf]
  · rw [State.ctxState_ended, State.ctxPause_running h, State.ctxState_enter _ _ (by decide)]
  · rw [State.ctxState_ended, State.ctxFlush_running h, State.ctxState_modCtx, State.ctxState_wr _ _ _ _ (by simp),
      State.ctxState_cancelled, h]
  · rw [State.ctxShown_ended n _ _ (by simp), State.ctxFlush_running h, State.modCtx_rd, State.rd_wr_same]
    rfl
  · rw [State.ctxState_ended, State.ctxResume_paused h hw, State.ctxState_enter _ _ (by decide)]
  · rw [State.ctxShown_ended n _ _ (by simp), State.ctxResume_paused h hw, State.enter_rd _ _ _ _ (by simp), State.modCtx_rd,
      State.rd_wr_same]
    rfl
  · rw [State.ctxState_ended, State.ctxShown_ended n _ _ (by simp), State.ctxStop_started h]
    exact State.drainEnd_shown _ n
      ((State.ctxState_wr _ _ _ _ (by simp)).trans (State.ctxState_enter _ _ (by decide))) (State.rd_wr_same ..)
  · rw [State.ctxState_ended, State.ctxClose_stopped h, State.ctxState_enter _ _ (by decide)]
  · rw [State.ctxShown_ended n _ _ (by simp), State.ctxClose_stopped h, State.enter_rd _ _ _ _ (by simp), State.rd_wr_same]
    rfl
  · rw [State.ctxState_ended, State.ctxRecover_faulted h, if_neg hf, State.ctxState_enter _ _ (by decide)]
  · have hne : ∀ v ∈ [ctxOPEN, ctxRUNNING, ctxPAUSED, ctxFAULTED], s.ctxState n ≠ v := by rw [h]; decide
    simp only [List.forall_mem_cons, List.not_mem_nil, false_imp_iff, implies_true, and_true] at hne ⊢
    obtain ⟨hopen, hrun, hpaused, hfaulted⟩ := hne
    exact ⟨by rw [pause, State.ctxPause_wrong hrun], by rw [resume, State.ctxResume_wrong hpaused],
      by rw [stop, State.ctxStop_wrong (not_or.mpr ⟨hrun, hpaused⟩)], by rw [close, State.ctxClose_wrong (not_or.mpr ⟨hopen, hfaulted⟩)],
      by rw [flush, State.ctxFlush_wrong hrun], by rw [recover, State.ctxRecover_wrong hfaulted]⟩

end Sys2Proof.Machine

/-! # PTP masters, holdover and device time -/

namespace Sys2Proof.Machine

open R

/-! ### The servo's operations, case by case -/

/-- Servo state `v` is entered, which sets CHANGED (Table 3-10). -/
def State.enterServo (s : State) (v : Nat) : State := (s.wr PTP_STATE_STATE v).wr PTP_STATE_CHANGED 1

theorem State.enterServo_state (s : State) {v : Nat} (hv : v < 8) : (s.enterServo v).rd PTP_STATE_STATE = v :=
  (State.rd_wr_ne _ _ _ _ (by decide)).trans ((State.rd_wr_same ..).trans (Nat.mod_eq_of_lt hv))

theorem State.enterServo_changed (s : State) (v : Nat) : (s.enterServo v).rd PTP_STATE_CHANGED = 1 := State.rd_wr_same ..

theorem RegsKept.enterServo {s t : State} (v : Nat) (h : RegsKept [PTP_STATE_STATE, PTP_STATE_CHANGED] s t) :
    RegsKept [PTP_STATE_STATE, PTP_STATE_CHANGED] s (t.enterServo v) := .wr _ _ (by simp) (.wr _ _ (by simp) h)

/-- Entering the state that is held changes nothing. -/
theorem State.ptpState_same {s : State} {v : Nat} (h : s.rd PTP_STATE_STATE = v) : s.ptpState v = s := if_pos h

/-- Another state is entered with CHANGED set; no fault but that of EXPIRED is raised (Table 13-1). -/
theorem State.ptpState_other {s : State} {v : Nat} (h : s.rd PTP_STATE_STATE ≠ v) (hv : v ≠ ptpEXPIRED) :
    s.ptpState v = s.enterServo v := by
  rw [State.ptpState, if_neg h, beq_false_of_ne hv]
  rfl

/-- Entering EXPIRED raises fault class 19 besides. -/
theorem State.ptpState_expired {s : State} (h : s.rd PTP_STATE_STATE ≠ ptpEXPIRED) :
    s.ptpState ptpEXPIRED = (s.enterServo ptpEXPIRED).raise { cls := 19 } := if_neg h

/-- The masters whose announce receipt timeout has not passed are left (R142). -/
def State.heardMasters (s : State) : List PtpMaster := s.ing.ptp.masters.filter (fun m => decide (s.elapsed < m.due))

/-- The masters whose timeout has passed are forgotten. -/
def State.forgetMasters (s : State) : State := s.modPtp (fun p => { p with masters := s.heardMasters })

/-- The last master is lost: no master is selected, and holdover starts now (R145). -/
def State.loseMaster (s : State) : State :=
  s.modPtp (fun p => { p with selected := none, sync := none, holdSince := s.elapsed })

/-- The port and the grandmaster identity of master `m` are shown (Table 3-10). -/
def State.showMaster (s : State) (m : PtpMaster) : State :=
  ((s.wr PTP_STATE_LPORT m.lp).wr PTP_GM_ID_LO m.id).wr PTP_GM_ID_HI (m.id / 2 ^ 32)

/-- Master `m` becomes the selected one. -/
def State.selectMaster (s : State) (m : PtpMaster) : State :=
  s.modPtp (fun p => { p with selected := some m.source, good := 0, bad := 0, sync := none })

@[simp] theorem State.forgetMasters_rd (s : State) (F : Fld) : s.forgetMasters.rd F = s.rd F := rfl
@[simp] theorem State.loseMaster_rd (s : State) (F : Fld) : s.loseMaster.rd F = s.rd F := rfl

section
variable {s : State}

theorem State.announceTimeout_lost (hm : s.heardMasters = []) (hs : s.ing.ptp.selected.isSome = true) :
    s.announceTimeout = s.forgetMasters.loseMaster.ptpState ptpHOLDOVER := by
  change s.forgetMasters.ptpSelect = _
  have hnone : minBy PtpMaster.rank s.forgetMasters.ing.ptp.masters = none := congrArg (minBy PtpMaster.rank) hm
  simp only [State.ptpSelect, hnone]
  exact if_pos hs

theorem State.announceTimeout_idle (hm : s.heardMasters = []) (hs : s.ing.ptp.selected = none) :
    s.announceTimeout = s.forgetMasters := by
  change s.forgetMasters.ptpSelect = _
  have hnone : minBy PtpMaster.rank s.forgetMasters.ing.ptp.masters = none := congrArg (minBy PtpMaster.rank) hm
  simp only [State.ptpSelect, hnone]
  exact if_neg (by simp [State.forgetMasters, State.modPtp, hs])

theorem State.announceTimeout_best {m : PtpMaster} (hm : minBy PtpMaster.rank s.heardMasters = some m) :
    s.announceTimeout = if s.ing.ptp.selected = some m.source then s.forgetMasters.showMaster m
      else ((s.forgetMasters.showMaster m).selectMaster m).ptpState ptpACQUIRING := by
  change s.forgetMasters.ptpSelect = _
  have hsome : minBy PtpMaster.rank s.forgetMasters.ing.ptp.masters = some m := hm
  simp only [State.ptpSelect, hsome]
  rfl

end

/-! ### What entering a servo state changes -/

/-- Nothing but STATE and CHANGED is written. -/
theorem RegsKept.ptpState {s t : State} {v : Nat} (hv : v ≠ ptpEXPIRED) (ht : RegsKept [PTP_STATE_STATE, PTP_STATE_CHANGED] s t) :
    RegsKept [PTP_STATE_STATE, PTP_STATE_CHANGED] s (t.ptpState v) := by
  by_cases h : t.rd PTP_STATE_STATE = v
  · rwa [State.ptpState_same h]
  · rw [State.ptpState_other h hv]
    exact ht.enterServo v

section
variable (s : State) {v : Nat}

/-- The state reads what was entered. -/
theorem State.ptpState_state (hv : v ≠ ptpEXPIRED) (h8 : v < 8) : (s.ptpState v).rd PTP_STATE_STATE = v := by
  by_cases h : s.rd PTP_STATE_STATE = v
  · rw [State.ptpState_same h, h]
  · rw [State.ptpState_other h hv, State.enterServo_state _ h8]

theorem State.ptpState_flds (hv : v ≠ ptpEXPIRED) : s.ptpState v = { s with flds := (s.ptpState v).flds } := by
  by_cases h : s.rd PTP_STATE_STATE = v
  · rw [State.ptpState_same h]
  · rw [State.ptpState_other h hv]
    rfl

theorem State.ptpState_ing (hv : v ≠ ptpEXPIRED) : (s.ptpState v).ing = s.ing := by rw [s.ptpState_flds hv]

theorem State.ptpState_flt (hv : v ≠ ptpEXPIRED) : (s.ptpState v).flt = s.flt := by rw [s.ptpState_flds hv]

end

/-- Setting device time touches neither registers nor ingest: what follows it is the grid of canvas frame starts. -/
theorem State.setDevTime_eq (s : State) (t : Nat) :
    s.setDevTime t = { s with devTime := t % 2 ^ 64, canvas := (s.setDevTime t).canvas } := by
  unfold State.setDevTime State.iff
  dsimp only
  split <;> rfl

/-- The servo's fields show no condition. -/
theorem ptp_notCond : ∀ G ∈ [PTP_STATE_STATE, PTP_STATE_CHANGED, PTP_STATE_LPORT, PTP_GM_ID_LO, PTP_GM_ID_HI, PTP_TIME_LO, PTP_TIME_HI],
    ∀ F ∈ condFlds, G.key ≠ F.key := by
  intro G hG
  refine notCond G ?_
  revert G
  decide

/-- So the end of a command leaves them. -/
theorem State.settle_ptp (s : State) (G : Fld) (hG : G ∈ [PTP_STATE_STATE, PTP_STATE_CHANGED, PTP_STATE_LPORT, PTP_GM_ID_LO,
    PTP_GM_ID_HI, PTP_TIME_LO, PTP_TIME_HI]) : s.settle.rd G = s.rd G :=
  State.rd_settle s G (ptp_notCond G hG)

/-- What a shown master reads as. -/
theorem State.showMaster_rd (s : State) (m : PtpMaster) :
    (s.showMaster m).rd PTP_STATE_LPORT = m.lp % 8 ∧ (s.showMaster m).rd PTP_GM_ID_LO = m.id % 2 ^ 32 ∧
      (s.showMaster m).rd PTP_GM_ID_HI = m.id / 2 ^ 32 % 2 ^ 32 ∧
      (s.showMaster m).rd PTP_STATE_STATE = s.rd PTP_STATE_STATE := by
  refine ⟨?_, ?_, State.rd_wr_same .., ?_⟩
  · rw [State.showMaster, State.rd_wr_ne _ _ _ _ (by decide), State.rd_wr_ne _ _ _ _ (by decide), State.rd_wr_same]
    rfl
  · rw [State.showMaster, State.rd_wr_ne _ _ _ _ (by decide), State.rd_wr_same]
    rfl
  · rw [State.showMaster, State.rd_wr_ne _ _ _ _ (by decide), State.rd_wr_ne _ _ _ _ (by decide),
      State.rd_wr_ne _ _ _ _ (by decide)]

/-! ### The commands -/

section
variable {s : State} (hs : s.held = false)
include hs

theorem exec_announceTimeout : exec .announceTimeout s = .next s.announceTimeout.settle := State.finish_on _ hs

theorem exec_holdoverExpiry : exec .holdoverExpiry s = .next s.holdoverExpiry.settle := State.finish_on _ hs

theorem exec_ptpSet (hi : Word) : exec (.ptpSet hi) s = .next (s.ptpSet hi.toNat).settle := State.finish_on _ hs

theorem exec_ptpTimeRead : exec .ptpTimeRead s = .next s.ptpRead.settle := State.finish_on _ hs

/-- ANNOUNCE_TIMEOUT that loses the last master (R145). -/
theorem announceTimeout_loses (hm : s.heardMasters = []) (hsel : s.ing.ptp.selected.isSome = true) :
    ∃ t, exec .announceTimeout s = .next t ∧ t.rd PTP_STATE_STATE = ptpHOLDOVER ∧
      (s.rd PTP_STATE_STATE ≠ ptpHOLDOVER → t.rd PTP_STATE_CHANGED = 1) ∧ RegsKept [PTP_STATE_STATE, PTP_STATE_CHANGED] s t ∧
      t.ing.ptp = { s.ing.ptp with masters := [], selected := none, sync := none, holdSince := s.elapsed } ∧ t.flt = s.flt := by
  have hex : ptpHOLDOVER ≠ ptpEXPIRED := by decide
  have hrun := exec_announceTimeout hs
  rw [State.announceTimeout_lost hm hsel] at hrun
  refine ⟨_, hrun, ?_, fun hne => ?_, ?_, ?_, ?_⟩
  · rw [State.settle_ptp _ _ (by simp), State.ptpState_state _ hex (by decide)]
  · rw [State.settle_ptp _ _ (by simp), State.ptpState_other (by simpa using hne) hex, State.enterServo_changed]
  · exact .settle (.ptpState hex (.of_flds rfl (.refl _ s)))
  · rw [State.settle_ing, State.ptpState_ing _ hex, State.loseMaster, State.forgetMasters, hm]
    rfl
  · rw [State.settle_flt, State.ptpState_flt _ hex]
    rfl

/-- ANNOUNCE_TIMEOUT with a master left shows the best one, and goes to ACQUIRING when it is not the selected one. -/
theorem announceTimeout_selects {m : PtpMaster} (hm : minBy PtpMaster.rank s.heardMasters = some m) :
    ∃ t, exec .announceTimeout s = .next t ∧ t.rd PTP_STATE_LPORT = m.lp % 8 ∧
      t.rd PTP_GM_ID_LO = m.id % 2 ^ 32 ∧ t.rd PTP_GM_ID_HI = m.id / 2 ^ 32 % 2 ^ 32 ∧ t.ing.ptp.masters = s.heardMasters ∧
      t.ing.ptp.selected = some m.source ∧ t.flt = s.flt ∧
      (s.ing.ptp.selected = some m.source → t.rd PTP_STATE_STATE = s.rd PTP_STATE_STATE) ∧
      (s.ing.ptp.selected ≠ some m.source → t.rd PTP_STATE_STATE = ptpACQUIRING ∧ t.ing.ptp.good = 0 ∧ t.ing.ptp.bad = 0 ∧
        t.ing.ptp.sync = none) := by
  obtain ⟨hlp, hlo, hhi, hst⟩ := s.forgetMasters.showMaster_rd m
  have hrun := exec_announceTimeout hs
  rw [State.announceTimeout_best hm] at hrun
  refine ⟨_, hrun, ?_⟩
  rw [State.settle_ptp _ PTP_STATE_LPORT (by simp), State.settle_ptp _ PTP_GM_ID_LO (by simp), State.settle_ptp _ PTP_GM_ID_HI (by simp),
    State.settle_ptp _ PTP_STATE_STATE (by simp), State.settle_ing, State.settle_flt]
  by_cases hsel : s.ing.ptp.selected = some m.source
  · rw [if_pos hsel]
    exact ⟨hlp, hlo, hhi, rfl, hsel, rfl, fun _ => hst, fun hne => absurd hsel hne⟩
  · have hex : ptpACQUIRING ≠ ptpEXPIRED := by decide
    have hkept : ∀ G ∈ [PTP_STATE_LPORT, PTP_GM_ID_LO, PTP_GM_ID_HI], ∀ t : State, (t.ptpState ptpACQUIRING).rd G = t.rd G :=
      fun G hG t => RegsKept.ptpState hex (.refl _ t) G (by revert G; decide)
        (ptp_notCond G (List.mem_cons_of_mem _ (List.mem_cons_of_mem _ (List.mem_append_left [PTP_TIME_LO, PTP_TIME_HI] hG))))
    rw [if_neg hsel, hkept _ (by simp), hkept _ (by simp), hkept _ (by simp), State.ptpState_ing _ hex, State.ptpState_flt _ hex,
      State.ptpState_state _ hex (by decide)]
    exact ⟨hlp, hlo, hhi, rfl, rfl, rfl, fun h => absurd h hsel, fun _ => ⟨rfl, rfl, rfl, rfl⟩⟩

/-- HOLDOVER_EXPIRY beyond the limit (R145). -/
theorem holdoverExpiry_expires (hst : s.rd PTP_STATE_STATE = ptpHOLDOVER)
    (hlong : s.ing.ptp.holdSince + 1000000000 * s.rd PTP_HOLDOVER_S < s.elapsed) (hroom : s.flt.queue.length < 256) :
    ∃ t, exec .holdoverExpiry s = .next t ∧ t.rd PTP_STATE_STATE = ptpEXPIRED ∧ t.rd PTP_STATE_CHANGED = 1 ∧
      t.flt.queue = s.flt.queue ++ [{ cls := 19, at_ := s.elapsed }] ∧ RegsKept [PTP_STATE_STATE, PTP_STATE_CHANGED] s t ∧
      t.ing = s.ing := by
  have hrun := exec_holdoverExpiry hs
  rw [State.holdoverExpiry, if_pos ⟨hst, hlong⟩, State.ptpState_expired (by rw [hst]; decide),
    State.raise_room (s.enterServo ptpEXPIRED) _ hroom] at hrun
  refine ⟨_, hrun, ?_, ?_, ?_, ?_, ?_⟩
  · rw [State.settle_ptp _ _ (by simp)]
    exact s.enterServo_state (by decide)
  · rw [State.settle_ptp _ _ (by simp)]
    exact s.enterServo_changed _
  · rw [State.settle_flt]
    rfl
  · exact .settle (.of_flds rfl (RegsKept.enterServo ptpEXPIRED (.refl _ s)))
  · rw [State.settle_ing]
    rfl

/-- PTP_SET with the servo disabled (R147). -/
theorem ptpSet_sets (hi : Word) (hen : s.rd PTP_CTL_EN ≠ 1) :
    ∃ t, exec (.ptpSet hi) s = .next t ∧ t.devTime = (2 ^ 32 * hi.toNat + s.rd PTP_SET_LO) % 2 ^ 64 ∧ RegsKept [] s t ∧ t.ing = s.ing := by
  have hrun := exec_ptpSet hs hi
  rw [State.ptpSet, if_neg (by simpa [State.on] using hen), Nat.mod_eq_of_lt hi.isLt, State.setDevTime_eq] at hrun
  exact ⟨_, hrun, by rw [State.settle_devTime], .settle (.of_flds rfl (.refl _ s)), by rw [State.settle_ing]⟩

/-- PTP_TIME_READ shows both words of the same instant (R146). -/
theorem ptpTimeRead_latches :
    ∃ t, exec .ptpTimeRead s = .next t ∧ t.rd PTP_TIME_LO = s.devTime % 2 ^ 32 ∧ t.rd PTP_TIME_HI = s.devTime / 2 ^ 32 % 2 ^ 32 ∧
      RegsKept [PTP_TIME_LO, PTP_TIME_HI] s t ∧ t.ing = s.ing ∧ t.devTime = s.devTime := by
  refine ⟨_, exec_ptpTimeRead hs, ?_, ?_, .settle (.wr _ _ (by simp) (.wr _ _ (by simp) (.refl _ s))), ?_, ?_⟩
  · rw [State.settle_ptp _ _ (by simp), State.ptpRead, State.rd_wr_ne _ _ _ _ (by decide), State.rd_wr_same]
    exact Nat.mod_mod ..
  · rw [State.settle_ptp _ _ (by simp), State.ptpRead, State.rd_wr_same]
    exact Nat.mod_mod ..
  · rw [State.settle_ing]
    rfl
  · rw [State.settle_devTime]
    rfl

end

/-- Settles O54: the servo's cases above, and no effect when nothing is due. -/
theorem mastersLostAndHoldoverExpired : Obligations.MastersLostAndHoldoverExpired := by
  intro s hs
  refine ⟨announceTimeout_loses hs, fun hm hsel => ?_, fun m hm => announceTimeout_selects hs hm, holdoverExpiry_expires hs,
    fun hnot => ?_, ptpSet_sets hs, fun hi hen => ?_, ptpTimeRead_latches hs⟩
  · have hrun := exec_announceTimeout hs
    rw [State.announceTimeout_idle hm hsel, State.forgetMasters, show s.heardMasters = [] from hm] at hrun
    exact ⟨_, hrun, .settle (.of_flds rfl (.refl _ s)), by rw [State.settle_ing]; rfl⟩
  · rw [exec_holdoverExpiry hs, State.holdoverExpiry, if_neg (by omega)]
  · rw [exec_ptpSet hs, State.ptpSet, if_pos (by simp [State.on, hen])]

end Sys2Proof.Machine

/-! # Received frames and merge points -/

namespace Sys2Proof.Machine

open R

/-! ### The way of a received frame, check by check (R109) -/

section
variable {s : State} {lp : Nat} {fec : Bool} {frame : List Byte}

/-- No frame is taken by a port that is not up, or while ingest receive is not. -/
theorem State.rxFrame_down (h : s.portUp lp = false ∨ s.unitUp mING = false) : s.rxFrame lp fec frame = s :=
  if_pos (by simpa using h)

section
variable (hport : s.portUp lp = true) (hunit : s.unitUp mING = true)
include hport hunit

/-- The MAC keeps its control frames to itself (R106). -/
theorem State.rxFrame_control (hm : macControl fec frame = true) :
    s.rxFrame lp fec frame = s.wr (ING_PORT_STATUS_PAUSE_SEEN lp) 1 := by
  rw [State.rxFrame, if_neg (by simp [hport, hunit]), if_pos hm]

/-- A frame that fails a check is dropped for it. -/
theorem State.rxFrame_failed (hm : macControl fec frame = false) {k : Nat} (hk : s.frameFails lp fec frame = some k) :
    s.rxFrame lp fec frame = s.dropFrame lp k := by
  rw [State.rxFrame, if_neg (by simp [hport, hunit]), if_neg (by simp [hm]), hk]

/-- A frame that passes them goes on. -/
theorem State.rxFrame_passed (hm : macControl fec frame = false) (hk : s.frameFails lp fec frame = none) :
    s.rxFrame lp fec frame = s.rxIp lp (ethOf frame) := by
  rw [State.rxFrame, if_neg (by simp [hport, hunit]), if_neg (by simp [hm]), hk]

end

/-- A frame that RS-FEC marked is no MAC control frame, and fails check 0. -/
theorem macControl_marked (frame : List Byte) : macControl true frame = false := rfl

theorem State.frameFails_marked (s : State) (lp : Nat) (frame : List Byte) : s.frameFails lp true frame = some 0 := by
  rw [State.frameFails, List.find?_cons_of_pos (by simp)]
  rfl

section
variable {e : Eth} (hptp : e.ptp = false) (hudp : e.udp = true)
include hptp hudp

/-- A UDP packet that no entry matches (reason 10). -/
theorem State.rxIp_unmatched (hf : s.matchFlow lp e = none) : s.rxIp lp e = s.dropFrame lp 10 := by
  rw [State.rxIp, if_neg (by simp [hptp]), if_neg (by simp [hudp]), hf]

/-- A UDP packet that entry `g` matches. -/
theorem State.rxIp_matched {g : Nat} (hf : s.matchFlow lp e = some g) : s.rxIp lp e = s.rxRtp lp g (e.body.drop 8) := by
  rw [State.rxIp, if_neg (by simp [hptp]), if_neg (by simp [hudp]), hf]

end

/-- The RTP packet of bytes `b` that entry `g` hands to its merge point, stamped at `at_` (R123). -/
def rtpPkt (g at_ : Nat) (b : List Byte) : Pkt :=
  { seq := beAt b 2 2, ts := beAt b 4 4, marker := decide (128 ≤ byteAt b 1), at_ := at_, entry := g, data := rtpBody b }

/-- An RTP packet of an entry whose context is RUNNING is merged. -/
theorem State.rxRtp_running {g n : Nat} {b : List Byte} (hrtp : (s.pathSeen g).rtpOk g b = true) (hn : (s.pathSeen g).binder g = some n)
    (hd : (depack ((s.pathSeen g).ctxStd n) (rtpBody b)).isNone = false) (hr : (s.pathSeen g).ctxState n = ctxRUNNING) :
    s.rxRtp lp g b = ((s.pathSeen g).rxStamp lp).2.mergePkt lp ((s.pathSeen g).mergePoint g) n
      (rtpPkt g ((s.pathSeen g).rxStamp lp).1 b) := by
  unfold State.rxRtp
  dsimp only
  rw [if_neg (by simp [hrtp]), hn]
  dsimp only
  rw [if_neg (by simp [hd]), if_neg (not_not_intro hr)]
  rfl

end

/-! ### Answers of the pool and time, at a merge point -/

section
variable {s : State} {f : Nat}

theorem State.ingAlloc_none (h : (s.ingAnswer f).1 = none) : s.ingAlloc f = s := by
  unfold State.ingAlloc
  split
  · rfl
  · next heq => rw [heq] at h; cases h

/-- The answer to a waiting packet, which waits no longer (R125, R126). -/
theorem State.ingAlloc_parked {x n : Nat} {a : PoolRes} {t : State} {q : Pkt × Bool} (ha : s.ingAnswer f = (some (x, a), t))
    (hq : (t.flow f).parked.find? (fun q => q.1.seq == x) = some q) (hn : t.binder f = some n) :
    s.ingAlloc f =
      let u := t.modFlow f (fun r => { r with parked := r.parked.erase q })
      if a.code ≠ 0 then u.dropFrame q.1.lp 14
      else if x < (u.flow f).base then (u.release mING a.addr (a.word / 2 ^ 32)).dropFrame q.1.lp 13
      else (u.modFlow f (fun r => { r with bobs := r.bobs ++ [(a.addr, a.word / 2 ^ 32)] })).placePkt f n q.1 := by
  simp only [State.ingAlloc, ha, hq, hn]

/-- AU_CLOSE_TIMEOUT's effect once the end of the oldest span is known (R125). -/
theorem State.auClose_span {n : Nat} {e : Nat × Nat × Bool} (hn : s.binder f = some n) (he : spanEnd (s.flow f).pkts = some e) :
    s.auClose f = if e.2.1 + (s.flow f).window * 10000 ≤ s.devTime then
      (s.endSpan f n e.1).completeSpans f n ((s.endSpan f n e.1).flow f).pkts.length else s := by
  simp only [State.auClose, hn, he]

end

/-! ### Fields of ingest's registers -/

/-- The field lies in the registers of ingest and egress (Tables 3-2 to 3-11). -/
def ingestFld (G : Fld) : Prop := 0x00400000 ≤ G.off ∧ G.off < 0x00500000 ∧ G.lo < 32

/-- It shows no condition. -/
theorem State.settle_ingest (s : State) {G : Fld} (h : ingestFld G) : s.settle.rd G = s.rd G :=
  State.rd_settle' s G (by unfold ingestFld at h; unfold Fld.key; omega)

theorem portStatus_ingest (lp : Fin 8) : ∀ G ∈ [ING_PORT_STATUS_PAUSE_SEEN lp, ING_PORT_STATUS_LINK lp, ING_PORT_STATUS_PCS_LOCK lp,
    ING_PORT_STATUS_FEC_LOCK lp, ING_PORT_STATUS_LINK_CHG lp], ingestFld G := by
  simp only [List.forall_mem_cons, List.not_mem_nil, false_imp_iff, implies_true, and_true, ingestFld, ING_PORT_STATUS_PAUSE_SEEN,
    ING_PORT_STATUS_LINK, ING_PORT_STATUS_PCS_LOCK, ING_PORT_STATUS_FEC_LOCK, ING_PORT_STATUS_LINK_CHG]
  omega

theorem pathStatus_ingest (f : Fin 256) : ∀ G ∈ [ING_FLOW_STATUS_PATH_UP f, ING_FLOW_STATUS_PATH_DOWN f], ingestFld G := by
  simp only [List.forall_mem_cons, List.not_mem_nil, false_imp_iff, implies_true, and_true, ingestFld, ING_FLOW_STATUS_PATH_UP,
    ING_FLOW_STATUS_PATH_DOWN]
  omega

/-- A bit fits a one-bit field. -/
theorem b2n_mod_two (b : Bool) : b2n b % 2 ^ 1 = b2n b := by cases b <;> rfl

/-! ### The link of a port -/

/-- LINK_CHG of a port takes note of a changed link (Table 3-2). -/
def State.noteLink (s : State) (lp : Nat) (link : Bool) : State :=
  s.iff (s.on (ING_PORT_STATUS_LINK lp) != link) (·.wr (ING_PORT_STATUS_LINK_CHG lp) 1)

theorem State.linkChange_present {s : State} {lp : Nat} (link pcs fec : Bool) (h : s.portExists lp = true) :
    s.linkChange lp link pcs fec = (((s.noteLink lp link).wr (ING_PORT_STATUS_LINK lp) (b2n link)).wr (ING_PORT_STATUS_PCS_LOCK lp)
      (b2n pcs)).wr (ING_PORT_STATUS_FEC_LOCK lp) (b2n fec) := if_pos h

/-- It is set when LINK changes, and else stays. -/
theorem State.noteLink_rd (s : State) (lp : Nat) (link : Bool) :
    (s.noteLink lp link).rd (ING_PORT_STATUS_LINK_CHG lp) =
      if (s.rd (ING_PORT_STATUS_LINK lp) == 1) = link then s.rd (ING_PORT_STATUS_LINK_CHG lp) else 1 := by
  by_cases h : (s.rd (ING_PORT_STATUS_LINK lp) == 1) = link
  · rw [if_pos h, State.noteLink, State.on, h, bne_self_eq_false]
    rfl
  · rw [if_neg h, State.noteLink, State.on, bne_iff_ne.mpr h, State.iff_true, State.rd_wr_same]
    rfl

/-- It changes register fields alone. -/
theorem State.noteLink_ing (s : State) (lp : Nat) (link : Bool) : (s.noteLink lp link).ing = s.ing :=
  State.iff_keeps (·.ing) _ _ s rfl

theorem State.noteLink_regsKept {l : List Fld} (s : State) (lp : Nat) (link : Bool) (h : ING_PORT_STATUS_LINK_CHG lp ∈ l) :
    RegsKept l s (s.noteLink lp link) :=
  fun G hl _ => State.iff_keeps (·.rd G) _ _ s (State.rd_wr_ne _ _ _ _ (hl _ h))

/-- The four status bits of a port have places of their own. -/
theorem portStatus_key_ne (lp : Nat) : (ING_PORT_STATUS_LINK lp).key ≠ (ING_PORT_STATUS_PCS_LOCK lp).key ∧
    (ING_PORT_STATUS_LINK lp).key ≠ (ING_PORT_STATUS_FEC_LOCK lp).key ∧
    (ING_PORT_STATUS_PCS_LOCK lp).key ≠ (ING_PORT_STATUS_FEC_LOCK lp).key ∧
    (ING_PORT_STATUS_LINK_CHG lp).key ≠ (ING_PORT_STATUS_LINK lp).key ∧
    (ING_PORT_STATUS_LINK_CHG lp).key ≠ (ING_PORT_STATUS_PCS_LOCK lp).key ∧
    (ING_PORT_STATUS_LINK_CHG lp).key ≠ (ING_PORT_STATUS_FEC_LOCK lp).key := by
  simp only [Fld.key, ING_PORT_STATUS_LINK, ING_PORT_STATUS_PCS_LOCK, ING_PORT_STATUS_FEC_LOCK, ING_PORT_STATUS_LINK_CHG]
  omega

/-! ### The commands -/

section
variable {s : State} (hs : s.held = false)
include hs

theorem exec_rxFrame (lp : Fin 8) (fec : Bool) (frame : List Byte) :
    exec (.rxFrame lp fec frame) s = .next (s.rxFrame lp fec frame).settle := State.finish_on _ hs

theorem exec_ingAllocDone (f : Fin 256) : exec (.ingAllocDone f) s = .next (s.ingAlloc f).settle := State.finish_on _ hs

theorem exec_auCloseTimeout (f : Fin 256) : exec (.auCloseTimeout f) s = .next (s.auClose f).settle := State.finish_on _ hs

theorem exec_pathTimeout (f : Fin 256) : exec (.pathTimeout f) s = .next (s.pathTimeout f).settle := State.finish_on _ hs

theorem exec_ethLinkChange (lp : Fin 8) (link pcs fec : Bool) :
    exec (.ethLinkChange lp link pcs fec) s = .next (s.linkChange lp link pcs fec).settle := State.finish_on _ hs

/-- RX_FRAME of a MAC control frame shows that it was seen, and nothing else (R106). -/
theorem rxFrame_pauseSeen (lp : Fin 8) {fec : Bool} {frame : List Byte} (hport : s.portUp lp = true) (hunit : s.unitUp mING = true)
    (hm : macControl fec frame = true) :
    ∃ t, exec (.rxFrame lp fec frame) s = .next t ∧ t.rd (ING_PORT_STATUS_PAUSE_SEEN lp) = 1 ∧
      RegsKept [ING_PORT_STATUS_PAUSE_SEEN lp] s t ∧ t.out = s.out ∧ t.ing = s.ing := by
  have hrun := exec_rxFrame hs lp fec frame
  rw [State.rxFrame_control hport hunit hm] at hrun
  refine ⟨_, hrun, ?_, .settle (.wr _ _ (by simp) (.refl _ s)), by rw [State.settle_out, State.wr_out], by rw [State.settle_ing, State.wr_ing]⟩
  rw [State.settle_ingest _ (portStatus_ingest lp _ (by simp)), State.rd_wr_same]
  rfl

/-- PATH_TIMEOUT of a path that is up, 50 ms after its last packet (R134). -/
theorem pathTimeout_down (f : Fin 256) (hup : s.rd (ING_FLOW_STATUS_PATH_UP f) = 1)
    (hlast : (s.flow f).lastMatch + 50000000 ≤ s.elapsed) :
    ∃ t, exec (.pathTimeout f) s = .next t ∧ t.rd (ING_FLOW_STATUS_PATH_UP f) = 0 ∧ t.rd (ING_FLOW_STATUS_PATH_DOWN f) = 1 ∧
      t.ing = s.ing ∧ RegsKept [ING_FLOW_STATUS_PATH_UP f, ING_FLOW_STATUS_PATH_DOWN f] s t := by
  have hrun := exec_pathTimeout hs f
  rw [State.pathTimeout, if_pos ⟨by simp [State.on, hup], hlast⟩] at hrun
  refine ⟨_, hrun, ?_, ?_, by rw [State.settle_ing, State.wr_ing, State.wr_ing],
    .settle (.wr _ _ (by simp) (.wr _ _ (by simp) (.refl _ s)))⟩
  · rw [State.settle_ingest _ (pathStatus_ingest f _ (by simp)), State.rd_wr_ne _ _ _ _ (by
      simp only [Fld.key, ING_FLOW_STATUS_PATH_UP, ING_FLOW_STATUS_PATH_DOWN]; omega), State.rd_wr_same]
    rfl
  · rw [State.settle_ingest _ (pathStatus_ingest f _ (by simp)), State.rd_wr_same]
    rfl

/-- ETH_LINK_CHANGE of a port that exists (Table 3-2). -/
theorem ethLinkChange_shown (lp : Fin 8) (link pcs fec : Bool) (h : s.portExists lp = true) :
    ∃ t, exec (.ethLinkChange lp link pcs fec) s = .next t ∧
      t.rd (ING_PORT_STATUS_LINK lp) = b2n link ∧ t.rd (ING_PORT_STATUS_PCS_LOCK lp) = b2n pcs ∧ t.rd (ING_PORT_STATUS_FEC_LOCK lp) = b2n fec ∧
      t.rd (ING_PORT_STATUS_LINK_CHG lp) = (if (s.rd (ING_PORT_STATUS_LINK lp) == 1) = link then s.rd (ING_PORT_STATUS_LINK_CHG lp) else 1) ∧
      RegsKept [ING_PORT_STATUS_LINK lp, ING_PORT_STATUS_PCS_LOCK lp, ING_PORT_STATUS_FEC_LOCK lp, ING_PORT_STATUS_LINK_CHG lp] s t ∧
      t.ing = s.ing := by
  obtain ⟨hLP, hLF, hPF, hCL, hCP, hCF⟩ := portStatus_key_ne lp
  have hrun := exec_ethLinkChange hs lp link pcs fec
  rw [State.linkChange_present link pcs fec h] at hrun
  refine ⟨_, hrun, ?_, ?_, ?_, ?_,
    .settle (.wr _ _ (by simp) (.wr _ _ (by simp) (.wr _ _ (by simp) (s.noteLink_regsKept lp link (by simp))))), ?_⟩
  · rw [State.settle_ingest _ (portStatus_ingest lp _ (by simp)), State.rd_wr_ne _ _ _ _ hLF, State.rd_wr_ne _ _ _ _ hLP, State.rd_wr_same]
    exact b2n_mod_two link
  · rw [State.settle_ingest _ (portStatus_ingest lp _ (by simp)), State.rd_wr_ne _ _ _ _ hPF, State.rd_wr_same]
    exact b2n_mod_two pcs
  · rw [State.settle_ingest _ (portStatus_ingest lp _ (by simp)), State.rd_wr_same]
    exact b2n_mod_two fec
  · rw [State.settle_ingest _ (portStatus_ingest lp _ (by simp)), State.rd_wr_ne _ _ _ _ hCF, State.rd_wr_ne _ _ _ _ hCP,
      State.rd_wr_ne _ _ _ _ hCL, State.noteLink_rd]
  · rw [State.settle_ing, State.wr_ing, State.wr_ing, State.wr_ing, State.noteLink_ing]

end

/-- Settles O53: a frame check by check, then each event's cases above. -/
theorem framesAreCheckedAndHeld : Obligations.FramesAreCheckedAndHeld := by
  intro s lp f hs
  refine ⟨fun fec frame hport hunit => ⟨rxFrame_pauseSeen hs lp hport hunit, fun k hm hk => ?_, ?_, fun hm hk hptp hudp =>
      ⟨fun hf => ?_, fun g n hf => ?_⟩⟩,
    fun fec frame hdown => ?_, fun x a t q n ha hq hn => ?_, fun hnone => ?_, fun n e hn he => ⟨fun hdue => ?_, fun hearly => ?_⟩,
    pathTimeout_down hs f, fun hnot => ?_, fun link pcs fec h => ethLinkChange_shown hs lp link pcs fec h, fun link pcs fec h => ?_⟩
  · rw [exec_rxFrame hs, State.rxFrame_failed hport hunit hm hk, State.dropFrame]
  · rw [exec_rxFrame hs, State.rxFrame_failed hport hunit (macControl_marked frame) (s.frameFails_marked lp frame), State.dropFrame]
  · rw [exec_rxFrame hs, State.rxFrame_passed hport hunit hm hk, State.rxIp_unmatched hptp hudp hf, State.dropFrame]
  · intro u b hrtp hn hd hr p
    rw [exec_rxFrame hs, State.rxFrame_passed hport hunit hm hk, State.rxIp_matched hptp hudp hf, State.rxRtp_running hrtp hn hd hr]
    rfl
  · rw [exec_rxFrame hs, State.rxFrame_down hdown]
  · intro u
    rw [exec_ingAllocDone hs, State.ingAlloc_parked ha hq hn]
    exact ⟨fun hc hx => by rw [if_neg (not_not_intro hc), if_neg (Nat.not_lt.mpr hx)],
      fun hc hx => by rw [if_neg (not_not_intro hc), if_pos hx, State.dropFrame], fun hc => by rw [if_pos hc, State.dropFrame]⟩
  · rw [exec_ingAllocDone hs, State.ingAlloc_none hnone]
  · rw [exec_auCloseTimeout hs, State.auClose_span hn he, if_pos hdue]
  · rw [exec_auCloseTimeout hs, State.auClose_span hn he, if_neg (Nat.not_le.mpr hearly)]
  · rw [exec_pathTimeout hs, State.pathTimeout, if_neg (by simp only [State.on, beq_iff_eq]; omega)]
  · rw [exec_ethLinkChange hs, State.linkChange, if_neg (by simp [h])]

end Sys2Proof.Machine

/-! # Membership reports and egress packets -/

namespace Sys2Proof.Machine

open R

/-! ### Reports (R137, R138) -/

section
variable {s : State} {lp : Nat}

/-- The state once the due state-change report `r` has been sent with the record as it stands. -/
def State.changeSent (s : State) (lp : Nat) (r : Report) : State :=
  (s.takeReport r).sendReport lp r.v6 true [s.grpRecord lp r.v6 (r.group.getD 0)]

/-- Report `r` scheduled again in `d` ns, with one repeat less left. -/
def State.reportAgain (u : State) (r : Report) (d : Nat) : State :=
  { u with fresh := u.fresh + 1, ing := { u.ing with
    reports := u.ing.reports ++ [{ r with due := u.elapsed + d, left := r.left - 1 }] } }

theorem State.stateChange_none (h : s.dueReport lp false = none) : s.stateChange lp = s := by
  rw [State.stateChange, h]

theorem State.stateChange_due {r : Report} (h : s.dueReport lp false = some r) :
    s.stateChange lp = if r.left = 0 then s.changeSent lp r
      else (s.changeSent lp r).reportAgain r ((s.changeSent lp r).randomDelay (s.changeSent lp r).uriNs).1 := by
  rw [State.stateChange, h, State.changeSent]
  dsimp only
  generalize (s.takeReport r).sendReport lp r.v6 true [s.grpRecord lp r.v6 (r.group.getD 0)] = u
  rfl

theorem State.currentState_none (h : s.dueReport lp true = none) : s.currentState lp = s := by
  rw [State.currentState, h]

/-- A report of one group carries its record, a report of all carries every one. -/
theorem State.currentState_due {r : Report} (h : s.dueReport lp true = some r) :
    s.currentState lp = (s.takeReport r).sendReport lp r.v6 false ((s.grpRecords lp).filter (fun x => x.v6 == r.v6 &&
      (r.group == none || r.group == some x.addr))) := by
  simp only [State.currentState, h]
  cases r.group with
  | none => simp
  | some a =>
    have hsame (x : GroupRec) : (some a == none || some a == some x.addr) = (x.addr == a) := by
      rw [Bool.eq_iff_iff]
      simp only [Bool.or_eq_true, beq_iff_eq, reduceCtorEq, false_or, Option.some.injEq]
      exact eq_comm
    simp only [hsame]

end

/-! ### Operations over lists -/

/-- Changing the elements at place 0 of a list numbered from 1 changes none. -/
theorem map_zipIdx_succ {α : Type} (g : α → α) (l : List α) (n : Nat) :
    (l.zipIdx (n + 1)).map (fun q => if q.2 = 0 then g q.1 else q.1) = l := by
  induction l generalizing n with
  | nil => rfl
  | cons a r ih => rw [List.zipIdx_cons, List.map_cons, ih, if_neg (Nat.succ_ne_zero n)]

/-- Changing the element at place 0 changes the head. -/
theorem map_zipIdx_head {α : Type} (g : α → α) (a : α) (l : List α) :
    ((a :: l).zipIdx).map (fun q => if q.2 = 0 then g q.1 else q.1) = g a :: l := by
  rw [List.zipIdx_cons, List.map_cons, map_zipIdx_succ, if_pos rfl]

/-- A fold of changes none of which changes the state does not change it. -/
theorem State.each_fixed {α : Type} (s : State) (l : List α) (f : α → State → State) (h : ∀ a ∈ l, f a s = s) : s.each l f = s := by
  induction l with
  | nil => rfl
  | cons a r ih =>
    rw [State.each_cons, h a List.mem_cons_self]
    exact ih fun b hb => h b (List.mem_cons_of_mem a hb)

/-! ### A packet leaves by one path -/

@[simp] theorem State.egr_modEgr (s : State) (e : Nat) (f : Egr → Egr) : (s.modEgr e f).egr e = f (s.egr e) := smGet_smSet_same ..

/-- What has left the device once a packet has been sent by path `p`: nothing more when its port is not up. -/
def State.pathOut (s : State) (e : Nat) (rtp : List Byte) (p : Nat × Bool) : List Output :=
  if s.portUp p.1 then .frame p.1 (s.egrFrame e p.1 p.2 rtp (Config.freeValue s.fresh)) :: s.out else s.out

/-- The access unit whose next packet has left by one path more. -/
def EgrAu.leftBy (a : EgrAu) (b : Bool) : EgrAu := { a with gone := b :: a.gone }

/-- The state once the next packet of channel `e`, whose queue is `a` and then `as`, has left by path `p` (R150, R151). -/
def State.leftBy (s : State) (e : Nat) (a : EgrAu) (as : List EgrAu) (rtp : List Byte) (p : Nat × Bool) : State :=
  { s with
    fresh := s.fresh + 1
    out := s.pathOut e rtp p
    ing := { s.ing with
      lastEgr := smSet 0 s.ing.lastEgr p.1 e
      egr := smSet {} s.ing.egr e { s.egr e with queue := a.leftBy p.2 :: as } } }

/-- A report is due on the port of a path, or it is another channel's turn: the channel waits (R151). -/
def State.pathClosed (s : State) (e lp : Nat) : Prop := s.reportDue lp = true ∨ s.egrTurn lp ≠ some e

/-- No report is due, and it is the channel's turn. -/
def State.pathOpen (s : State) (e lp : Nat) : Prop := s.reportDue lp = false ∧ s.egrTurn lp = some e

/-- The sent frame is all that sending on a path changes, and the free value that it takes. -/
theorem State.sendPath_eq (s : State) (e : Nat) (rtp : List Byte) (p : Nat × Bool) :
    s.sendPath e p.1 p.2 rtp = { s with fresh := s.fresh + 1, out := s.pathOut e rtp p } := by
  unfold State.sendPath State.sendFrame State.pathOut
  change (if s.portUp p.1 then _ else _) = _
  split <;> rfl

theorem State.egrLeave_closed {s : State} {e : Nat} {p : Nat × Bool} {rtp : List Byte} (h : s.pathClosed e p.1) :
    s.egrLeave e rtp p = s := if_pos (.inr h)

theorem State.leftBy_egr (s : State) (e : Nat) (a : EgrAu) (as : List EgrAu) (rtp : List Byte) (p : Nat × Bool) :
    (s.leftBy e a as rtp p).egr e = { s.egr e with queue := a.leftBy p.2 :: as } := by
  unfold State.leftBy State.egr
  dsimp only
  rw [smGet_smSet_same]

theorem State.leftBy_egr_ne (s : State) {e x : Nat} (a : EgrAu) (as : List EgrAu) (rtp : List Byte) (p : Nat × Bool) (h : x ≠ e) :
    (s.leftBy e a as rtp p).egr x = s.egr x := by
  unfold State.leftBy State.egr
  dsimp only
  rw [smGet_smSet_ne _ _ _ h]

section
variable {s : State} {e : Nat} {a : EgrAu} {as : List EgrAu} (hq : (s.egr e).queue = a :: as)
include hq

theorem State.egrGone_eq : s.egrGone e = a.gone := by
  rw [State.egrGone, hq]
  rfl

/-- A change of the access unit at the head of the queue. -/
theorem State.modEgr_head (g : EgrAu → EgrAu) :
    s.modEgr e (fun r => { r with queue := r.queue.zipIdx.map (fun q => if q.2 = 0 then g q.1 else q.1) }) =
      { s with ing := { s.ing with egr := smSet {} s.ing.egr e { s.egr e with queue := g a :: as } } } := by
  rw [State.modEgr, hq, map_zipIdx_head]

theorem State.egrLeave_open {p : Nat × Bool} (rtp : List Byte) (hg : p.2 ∉ a.gone) (hp : s.pathOpen e p.1) :
    s.egrLeave e rtp p = s.leftBy e a as rtp p := by
  rw [State.egrLeave, if_neg (by simp [State.egrGone_eq hq, hg, hp.1, hp.2]), State.sendPath_eq]
  exact State.modEgr_head (s := { s with
    fresh := s.fresh + 1, out := s.pathOut e rtp p, ing := { s.ing with lastEgr := smSet 0 s.ing.lastEgr p.1 e } }) hq (·.leftBy p.2)

/-! What has left by one path leaves the other as it was (R150) -/

theorem State.leftBy_egrDue (rtp : List Byte) (p : Nat × Bool) (x : Nat) : (s.leftBy e a as rtp p).egrDue x = s.egrDue x := by
  by_cases h : x = e
  · subst h
    unfold State.egrDue
    rw [State.leftBy_egr, hq]
    rfl
  · unfold State.egrDue
    rw [State.leftBy_egr_ne s a as rtp p h]
    rfl

/-- On another port the channel wants to send what it wanted to. -/
theorem State.leftBy_egrWants (rtp : List Byte) {p : Nat × Bool} {lp : Nat} (hp : ∀ q ∈ s.egrPaths e, q.1 = lp → q.2 ≠ p.2) (x : Nat) :
    (s.leftBy e a as rtp p).egrWants x lp = s.egrWants x lp := by
  have hpaths : (s.leftBy e a as rtp p).egrPaths x = s.egrPaths x := rfl
  rw [State.egrWants, State.egrWants, State.leftBy_egrDue hq, hpaths]
  congr 1
  by_cases h : x = e
  · subst h
    have hgone : (s.leftBy x a as rtp p).egrGone x = p.2 :: a.gone :=
      State.egrGone_eq (congrArg Egr.queue (s.leftBy_egr x a as rtp p))
    rw [hgone, State.egrGone_eq hq, Bool.eq_iff_iff, List.any_eq_true, List.any_eq_true]
    refine exists_congr fun q => and_congr_right fun hmem => ?_
    have hne := hp q hmem
    simp only [List.contains_cons, Bool.and_eq_true, beq_iff_eq, Bool.not_eq_true', Bool.or_eq_false_iff, beq_eq_false_iff_ne]
    exact ⟨fun ⟨hport, _, hgone⟩ => ⟨hport, hgone⟩, fun ⟨hport, hgone⟩ => ⟨hport, hne hport, hgone⟩⟩
  · rw [State.egrGone, State.egrGone, State.leftBy_egr_ne s a as rtp p h]

/-- So it has the turn that it had there. -/
theorem State.leftBy_egrTurn (rtp : List Byte) {p : Nat × Bool} {lp : Nat} (hlp : lp ≠ p.1)
    (hp : ∀ q ∈ s.egrPaths e, q.1 = lp → q.2 ≠ p.2) :
    (s.leftBy e a as rtp p).egrTurn lp = s.egrTurn lp := by
  have hlast : smGet 0 (s.leftBy e a as rtp p).ing.lastEgr lp = smGet 0 s.ing.lastEgr lp := smGet_smSet_ne _ _ _ hlp
  simp only [State.egrTurn, hlast, State.leftBy_egrWants hq rtp hp]

end

/-! ### The paths of a channel -/

section
variable {s : State} {e : Nat}

theorem State.egrPaths_one (h : s.rd (ING_EGR_CTL_DUAL e) ≠ 1) : s.egrPaths e = [(s.rd (ING_EGR_CTL_LPORT_A e), false)] := by
  rw [State.egrPaths, if_neg (by simpa [State.on] using h)]

theorem State.egrPaths_dual (h : s.rd (ING_EGR_CTL_DUAL e) = 1) :
    s.egrPaths e = [(s.rd (ING_EGR_CTL_LPORT_A e), false), (s.rd (ING_EGR_CTL_LPORT_B e), true)] := by
  rw [State.egrPaths, if_pos (by simp [State.on, h])]

/-- Only a channel in DUAL has two paths: A and B. -/
theorem State.egrPaths_two {x y : Nat × Bool} (h : s.egrPaths e = [x, y]) :
    s.rd (ING_EGR_CTL_DUAL e) = 1 ∧ x = (s.rd (ING_EGR_CTL_LPORT_A e), false) ∧ y = (s.rd (ING_EGR_CTL_LPORT_B e), true) := by
  by_cases hd : s.rd (ING_EGR_CTL_DUAL e) = 1
  · rw [State.egrPaths_dual hd, List.cons.injEq, List.cons.injEq] at h
    exact ⟨hd, h.1.symm, h.2.1.symm⟩
  · rw [State.egrPaths_one hd] at h
    cases h

/-- The next packet, offered to every path in turn. -/
def State.egrLeaves (s : State) (e : Nat) (rtp : List Byte) : State := s.each (s.egrPaths e) (fun q t => t.egrLeave e rtp q)

/-- It leaves by none while all are closed. -/
theorem State.egrLeaves_closed (rtp : List Byte) (h : ∀ q ∈ s.egrPaths e, s.pathClosed e q.1) : s.egrLeaves e rtp = s :=
  s.each_fixed _ _ fun q hmem => State.egrLeave_closed (h q hmem)

section
variable {a : EgrAu} {as : List EgrAu} (hq : (s.egr e).queue = a :: as) (rtp : List Byte)
include hq

theorem State.egrLeaves_one {x : Nat × Bool} (hx : s.egrPaths e = [x]) (hg : a.gone = []) (hopen : s.pathOpen e x.1) :
    s.egrLeaves e rtp = s.leftBy e a as rtp x := by
  rw [State.egrLeaves, hx, State.each_cons, State.each_nil, State.egrLeave_open hq rtp (by simp [hg]) hopen]

section
variable {x y : Nat × Bool} (hxy : s.egrPaths e = [x, y]) (hport : x.1 ≠ y.1)
include hxy hport

/-- Once it has left by path A, the turn on path B's port is what it was. -/
theorem State.leftBy_first_egrTurn : (s.leftBy e a as rtp x).egrTurn y.1 = s.egrTurn y.1 := by
  refine State.leftBy_egrTurn hq rtp hport.symm fun q hmem hlp => ?_
  obtain ⟨_, rfl, rfl⟩ := State.egrPaths_two hxy
  rw [hxy] at hmem
  obtain rfl | hmem := List.mem_cons.mp hmem
  · exact absurd hlp hport
  · rw [List.mem_singleton.mp hmem]
    exact Bool.noConfusion

/-- With path A open alone it leaves by path A. -/
theorem State.egrLeaves_first (hg : a.gone = []) (hopen : s.pathOpen e x.1) (hclosed : s.pathClosed e y.1) :
    s.egrLeaves e rtp = s.leftBy e a as rtp x := by
  have hstill : (s.leftBy e a as rtp x).pathClosed e y.1 := by
    rw [State.pathClosed, State.leftBy_first_egrTurn hq rtp hxy hport]
    exact hclosed
  rw [State.egrLeaves, hxy, State.each_cons, State.each_cons, State.each_nil, State.egrLeave_open hq rtp (by simp [hg]) hopen,
    State.egrLeave_closed hstill]

/-- With both open it leaves by both. -/
theorem State.egrLeaves_two (hg : a.gone = []) (hx : s.pathOpen e x.1) (hy : s.pathOpen e y.1) :
    s.egrLeaves e rtp = (s.leftBy e a as rtp x).leftBy e (a.leftBy x.2) as rtp y := by
  have hstill : (s.leftBy e a as rtp x).pathOpen e y.1 := by
    rw [State.pathOpen, State.leftBy_first_egrTurn hq rtp hxy hport]
    exact hy
  have hfresh : y.2 ∉ (a.leftBy x.2).gone := by
    obtain ⟨_, rfl, rfl⟩ := State.egrPaths_two hxy
    simp [EgrAu.leftBy, hg]
  rw [State.egrLeaves, hxy, State.each_cons, State.each_cons, State.each_nil, State.egrLeave_open hq rtp (by simp [hg]) hx,
    State.egrLeave_open (congrArg Egr.queue (s.leftBy_egr ..)) rtp hfresh hstill]

end

end

/-! ### A packet that has left by all its paths -/

/-- In state `w` the next packet of channel `e` has left by all its paths: `s` has changed in the record of the channel and in what
has left the device. -/
structure LeftByAll (s : State) (e : Nat) (a : EgrAu) (as : List EgrAu) (rtp : List Byte) (w : State) : Prop where
  leaves : s.egrLeaves e rtp = w
  channel : ∃ g, (∀ q ∈ s.egrPaths e, q.2 ∈ g) ∧ w.egr e = { s.egr e with queue := { a with gone := g } :: as }
  flds : w.flds = s.flds
  hbm : w.hbm = s.hbm
  pool : w.pool = s.pool
  outA : s.rd (ING_EGR_CTL_DUAL e) ≠ 1 → s.portUp (s.rd (ING_EGR_CTL_LPORT_A e)) = true → ∃ id, w.out =
    .frame (s.rd (ING_EGR_CTL_LPORT_A e)) (s.egrFrame e (s.rd (ING_EGR_CTL_LPORT_A e)) false rtp id) :: s.out
  outAB : s.rd (ING_EGR_CTL_DUAL e) = 1 → s.portUp (s.rd (ING_EGR_CTL_LPORT_A e)) = true → s.portUp (s.rd (ING_EGR_CTL_LPORT_B e)) = true →
    ∃ idA idB, w.out = .frame (s.rd (ING_EGR_CTL_LPORT_B e)) (s.egrFrame e (s.rd (ING_EGR_CTL_LPORT_B e)) true rtp idB) ::
      .frame (s.rd (ING_EGR_CTL_LPORT_A e)) (s.egrFrame e (s.rd (ING_EGR_CTL_LPORT_A e)) false rtp idA) :: s.out

theorem LeftByAll.rd {a : EgrAu} {as : List EgrAu} {rtp : List Byte} {w : State} (h : LeftByAll s e a as rtp w) (F : Fld) :
    w.rd F = s.rd F := by
  rw [State.rd, State.rd, h.flds]

/-- With every path open it leaves by all (R150, R151). -/
theorem LeftByAll.of_open {a : EgrAu} {as : List EgrAu} (rtp : List Byte) (hq : (s.egr e).queue = a :: as) (hg : a.gone = [])
    (hports : s.rd (ING_EGR_CTL_DUAL e) = 1 → s.rd (ING_EGR_CTL_LPORT_A e) ≠ s.rd (ING_EGR_CTL_LPORT_B e))
    (hopen : ∀ q ∈ s.egrPaths e, s.pathOpen e q.1) : ∃ w, LeftByAll s e a as rtp w := by
  by_cases hd : s.rd (ING_EGR_CTL_DUAL e) = 1
  · have hpaths := State.egrPaths_dual hd
    rw [hpaths] at hopen
    refine ⟨_, State.egrLeaves_two hq rtp hpaths (hports hd) hg (hopen _ (by simp)) (hopen _ (by simp)),
      ⟨[true, false], ?_, ?_⟩, rfl, rfl, rfl, fun hne => absurd hd hne,
      fun _ hA hB => ⟨Config.freeValue s.fresh, Config.freeValue (s.fresh + 1), ?_⟩⟩
    · simp [hpaths]
    · rw [State.leftBy_egr, State.leftBy_egr, EgrAu.leftBy, EgrAu.leftBy, hg]
    · exact (if_pos hB).trans (congrArg _ (if_pos hA))
  · have hpaths := State.egrPaths_one hd
    rw [hpaths] at hopen
    refine ⟨_, State.egrLeaves_one hq rtp hpaths hg (hopen _ (by simp)),
      ⟨[false], ?_, ?_⟩, rfl, rfl, rfl, fun _ hA => ⟨_, if_pos hA⟩, fun hd' => absurd hd' hd⟩
    · simp [hpaths]
    · rw [State.leftBy_egr, EgrAu.leftBy, hg]

/-- The packet at the head of the channel is over and `ps` are left of its access unit: it counts, and the sequence number
advances (R150). -/
def State.packetOver (s : State) (e : Nat) (ps : List (List Byte)) : State :=
  (s.bump (ING_EGR_PKTS e)).modEgr e (fun r => { r with
    seq := (r.seq + 1) % 65536
    queue := r.queue.zipIdx.map (fun q => if q.2 = 0 then { q.1 with packets := ps, sent := q.1.sent + 1, gone := [] } else q.1) })

section
variable {a : EgrAu} {as : List EgrAu}

theorem State.packetOver_egr (hq : (s.egr e).queue = a :: as) (ps : List (List Byte)) :
    (s.packetOver e ps).egr e =
      { seq := ((s.egr e).seq + 1) % 65536, queue := { a with packets := ps, sent := a.sent + 1, gone := [] } :: as } := by
  rw [State.packetOver, State.egr_modEgr, ← map_zipIdx_head (fun b : EgrAu => { b with packets := ps, sent := b.sent + 1, gone := [] }),
    ← hq]
  rfl

theorem State.packetOver_pkts (s : State) (e : Nat) (ps : List (List Byte)) :
    (s.packetOver e ps).rd (ING_EGR_PKTS e) = (s.rd (ING_EGR_PKTS e) + 1) % 2 ^ 32 := State.rd_wr_same ..

theorem State.packetOver_rd (s : State) (e : Nat) (ps : List (List Byte)) {G : Fld} (h : G.key ≠ (ING_EGR_PKTS e).key) :
    (s.packetOver e ps).rd G = s.rd G := State.rd_wr_ne _ _ _ _ h

variable (hq : (s.egr e).queue = a :: as) {p : List Byte} {ps : List (List Byte)} (hp : a.packets = p :: ps)
include hq hp

/-- What sending the next packet comes to: it waits for a path, or it is over, and with it perhaps the access unit (R151, R152). -/
theorem State.egrSend_packet :
    s.egrSend e =
      let u := s.egrLeaves e (s.rtpPacket e a p ps.isEmpty)
      if (u.egrPaths e).any (fun q => !(u.egrGone e).contains q.2) then u
      else if ps.isEmpty then (u.packetOver e ps).egrAuEnd e a else u.packetOver e ps := by
  simp only [State.egrSend, hq, hp]
  rfl

/-- A path by which it has not left keeps it. -/
theorem State.egrSend_waits {u : State} (hu : s.egrLeaves e (s.rtpPacket e a p ps.isEmpty) = u) {q : Nat × Bool} (hmem : q ∈ u.egrPaths e)
    (hgone : q.2 ∉ u.egrGone e) : s.egrSend e = u := by
  rw [State.egrSend_packet hq hp, hu]
  exact if_pos (List.any_eq_true.mpr ⟨q, hmem, by simpa using hgone⟩)

/-- Else it is over. -/
theorem State.egrSend_over {u : State} (hu : s.egrLeaves e (s.rtpPacket e a p ps.isEmpty) = u)
    (hgone : ∀ q ∈ u.egrPaths e, q.2 ∈ u.egrGone e) :
    s.egrSend e = if ps.isEmpty then (u.packetOver e ps).egrAuEnd e a else u.packetOver e ps := by
  rw [State.egrSend_packet hq hp, hu]
  exact if_neg (by simpa using hgone)

end

end

/-! ### The commands -/

section
variable {s : State} (hs : s.held = false)
include hs

theorem exec_stateChangeReport (lp : Fin 8) :
    exec (.stateChangeReport lp) s = .next (if s.unitUp mEGR then s.stateChange lp else s).settle := State.finish_on _ hs

theorem exec_currentStateReport (lp : Fin 8) :
    exec (.currentStateReport lp) s = .next (if s.unitUp mEGR then s.currentState lp else s).settle := State.finish_on _ hs

theorem exec_egressPacketDue (e : Fin 8) :
    exec (.egressPacketDue e) s = .next (if s.egrDue e then s.egrSend e else s).settle := State.finish_on _ hs

theorem exec_egressDisable (e : Fin 8) : exec (.egressDisable e) s = .next (s.egressDisable e).settle := State.finish_on _ hs

/-- STATE_CHANGE_REPORT of a due report: it is sent, and scheduled again within one URI while repeats are left (R137). -/
theorem stateChangeReport_due (lp : Fin 8) {r : Report} (hup : s.unitUp mEGR = true) (hr : s.dueReport lp false = some r) :
    (r.left = 0 → exec (.stateChangeReport lp) s = .next (s.changeSent lp r).settle) ∧
    (r.left ≠ 0 → ∃ d, d < max (s.changeSent lp r).uriNs 1 ∧
      exec (.stateChangeReport lp) s = .next ((s.changeSent lp r).reportAgain r d).settle) := by
  rw [exec_stateChangeReport hs, if_pos hup, State.stateChange_due hr]
  refine ⟨fun hl => by rw [if_pos hl], fun hl => ⟨_, ?_, by rw [if_neg hl]⟩⟩
  exact Nat.mod_lt _ (by omega)

section
variable {e : Fin 8} {a : EgrAu} {as : List EgrAu} {p : List Byte} {ps : List (List Byte)} (hdue : s.egrDue e = true)
  (hq : (s.egr e).queue = a :: as) (hp : a.packets = p :: ps)
include hdue hq hp

/-- EGRESS_PACKET_DUE with every path open: the packet is over (R150, R151, R152). -/
theorem egressPacketDue_open {w : State} (hw : LeftByAll s e a as (s.rtpPacket e a p ps.isEmpty) w) :
    ((w.packetOver e ps).egr e).seq = ((s.egr e).seq + 1) % 65536 ∧
      ((w.packetOver e ps).egr e).queue = { a with packets := ps, sent := a.sent + 1, gone := [] } :: as ∧
      (ps ≠ [] → exec (.egressPacketDue e) s = .next (w.packetOver e ps).settle) ∧
      (ps = [] → exec (.egressPacketDue e) s = .next ((w.packetOver e ps).egrAuEnd e a).settle) := by
  obtain ⟨g, hgone, hegr⟩ := hw.channel
  have hwq : (w.egr e).queue = { a with gone := g } :: as := by rw [hegr]
  have hseq : (w.egr e).seq = (s.egr e).seq := by rw [hegr]
  have hpaths : w.egrPaths e = s.egrPaths e := by
    unfold State.egrPaths State.on
    rw [hw.rd, hw.rd, hw.rd]
  rw [State.packetOver_egr hwq, exec_egressPacketDue hs, if_pos hdue,
    State.egrSend_over hq hp hw.leaves (by rwa [State.egrGone_eq hwq, hpaths]), hseq]
  exact ⟨rfl, rfl, fun h => by rw [if_neg (by simpa using h)], fun h => by rw [if_pos (by simp [h])]⟩

/-- With every path closed nothing leaves. -/
theorem egressPacketDue_closed (hg : a.gone = []) (hclosed : ∀ q ∈ s.egrPaths e, s.pathClosed e q.1) :
    exec (.egressPacketDue e) s = .next s.settle := by
  rw [exec_egressPacketDue hs, if_pos hdue, State.egrSend_waits hq hp (State.egrLeaves_closed _ hclosed) List.mem_cons_self
    (by simp [State.egrGone_eq hq, hg])]

/-- With path A open alone it leaves by A, and waits for B. -/
theorem egressPacketDue_first (hg : a.gone = []) {x y : Nat × Bool} (hxy : s.egrPaths e = [x, y]) (hport : x.1 ≠ y.1)
    (hopen : s.pathOpen e x.1) (hclosed : s.pathClosed e y.1) :
    ∃ t, exec (.egressPacketDue e) s = .next t ∧ (t.egr e).queue = { a with gone := [x.2] } :: as ∧ (t.egr e).seq = (s.egr e).seq ∧
      RegsKept [] s t ∧ t.hbm = s.hbm ∧ t.pool = s.pool := by
  have hwait : y.2 ∉ (s.leftBy e a as (s.rtpPacket e a p ps.isEmpty) x).egrGone e := by
    obtain ⟨_, rfl, rfl⟩ := State.egrPaths_two hxy
    rw [State.egrGone_eq (congrArg Egr.queue (s.leftBy_egr ..)), EgrAu.leftBy, hg]
    simp
  have hrun := exec_egressPacketDue hs e
  rw [if_pos hdue, State.egrSend_waits hq hp (State.egrLeaves_first hq _ hxy hport hg hopen hclosed) (q := y) (by
    change y ∈ s.egrPaths e
    simp [hxy]) hwait] at hrun
  have hegr := s.leftBy_egr e a as (s.rtpPacket e a p ps.isEmpty) x
  refine ⟨_, hrun, ?_, ?_, .settle (.of_flds rfl (.refl _ s)), by rw [State.settle_hbm]; rfl, by rw [State.settle_pool]; rfl⟩
  · rw [State.egr, State.settle_ing]
    refine (congrArg Egr.queue hegr).trans ?_
    rw [EgrAu.leftBy, hg]
  · rw [State.egr, State.settle_ing]
    exact (congrArg Egr.seq hegr :)

end

end

/-- Settles O55: reports and channels case by case, the next packet by the paths that are open to it. -/
theorem reportsAndEgressPackets : Obligations.ReportsAndEgressPackets := by
  intro s lp e hs
  refine ⟨fun r hup hr => ?_, fun r hup hr => ?_, fun hnot => ?_, fun hnot => ?_,
    fun a as p ps ports hdue hq hp hg hports hdual => ⟨fun hopen => ?_, fun x y hxy hr ht hclosed => ?_, fun hclosed => ?_⟩,
    fun hdue => ?_, fun hdue => ?_, exec_egressDisable hs e⟩
  · exact stateChangeReport_due hs lp hup hr
  · rw [exec_currentStateReport hs, if_pos hup, State.currentState_due hr]
  · rw [exec_stateChangeReport hs]
    obtain hdown | hnone := hnot
    · rw [if_neg (by simp [hdown])]
    · rw [State.stateChange_none hnone, ite_self]
  · rw [exec_currentStateReport hs]
    obtain hdown | hnone := hnot
    · rw [if_neg (by simp [hdown])]
    · rw [State.currentState_none hnone, ite_self]
  · subst hports
    obtain ⟨w, hw⟩ := LeftByAll.of_open (s.rtpPacket e a p ps.isEmpty) hq hg hdual hopen
    obtain ⟨hseq, hqueue, hmore, hlast⟩ := egressPacketDue_open hs hdue hq hp hw
    refine ⟨w.packetOver e ps, hseq, ?_, ?_, ?_, fun G hG => ?_, hw.hbm, hw.pool, hw.outA, hw.outAB, hmore, hlast⟩
    · rw [hqueue, ← hg]
      rfl
    · rw [hqueue, hq, List.length_cons, List.length_cons]
    · rw [State.packetOver_pkts, hw.rd]
    · rw [State.packetOver_rd _ _ _ hG, hw.rd]
  · have hpaths := hports ▸ hxy
    obtain ⟨hd, rfl, rfl⟩ := State.egrPaths_two hpaths
    exact egressPacketDue_first hs hdue hq hp hg hpaths (hdual hd) ⟨hr, ht⟩ hclosed
  · exact egressPacketDue_closed hs hdue hq hp hg (hports ▸ hclosed)
  · rw [exec_egressPacketDue hs, if_pos hdue]
  · rw [exec_egressPacketDue hs, if_neg (by simp [hdue])]

end Sys2Proof.Machine

/-! # Watchdogs and parity errors of microwords -/

namespace Sys2Proof.Machine

open R

/-- What sequencer `q` leaves when it meets a parity error at address `a` and its work has ended: the word is marked, counted and
reported, and the unit is stopped until the fault has been taken (R538; DEDUCED, log entry 49). -/
def State.stopAtWord (s : State) (q a : Nat) : State :=
  let u := ((s.badWord q a).bump (UCS_PARITY_CNT q)).raise { cls := 10, master := seqMaster q, access := 5, addr := a }
  { u with pwr := { u.pwr with stopped := u.pwr.stopped ++ [seqMaster q] } }

section
variable {s : State} {q : Nat} (a : Nat) (hr : s.unitRuns (seqMaster q) = true)
include hr

/-- A decode spindle's sequencer aborts the job of the lead. -/
theorem State.parityError_decode (hq : q < 16) : s.parityError q a = (s.endJob (s.leadOf q) outABORTED 0x15).stopAtWord q a := by
  rw [State.parityError, if_pos hr, if_pos hq]
  rfl

/-- An encode spindle's loses the picture that it codes. -/
theorem State.parityError_encode (hlo : 16 ≤ q) (hhi : q < 20) : s.parityError q a = (s.encDropPic (q - 16)).stopAtWord q a := by
  rw [State.parityError, if_pos hr, if_neg (Nat.not_lt.mpr hlo), if_pos hhi]
  rfl

/-- That of a ply engine or of the carder has no job or picture to end. -/
theorem State.parityError_other (hq : 20 ≤ q) : s.parityError q a = s.stopAtWord q a := by
  rw [State.parityError, if_pos hr, if_neg (by omega), if_neg (Nat.not_lt.mpr hq)]
  rfl

end

/-- The context whose job decode spindle `k` works on, 0xFF without one. -/
def State.ctxWorkedFor (s : State) (k : Nat) : Nat := match (s.spd (s.leadOf k)).cur with | some j => j.job.ctx | none => 0xFF

/-- A decode watchdog trips on a yield span over 8192 cycles or a response that is out beyond the limit (R210). -/
theorem State.watchdogTrip_trips {s : State} {k span us : Nat} (hr : s.unitRuns k = true)
    (hw : 8192 < span ∨ (s.spd k).set.respTo < us) :
    s.watchdogTrip k span us = (((s.endJob (s.leadOf k) outABORTED 0x12).bump (SPD_WDOG_CNT k)).raise
      { cls := 7, master := k, fenced := true,
        ctx := s.ctxWorkedFor k }).fenceReact k := by
  rw [State.watchdogTrip, if_pos (by simpa only [hr, Bool.true_and, Bool.or_eq_true, decide_eq_true_eq] using hw)]
  rfl

/-- An encode watchdog trips on the same two (R262). -/
theorem State.encWatchdog_trips {s : State} {k span us : Nat} (hr : s.unitRuns (0x10 + k) = true)
    (hw : 8192 < span ∨ s.encRespTo k < us) :
    s.encWatchdog k span us = (((s.encDropPic k).bump (SPE_WDOG_CNT k)).raise
      { cls := 9, master := 0x10 + k, fenced := true }).fenceReact (0x10 + k) := by
  rw [State.encWatchdog, if_pos (by simpa only [hr, Bool.true_and, Bool.or_eq_true, decide_eq_true_eq] using hw)]

section
variable {s : State} (hs : s.held = false)
include hs

theorem exec_watchdogTrip (k : Fin 16) (span us : Word) :
    exec (.watchdogTrip k span us) s = .next (s.watchdogTrip k span.toNat us.toNat).settle := State.finish_on _ hs

theorem exec_encWatchdog (k : Fin 4) (span us : Word) :
    exec (.encWatchdog k span us) s = .next (s.encWatchdog k span.toNat us.toNat).settle := State.finish_on _ hs

theorem exec_ucodeParityError (q : Fin 24) (a : Fin 16384) :
    exec (.ucodeParityError q a) s = .next (s.parityError q a).settle := State.finish_on _ hs

end

/-- Settles O19: the watchdogs by what trips them, the parity error by the unit whose sequencer it is. -/
theorem watchdogsAndParityStopTheUnit : Obligations.WatchdogsAndParityStopTheUnit := by
  refine ⟨fun s k span us hs hr hw => ?_, fun s k span us hs hr hw => ?_, fun s q a hs hr hq => ?_, fun s q a hs hr hq => ?_,
    fun s q a hs hr hlo hhi => ?_⟩
  · rw [exec_watchdogTrip hs, State.watchdogTrip_trips hr hw]
    rfl
  · rw [exec_encWatchdog hs, State.encWatchdog_trips hr hw]
  · rw [exec_ucodeParityError hs, State.parityError_other a hr hq]
    rfl
  · rw [exec_ucodeParityError hs, State.parityError_decode a hr hq]
    rfl
  · rw [exec_ucodeParityError hs, State.parityError_encode a hr hlo hhi]
    rfl

end Sys2Proof.Machine

/-! # Encode session commands -/

namespace Sys2Proof.Machine

open R

/-! ### A write of `ENC_CTL` -/

/-- Outside IDLE a command word stores nothing (R225). -/
theorem State.encFields_of_not_idle {s : State} {e : Nat} (w : Nat) (h : s.encState e ≠ encIDLE) : s.encFields e w = s := if_neg h

/-- In IDLE it stores the configuration fields. -/
theorem State.encFields_of_idle {s : State} {e : Nat} (w : Nat) (h : s.encState e = encIDLE) :
    s.encFields e w = ((s.wr (ENC_CTL_CLASS e) (bitsOf w (ENC_CTL_CLASS e).lo (ENC_CTL_CLASS e).width)).wr (ENC_CTL_SOURCE e)
      (bitsOf w (ENC_CTL_SOURCE e).lo (ENC_CTL_SOURCE e).width)).wr (ENC_CTL_CTX e) (bitsOf w (ENC_CTL_CTX e).lo (ENC_CTL_CTX e).width) :=
  if_pos h

/-- The configuration fields have places of their own, and BUSY another. -/
theorem encCtl_key_ne (e : Nat) : (ENC_CTL_CLASS e).key ≠ (ENC_CTL_SOURCE e).key ∧ (ENC_CTL_CLASS e).key ≠ (ENC_CTL_CTX e).key ∧
    (ENC_CTL_SOURCE e).key ≠ (ENC_CTL_CTX e).key ∧ (ENC_STATUS_BUSY e).key ≠ (ENC_CTL_CLASS e).key ∧
    (ENC_STATUS_BUSY e).key ≠ (ENC_CTL_SOURCE e).key ∧ (ENC_STATUS_BUSY e).key ≠ (ENC_CTL_CTX e).key := by
  simp only [Fld.key, ENC_CTL_CLASS, ENC_CTL_SOURCE, ENC_CTL_CTX, ENC_STATUS_BUSY]
  omega

/-- The fields read as the word says. -/
theorem State.encFields_rd {s : State} {e : Nat} (w : Nat) (h : s.encState e = encIDLE) :
    ∀ F ∈ [ENC_CTL_CLASS e, ENC_CTL_SOURCE e, ENC_CTL_CTX e], (s.encFields e w).rd F = bitsOf w F.lo F.width := by
  obtain ⟨hcs, hcx, hsx, -⟩ := encCtl_key_ne e
  rw [State.encFields_of_idle w h]
  simp only [List.forall_mem_cons, List.not_mem_nil, false_imp_iff, implies_true, and_true]
  refine ⟨?_, ?_, ?_⟩
  · rw [State.rd_wr_ne _ _ _ _ hcx, State.rd_wr_ne _ _ _ _ hcs, State.rd_wr_same, bitsOf_mod]
  · rw [State.rd_wr_ne _ _ _ _ hsx, State.rd_wr_same, bitsOf_mod]
  · rw [State.rd_wr_same, bitsOf_mod]

/-- The word written is another than the status word. -/
theorem State.encFields_busy (s : State) (e w : Nat) : (s.encFields e w).rd (ENC_STATUS_BUSY e) = s.rd (ENC_STATUS_BUSY e) := by
  obtain ⟨-, -, -, hc, hs, hx⟩ := encCtl_key_ne e
  by_cases h : s.encState e = encIDLE
  · rw [State.encFields_of_idle w h, State.rd_wr_ne _ _ _ _ hx, State.rd_wr_ne _ _ _ _ hs, State.rd_wr_ne _ _ _ _ hc]
  · rw [State.encFields_of_not_idle w h]

/-- No field of a session's control word shows a condition. -/
theorem encCtl_notCond (e : Fin 16) : ∀ G ∈ [ENC_CTL_CLASS e, ENC_CTL_SOURCE e, ENC_CTL_CTX e], ∀ F ∈ condFlds, G.key ≠ F.key := by
  intro G hG
  refine notCond G ?_
  simp only [List.mem_cons, List.not_mem_nil, or_false] at hG
  obtain rfl | rfl | rfl := hG <;> simp only [Fld.key, ENC_CTL_CLASS, ENC_CTL_SOURCE, ENC_CTL_CTX] <;> omega

/-- Command `c` is a write of `w` to session `e`'s `ENC_CTL` that has effect `g` when the session is not BUSY (R225, R227). -/
def EncActs (e : Fin 16) (w : Word) (c : Instr) (g : State → State) : Prop :=
  ∀ s : State, exec c s = s.finish
    (let t := s.encFields e w.toNat
     if t.on (ENC_STATUS_BUSY e) then t.encReject e 1 else g t)

section
variable (e : Fin 16) (w : Word)

theorem encNop_acts : EncActs e w (.encNop e w) id := fun _ => rfl
theorem encOpen_acts : EncActs e w (.encOpen e w) (fun t => (t.encOpen e).encDispatch) := fun _ => rfl
theorem encStart_acts (hdr rep : Nat) : EncActs e w (.encStart e w hdr rep) (fun t => (t.encStart e hdr rep).encDispatch) := fun _ => rfl
theorem encStop_acts : EncActs e w (.encStop e w) (fun t => (t.encStop e).encDispatch) := fun _ => rfl
theorem encClose_acts : EncActs e w (.encClose e w) (fun t => (t.encClose e).encDispatch) := fun _ => rfl
theorem forceIntra_acts : EncActs e w (.forceIntra e w) (fun t => (t.encForce e).encDispatch) := fun _ => rfl
theorem encRecover_acts : EncActs e w (.encRecover e w) (fun t => (t.encRecover e).encDispatch) := fun _ => rfl

end

section
variable {s : State} {e : Fin 16} {w : Word} {c : Instr} {g : State → State} (hc : EncActs e w c g) (hs : s.held = false)
include hc hs

/-- A session that is not BUSY takes the command. -/
theorem EncActs.ready (hb : (s.encFields e w.toNat).rd (ENC_STATUS_BUSY e) ≠ 1) :
    exec c s = .next (g (s.encFields e w.toNat)).settle := by
  rw [hc s, State.finish_on _ hs]
  simp only [State.on, beq_iff_eq, if_neg hb]

/-- A BUSY one rejects it. -/
theorem EncActs.busy (hb : (s.encFields e w.toNat).rd (ENC_STATUS_BUSY e) = 1) :
    exec c s = .next ((s.encFields e w.toNat).encReject e 1).settle := by
  rw [hc s, State.finish_on _ hs]
  simp only [State.on, beq_iff_eq, if_pos hb]

end

/-! ### The commands, case by case -/

section
variable {s : State} {e : Nat}

/-- OPEN of a session of SOURCE 0 takes the period of its context over, before the configuration is tested (R226). -/
def State.encPeriod (s : State) (e : Nat) : State :=
  if s.rd (ENC_CTL_SOURCE e) = 0 then s.wr (ENC_PERIOD_NS e) (s.rd (STC_PERIOD_PERIOD (s.rd (ENC_CTL_CTX e)))) else s

theorem State.encPeriod_eq_iff (s : State) (e : Nat) :
    s.iff (s.rd (ENC_CTL_SOURCE e) == 0) (fun t => t.wr (ENC_PERIOD_NS e) (t.rd (STC_PERIOD_PERIOD (t.rd (ENC_CTL_CTX e))))) =
      s.encPeriod e := by
  by_cases h : s.rd (ENC_CTL_SOURCE e) = 0 <;> simp [State.iff, State.encPeriod, h]

theorem State.encOpen_wrong (h : s.encState e ≠ encIDLE) : s.encOpen e = s.encReject e 1 := if_pos h

theorem State.encOpen_idle (h : s.encState e = encIDLE) :
    s.encOpen e = if (s.encPeriod e).encOk e then
      (((s.encPeriod e).each (encCounters e) (fun F t => t.wr F 0)).modEnc e (fun r => { busyOn := r.busyOn })).wr
        (ENC_STATUS_STATE e) encOPEN
    else (s.encPeriod e).encReject e 2 := by
  rw [State.encOpen, if_neg (not_not_intro h), State.encPeriod_eq_iff]

/-- START of a capped session shows the sizes that the spindle found for its pictures (R251). -/
def State.encFloor (s : State) (e floorI rep : Nat) : State :=
  if s.capped e = true then (s.wr (ENC_FLOOR_I_BITS e) floorI).wr (ENC_REPEAT_BITS e) rep else s

/-- The size of an intra picture in floor mode, with headers of `hdr` bits (R251). -/
def State.encFloorI (s : State) (e hdr : Nat) : Nat :=
  hdr + 64 * s.encSlices e + s.encUnits e * floorUnit (s.rd (ENC_CODEC_STANDARD e)) true

theorem State.encStart_wrong (hdr rep : Nat) (h : s.encState e ≠ encOPEN ∨ s.wrp.hold.classes.contains (s.encClass e) = true) :
    s.encStart e hdr rep = s.encReject e 1 := if_pos h

section
variable (hdr rep : Nat) (ho : s.encState e = encOPEN) (hw : s.wrp.hold.classes.contains (s.encClass e) = false)
include ho hw

theorem State.encStart_admitted (ha : s.encStartWhy e (s.encFloorI e hdr) rep = 0) {h : Nat} (hh : s.encHome e = some h) :
    s.encStart e hdr rep = ((((((s.encFloor e (s.encFloorI e hdr) rep).wr (ENC_ADMIT_LOAD e) (s.encLoad e)).wr
      (ENC_ADMIT_HOME e) h).releaseRefs e).modEnc e (fun r => { busyOn := r.busyOn, auSeq := r.auSeq })).wr
        (ENC_BUCKET_BITS e) 0).wr (ENC_STATUS_STATE e) encRUNNING := by
  unfold State.encFloorI at ha
  rw [State.encStart, if_neg (not_or.mpr ⟨not_not_intro ho, ne_true_of_eq_false hw⟩)]
  simp only [ha, hh]
  rfl

theorem State.encStart_refused (ha : s.encStartWhy e (s.encFloorI e hdr) rep ≠ 0) :
    s.encStart e hdr rep = ((s.encFloor e (s.encFloorI e hdr) rep).wr (ENC_STATUS_ADMIT_FAIL e) 1).wr (ENC_STATUS_WHY e)
      (s.encStartWhy e (s.encFloorI e hdr) rep) := by
  rw [State.encStart, if_neg (not_or.mpr ⟨not_not_intro ho, ne_true_of_eq_false hw⟩)]
  dsimp only
  split
  · contradiction
  · rfl

end

theorem State.encStop_running (h : s.encState e = encRUNNING) :
    s.encStop e = (((s.dropSrcs e).wr (ENC_STATUS_STATE e) encDRAINING).wr (ENC_STATUS_BUSY e) 1).encDrainEnd e := if_pos h

theorem State.encStop_wrong (h : s.encState e ≠ encRUNNING) : s.encStop e = s.encReject e 1 := if_neg h

theorem State.encClose_stopped (h : s.encState e = encOPEN ∨ s.encState e = encFAULTED) :
    s.encClose e = ((s.releaseRefs e).dropSrcs e).wr (ENC_STATUS_STATE e) encIDLE := if_pos h

theorem State.encClose_wrong (h : ¬ (s.encState e = encOPEN ∨ s.encState e = encFAULTED)) : s.encClose e = s.encReject e 1 := if_neg h

theorem State.encForce_running (h : s.encState e = encRUNNING) : s.encForce e = s.modEnc e (fun r => { r with force := true }) := if_pos h

theorem State.encForce_wrong (h : s.encState e ≠ encRUNNING) : s.encForce e = s.encReject e 1 := if_neg h

theorem State.encRecover_faulted (h : s.encState e = encFAULTED) :
    s.encRecover e = if s.rd (ENC_STATUS_FAULT e) = 1 then s.encReject e 7 else s.wr (ENC_STATUS_STATE e) encOPEN := by
  rw [State.encRecover, if_pos h]
  simp only [State.on, beq_iff_eq]

theorem State.encRecover_wrong (h : s.encState e ≠ encFAULTED) : s.encRecover e = s.encReject e 1 := if_neg h

end

/-! ### A refused pool operation leaves the encoder's registers alone

The fields that it writes are the pool's, memory's, the host interface's, the fault collector's and the counters', whose blocks all
lie from 0x00C00000 on. -/

/-- From `s` to `t` no register field below the pool's block changes. -/
structure KeptBelowPool (s t : State) : Prop where
  rd : ∀ G : Fld, G.key < 0x00C00000 * 32 → t.rd G = s.rd G

theorem poolFld_place (p : Nat) : ∀ F ∈ [POOL_CTL_STATE p, POOL_FREE p, POOL_PARKED p, POOL_STATUS_BROKEN p, POOL_STATUS_MISUSE p,
    POOL_TIMEOUT_CNT p, POOL_MISUSE_CNT p], 0x00C00000 ≤ F.off := by
  simp only [List.forall_mem_cons, List.not_mem_nil, false_imp_iff, implies_true, and_true, POOL_CTL_STATE, POOL_FREE, POOL_PARKED,
    POOL_STATUS_BROKEN, POOL_STATUS_MISUSE, POOL_TIMEOUT_CNT, POOL_MISUSE_CNT]
  omega

theorem hopFld_place (k : Nat) : ∀ F ∈ [POOL_HOP_RES_RESULT k, POOL_HOP_RES_DONE k, POOL_HOP_RADDR_LO k, POOL_HOP_RADDR_HI k,
    POOL_HOP_RMETA_LO k, POOL_HOP_RMETA_HI k], 0x00C00000 ≤ F.off := by
  simp only [List.forall_mem_cons, List.not_mem_nil, false_imp_iff, implies_true, and_true, POOL_HOP_RES_RESULT, POOL_HOP_RES_DONE,
    POOL_HOP_RADDR_LO, POOL_HOP_RADDR_HI, POOL_HOP_RMETA_LO, POOL_HOP_RMETA_HI]
  omega

theorem memCount_place (k : Nat) : ∀ F ∈ [MEM_CE_CNT k, MEM_UE_CNT k, MEM_ODC_CNT k], 0x00C00000 ≤ F.off := by
  simp only [List.forall_mem_cons, List.not_mem_nil, false_imp_iff, implies_true, and_true, MEM_CE_CNT, MEM_UE_CNT, MEM_ODC_CNT]
  omega

theorem fltCount_place (c : Nat) : 0x00C00000 ≤ (FLT_COUNT c).off := by
  simp only [FLT_COUNT]
  omega

namespace KeptBelowPool

theorem refl (s : State) : KeptBelowPool s s := ⟨fun _ _ => rfl⟩

theorem trans {s t u : State} (h : KeptBelowPool s t) (h' : KeptBelowPool t u) : KeptBelowPool s u :=
  ⟨fun G hG => (h'.rd G hG).trans (h.rd G hG)⟩

/-- A change of anything but the register fields. -/
theorem of_flds {s t u : State} (h : KeptBelowPool s t) (hu : u.flds = t.flds) : KeptBelowPool s u :=
  ⟨fun G hG => (show u.rd G = t.rd G by simp only [State.rd, hu]).trans (h.rd G hG)⟩

section
variable {s t : State} (h : KeptBelowPool s t)
include h

/-- A write of a field from the pool's block on. -/
theorem wr {F : Fld} (v : Nat) (hF : 0x00C00000 ≤ F.off) : KeptBelowPool s (t.wr F v) :=
  ⟨fun G hG => (State.rd_wr_ne t F G v (by unfold Fld.key at *; omega)).trans (h.rd G hG)⟩

theorem iff (c : Bool) {f : State → State} (hf : ∀ u, KeptBelowPool u (f u)) : KeptBelowPool s (t.iff c f) :=
  ⟨fun G hG => (State.iff_keeps (·.rd G) c f t ((hf t).rd G hG)).trans (h.rd G hG)⟩

theorem each {α : Type} (l : List α) {f : α → State → State} (hf : ∀ a u, KeptBelowPool u (f a u)) : KeptBelowPool s (t.each l f) :=
  ⟨fun G hG => (State.each_keeps (·.rd G) l f (fun a u _ => (hf a u).rd G hG) t).trans (h.rd G hG)⟩

theorem raise (f : FaultReq) : KeptBelowPool s (t.raise f) := by
  unfold State.raise
  split
  · exact h.of_flds rfl
  · exact (h.wr _ (fltCount_place _)).wr _ (by decide)

theorem countOwn (r : FabReq) (c : Nat) : KeptBelowPool s (t.countOwn r c) :=
  ⟨fun G hG => (t.countOwn_rd r c G (Nat.ne_of_lt (Nat.lt_of_lt_of_le hG (by decide)))).trans (h.rd G hG)⟩

theorem finding (m acc a i f : Nat) : KeptBelowPool s (t.finding m acc a i f) := by
  have hmem := memCount_place ((t.stackOf (64 * i)).getD 0)
  unfold State.finding
  split
  · exact ((h.wr _ (hmem _ (by simp))).wr _ (by decide)).raise _
  · exact ((h.wr _ (hmem _ (by simp))).wr _ (by decide)).raise _
  · exact h.wr _ (hmem _ (by simp))
  · exact h

theorem findings (m acc a n f : Nat) : KeptBelowPool s (t.findings m acc a n f) :=
  h.each _ fun _ u => (refl u).finding ..

theorem respFault (m acc a c : Nat) : KeptBelowPool s (t.respFault m acc a c) := by
  unfold State.respFault
  split
  · exact (h.wr _ (by decide)).raise _
  · split
    · exact h.raise _
    · split
      · exact h.raise _
      · split
        · exact h.raise _
        · exact h

theorem poolReadSeen (a : Nat) : KeptBelowPool s (t.poolReadSeen a) := by
  unfold State.poolReadSeen
  dsimp only
  split
  · exact (h.iff _ fun u => (refl u).findings ..).countOwn ..
  · exact (h.respFault ..).countOwn ..

theorem poolAnswer (r : PoolRes) : KeptBelowPool s (t.poolAnswer r) := by
  unfold State.poolAnswer
  split
  case h_3 k _ =>
    have hk := hopFld_place k
    exact (((h.wr _ (hk _ (by simp))).wr _ (hk _ (by simp))).iff _ fun u =>
      ((refl u).wr _ (hk _ (by simp))).wr _ (hk _ (by simp))).iff _ fun u =>
        ((refl u).wr _ (hk _ (by simp))).wr _ (hk _ (by simp))
  all_goals exact h.of_flds rfl

theorem showParked (p : Nat) : KeptBelowPool s (t.showParked p) := h.wr _ (poolFld_place p _ (by simp))

theorem answerParked (p c : Nat) : KeptBelowPool s (t.answerParked p c) := by
  unfold State.answerParked
  exact showParked (each (h.of_flds (by rfl)) _ fun _ u => (refl u).poolAnswer _) p

theorem poolBreak (p a : Nat) : KeptBelowPool s (t.poolBreak p a) := by
  have hp := poolFld_place p
  unfold State.poolBreak
  split
  · exact h
  · exact (((((h.wr _ (hp _ (by simp))).wr _ (hp _ (by simp))).wr _ (hp _ (by simp))).wr _ (hp _ (by simp))).answerParked p 2).raise _

theorem misuse (p : Option Nat) (r : PoolReq) (c : Nat) : KeptBelowPool s (t.misuse p r c) := by
  cases p with
  | none => exact h.raise _
  | some p => exact ((h.wr _ (poolFld_place p _ (by simp))).wr _ (poolFld_place p _ (by simp))).raise _

end

/-- An operation on a bobbin that is refused keeps what its refused effect keeps. -/
theorem withBob (s : State) (r : PoolReq) (f : State → Nat → Nat → Meta → PoolRes × State)
    (hf : ∀ t p i m, (f t p i m).1.code ≠ 0 → KeptBelowPool t (f t p i m).2) (hr : (s.withBob r f).1.code ≠ 0) :
    KeptBelowPool s (s.withBob r f).2 := by
  have hseen (a : Nat) : KeptBelowPool s (s.poolReadSeen a) := (refl s).poolReadSeen a
  revert hr
  unfold State.withBob
  split
  · split <;> intro _
    · exact (refl s).misuse none r 4
    · exact refl s
  · dsimp only
    split
    · exact fun hr => (hseen _).trans (hf _ _ _ _ hr)
    · split <;> intro _
      · exact KeptBelowPool.of_flds (t := s.poolReadSeen _) (hseen _) rfl
      · exact (hseen _).poolBreak ..

/-- A SHARE that is refused (R376). -/
theorem poolShare (s : State) (r : PoolReq) (hr : (s.poolShare r).1.code ≠ 0) : KeptBelowPool s (s.poolShare r).2 := by
  revert hr
  unfold State.poolShare
  split
  · exact fun _ => refl s
  · refine withBob s r _ fun t p i m => ?_
    split
    · exact fun _ => refl t
    · split
      · exact fun _ => refl t
      · split
        · exact fun _ => (refl t).misuse (some p) r 4
        · split
          · exact fun _ => refl t
          · exact fun hr => absurd rfl hr

end KeptBelowPool

/-! ### The hold of a host source (R231, R235) -/

/-- The reference that a session asks for on a host source, which names no generation. -/
def hostHold (addr : Nat) : PoolReq := { master := mCTX, op := 2, addr := addr, add := 1 }

/-- The pool's answer to it, and the state it leaves. -/
def State.hostHeld (s : State) (addr : Nat) : PoolRes × State := (s.poolAsked (hostHold addr)).poolOp (hostHold addr)

/-- A refused hold leaves SOURCE as it is. -/
theorem State.hostHeld_source (s : State) (e : Fin 16) (addr : Nat) (h : (s.hostHeld addr).1.code ≠ 0) :
    (s.hostHeld addr).2.rd (ENC_CTL_SOURCE e) = s.rd (ENC_CTL_SOURCE e) :=
  (((KeptBelowPool.refl s).countOwn ..).trans (KeptBelowPool.poolShare _ (hostHold addr) h)).rd _
    (by simp only [Fld.key, ENC_CTL_SOURCE]; omega)

section
variable {s : State} {e : Fin 16} {x : Src} (hsrc : s.rd (ENC_CTL_SOURCE e) = 1) (hgen : x.gen = 0)
include hsrc

/-- A session of SOURCE 1 keeps the capture time of a source that has no picture. -/
theorem State.srcGone_host : s.srcGone e x = ({ x with addr := 0, missing := true, ask := false }, s) := if_pos hsrc

include hgen

/-- What it makes of a submission, by the pool's answer. -/
theorem State.askSrc_host :
    s.askSrc e x = if (s.hostHeld x.addr).1.code = poolWaits then ({ x with ask := true }, s)
      else if (s.hostHeld x.addr).1.code = 0 then
        let r := (s.hostHeld x.addr).2.srcRecord e x.addr
        ({ x with gen := (s.hostHeld x.addr).1.word / 2 ^ 32, missing := !r.1.1, concealed := r.1.2.1, ask := false }, r.2)
      else (s.hostHeld x.addr).2.srcGone e x := by
  simp only [State.askSrc, hsrc, hgen, BEq.rfl, Bool.not_true, not_true_eq_false, and_false, if_false, if_true]
  rfl

theorem State.askSrc_held (hc : (s.hostHeld x.addr).1.code = 0) :
    s.askSrc e x =
      let r := (s.hostHeld x.addr).2.srcRecord e x.addr
      ({ x with gen := (s.hostHeld x.addr).1.word / 2 ^ 32, missing := !r.1.1, concealed := r.1.2.1, ask := false }, r.2) := by
  rw [State.askSrc_host hsrc hgen, if_neg (by rw [hc]; decide), if_pos hc]

theorem State.askSrc_waits (hc : (s.hostHeld x.addr).1.code = poolWaits) : s.askSrc e x = ({ x with ask := true }, s) := by
  rw [State.askSrc_host hsrc hgen, if_pos hc]

theorem State.askSrc_refused (hc : (s.hostHeld x.addr).1.code ≠ 0) (hw : (s.hostHeld x.addr).1.code ≠ poolWaits) :
    s.askSrc e x = ({ x with addr := 0, missing := true, ask := false }, (s.hostHeld x.addr).2) := by
  rw [State.askSrc_host hsrc hgen, if_neg hw, if_neg hc,
    State.srcGone_host ((s.hostHeld_source e x.addr hc).trans hsrc)]

end

/-! ### A host source reaches a session -/

section
variable {s t : State} {e : Nat} {x y : Src} (hx : x.q = s.stamp.1) (ha : s.stamp.2.askSrc e x = (y, t))
include hx ha

/-- A source whose hold has been answered is queued (R231). -/
theorem State.takeSrc_answered (hy : y.ask = false) : s.takeSrc e x = t.queueSrc e y := by
  simp only [State.takeSrc, ← hx, ha, hy]
  rfl

/-- One whose hold waits is queued where there is room, and asked for again (R16). -/
theorem State.takeSrc_waits (hy : y.ask = true) (hq : (t.enc e).srcs.length < 16) :
    s.takeSrc e x = (t.queueSrc e y).again (.take e (t.enc e).taken) := by
  simp only [State.takeSrc, ← hx, ha, hy, hq, decide_true, Bool.and_self, State.iff_true]

end

/-- The source that a submission of address bits [40:32] `hi` hands to session `e`, stamped now (R235). -/
def State.hostSrc (s : State) (e hi : Nat) : Src :=
  { addr := 2 ^ 32 * (hi % 512) + s.rd (ENC_SRC_LO e), t := 2 ^ 32 * s.rd (ENC_SRC_TIME_HI e) + s.rd (ENC_SRC_TIME_LO e), q := s.stamp.1 }

section
variable {s : State} {e : Fin 16} (hi : Nat)

/-- It is ignored unless the session is RUNNING and of SOURCE 1. -/
theorem State.encSubmit_ignored (h : s.encState e ≠ encRUNNING ∨ s.rd (ENC_CTL_SOURCE e) ≠ 1) : s.encSubmit e hi = s := if_pos h

section
variable (hrun : s.encState e = encRUNNING) (hsrc : s.rd (ENC_CTL_SOURCE e) = 1)
include hrun hsrc

/-- It is skipped when 16 sources are queued. -/
theorem State.encSubmit_full (hq : 16 ≤ (s.enc e).srcs.length) :
    s.encSubmit e hi = (s.wr (ENC_STATUS_SKIP e) 1).bump (ENC_SKIP_CNT e) := by
  rw [State.encSubmit, if_neg (by simp [hrun, hsrc]), if_pos hq]

section
variable (hq : (s.enc e).srcs.length < 16)
include hq

/-- Else the session takes it. -/
theorem State.encSubmit_room : s.encSubmit e hi = (s.takeSrc e (s.hostSrc e hi)).encDispatch := by
  rw [State.encSubmit, if_neg (by simp [hrun, hsrc]), if_neg (Nat.not_le.mpr hq)]
  rfl

/-- A source whose hold the pool grants is queued with its generation and what its record says. -/
theorem State.encSubmit_held (hc : (s.stamp.2.hostHeld (s.hostSrc e hi).addr).1.code = 0) :
    s.encSubmit e hi =
      let o := s.stamp.2.hostHeld (s.hostSrc e hi).addr
      let r := o.2.srcRecord e (s.hostSrc e hi).addr
      (r.2.queueSrc e { s.hostSrc e hi with
        gen := o.1.word / 2 ^ 32, missing := !r.1.1, concealed := r.1.2.1, ask := false }).encDispatch := by
  rw [State.encSubmit_room hi hrun hsrc hq,
    State.takeSrc_answered (x := s.hostSrc e hi) rfl (State.askSrc_held hsrc rfl hc) rfl]

/-- One whose hold meets RETRY is queued, and asked for again. -/
theorem State.encSubmit_waits (hc : (s.stamp.2.hostHeld (s.hostSrc e hi).addr).1.code = poolWaits) :
    s.encSubmit e hi =
      ((s.stamp.2.queueSrc e { s.hostSrc e hi with ask := true }).again (.take e (s.enc e).taken)).encDispatch := by
  rw [State.encSubmit_room hi hrun hsrc hq,
    State.takeSrc_waits (x := s.hostSrc e hi) rfl (State.askSrc_waits hsrc rfl hc) rfl hq]
  rfl

/-- One whose hold is refused is queued as missing. -/
theorem State.encSubmit_refused (hc : (s.stamp.2.hostHeld (s.hostSrc e hi).addr).1.code ≠ 0)
    (hw : (s.stamp.2.hostHeld (s.hostSrc e hi).addr).1.code ≠ poolWaits) :
    s.encSubmit e hi = ((s.stamp.2.hostHeld (s.hostSrc e hi).addr).2.queueSrc e
      { s.hostSrc e hi with addr := 0, missing := true, ask := false }).encDispatch := by
  rw [State.encSubmit_room hi hrun hsrc hq,
    State.takeSrc_answered (x := s.hostSrc e hi) rfl (State.askSrc_refused hsrc rfl hc hw) rfl]

end

end

end

/-! ### The obligation -/

theorem exec_encSrcSubmit {s : State} {e : Fin 16} {hi : Word} (hs : s.held = false) :
    exec (.encSrcSubmit e hi) s = .next (s.encSubmit e hi.toNat).settle := State.finish_on _ hs

/-- NOP in IDLE stores the three fields of the word and nothing else (R225). -/
theorem encNop_stores {s : State} (e : Fin 16) (w : Word) (hs : s.held = false) (hi : s.encState e = encIDLE)
    (hb : s.rd (ENC_STATUS_BUSY e) ≠ 1) :
    ∃ t, exec (.encNop e w) s = .next t ∧
      (∀ F ∈ [ENC_CTL_CLASS e, ENC_CTL_SOURCE e, ENC_CTL_CTX e], t.rd F = bitsOf w.toNat F.lo F.width) ∧
      RegsKept [ENC_CTL_CLASS e, ENC_CTL_SOURCE e, ENC_CTL_CTX e] s t ∧ t.encs = s.encs := by
  refine ⟨_, (encNop_acts e w).ready hs (by rwa [State.encFields_busy]), fun F hF => ?_, ?_, ?_⟩
  · exact (State.rd_settle _ F (encCtl_notCond e F hF)).trans (State.encFields_rd _ hi F hF)
  · rw [State.encFields_of_idle _ hi]
    exact .settle (.wr _ _ (by simp) (.wr _ _ (by simp) (.wr _ _ (by simp) (.refl _ s))))
  · rw [State.encFields_of_idle _ hi]
    exact State.settle_encs _

/-- Settles O56: a BUSY session rejects every command; else each has its effect above, and a host source what the pool answers. -/
theorem encodeSessionCommands : Obligations.EncodeSessionCommands := by
  intro s e w hs
  refine ⟨fun hi hb => ?_, fun hi => ⟨State.encFields_of_not_idle _ hi, fun hb => ?_⟩, fun hb hdr rep => ?_,
    fun hb => ⟨⟨fun hi hok => ?_, fun hi hok => ?_⟩, fun hi => ?_, fun hdr rep h => ?_,
      fun hdr rep ho hw => ⟨fun h ha hh => ?_, fun ha => ?_⟩, fun h => ?_, fun h => ⟨?_, ?_⟩, fun h => ?_, fun ho hf => ?_,
      fun h => ?_, fun h hf => ?_, fun h hf => ?_, fun h => ?_⟩,
    fun hi => ⟨fun h => ?_, fun hrun hsrc hq => ?_, fun hrun hsrc hq => ⟨fun hc => ?_, fun hc => ?_, fun hc hw => ?_⟩⟩⟩
  · obtain ⟨t, ht, hrd, hkept, hencs⟩ := encNop_stores e w hs hi hb
    simp only [List.forall_mem_cons, List.not_mem_nil, false_imp_iff, implies_true, and_true] at hrd
    obtain ⟨hclass, hsource, hctx⟩ := hrd
    exact ⟨t, ht, hclass, hsource, hctx, hkept, hencs⟩
  · rw [(encNop_acts e w).ready hs (by rwa [State.encFields_busy]), State.encFields_of_not_idle _ hi]
    rfl
  · simp only [List.forall_mem_cons, List.not_mem_nil, false_imp_iff, implies_true, and_true]
    exact ⟨(encNop_acts e w).busy hs hb, (encOpen_acts e w).busy hs hb, (encStart_acts e w hdr rep).busy hs hb,
      (encStop_acts e w).busy hs hb, (encClose_acts e w).busy hs hb, (forceIntra_acts e w).busy hs hb, (encRecover_acts e w).busy hs hb⟩
  · rw [(encOpen_acts e w).ready hs hb, State.encOpen_idle hi]
    exact congrArg (fun t : State => Host.Outcome.next t.encDispatch.settle) (if_pos hok)
  · rw [(encOpen_acts e w).ready hs hb, State.encOpen_idle hi]
    exact congrArg (fun t : State => Host.Outcome.next t.encDispatch.settle) (if_neg (ne_true_of_eq_false hok))
  · rw [(encOpen_acts e w).ready hs hb, State.encOpen_wrong hi]
  · rw [(encStart_acts e w hdr rep).ready hs hb, State.encStart_wrong hdr rep h]
  · rw [(encStart_acts e w hdr rep).ready hs hb, State.encStart_admitted hdr rep ho hw ha hh]
    rfl
  · rw [(encStart_acts e w hdr rep).ready hs hb, State.encStart_refused hdr rep ho hw ha]
    rfl
  · rw [(encStop_acts e w).ready hs hb, State.encStop_running h]
  · rw [(encStop_acts e w).ready hs hb, State.encStop_wrong h]
  · rw [(forceIntra_acts e w).ready hs hb, State.encForce_wrong h]
  · rw [(encClose_acts e w).ready hs hb, State.encClose_stopped h]
  · rw [(encClose_acts e w).ready hs hb, State.encClose_wrong (not_or.mpr ⟨ho, hf⟩)]
  · rw [(forceIntra_acts e w).ready hs hb, State.encForce_running h]
  · rw [(encRecover_acts e w).ready hs hb, State.encRecover_faulted h, if_neg hf]
  · rw [(encRecover_acts e w).ready hs hb, State.encRecover_faulted h, if_pos hf]
  · rw [(encRecover_acts e w).ready hs hb, State.encRecover_wrong h]
  · rw [exec_encSrcSubmit hs, State.encSubmit_ignored _ h]
  · rw [exec_encSrcSubmit hs, State.encSubmit_full _ hrun hsrc hq]
  · rw [exec_encSrcSubmit hs, State.encSubmit_held _ hrun hsrc hq hc]
    rfl
  · rw [exec_encSrcSubmit hs, State.encSubmit_waits _ hrun hsrc hq hc]
    rfl
  · rw [exec_encSrcSubmit hs, State.encSubmit_refused _ hrun hsrc hq hc hw]
    rfl

end Sys2Proof.Machine

/-! # Commits of the shadow tables -/

namespace Sys2Proof.Machine

open R

/-! ### Setting one bit of a number -/

theorem bitSet_eq_testBit (v i : Nat) : bitSet v i = v.testBit i := by
  rw [bitSet, bitOf, Nat.testBit_eq_decide_div_mod_eq]
  rfl

/-- Adding a bit that is 0 carries into no higher bit. -/
theorem div_add_two_pow {v i j : Nat} (hv : v / 2 ^ i % 2 = 0) (hij : i < j) : (v + 2 ^ i) / 2 ^ j = v / 2 ^ j := by
  obtain ⟨k, rfl⟩ := Nat.exists_eq_add_of_lt hij
  have hpow : 2 ^ (i + k + 1) = 2 ^ i * 2 * 2 ^ k := by
    rw [Nat.pow_succ, Nat.pow_add, Nat.mul_right_comm]
  have hhalf : (v / 2 ^ i + 1) / 2 = v / 2 ^ i / 2 := by omega
  simp only [hpow, ← Nat.div_div_eq_div_mul, Nat.add_div_right _ (Nat.two_pow_pos i), hhalf]

/-- Setting bit `i` sets it and leaves every other bit alone. -/
theorem bitSet_withBit (v i j : Nat) : bitSet (withBit v i) j = (bitSet v j || j == i) := by
  unfold withBit
  split
  case isTrue hset =>
    obtain rfl | hne := Decidable.em (i = j)
    · simp only [hset, beq_self_eq_true, Bool.or_true]
    · simp only [beq_false_of_ne (Ne.symm hne), Bool.or_false]
  case isFalse hclear =>
    have hbit : v / 2 ^ i % 2 = 0 := by
      simp only [bitSet, bitOf, beq_iff_eq] at hclear
      omega
    obtain hlt | rfl | hgt := Nat.lt_trichotomy i j
    · simp only [bitSet, bitOf, div_add_two_pow hbit hlt, beq_false_of_ne (Nat.ne_of_gt hlt), Bool.or_false]
    · have hsum : (v + 2 ^ i) / 2 ^ i % 2 = 1 := by
        rw [Nat.add_div_right _ (Nat.two_pow_pos i)]
        omega
      simp only [bitSet, bitOf, hsum, beq_self_eq_true, Bool.or_true]
    · simp only [bitSet_eq_testBit, Nat.add_comm v, Nat.testBit_two_pow_add_gt hgt, beq_false_of_ne (Nat.ne_of_lt hgt), Bool.or_false]

/-- A bit inside a field's width is not lost when the value is narrowed to it. -/
theorem bitSet_mod_two_pow {v n j : Nat} (h : j < n) : bitSet (v % 2 ^ n) j = bitSet v j := by
  simp only [bitSet_eq_testBit, Nat.testBit_mod_two_pow, h, decide_true, Bool.true_and]

/-! ### The records of the engines -/

@[simp] theorem State.ply_modPly (s : State) (e : Nat) (f : PlySt → PlySt) : (s.modPly e f).ply e = f (s.ply e) := smGet_smSet_same ..

theorem State.ply_modPly_ne (s : State) {e d : Nat} (f : PlySt → PlySt) (h : d ≠ e) : (s.modPly e f).ply d = s.ply d :=
  smGet_smSet_ne _ _ _ h

/-! ### PLY_COMMIT (R276) -/

/-- The record of an engine whose commit is asked for at time `t`. -/
def PlySt.askedAt (y : PlySt) (t : Nat) : PlySt := { y with asked := some t, valid := false }

/-- One engine's commit is asked for. -/
def State.askCommit (s : State) (e : Nat) : State := (s.setBit PLY_COMMIT e).modPly e (·.askedAt s.elapsed)

/-- The engines whose bit a write of `PLY_COMMIT` changes to 1. -/
def State.newCommits (s : State) (w : Nat) : List Nat := ([0, 1] : List Nat).filter (fun e => bitSet w e && !bitSet (s.rd PLY_COMMIT) e)

theorem State.mem_newCommits {s : State} {w e : Nat} :
    e ∈ s.newCommits w ↔ e < 2 ∧ bitSet w e = true ∧ bitSet (s.rd PLY_COMMIT) e = false := by
  have hengine : e ∈ ([0, 1] : List Nat) ↔ e < 2 := by
    simp only [List.mem_cons, List.not_mem_nil, or_false]
    omega
  simp only [State.newCommits, List.mem_filter, hengine, Bool.and_eq_true, Bool.not_eq_true']

theorem State.commitAsk_eq (s : State) (w : Nat) : s.commitAsk w = s.each (s.newCommits w) (fun e t => t.askCommit e) := rfl

theorem State.askCommit_bit (s : State) (d : Nat) {e : Nat} (he : e < 2) :
    bitSet ((s.askCommit d).rd PLY_COMMIT) e = (bitSet (s.rd PLY_COMMIT) e || e == d) := by
  rw [State.askCommit, State.modPly_rd, State.setBit, State.rd_wr_same]
  exact (bitSet_mod_two_pow he).trans (bitSet_withBit ..)

theorem State.askCommit_ply (s : State) (d e : Nat) : (s.askCommit d).ply e = if e = d then (s.ply e).askedAt s.elapsed else s.ply e := by
  split
  case isTrue heq =>
    subst heq
    exact State.ply_modPly ..
  case isFalse hne => exact State.ply_modPly_ne _ _ hne

/-- After a list of requests an engine's bit is set when it was or when it is on the list. -/
theorem State.askCommits_bit (s : State) (l : List Nat) {e : Nat} (he : e < 2) :
    bitSet ((s.each l (fun d t => t.askCommit d)).rd PLY_COMMIT) e = (bitSet (s.rd PLY_COMMIT) e || l.contains e) := by
  induction l generalizing s with
  | nil => simp
  | cons d l ih => rw [State.each_cons, ih, State.askCommit_bit s d he, List.contains_cons, Bool.or_assoc]

/-- The engines on the list have their request recorded, the others are left alone. -/
theorem State.askCommits_ply (s : State) (l : List Nat) (e : Nat) :
    (s.each l (fun d t => t.askCommit d)).ply e = if e ∈ l then (s.ply e).askedAt s.elapsed else s.ply e := by
  induction l generalizing s with
  | nil => simp
  | cons d l ih =>
    have helapsed : (s.askCommit d).elapsed = s.elapsed := rfl
    rw [State.each_cons, ih, State.askCommit_ply, helapsed]
    by_cases hd : e = d <;> by_cases hl : e ∈ l <;> simp [hd, hl, PlySt.askedAt]

/-! ### COMMIT_VALIDATED (R277) and PLY_RUN (R315) -/

section
variable {s : State} {e : Nat} (hup : s.unitUp (plyMaster e) = true)
include hup

section
variable (hask : (s.ply e).asked.isSome = true) (hval : (s.ply e).valid = false)
include hask hval

/-- Shadow tables without a fault make the request valid. -/
theorem State.commitValidated_valid (hwhy : s.commitWhy e = 0) :
    s.commitValidated e = s.modPly e (fun y => { y with valid := true }) := by
  rw [State.commitValidated, if_pos (by simp [hask, hval, hup]), hwhy]
  rfl

/-- A fault drops the request and shows its code. -/
theorem State.commitValidated_rejected (hwhy : s.commitWhy e ≠ 0) :
    s.commitValidated e = ((s.commitDrop e).wr (PLY_STATUS_COMMIT_REJECT e) 1).wr (PLY_STATUS_WHY e) (s.commitWhy e) := by
  obtain ⟨k, hk⟩ := Nat.exists_eq_succ_of_ne_zero hwhy
  rw [State.commitValidated, if_pos (by simp [hask, hval, hup]), hk]
  rfl

end

/-- RUN is written on an engine that no reweave holds. -/
theorem State.plyRun_writes (v : Bool) (hhold : e ∉ s.wrp.hold.engines) : s.plyRun e v = s.wr (PLY_CTL_RUN e) (b2n v) := by
  rw [State.plyRun, show (s.unitUp (plyMaster e) && !(v && s.wrp.hold.engines.contains e)) = true by simp [hup, hhold], State.iff_true]

end

/-! ### The commands -/

section
variable {s : State} (hs : s.held = false)
include hs

theorem exec_plyCommit (w : Word) : exec (.plyCommit w) s = .next (s.commitAsk w.toNat).settle := State.finish_on _ hs

theorem exec_commitValidated (e : Fin 2) : exec (.commitValidated e) s = .next (s.commitValidated e).settle := State.finish_on _ hs

theorem exec_plyRun (e : Fin 2) (v : Bool) : exec (.plyRun e v) s = .next (s.plyRun e v).settle := State.finish_on _ hs

end

theorem plyCommit_notCond : ∀ F ∈ condFlds, PLY_COMMIT.key ≠ F.key := by decide

/-- What a write of `PLY_COMMIT` leaves of one engine (R276). -/
theorem State.commitAsk_engine (s : State) (w : Nat) {e : Nat} (he : e < 2) :
    (bitSet w e = true → bitSet ((s.commitAsk w).settle.rd PLY_COMMIT) e = true) ∧
    (bitSet w e = true → bitSet (s.rd PLY_COMMIT) e = false → (s.commitAsk w).settle.ply e = (s.ply e).askedAt s.elapsed) ∧
    (bitSet w e = false → (s.commitAsk w).settle.ply e = s.ply e) := by
  have hply : (s.commitAsk w).settle.ply e = if e ∈ s.newCommits w then (s.ply e).askedAt s.elapsed else s.ply e := by
    rw [← State.askCommits_ply, ← State.commitAsk_eq, State.ply, State.settle_plys]
    rfl
  rw [State.rd_settle _ _ plyCommit_notCond, State.commitAsk_eq, State.askCommits_bit s _ he, ← State.commitAsk_eq, hply]
  refine ⟨fun hw => ?_, fun hw hold => if_pos (State.mem_newCommits.mpr ⟨he, hw, hold⟩), fun hw => if_neg fun hmem => ?_⟩
  · cases hold : bitSet (s.rd PLY_COMMIT) e
    · simpa using State.mem_newCommits.mpr ⟨he, hw, hold⟩
    · rfl
  · obtain ⟨-, hset, -⟩ := State.mem_newCommits.mp hmem
    exact absurd hset (ne_true_of_eq_false hw)

/-- Settles O20: a write of `PLY_COMMIT` engine by engine, validation by its verdict (its order is the model's, DEDUCED, log entry 56). -/
theorem commitsOfShadowTables : Obligations.CommitsOfShadowTables := by
  refine ⟨fun s w hs => ⟨_, exec_plyCommit hs w, fun e he => ?_⟩,
    fun s e hs hup hask hval => ⟨fun hwhy => ?_, fun hwhy => ?_⟩, fun s e v hs hup hhold => ?_⟩
  · obtain ⟨hbit, hasked, hkept⟩ := s.commitAsk_engine w.toNat he
    exact ⟨hbit, fun hw hold => by rw [hasked hw hold]; exact ⟨rfl, rfl⟩, hkept⟩
  · rw [exec_commitValidated hs, State.commitValidated_valid hup hask hval hwhy]
  · rw [exec_commitValidated hs, State.commitValidated_rejected hup hask hval hwhy]
  · rw [exec_plyRun hs, State.plyRun_writes hup v hhold]

end Sys2Proof.Machine

/-! # The canvas timing generator -/

namespace Sys2Proof.Machine

open R

/-! ### A write of `PLY_CANVAS_CTL` (R284) -/

/-- The fields that a write of `PLY_CANVAS_CTL` with EN 1 may change. -/
def canvasCtlFlds : List Fld :=
  [PLY_CANVAS_CTL_HOLD, PLY_CANVAS_CTL_WSYNC_OUT_EN, PLY_CANVAS_CTL_SOURCE, PLY_CANVAS_CTL_EN, PLY_CANVAS_STATUS_RUNNING,
    PLY_CANVAS_STATUS_BAD_RATE]

theorem canvasCtl_notCond : ∀ G ∈ canvasCtlFlds, ∀ F ∈ condFlds, G.key ≠ F.key := by decide

/-- Those fields read after a command as its effect left them. -/
theorem State.rd_settle_canvasCtl (s : State) {G : Fld} (hG : G ∈ canvasCtlFlds) : s.settle.rd G = s.rd G :=
  s.rd_settle G (canvasCtl_notCond G hG)

/-- What the word gives besides EN while the canvas is not enabled: HOLD, WSYNC_OUT_EN and SOURCE. -/
def State.canvasFields (s : State) (w : Nat) : State :=
  ((s.wr PLY_CANVAS_CTL_HOLD (bitOf w 8)).wr PLY_CANVAS_CTL_WSYNC_OUT_EN (bitOf w 4)).wr PLY_CANVAS_CTL_SOURCE (w % 4)

theorem State.canvasFields_hold (s : State) (w : Nat) : (s.canvasFields w).rd PLY_CANVAS_CTL_HOLD = bitOf w 8 := by
  simp (disch := decide) only [State.canvasFields, State.rd_wr_ne, State.rd_wr_same]
  exact Nat.mod_mod ..

theorem State.canvasFields_wsyncOut (s : State) (w : Nat) : (s.canvasFields w).rd PLY_CANVAS_CTL_WSYNC_OUT_EN = bitOf w 4 := by
  simp (disch := decide) only [State.canvasFields, State.rd_wr_ne, State.rd_wr_same]
  exact Nat.mod_mod ..

theorem State.canvasFields_source (s : State) (w : Nat) : (s.canvasFields w).rd PLY_CANVAS_CTL_SOURCE = w % 4 :=
  (State.rd_wr_same ..).trans (Nat.mod_mod ..)

/-- They leave every other field alone. -/
theorem State.canvasFields_rd (s : State) (w : Nat) {G : Fld}
    (h : ∀ F ∈ [PLY_CANVAS_CTL_HOLD, PLY_CANVAS_CTL_WSYNC_OUT_EN, PLY_CANVAS_CTL_SOURCE], G.key ≠ F.key) :
    (s.canvasFields w).rd G = s.rd G := by
  rw [State.canvasFields, State.rd_wr_ne _ _ _ _ (h _ (by simp)), State.rd_wr_ne _ _ _ _ (h _ (by simp)),
    State.rd_wr_ne _ _ _ _ (h _ (by simp))]

/-- The rate lies in registers of its own. -/
theorem State.canvasFields_rateOk (s : State) (w : Nat) : (s.canvasFields w).rateOk = s.rateOk := by
  simp only [State.rateOk, s.canvasFields_rd w (G := PLY_CANVAS_RATE_N) (by decide),
    s.canvasFields_rd w (G := PLY_CANVAS_RATE_D) (by decide)]

/-- The grid begins now, the time of the last frame start kept. -/
def State.gridBegun (s : State) : State :=
  { s with canvas := { s.canvas with enAt := s.elapsed, next := if s.onWsync then 0 else s.gridFrom s.devTime, lost := false } }

@[simp] theorem State.gridBegun_rd (s : State) (F : Fld) : s.gridBegun.rd F = s.rd F := rfl

/-- With a rate in range EN and RUNNING set and the grid begins (R284, R285, R287). -/
theorem State.canvasOn_starts {s : State} (h : s.rateOk = true) :
    s.canvasOn = ((s.wr PLY_CANVAS_CTL_EN 1).wr PLY_CANVAS_STATUS_RUNNING 1).gridBegun := by
  rw [State.canvasOn, if_pos h]
  rfl

/-- With any other BAD_RATE sets. -/
theorem State.canvasOn_badRate {s : State} (h : s.rateOk = false) : s.canvasOn = s.wr PLY_CANVAS_STATUS_BAD_RATE 1 :=
  if_neg (ne_true_of_eq_false h)

/-- EN's change to 1 touches no other register field. -/
theorem State.canvasOn_rd (s : State) {G : Fld}
    (h : ∀ F ∈ [PLY_CANVAS_CTL_EN, PLY_CANVAS_STATUS_RUNNING, PLY_CANVAS_STATUS_BAD_RATE], G.key ≠ F.key) : s.canvasOn.rd G = s.rd G := by
  cases hrate : s.rateOk
  · rw [State.canvasOn_badRate hrate, State.rd_wr_ne _ _ _ _ (h _ (by simp))]
  · rw [State.canvasOn_starts hrate, State.gridBegun_rd, State.rd_wr_ne _ _ _ _ (h _ (by simp)), State.rd_wr_ne _ _ _ _ (h _ (by simp))]

/-- A word with EN 1 while it was 0. -/
theorem State.canvasCtl_enables {s : State} {w : Nat} (hen : s.rd PLY_CANVAS_CTL_EN ≠ 1) (hw : bitSet w 31 = true) :
    s.canvasCtl w = (s.canvasFields w).canvasOn := by
  have hoff : s.on PLY_CANVAS_CTL_EN = false := beq_false_of_ne hen
  simp only [State.canvasCtl, hoff, hw, Bool.not_false, State.iff_true, if_true, Bool.false_eq_true, if_false]
  rfl

/-- A word with EN 0 clears EN and RUNNING. -/
theorem State.canvasCtl_disables {w : Nat} (s : State) (hw : bitSet w 31 = false) :
    ∃ u : State, u.canvas = s.canvas ∧ s.canvasCtl w = (u.wr PLY_CANVAS_CTL_EN 0).wr PLY_CANVAS_STATUS_RUNNING 0 := by
  refine ⟨_, ?_, if_neg (ne_true_of_eq_false hw)⟩
  exact State.iff_keeps (·.canvas) _ _ _ rfl

/-! ### What starts a frame (R285–R288) -/

/-- The last grid point that device time has reached. -/
def State.lastPoint (s : State) : Nat := max s.canvas.next (s.gridFrom (s.devTime + 1) - 1)

section
variable {s : State} (hen : s.rd PLY_CANVAS_CTL_EN = 1)
include hen

theorem State.canvas_enabled : s.on PLY_CANVAS_CTL_EN = true := beq_iff_eq.mpr hen

section
variable (hsrc : s.rd PLY_CANVAS_CTL_SOURCE ≠ 2) (hdue : s.gridAt s.canvas.next ≤ s.devTime)
include hsrc hdue

/-- A grid point is due on an enabled canvas under FREE or PTP. -/
theorem State.canvasTick_due : (s.on PLY_CANVAS_CTL_EN && !s.onWsync && decide (s.gridAt s.canvas.next ≤ s.devTime)) = true := by
  have hgrid : s.onWsync = false := beq_false_of_ne hsrc
  simp [State.canvas_enabled hen, hgrid, hdue]

/-- The last point reached starts its frame. -/
theorem State.canvasTick_starts (h : s.tooEarly = false) : s.canvasTick = s.frameStart s.lastPoint := by
  rw [State.canvasTick, if_pos (State.canvasTick_due hen hsrc hdue), h]
  rfl

/-- It is skipped within half a period of the previous start (R286). -/
theorem State.canvasTick_skips (h : s.tooEarly = true) :
    s.canvasTick = ({ s with canvas := { s.canvas with next := s.lastPoint + 1 } } : State).wr PLY_CANVAS_STATUS_SHORT_SKIP 1 := by
  rw [State.canvasTick, if_pos (State.canvasTick_due hen hsrc hdue), h]
  rfl

end

section
variable (hsrc : s.rd PLY_CANVAS_CTL_SOURCE = 2)
include hsrc

section
variable (hclk : s.isl 20 = islON ∨ s.isl 21 = islON)
include hclk

/-- An edge is heard on an enabled canvas under WSYNC, one engine ON. -/
theorem State.wsyncEdge_heard : (s.on PLY_CANVAS_CTL_EN && s.onWsync && (s.islOn 20 || s.islOn 21)) = true := by
  have hws : s.onWsync = true := beq_iff_eq.mpr hsrc
  simpa [State.canvas_enabled hen, hws, State.islOn] using hclk

/-- It starts a frame. -/
theorem State.wsyncEdge_starts (h : s.tooEarly = false) :
    s.wsyncEdge = ({ s with canvas := { s.canvas with lost := false } } : State).frameStart s.canvas.next := by
  rw [State.wsyncEdge, if_pos (State.wsyncEdge_heard hen hsrc hclk), h]
  rfl

/-- One that is early is flagged only. -/
theorem State.wsyncEdge_early (h : s.tooEarly = true) :
    s.wsyncEdge = (s.wr PLY_CANVAS_STATUS_WSYNC_EARLY 1).wr PLY_CANVAS_STATUS_SHORT_SKIP 1 := by
  rw [State.wsyncEdge, if_pos (State.wsyncEdge_heard hen hsrc hclk), if_pos h]

end

/-- Without an edge for long enough the generator starts a frame of its own (R287). -/
theorem State.wsyncFlywheel_starts
    (h : (if s.canvas.lost then 2 else 3) * s.canvasPeriod.1 ≤ 2 * (s.elapsed - max (s.canvas.at_.getD 0) s.canvas.enAt) * s.canvasPeriod.2) :
    s.wsyncFlywheel = (({ s with canvas := { s.canvas with lost := true } } : State).wr PLY_CANVAS_STATUS_WSYNC_LOST 1).frameStart
      s.canvas.next := by
  have hws : s.onWsync = true := beq_iff_eq.mpr hsrc
  exact if_pos (by simp only [State.canvas_enabled hen, hws, Bool.true_and, decide_eq_true_eq]; exact h)

end

end

/-- `WSYNC_OUT` falls 1.0 µs after it rose (R288). -/
theorem State.wsyncOutEnd_falls {s : State} {d : Nat} (hrose : s.canvas.outSince = some d) (hd : d + 1000 ≤ s.elapsed) :
    s.wsyncOutEnd = ({ s with canvas := { s.canvas with outSince := none } } : State).emit (.pin "WSYNC_OUT" false) := by
  simp only [State.wsyncOutEnd, hrose]
  exact if_pos hd

/-! ### The commands -/

section
variable {s : State} (hs : s.held = false)
include hs

theorem exec_canvasEnable (w : Word) : exec (.canvasEnable w) s = .next (s.canvasCtl w.toNat).settle := State.finish_on _ hs

/-- A word with EN 1 while it was 0 leaves the state at EN's change to 1 over the fields of the word. -/
theorem exec_canvasEnable_on {w : Word} (hen : s.rd PLY_CANVAS_CTL_EN ≠ 1) (hw : bitSet w.toNat 31 = true) :
    exec (.canvasEnable w) s = .next (s.canvasFields w.toNat).canvasOn.settle := by
  rw [exec_canvasEnable hs, State.canvasCtl_enables hen hw]

theorem exec_canvasFrameStart : exec .canvasFrameStart s = .next s.canvasTick.settle := State.finish_on _ hs

theorem exec_wsyncEdge : exec .wsyncEdge s = .next s.wsyncEdge.settle := State.finish_on _ hs

theorem exec_wsyncFlywheel : exec .wsyncFlywheel s = .next s.wsyncFlywheel.settle := State.finish_on _ hs

theorem exec_wsyncOutEnd : exec .wsyncOutEnd s = .next s.wsyncOutEnd.settle := State.finish_on _ hs

end

/-! ### What a write that enables the canvas leaves (R284) -/

/-- HOLD, WSYNC_OUT_EN and SOURCE read as the word says, whatever the rate. -/
theorem State.canvasOn_fields (s : State) (w : Nat) :
    (s.canvasFields w).canvasOn.settle.rd PLY_CANVAS_CTL_HOLD = bitOf w 8 ∧
    (s.canvasFields w).canvasOn.settle.rd PLY_CANVAS_CTL_WSYNC_OUT_EN = bitOf w 4 ∧
    (s.canvasFields w).canvasOn.settle.rd PLY_CANVAS_CTL_SOURCE = w % 4 := by
  refine ⟨?_, ?_, ?_⟩ <;> rw [State.rd_settle_canvasCtl _ (by simp [canvasCtlFlds]), State.canvasOn_rd _ (by decide)]
  · exact s.canvasFields_hold w
  · exact s.canvasFields_wsyncOut w
  · exact s.canvasFields_source w

/-- Nothing else changes among the registers. -/
theorem State.canvasOn_kept (s : State) (w : Nat) : RegsKept canvasCtlFlds s (s.canvasFields w).canvasOn.settle :=
  .settle fun _ hG _ => ((s.canvasFields w).canvasOn_rd fun F hF => hG F (by revert F; decide)).trans
    (s.canvasFields_rd w fun F hF => hG F (by revert F; decide))

/-- With a rate in range the canvas runs from now on, the time of the last frame start kept. -/
theorem State.canvasOn_runs {s : State} (w : Nat) (hrate : s.rateOk = true) :
    (s.canvasFields w).canvasOn.settle.rd PLY_CANVAS_CTL_EN = 1 ∧ (s.canvasFields w).canvasOn.settle.rd PLY_CANVAS_STATUS_RUNNING = 1 ∧
    (s.canvasFields w).canvasOn.settle.canvas.at_ = s.canvas.at_ ∧ (s.canvasFields w).canvasOn.settle.canvas.enAt = s.elapsed := by
  rw [State.rd_settle_canvasCtl _ (by simp [canvasCtlFlds]), State.rd_settle_canvasCtl _ (by simp [canvasCtlFlds]), State.settle_canvas,
    State.canvasOn_starts ((s.canvasFields_rateOk w).trans hrate), State.gridBegun_rd, State.gridBegun_rd,
    State.rd_wr_ne _ _ PLY_CANVAS_CTL_EN _ (by decide)]
  exact ⟨State.rd_wr_same .., State.rd_wr_same .., rfl, rfl⟩

/-- With any other rate EN and the grid stay, and BAD_RATE sets. -/
theorem State.canvasOn_refused {s : State} (w : Nat) (hrate : s.rateOk = false) :
    (s.canvasFields w).canvasOn.settle.rd PLY_CANVAS_CTL_EN = s.rd PLY_CANVAS_CTL_EN ∧
    (s.canvasFields w).canvasOn.settle.rd PLY_CANVAS_STATUS_BAD_RATE = 1 ∧ (s.canvasFields w).canvasOn.settle.canvas = s.canvas := by
  rw [State.rd_settle_canvasCtl _ (by simp [canvasCtlFlds]), State.rd_settle_canvasCtl _ (by simp [canvasCtlFlds]), State.settle_canvas,
    State.canvasOn_badRate ((s.canvasFields_rateOk w).trans hrate)]
  exact ⟨(State.rd_wr_ne _ _ _ _ (by decide)).trans (s.canvasFields_rd w (by decide)), State.rd_wr_same .., rfl⟩

/-- A word with EN 0 stops the canvas and leaves its record. -/
theorem canvasEnable_stops {s : State} (w : Word) (hs : s.held = false) (hw : bitSet w.toNat 31 = false) :
    ∃ t, exec (.canvasEnable w) s = .next t ∧ t.rd PLY_CANVAS_CTL_EN = 0 ∧ t.rd PLY_CANVAS_STATUS_RUNNING = 0 ∧ t.canvas = s.canvas := by
  obtain ⟨u, hcanvas, hu⟩ := s.canvasCtl_disables hw
  refine ⟨_, exec_canvasEnable hs w, ?_⟩
  rw [State.rd_settle_canvasCtl _ (by simp [canvasCtlFlds]), State.rd_settle_canvasCtl _ (by simp [canvasCtlFlds]), State.settle_canvas, hu,
    State.rd_wr_ne _ _ PLY_CANVAS_CTL_EN _ (by decide)]
  exact ⟨State.rd_wr_same .., State.rd_wr_same .., hcanvas⟩

/-- Settles O21: a write of `PLY_CANVAS_CTL` by EN and the rate, each start of a frame by its source; the grid and the flywheel's first
frame are the model's (DEDUCED, log entry 56). -/
theorem canvasTimingStartsFrames : Obligations.CanvasTimingStartsFrames := by
  refine ⟨fun s w hs hen hw => ⟨_, exec_canvasEnable_on hs hen hw, ?_⟩, fun s w hs hw => canvasEnable_stops w hs hw,
    fun s hs hen => ⟨fun hsrc hdue => ⟨fun h => ?_, fun h => ?_⟩, fun hsrc hclk => ⟨fun h => ?_, fun h => ?_⟩, fun hsrc h => ?_⟩,
    fun s d hs hrose hd => ?_⟩
  · obtain ⟨hhold, hout, hsource⟩ := s.canvasOn_fields w.toNat
    exact ⟨hhold, hout, hsource, State.canvasOn_runs _, State.canvasOn_refused _, s.canvasOn_kept _⟩
  · rw [exec_canvasFrameStart hs, State.canvasTick_starts hen hsrc hdue h]
    rfl
  · rw [exec_canvasFrameStart hs, State.canvasTick_skips hen hsrc hdue h]
    rfl
  · rw [exec_wsyncEdge hs, State.wsyncEdge_starts hen hsrc hclk h]
  · rw [exec_wsyncEdge hs, State.wsyncEdge_early hen hsrc hclk h]
  · rw [exec_wsyncFlywheel hs, State.wsyncFlywheel_starts hen hsrc h]
  · rw [exec_wsyncOutEnd hs, State.wsyncOutEnd_falls hrose hd]

end Sys2Proof.Machine

/-! # Rows from the ply engines to the tiles -/

namespace Sys2Proof.Machine

open R

/-! ### Building a row (R314) -/

/-- Engine `e` has built row `r` of tile `v`, the next of slot `sl` in frame `f`: the frame keeps the rows `rest`, the row is counted and
handed to the slot's port, and complete frames are closed. -/
def State.rowBuilt (s : State) (e sl : Nat) (f : PlyFrame) (v : TileView) (r : Nat) (rest : List (Nat × Nat)) : State :=
  let o := s.buildRow e f v r
  let u := o.2.2.modPly e (fun y => { y with frames := y.frames.map (fun g => if g.ord = f.ord then dropRow o.2.1 sl rest else g) })
  (((u.countUnit 0x061 (plyMaster e) 1).handRow (u.slotPort e sl) o.1).frameDone e 3)

/-- The row built is the next of the slot in the oldest frame that has one. -/
theorem State.plyRowBuilt_next {s : State} {e sl t r : Nat} {f : PlyFrame} {rest : List (Nat × Nat)} {v : TileView}
    (hup : s.unitUp (plyMaster e) = true) (hframe : (s.ply e).frames.find? (fun f => f.todo.any (fun q => q.1 == sl)) = some f)
    (htodo : smGet [] f.todo sl = (t, r) :: rest) (htile : f.tiles.find? (fun v => v.t == t) = some v) :
    s.plyRowBuilt e sl = s.rowBuilt e sl f v r rest := by
  simp only [State.plyRowBuilt, hup, hframe, htodo, htile]
  rfl

/-! ### Sending a row (R344, R352) -/

/-- The oldest row held, once it may start and fits, leaves the queue and goes to its tile or is dropped. -/
theorem State.rowSend_takes {s : State} {p : Nat} {w : RowPkt} {rest : List RowPkt} (hrows : (s.port p).rows = w :: rest)
    (hact : s.portState p = blkACTIVE) (hline : (s.port p).lineBusy ≤ s.elapsed) (hawake : s.awake p = true)
    (hfits : s.rowFits p w = true) :
    s.rowSend p = (let u := s.modPort p (fun r => { r with rows := rest })
      (if s.rowGoes p w.pos then u.sendPacket p (s.rowPacket p w) else u.rowDrop p w.pos).idleCheck p) := by
  simp only [State.rowSend, hrows]
  exact if_pos ⟨hact, hline, hawake, hfits⟩

/-! ### The instant of a SYNC (R331) and the row deadline (R314) -/

/-- The engine's unsent rows of frames before frame `n` are discarded. -/
def State.staleGone (s : State) (e n : Nat) : State :=
  let u := s.each (s.slotsOf e) (fun sl t => t.modPort (t.slotPort e sl) (fun r => { r with rows := r.rows.filter (fun w => decide (n ≤ w.ord)) }))
  u.modPly e (fun y => { y with frames := y.frames.map (fun f => if f.ord < n then { f with todo := [] } else f) })

section
variable {s : State} {e : Nat} (hup : s.unitUp (plyMaster e) = true)
include hup

/-- Late rows go, the SYNC goes out on every port of the engine, and the requests that waited follow. -/
theorem State.frameSync_due {q : Nat × Nat × Nat} (hsync : (s.ply e).sync = some q) (hq : q.2.2 ≤ s.elapsed) :
    s.frameSync e = (
      let u := s.rowDeadline e
      let ps := (u.slotsOf e).map (u.slotPort e)
      ((u.each ps (fun p t => t.sendSync p q.1)).modPly e (fun y => { y with sync := none })).each ps
        (fun p t => (t.pumpPort p).idleCheck p)) := by
  simp only [State.frameSync, hsync]
  exact if_neg (not_or.mpr ⟨Nat.not_lt.mpr hq, not_not_intro hup⟩)

/-- Unsent rows of earlier frames are discarded, flagged and counted. -/
theorem State.rowDeadline_late {n d : Nat} (hdue : (s.ply e).due = (n, d)) (hd : d ≤ s.elapsed) (hstale : 0 < s.staleRows e n) :
    s.rowDeadline e = ((((s.staleGone e n).wr (PLY_STATUS_LATE e) 1).bump (PLY_LATE_CNT e) (s.staleRows e n)).countUnit 0x062 (plyMaster e)
      (s.staleRows e n)).frameDone e 3 := by
  simp only [State.rowDeadline, hdue]
  rw [if_pos (by simp [hup, hd]), decide_eq_true hstale]
  rfl

end

/-! ### The commands -/

section
variable {s : State} (hs : s.held = false)
include hs

theorem exec_rowSend (p : Fin 16) : exec (.rowSend p) s = .next (s.rowSend p).settle := State.finish_on _ hs

theorem exec_frameSyncDue (e : Fin 2) : exec (.frameSyncDue e) s = .next (s.frameSync e).settle := State.finish_on _ hs

theorem exec_rowDeadline (e : Fin 2) : exec (.rowDeadline e) s = .next (s.rowDeadline e).settle := State.finish_on _ hs

end

theorem exec_plyRowBuilt (s : State) (e : Fin 2) (sl : Fin 8) : exec (.plyRowBuilt e sl) s = s.finishOnce (s.plyRowBuilt e sl) id := rfl

/-- PLY_ROW_BUILT comes about once the reads of the row are answered. -/
theorem plyRowBuilt_endsOnce {s : State} {e : Fin 2} {sl : Fin 8} {t r : Nat} {f : PlyFrame} {rest : List (Nat × Nat)} {v : TileView}
    (hs : s.held = false) (hup : s.unitUp (plyMaster e) = true)
    (hframe : (s.ply e).frames.find? (fun f => f.todo.any (fun q => q.1 == sl.val)) = some f)
    (htodo : smGet [] f.todo sl = (t, r) :: rest) (htile : f.tiles.find? (fun v => v.t == t) = some v) :
    EndsOnce (.plyRowBuilt e sl) s (s.rowBuilt e sl f v r rest) id :=
  .of_finishOnce hs (by rw [exec_plyRowBuilt, State.plyRowBuilt_next hup hframe htodo htile])

/-- Settles O22: the row built next, the row sent or dropped, the SYNC and the deadline; PLY_ROW_BUILT has not come about while a read of
its row meets RETRY (DEDUCED, log entry 11). -/
theorem rowsAreBuiltAndSent : Obligations.RowsAreBuiltAndSent := by
  refine ⟨fun s e sl f t r rest v hs hup hframe htodo htile => ?_,
    fun s p w rest hs hrows hact hline hawake hfits => ⟨fun hgoes => ?_, fun hgoes => ?_⟩,
    fun s e q hs hsync hq hup => ?_, fun s e n d hs hdue hup hd hstale => ?_⟩
  · change EndsOnce _ s (s.rowBuilt e sl f v r rest) id
    exact plyRowBuilt_endsOnce hs hup hframe htodo htile
  · rw [exec_rowSend hs, State.rowSend_takes hrows hact hline hawake hfits, hgoes]
    rfl
  · rw [exec_rowSend hs, State.rowSend_takes hrows hact hline hawake hfits, hgoes]
    rfl
  · rw [exec_frameSyncDue hs, State.frameSync_due hup hsync hq]
  · rw [exec_rowDeadline hs, State.rowDeadline_late hup hdue hd hstale]
    rfl

end Sys2Proof.Machine

/-! # Tallies, aging targets and latched readings -/

namespace Sys2Proof.Machine

open R

/-- The register that AGE_TARGET_WRITE names (R311). -/
def ageTargetFld (which : Fin 3) : Fld := if which.val = 0 then PLY_AGE_TARGET else if which.val = 1 then PLY_AGE_TARGET_B else PLY_AGE_MAX

/-- A read of colour `c` of an accumulator shows the pair of that colour (R312; DEDUCED, log entry 17). -/
theorem State.tallyRead_colours {s : State} {e t r g b : Nat} (h : smGet (0, 0, 0) (s.ply e).tally t = (r, g, b)) :
    s.tallyRead e t 0 = s.latchPair (PLY_TALLY_R_LO e t) (PLY_TALLY_R_HI e t) r ∧
    s.tallyRead e t 1 = s.latchPair (PLY_TALLY_G_LO e t) (PLY_TALLY_G_HI e t) g ∧
    s.tallyRead e t 2 = s.latchPair (PLY_TALLY_B_LO e t) (PLY_TALLY_B_HI e t) b := by
  have hv : smGet (0, 0, 0) (smGet ({} : PlySt) s.plys e).tally t = (r, g, b) := h
  refine ⟨?_, ?_, ?_⟩ <;> simp only [State.tallyRead, hv]

section
variable {s : State} (hs : s.held = false)
include hs

theorem exec_tallyMinute : exec .tallyMinute s = .next s.tallyAll.ageAll.settle := State.finish_on _ hs

theorem exec_ageTargetWrite (which : Fin 3) (w : Word) :
    exec (.ageTargetWrite which w) s = .next (s.wr (ageTargetFld which) w.toNat).ageAll.settle := State.finish_on _ hs

theorem exec_canvasFrameRead (start : Bool) : exec (.canvasFrameRead start) s =
    .next (if start then s.latchPair PLY_CANVAS_TSTART_LO PLY_CANVAS_TSTART_HI s.canvas.tstart
      else s.latchPair PLY_CANVAS_FRAME_LO PLY_CANVAS_FRAME_HI s.canvas.k).settle := State.finish_on _ hs

theorem exec_topoHashRead (p : Fin 16) : exec (.topoHashRead p) s =
    .next (s.latchPair (BLK_TOPO_HASH_LO p) (BLK_TOPO_HASH_HI p) (s.port p).hash).settle := State.finish_on _ hs

theorem exec_tallyRead (e : Fin 2) (t : Fin 512) (c : Fin 3) :
    exec (.tallyRead e t c) s = .next (s.iff (s.unitUp (plyMaster e)) (·.tallyRead e t c)).settle := State.finish_on _ hs

/-- Of an engine that is not up nothing is read (R275). -/
theorem exec_tallyRead_down (e : Fin 2) (t : Fin 512) (c : Fin 3) (hup : s.unitUp (plyMaster e) = false) :
    exec (.tallyRead e t c) s = .next s.settle := by
  rw [exec_tallyRead hs, hup, State.iff_false]

theorem exec_tallyRead_up (e : Fin 2) (t : Fin 512) (c : Fin 3) (hup : s.unitUp (plyMaster e) = true) :
    exec (.tallyRead e t c) s = .next (s.tallyRead e t c).settle := by
  rw [exec_tallyRead hs, hup, State.iff_true]

end

/-- Settles O23: each command's effect on the registers; every 64-bit reading latches its upper half by `latchPair`. -/
theorem talliesGainsAndLatchedReads : Obligations.TalliesGainsAndLatchedReads := by
  intro s hs
  refine ⟨exec_tallyMinute hs, fun w => ⟨exec_ageTargetWrite hs 0 w, exec_ageTargetWrite hs 1 w, exec_ageTargetWrite hs 2 w⟩,
    exec_canvasFrameRead hs false, exec_canvasFrameRead hs true, fun e t c hup => exec_tallyRead_down hs e t c hup,
    fun e t r g b hup htally => ?_, exec_topoHashRead hs⟩
  obtain ⟨hr, hg, hb⟩ := State.tallyRead_colours htally
  refine ⟨?_, ?_, ?_⟩ <;> rw [exec_tallyRead_up hs e t _ hup]
  · exact congrArg (fun u : State => Host.Outcome.next u.settle) hr
  · exact congrArg (fun u : State => Host.Outcome.next u.settle) hg
  · exact congrArg (fun u : State => Host.Outcome.next u.settle) hb

end Sys2Proof.Machine

/-! # The registers and the record of a Brodys port -/

namespace Sys2Proof.Machine

open R

/-! ### The record -/

@[simp] theorem State.port_modPort (s : State) (p : Nat) (f : PortSt → PortSt) : (s.modPort p f).port p = f (s.port p) :=
  smGet_smSet_same ..

@[simp] theorem State.portState_modPort (s : State) (p q : Nat) (f : PortSt → PortSt) :
    (s.modPort p f).portState q = s.portState q := rfl

@[simp] theorem State.port_wr (s : State) (F : Fld) (v q : Nat) : (s.wr F v).port q = s.port q := rfl
@[simp] theorem State.port_emit (s : State) (o : Output) (q : Nat) : (s.emit o).port q = s.port q := rfl
@[simp] theorem State.port_settle (s : State) (q : Nat) : s.settle.port q = s.port q := by
  simp only [State.port, State.settle_ports]

/-! ### The registers -/

/-- Where the fields of port `p` lie (Tables 8-16 and 8-20): by these keys `simp` tells two of them apart. -/
@[simp] theorem portFld_key (p : Nat) :
    (BLK_CTL_GEN p).key = 0x80000 * p + 0x14000000 ∧ (BLK_CTL_EN p).key = 0x80000 * p + 0x14000004 ∧
    (BLK_CTL_AUTO_ENUM p).key = 0x80000 * p + 0x14000005 ∧ (BLK_CTL_AUTH_REQ p).key = 0x80000 * p + 0x14000006 ∧
    (BLK_CTL_IDLE_EN p).key = 0x80000 * p + 0x14000007 ∧
    (BLK_TXCFG_SWING p).key = 0x80000 * p + 0x14000100 ∧ (BLK_TXCFG_DEEMPH p).key = 0x80000 * p + 0x14000104 ∧
    (BLK_STATUS_STATE p).key = 0x80000 * p + 0x14000200 ∧ (BLK_STATUS_ATTN p).key = 0x80000 * p + 0x1400020B ∧
    (BLK_STATUS_BUSY p).key = 0x80000 * p + 0x1400020C ∧ (BLK_STATUS_RL_LOSS p).key = 0x80000 * p + 0x14000214 ∧
    (BLK_STATUS_TEST_DONE p).key = 0x80000 * p + 0x14000217 ∧
    (BLK_INJECT_LANE p).key = 0x80000 * p + 0x14000680 ∧ (BLK_INJECT_MODE p).key = 0x80000 * p + 0x14000684 ∧
    (BLK_INJECT_MGMT_CRC p).key = 0x80000 * p + 0x14000686 ∧ (BLK_INJECT_PERIOD p).key = 0x80000 * p + 0x14000688 ∧
    (BLK_RL_CODE_ERR p).key = 0x80000 * p + 0x14000B00 ∧ (BLK_ROW_DROP_CNT p).key = 0x80000 * p + 0x14000C80 ∧
    (BLK_HM_CTL_ADDR p).key = 0x80000 * p + 0x14002000 ∧ (BLK_HM_CTL_OP p).key = 0x80000 * p + 0x14002008 ∧
    (BLK_HM_CTL_LEN p).key = 0x80000 * p + 0x14002010 ∧ (BLK_HM_CTL_GO p).key = 0x80000 * p + 0x1400201F ∧
    (BLK_HM_STATUS_RESULT p).key = 0x80000 * p + 0x14002080 ∧ (BLK_HM_STATUS_TILE_STATUS p).key = 0x80000 * p + 0x14002088 ∧
    (BLK_HM_STATUS_RLEN p).key = 0x80000 * p + 0x14002090 ∧ (BLK_HM_STATUS_DONE p).key = 0x80000 * p + 0x1400209F := by
  simp only [Fld.key, BLK_CTL_GEN, BLK_CTL_EN, BLK_CTL_AUTO_ENUM, BLK_CTL_AUTH_REQ, BLK_CTL_IDLE_EN, BLK_TXCFG_SWING,
    BLK_TXCFG_DEEMPH, BLK_STATUS_STATE, BLK_STATUS_ATTN, BLK_STATUS_BUSY, BLK_STATUS_RL_LOSS, BLK_STATUS_TEST_DONE,
    BLK_INJECT_LANE, BLK_INJECT_MODE, BLK_INJECT_MGMT_CRC, BLK_INJECT_PERIOD, BLK_RL_CODE_ERR, BLK_ROW_DROP_CNT,
    BLK_HM_CTL_ADDR, BLK_HM_CTL_OP, BLK_HM_CTL_LEN, BLK_HM_CTL_GO, BLK_HM_STATUS_RESULT, BLK_HM_STATUS_TILE_STATUS,
    BLK_HM_STATUS_RLEN, BLK_HM_STATUS_DONE]
  omega

/-- The widths of the fields whose new values the statements give. -/
@[simp] theorem portFld_width (p : Nat) :
    (BLK_CTL_EN p).width = 1 ∧ (BLK_TXCFG_SWING p).width = 4 ∧ (BLK_TXCFG_DEEMPH p).width = 4 ∧ (BLK_STATUS_STATE p).width = 3 ∧
    (BLK_STATUS_BUSY p).width = 1 ∧ (BLK_STATUS_RL_LOSS p).width = 1 ∧ (BLK_INJECT_LANE p).width = 3 ∧
    (BLK_INJECT_MODE p).width = 2 ∧ (BLK_RL_CODE_ERR p).width = 32 ∧ (BLK_HM_CTL_GO p).width = 1 ∧ (BLK_HM_STATUS_RESULT p).width = 3 ∧
    (BLK_HM_STATUS_DONE p).width = 1 := ⟨rfl, rfl, rfl, rfl, rfl, rfl, rfl, rfl, rfl, rfl, rfl, rfl⟩

/-- No field of the sixteen ports shows a condition. -/
theorem State.rd_settle_portFld (s : State) (p : Fin 16) (G : Fld)
    (hG : 0x80000 * p.val + 0x14000000 ≤ G.key ∧ G.key < 0x80000 * p.val + 0x14080000) : s.settle.rd G = s.rd G :=
  s.rd_settle' G (by omega)

/-- The end of a command leaves what its effect wrote to a port's registers. -/
@[simp] theorem State.rd_settle_port (s : State) (p : Fin 16) :
    s.settle.rd (BLK_CTL_EN p) = s.rd (BLK_CTL_EN p) ∧ s.settle.rd (BLK_TXCFG_SWING p) = s.rd (BLK_TXCFG_SWING p) ∧
    s.settle.rd (BLK_TXCFG_DEEMPH p) = s.rd (BLK_TXCFG_DEEMPH p) ∧ s.settle.rd (BLK_STATUS_BUSY p) = s.rd (BLK_STATUS_BUSY p) ∧
    s.settle.rd (BLK_STATUS_RL_LOSS p) = s.rd (BLK_STATUS_RL_LOSS p) ∧ s.settle.rd (BLK_RL_CODE_ERR p) = s.rd (BLK_RL_CODE_ERR p) ∧
    s.settle.rd (BLK_HM_CTL_GO p) = s.rd (BLK_HM_CTL_GO p) ∧ s.settle.rd (BLK_HM_STATUS_RESULT p) = s.rd (BLK_HM_STATUS_RESULT p) ∧
    s.settle.rd (BLK_HM_STATUS_DONE p) = s.rd (BLK_HM_STATUS_DONE p) ∧ s.settle.portState p = s.portState p := by
  refine ⟨?_, ?_, ?_, ?_, ?_, ?_, ?_, ?_, ?_, ?_⟩ <;> exact s.rd_settle_portFld p _ (by simp only [portFld_key]; omega)

/-- A write outside the islands' state registers leaves a unit up or down. -/
theorem State.unitUp_wr (s : State) {F : Fld} (v m : Nat) (hF : ∀ i, (PWR_ISL_STATE_STATE i).key ≠ F.key) :
    (s.wr F v).unitUp m = s.unitUp m := by
  have hisl : ∀ i, (s.wr F v).islOn i = s.islOn i := fun i => congrArg (· == islON) (s.rd_wr_ne F _ v (hF i))
  simp only [State.unitUp, hisl]
  rfl

/-! ### Rows and the manager's own work that end -/

@[simp] theorem State.rowsGone_port (s : State) (p : Nat) : (s.rowsGone p).port p = { s.port p with rows := [] } := by
  simp [State.rowsGone, State.bump]

@[simp] theorem State.rowsGone_out (s : State) (p : Nat) : (s.rowsGone p).out = s.out := rfl

theorem State.rowsGone_rd (s : State) (p : Nat) {G : Fld} (hG : G.key ≠ (BLK_ROW_DROP_CNT p).key) : (s.rowsGone p).rd G = s.rd G :=
  s.rd_wr_ne _ _ _ hG

@[simp] theorem State.mgrStop_rd (s : State) (p : Nat) (F : Fld) : (s.mgrStop p).rd F = s.rd F := rfl
@[simp] theorem State.mgrStop_out (s : State) (p : Nat) : (s.mgrStop p).out = s.out := rfl

/-- A host transaction that ends without a response: its result, DONE and GO (Table 8-20). -/
theorem State.hostEnd_empty (s : State) (p result status : Nat) : s.hostEnd p result status [] =
    (((((s.wr (BLK_HM_STATUS_RESULT p) result).wr (BLK_HM_STATUS_TILE_STATUS p) status).wr (BLK_HM_STATUS_RLEN p) 0).wr
      (BLK_HM_STATUS_DONE p) 1).wr (BLK_HM_CTL_GO p) 0).modPort p (fun r => { r with host := none }) := by
  simp only [State.hostEnd, List.length_nil, show List.range (min 512 (cdiv 0 4)) = [] from rfl, State.each_nil]

@[simp] theorem State.mgmtAbort_trans (s : State) (p : Nat) : ((s.mgmtAbort p).port p).trans = none := by
  unfold State.mgmtAbort
  cases (s.port p).host.isSome <;> simp [State.hostEnd_empty]

@[simp] theorem State.mgmtAbort_out (s : State) (p : Nat) : (s.mgmtAbort p).out = s.out :=
  State.iff_keeps (·.out) _ _ _ (by simp [State.hostEnd_empty])

/-- The end of what is in progress leaves EN. -/
@[simp] theorem State.mgmtAbort_en (s : State) (p : Nat) : (s.mgmtAbort p).rd (BLK_CTL_EN p) = s.rd (BLK_CTL_EN p) :=
  State.iff_keeps (·.rd (BLK_CTL_EN p)) _ _ _ (by simp [State.hostEnd_empty, State.rd_wr_ne])

/-! ### Training (R338, R342) -/

/-- The states in which the port has been trained lie past CLOCK (Table 8-19). -/
theorem pastClock {q : Nat} (hq : 2 ≤ q) : q ≠ blkOFF ∧ q ≠ blkCLOCK := by
  unfold blkOFF blkCLOCK
  omega

section
variable (s : State) (p : Nat) (keep : Bool)

theorem State.toTrain_portState : (s.toTrain p keep).portState p = blkTRAIN := by
  simp [State.toTrain, State.portState, blkTRAIN]

/-- Training writes STATE and counts the rows that are gone, nothing else among the registers. -/
theorem State.toTrain_rd {G : Fld} (hstate : G.key ≠ (BLK_STATUS_STATE p).key) (hrows : G.key ≠ (BLK_ROW_DROP_CNT p).key) :
    (s.toTrain p keep).rd G = s.rd G := by
  simp [State.toTrain, State.rd_wr_ne _ _ _ _ hstate, State.rowsGone_rd _ _ hrows]

theorem State.toTrain_since : ((s.toTrain p keep).port p).since = max s.elapsed (s.port p).lineBusy := by
  simp [State.toTrain]

theorem State.toTrain_keep : ((s.toTrain p keep).port p).keep = keep := by
  simp [State.toTrain]

/-- From CLOCK the training set starts on lanes that carried nothing. -/
theorem State.toTrain_out_clock (hclock : s.portState p = blkCLOCK) :
    (s.toTrain p keep).out = .brodys p (trainCols (s.gen p)) :: .brodysDrive p true true :: s.out := by
  have hgen : ∀ t : State, t.gen p = t.rd (BLK_CTL_GEN p) := fun _ => rfl
  simp [State.toTrain, hclock, hgen, State.rd_wr_ne, State.rowsGone_rd]

/-- Past CLOCK an IDLE column comes first once a packet has ended (R324). (DESIGN CHOICE, log entry 57.) -/
theorem State.toTrain_out_past (hoff : s.portState p ≠ blkOFF) (hclock : s.portState p ≠ blkCLOCK) :
    (s.toTrain p keep).out = .brodys p (retrainCols s p) :: .brodysDrive p true true :: s.out := by
  have hgen : ∀ t : State, t.gen p = t.rd (BLK_CTL_GEN p) := fun _ => rfl
  have hstate : (s.portState p != blkCLOCK && s.portState p != blkOFF) = true := by simp [hoff, hclock]
  simp only [State.toTrain, retrainCols, Bool.and_assoc, hstate]
  generalize max s.elapsed (s.port p).lineBusy = start
  cases (s.port p).idle <;> by_cases hzero : start = 0 <;>
    simp [hzero, hgen, State.rd_wr_ne, State.rowsGone_rd]

end

end Sys2Proof.Machine

/-! # Bring-up, training, loss and disabling of a Brodys port -/

namespace Sys2Proof.Machine

open R

/-! ### A write of `BLK_CTL` (R338, R342) -/

/-- What a write of `BLK_CTL` that is not held off leaves in its fields. -/
def State.ctlWritten (s : State) (p w : Nat) : State :=
  (((s.wr (BLK_CTL_AUTO_ENUM p) (bitOf w 5)).wr (BLK_CTL_AUTH_REQ p) (bitOf w 6)).wr (BLK_CTL_IDLE_EN p) (bitOf w 7)).wr
    (BLK_CTL_EN p) (bitOf w 4)

@[simp] theorem State.ctlWritten_portState (s : State) (p w : Nat) : (s.ctlWritten p w).portState p = s.portState p := by
  simp [State.ctlWritten, State.portState, State.rd_wr_ne]

@[simp] theorem State.ctlWritten_en (s : State) (p w : Nat) : (s.ctlWritten p w).rd (BLK_CTL_EN p) = bitOf w 4 := by
  simp [State.ctlWritten, bitOf]

@[simp] theorem State.ctlWritten_out (s : State) (p w : Nat) : (s.ctlWritten p w).out = s.out := rfl

/-- No field of the word lies in an island's state register. -/
theorem State.ctlWritten_unitUp (s : State) (p : Fin 16) (w m : Nat) : (s.ctlWritten p w).unitUp m = s.unitUp m := by
  have hkey : ∀ i, (PWR_ISL_STATE_STATE i).key = 0x24002000 + 128 * i := fun i => by simp only [Fld.key, PWR_ISL_STATE_STATE]; omega
  unfold State.ctlWritten
  iterate 4 rw [State.unitUp_wr _ _ _ fun i => by simp only [hkey, portFld_key]; omega]

/-- EN, GEN and the unit are those of the bring-up's condition (Table 8-19). -/
theorem State.ctlWritten_portMay (s : State) (p : Fin 16) {w : Nat} (hup : s.unitUp (blkMaster p) = true) (hw : bitSet w 4 = true)
    (hgen : s.gen p ≠ 0) : (s.ctlWritten p w).portMay p = true := by
  have hen : (s.ctlWritten p w).on (BLK_CTL_EN p) = true := by
    rw [State.on, State.ctlWritten_en]; exact hw
  have hgen' : (s.ctlWritten p w).gen p = s.gen p := by simp [State.ctlWritten, State.gen, State.rd_wr_ne]
  simp [State.portMay, hen, hgen', hgen, s.ctlWritten_unitUp p, hup]

/-- EN 1 in OFF starts the bring-up, unless a reweave holds the port (R506). -/
theorem State.blkCtl_enables {s : State} {p w : Nat} (hup : s.unitUp (blkMaster p) = true) (hw : bitSet w 4 = true)
    (hoff : s.portState p = blkOFF) (hhold : p ∉ s.wrp.hold.ports) : s.blkCtl p w = (s.ctlWritten p w).portUpNow p := by
  have hoff' : (s.ctlWritten p w).portState p = blkOFF := by rw [State.ctlWritten_portState, hoff]
  rw [State.blkCtl, if_pos hup]
  simp only [State.wr_wrp, hw, List.contains_eq_mem, hhold]
  exact if_pos hoff'

/-- EN 0 takes the port to OFF. -/
theorem State.blkCtl_disables {s : State} {p w : Nat} (hup : s.unitUp (blkMaster p) = true) (hw : bitSet w 4 = false) :
    s.blkCtl p w = (s.ctlWritten p w).portOff p := by
  rw [State.blkCtl, if_pos hup]
  simp [hw, State.ctlWritten]

/-- Step 1 of Table 8-7: CLOCK, with CL alone, from now on. -/
theorem State.portUpNow_clock {s : State} {p : Nat} (hmay : s.portMay p = true) (hoff : s.portState p = blkOFF) :
    (s.portUpNow p).portState p = blkCLOCK ∧ (s.portUpNow p).rd (BLK_CTL_EN p) = s.rd (BLK_CTL_EN p) ∧
    (s.portUpNow p).out = .brodysDrive p true false :: s.out ∧ ((s.portUpNow p).port p).since = s.elapsed := by
  rw [State.portUpNow, if_pos (by simp [hmay, hoff])]
  refine ⟨?_, ?_, rfl, ?_⟩
  · simp [State.portState, blkCLOCK]
  · dsimp only
    rw [State.emit_rd, State.rd_wr_ne _ _ _ _ (by simp)]
    rfl
  · simp

/-- OFF: CL and the lanes stop, and nothing is kept to send. -/
theorem State.portOff_stops {s : State} {p : Nat} (hon : s.portState p ≠ blkOFF) :
    (s.portOff p).portState p = blkOFF ∧ (s.portOff p).rd (BLK_CTL_EN p) = s.rd (BLK_CTL_EN p) ∧
    (s.portOff p).rd (BLK_STATUS_BUSY p) = 0 ∧ (s.portOff p).out = .brodysDrive p false false :: s.out ∧
    ((s.portOff p).port p).rows = [] ∧ ((s.portOff p).port p).trans = none := by
  rw [State.portOff, if_neg hon]
  simp [State.portState, blkOFF, State.rd_wr_ne, State.rowsGone_rd]

/-! ### The RL check and RL's symbol lock (R338, R342) -/

section
variable {s : State} {p : Nat}

section
variable (htrain : s.portState p = blkTRAIN) (hdue : (s.port p).since + 1000 * max 100 (s.rd (BLK_TIMING_TRAIN_US p)) ≤ s.elapsed)
include htrain hdue

/-- With lock 1 µs of IDLE follows and enumeration, or the probe of a kept chain. -/
theorem State.rlCheck_lock (hlock : (s.port p).lock = true) :
    s.rlCheck p = (((s.emit (.brodys p [controlCol (s.gen p) symIDLE])).modPort p
      (fun r => { r with lineBusy := s.elapsed + 1000 })).wr (BLK_STATUS_STATE p) blkENUM).enumStart p
        (!(s.port p).keep && !(s.port p).warm) (s.port p).warm := by
  rw [State.rlCheck, if_pos ⟨htrain, hdue⟩, if_pos hlock]

/-- Without lock there is no chain. -/
theorem State.rlCheck_no_lock (hlock : (s.port p).lock = false) :
    (s.rlCheck p).portState p = blkNOCHAIN ∧ (s.rlCheck p).rd (BLK_STATUS_RL_LOSS p) = 1 ∧ (s.rlCheck p).rd (BLK_STATUS_BUSY p) = 0 ∧
    (s.rlCheck p).out = s.out := by
  rw [State.rlCheck, if_pos ⟨htrain, hdue⟩, if_neg (ne_true_of_eq_false hlock)]
  cases htest : (s.port p).testEnd <;> simp [State.portState, blkNOCHAIN, State.rd_wr_ne]

end

/-- 10 ms without lock retrain an ACTIVE or enumerating port with AUTO_ENUM 1. -/
theorem State.rlLoss_retrains {d : Nat} (hlost : (s.port p).lostAt = some d) (hd : d + 10000000 ≤ s.elapsed)
    (hauto : s.rd (BLK_CTL_AUTO_ENUM p) = 1) (hstate : s.portState p = blkACTIVE ∨ s.portState p = blkENUM) :
    s.rlLoss p = s.retrain p := by
  simp only [State.rlLoss, hlost]
  exact if_pos ⟨hd, beq_iff_eq.mpr hauto, hstate⟩

/-- Loss sets RL_LOSS, and the 10 ms run from now. -/
theorem State.rlLock_lost (hoff : s.portState p ≠ blkOFF) (hlock : (s.port p).lock = true) :
    s.rlLock p false = (s.modPort p (fun r => { r with lock := false, lostAt := some s.elapsed })).wr (BLK_STATUS_RL_LOSS p) 1 := by
  rw [State.rlLock, if_neg (by simp [hoff, hlock]), if_neg Bool.false_ne_true]

/-- Lock regained ends the count. -/
theorem State.rlLock_regained (hoff : s.portState p ≠ blkOFF) (hlock : (s.port p).lock = false) :
    s.rlLock p true = s.modPort p (fun r => { r with lock := true, lostAt := none }) := by
  rw [State.rlLock, if_neg (by simp [hoff, hlock]), if_pos rfl]

/-- The code errors count first, which changes neither STATE nor the record. -/
theorem State.codeErr_portState (n : Nat) : (s.bump (BLK_RL_CODE_ERR p) n).portState p = s.portState p := by
  simp [State.bump, State.portState, State.rd_wr_ne]

end

/-! ### The commands -/

section
variable {s : State} (hs : s.held = false) (p : Fin 16)
include hs

theorem exec_portEnable {w : Word} (hw : bitSet w.toNat 4 = true) : exec (.portEnable p w) s = .next (s.blkCtl p w.toNat).settle := by
  refine (State.finish_on _ hs).trans ?_
  rw [hw, State.iff_true]

theorem exec_portDisable {w : Word} (hw : bitSet w.toNat 4 = false) : exec (.portDisable p w) s = .next (s.blkCtl p w.toNat).settle := by
  refine (State.finish_on _ hs).trans ?_
  rw [hw, Bool.not_false, State.iff_true]

theorem exec_trainStart (hclock : s.portState p = blkCLOCK) (hdue : (s.port p).since + 50000 ≤ s.elapsed) :
    exec (.trainStart p) s = .next (s.toTrain p false).settle := by
  refine (State.finish_on _ hs).trans ?_
  rw [hclock, beq_self_eq_true, decide_eq_true hdue, Bool.and_self, State.iff_true]

theorem exec_rlCheck : exec (.rlCheck p) s = .next (s.rlCheck p).settle := State.finish_on _ hs

theorem exec_rlLoss : exec (.rlLoss p) s = .next (s.rlLoss p).settle := State.finish_on _ hs

theorem exec_rlSymbolLockChange (lock : Bool) (errs : Word) (hoff : s.portState p ≠ blkOFF) :
    exec (.rlSymbolLockChange p lock errs) s = .next ((s.bump (BLK_RL_CODE_ERR p) errs.toNat).rlLock p lock).settle := by
  refine (State.finish_on _ hs).trans ?_
  rw [bne_iff_ne.mpr hoff, State.iff_true]

/-- PORT_ENABLE of a port that may leave OFF. -/
theorem portEnable_effect (w : Word) (hup : s.unitUp (blkMaster p) = true) (hw : bitSet w.toNat 4 = true) (hgen : s.gen p ≠ 0)
    (hoff : s.portState p = blkOFF) (hhold : p.val ∉ s.wrp.hold.ports) :
    ∃ t, exec (.portEnable p w) s = .next t ∧ t.portState p = blkCLOCK ∧ t.rd (BLK_CTL_EN p) = 1 ∧
      t.out = .brodysDrive p true false :: s.out ∧ (t.port p).since = s.elapsed := by
  obtain ⟨hstate, hen, hout, hsince⟩ := State.portUpNow_clock (s.ctlWritten_portMay p hup hw hgen)
    ((s.ctlWritten_portState p _).trans hoff)
  refine ⟨_, exec_portEnable hs p hw, ?_⟩
  rw [State.blkCtl_enables hup hw hoff hhold]
  simp only [State.rd_settle_port, State.settle_out, State.port_settle]
  exact ⟨hstate, hen.trans ((s.ctlWritten_en p _).trans (beq_iff_eq.mp hw)), hout, hsince⟩

/-- PORT_DISABLE of a port not in OFF. -/
theorem portDisable_effect (w : Word) (hup : s.unitUp (blkMaster p) = true) (hw : bitSet w.toNat 4 = false)
    (hon : s.portState p ≠ blkOFF) :
    ∃ t, exec (.portDisable p w) s = .next t ∧ t.portState p = blkOFF ∧ t.rd (BLK_CTL_EN p) = 0 ∧ t.rd (BLK_STATUS_BUSY p) = 0 ∧
      t.out = .brodysDrive p false false :: s.out ∧ (t.port p).rows = [] ∧ (t.port p).trans = none := by
  have hen0 : bitOf w.toNat 4 = 0 := (Nat.mod_two_eq_zero_or_one _).resolve_right (beq_eq_false_iff_ne.mp hw)
  obtain ⟨hstate, hen, hbusy, hout, hrows, htrans⟩ := State.portOff_stops (mt (s.ctlWritten_portState p w.toNat).symm.trans hon)
  refine ⟨_, exec_portDisable hs p hw, ?_⟩
  rw [State.blkCtl_disables hup hw]
  simp only [State.rd_settle_port, State.settle_out, State.port_settle]
  exact ⟨hstate, hen.trans ((s.ctlWritten_en p _).trans hen0), hbusy, hout, hrows, htrans⟩

end

/-- Settles O24: EN's two writes, the training set, the RL check by lock, and the loss of lock with what it leads to. The one IDLE column
before ENUM and before a retrain is the model's (DESIGN CHOICE, log entry 57). -/
theorem portComesUpAndGoesDown : Obligations.PortComesUpAndGoesDown := by
  refine ⟨fun s p w hs hup => ⟨portEnable_effect hs p w hup, portDisable_effect hs p w hup⟩,
    fun s p hs => ⟨fun hclock hdue => ?_, fun htrain hdue => ⟨fun hlock => ?_, fun hlock => ?_⟩,
      fun d hlost hd hauto hstate => ?_, fun errs hoff hlock => ?_, fun errs hoff hlock => ?_⟩⟩
  · refine ⟨_, exec_trainStart hs p hclock hdue, ?_⟩
    simp [State.toTrain_portState, State.toTrain_since, State.toTrain_out_clock _ _ _ hclock]
  · exact ⟨_, exec_rlCheck hs p, by simpa using State.rlCheck_no_lock htrain hdue hlock⟩
  · rw [exec_rlCheck hs, State.rlCheck_lock htrain hdue hlock]
  · refine ⟨_, exec_rlLoss hs p, ?_⟩
    rw [State.rlLoss_retrains hlost hd hauto hstate]
    obtain ⟨hoff, hclock⟩ := pastClock (q := s.portState p) (by rcases hstate with h | h <;> rw [h] <;> decide)
    simp [State.retrain, State.toTrain_portState, State.toTrain_out_past _ _ _ hoff hclock]
  · refine ⟨_, exec_rlSymbolLockChange hs p false errs hoff, ?_⟩
    rw [State.rlLock_lost (mt (State.codeErr_portState _).symm.trans hoff) hlock]
    simp [State.bump, State.rd_wr_ne]
  · refine ⟨_, exec_rlSymbolLockChange hs p true errs hoff, ?_⟩
    rw [State.rlLock_regained (mt (State.codeErr_portState _).symm.trans hoff) hlock]
    simp [State.bump]

end Sys2Proof.Machine

/-! # The commands of a Brodys port, its transmitter settings and the end of a test -/

namespace Sys2Proof.Machine

open R

/-! ### Accepting a command (R363) -/

theorem State.cmdOk_free {s : State} {p : Nat} {l : List Nat} (hbusy : s.rd (BLK_STATUS_BUSY p) ≠ 1) (hstate : s.portState p ∈ l) :
    s.cmdOk p l = true := by
  simp [State.cmdOk, State.on, hbusy, hstate]

theorem State.cmdOk_busy {s : State} {p : Nat} (l : List Nat) (hbusy : s.rd (BLK_STATUS_BUSY p) = 1) : s.cmdOk p l = false := by
  simp [State.cmdOk, State.on, hbusy]

/-- Command `c` of port `p` runs `f` where `ok` says so, and is rejected elsewhere. -/
def PortActs (p : Nat) (c : Instr) (ok : State → Bool) (f : State → State) : Prop :=
  ∀ s : State, exec c s = s.finish (s.blkCmd p (ok s) f)

section
variable (p : Fin 16)

theorem blkNop_acts : PortActs p (.blkNop p) (fun s => !s.on (BLK_STATUS_BUSY p)) id := fun _ => rfl
theorem retrain_acts : PortActs p (.retrain p) (·.cmdOk p [blkACTIVE, blkNOCHAIN]) (fun t => (t.wr (BLK_STATUS_BUSY p) 1).retrain p) :=
  fun _ => rfl
theorem enumerate_acts : PortActs p (.enumerate p) (·.cmdOk p [blkACTIVE]) (·.enumCmd p) := fun _ => rfl
theorem reauth_acts : PortActs p (.reauth p) (·.cmdOk p [blkACTIVE]) (fun t => t.authTiles p (t.tilesOf p) true) := fun _ => rfl
theorem testStart_acts : PortActs p (.testStart p) (fun s => s.cmdOk p [blkACTIVE, blkNOCHAIN] && s.rd (BLK_TEST_MODE p) != 3)
    (·.testStart p) := fun _ => rfl
theorem testStop_acts (rl : Option Word) :
    PortActs p (.testStop p rl) (·.cmdOk p [blkTEST]) (·.testOver p (rl.map BitVec.toNat)) := fun _ => rfl

end

section
variable {s : State} {p : Nat} {c : Instr} {ok : State → Bool} {f : State → State} (hc : PortActs p c ok f) (hs : s.held = false)
  (hup : s.unitUp (blkMaster p) = true)
include hc hs hup

theorem PortActs.accepted (hok : ok s = true) : exec c s = .next (f s).settle := by
  rw [hc s, State.finish_on _ hs, State.blkCmd, if_pos hup, if_pos hok]

theorem PortActs.rejected (hok : ok s = false) : exec c s = .next (s.wr (BLK_STATUS_CMD_REJECT p) 1).settle := by
  rw [hc s, State.finish_on _ hs, State.blkCmd, if_pos hup, if_neg (ne_true_of_eq_false hok)]

end

/-! ### What the commands do -/

/-- RETRAIN sets BUSY and keeps the addresses (R342). -/
theorem State.retrain_busy {s : State} {p : Nat} (hstate : s.portState p = blkACTIVE ∨ s.portState p = blkNOCHAIN) :
    ((s.wr (BLK_STATUS_BUSY p) 1).retrain p).portState p = blkTRAIN ∧
    ((s.wr (BLK_STATUS_BUSY p) 1).retrain p).rd (BLK_STATUS_BUSY p) = 1 ∧
    (((s.wr (BLK_STATUS_BUSY p) 1).retrain p).port p).keep = true ∧
    ((s.wr (BLK_STATUS_BUSY p) 1).retrain p).out = .brodys p (retrainCols s p) :: .brodysDrive p true true :: s.out := by
  have hbusy : (s.wr (BLK_STATUS_BUSY p) 1).portState p = s.portState p := by simp [State.portState, State.rd_wr_ne]
  have hgen : (s.wr (BLK_STATUS_BUSY p) 1).gen p = s.gen p := by simp [State.gen, State.rd_wr_ne]
  obtain ⟨hoff, hclock⟩ := pastClock (q := s.portState p) (by rcases hstate with h | h <;> rw [h] <;> decide)
  have hkeep : ¬ (s.portState p = blkTRAIN ∨ s.portState p = blkENUM) := by rcases hstate with h | h <;> rw [h] <;> decide
  rw [State.retrain, hbusy, if_neg hkeep]
  refine ⟨State.toTrain_portState _ _ _, ?_, State.toTrain_keep _ _ _, ?_⟩
  · simp [State.toTrain_rd]
  · rw [State.toTrain_out_past _ _ _ (mt hbusy.symm.trans hoff) (mt hbusy.symm.trans hclock)]
    simp [retrainCols, hgen]

/-- A test is in TEST, and the pattern is what is sent last (R365). -/
theorem State.testStart_sends (s : State) (p : Nat) : (s.testStart p).portState p = blkTEST ∧
    ∃ pat lanes l, (s.testStart p).out = .brodysTest p pat lanes (max 1 (s.rd (BLK_TEST_DURATION_US p))) :: l := by
  obtain ⟨u, pat, lanes, hu⟩ : ∃ (u : State) (pat lanes : Nat), s.testStart p =
      ((u.wr (BLK_STATUS_STATE p) blkTEST).iff (s.rd (BLK_TEST_MODE p) == 1) (·.emit (.brodysDrive p true false))).emit
        (.brodysTest p pat lanes (max 1 (s.rd (BLK_TEST_DURATION_US p)))) := ⟨_, _, _, rfl⟩
  rw [hu]
  refine ⟨?_, pat, lanes, _, rfl⟩
  rw [State.portState, State.emit_rd, State.iff_keeps (·.rd (BLK_STATUS_STATE p)) _ _ _ (State.emit_rd _ _ _), State.rd_wr_same]
  simp [blkTEST]

/-- The end of a test retrains with BUSY set (R365). -/
theorem State.testOver_retrains (s : State) (p : Nat) (rl : Option Nat) : (s.testOver p rl).portState p = blkTRAIN ∧
    (s.testOver p rl).rd (BLK_STATUS_BUSY p) = 1 ∧ ((s.testOver p rl).port p).testEnd = true := by
  obtain ⟨u, hu⟩ : ∃ u : State, s.testOver p rl =
      ((u.wr (BLK_STATUS_BUSY p) 1).toTrain p true).modPort p (fun r => { r with testEnd := true }) := ⟨_, rfl⟩
  rw [hu]
  refine ⟨?_, ?_, ?_⟩
  · rw [State.portState_modPort, State.toTrain_portState]
  · simp [State.toTrain_rd]
  · simp

/-! ### The transmitter settings (R342) -/

/-- A write of `BLK_TXCFG` stores both settings. -/
def State.txWritten (s : State) (p w : Nat) : State := (s.wr (BLK_TXCFG_SWING p) w).wr (BLK_TXCFG_DEEMPH p) (w / 16)

section
variable {s : State} {p w : Nat} (hup : s.unitUp (blkMaster p) = true)
include hup

/-- The same values again only are stored. -/
theorem State.txcfg_same (hswing : w % 16 = s.rd (BLK_TXCFG_SWING p)) (hdeemph : w / 16 % 16 = s.rd (BLK_TXCFG_DEEMPH p)) :
    s.txcfg p w = s.txWritten p w := by
  rw [State.txcfg, if_pos hup, bne_eq_false_iff_eq.mpr hswing, bne_eq_false_iff_eq.mpr hdeemph]
  rfl

/-- A change past CLOCK retrains. -/
theorem State.txcfg_change (hchange : w % 16 ≠ s.rd (BLK_TXCFG_SWING p) ∨ w / 16 % 16 ≠ s.rd (BLK_TXCFG_DEEMPH p))
    (hoff : s.portState p ≠ blkOFF) (hclock : s.portState p ≠ blkCLOCK) : (s.txcfg p w).portState p = blkTRAIN ∧
    (s.txcfg p w).rd (BLK_TXCFG_SWING p) = w % 16 ∧ (s.txcfg p w).rd (BLK_TXCFG_DEEMPH p) = w / 16 % 16 := by
  have hstate : (s.txWritten p w).portState p = s.portState p := by simp [State.txWritten, State.portState, State.rd_wr_ne]
  have hchange' : (w % 16 != s.rd (BLK_TXCFG_SWING p) || w / 16 % 16 != s.rd (BLK_TXCFG_DEEMPH p)) = true := by simpa using hchange
  have hretrains : s.txcfg p w = ((s.txWritten p w).iff (s.portState p == blkTEST)
      (·.modPort p (fun r => { r with testEnd := true }))).retrain p := by
    rw [← hstate] at hoff hclock ⊢
    rw [State.txcfg, if_pos hup]
    dsimp only
    rw [hchange', Bool.true_and]
    change State.iff _ ((s.txWritten p w).portState p != blkOFF && (s.txWritten p w).portState p != blkCLOCK) _ = _
    rw [bne_iff_ne.mpr hoff, bne_iff_ne.mpr hclock]
    rfl
  rw [hretrains]
  refine ⟨State.toTrain_portState _ _ _, ?_, ?_⟩
  · rw [State.retrain, State.toTrain_rd _ _ _ (by simp) (by simp), State.iff_keeps (·.rd _) _ _ _ rfl]
    simp [State.txWritten, State.rd_wr_ne]
  · rw [State.retrain, State.toTrain_rd _ _ _ (by simp) (by simp), State.iff_keeps (·.rd _) _ _ _ rfl]
    simp [State.txWritten]

end

/-! ### The commands -/

section
variable {s : State} (hs : s.held = false) (p : Fin 16)
include hs

theorem exec_testEnd (rl : Option Word) (htest : s.portState p = blkTEST) (hdue : (s.port p).testAt ≤ s.elapsed) :
    exec (.testEnd p rl) s = .next (s.testOver p (rl.map BitVec.toNat)).settle := by
  refine (State.finish_on _ hs).trans ?_
  rw [htest, beq_self_eq_true, decide_eq_true hdue, Bool.and_self, State.iff_true]

theorem exec_txcfgWrite (w : Word) : exec (.txcfgWrite p w) s = .next (s.txcfg p w.toNat).settle := State.finish_on _ hs

end

/-- Settles O25: each command runs its effect where it is accepted and is rejected while BUSY, and the end of a test and a change of the
transmitter settings train again. The one IDLE column before a retrain is the model's (DESIGN CHOICE, log entry 57). -/
theorem portCommands : Obligations.PortCommands := by
  refine ⟨fun s p hs hup hbusy => ⟨?_, fun hstate => ⟨?_, fun hmode => ?_⟩, fun hactive => ⟨?_, ?_⟩, fun rl htest => ?_⟩,
    fun s p c hs hup hbusy hc => ?_, fun s p rl hs htest hdue => ?_,
    fun s p w hs hup => ⟨fun hswing hdeemph => ?_, fun hchange hoff hclock => ?_⟩⟩
  · exact (blkNop_acts p).accepted hs hup (by simp [State.on, hbusy])
  · refine ⟨_, (retrain_acts p).accepted hs hup (State.cmdOk_free hbusy (by simp [hstate])), ?_⟩
    simpa using State.retrain_busy hstate
  · refine ⟨_, (testStart_acts p).accepted hs hup (by simp [State.cmdOk_free hbusy, hstate, hmode]), ?_⟩
    simpa using State.testStart_sends s p
  · exact (enumerate_acts p).accepted hs hup (State.cmdOk_free hbusy (by simp [hactive]))
  · exact (reauth_acts p).accepted hs hup (State.cmdOk_free hbusy (by simp [hactive]))
  · refine ⟨_, (testStop_acts p rl).accepted hs hup (State.cmdOk_free hbusy (by simp [htest])), ?_⟩
    simpa using State.testOver_retrains s p (rl.map BitVec.toNat)
  · have hno := fun l => State.cmdOk_busy l hbusy
    obtain rfl | rfl | rfl | rfl | rfl | ⟨rl, rfl⟩ := hc
    · exact (blkNop_acts p).rejected hs hup (by simp [State.on, hbusy])
    · exact (retrain_acts p).rejected hs hup (hno _)
    · exact (enumerate_acts p).rejected hs hup (hno _)
    · exact (reauth_acts p).rejected hs hup (hno _)
    · exact (testStart_acts p).rejected hs hup (by rw [hno, Bool.false_and])
    · exact (testStop_acts p rl).rejected hs hup (hno _)
  · refine ⟨_, exec_testEnd hs p rl htest hdue, ?_⟩
    simpa using State.testOver_retrains s p (rl.map BitVec.toNat)
  · rw [exec_txcfgWrite hs, State.txcfg_same hup hswing hdeemph]
    rfl
  · refine ⟨_, exec_txcfgWrite hs p w, ?_⟩
    simpa using State.txcfg_change hup hchange hoff hclock

end Sys2Proof.Machine

/-! # Host transactions and error injection on a Brodys port -/

namespace Sys2Proof.Machine

open R

/-! ### A write of `BLK_HM_CTL` (R364) -/

/-- What the word leaves in LEN, OP and ADDR. -/
def State.hmWritten (s : State) (p w : Nat) : State :=
  ((s.wr (BLK_HM_CTL_LEN p) (w / 65536)).wr (BLK_HM_CTL_OP p) (w / 256)).wr (BLK_HM_CTL_ADDR p) w

/-- The request that the word and the request buffer make. -/
def State.hmRequest (s : State) (p w : Nat) : HostReq :=
  { op := w / 256 % 256, addr := w % 256
    args := ((List.range 512).flatMap (fun j => natLe 4 (s.rd (BLK_HM_REQ p j)))).take (w / 65536 % 2 ^ 13) }

@[simp] theorem State.hmWritten_portState (s : State) (p w : Nat) : (s.hmWritten p w).portState p = s.portState p := by
  simp [State.hmWritten, State.portState, State.rd_wr_ne]

@[simp] theorem State.hmWritten_out (s : State) (p w : Nat) : (s.hmWritten p w).out = s.out := rfl

/-- The request buffer lies beyond the word. -/
theorem State.hmWritten_req (s : State) (p w j : Nat) : (s.hmWritten p w).rd (BLK_HM_REQ p j) = s.rd (BLK_HM_REQ p j) := by
  have hkey : (BLK_HM_REQ p j).key = 0x80000 * p + 0x14020000 + 128 * j := by simp only [Fld.key, BLK_HM_REQ]; omega
  unfold State.hmWritten
  iterate 3 rw [State.rd_wr_ne _ _ _ _ (by simp only [hkey, portFld_key]; omega)]

section
variable {s : State} {p w : Nat} (hup : s.unitUp (blkMaster p) = true) (hgo : s.rd (BLK_HM_CTL_GO p) ≠ 1) (hw : bitSet w 31 = true)
include hup hgo hw

/-- GO asks for the request that the word and the buffer make. -/
theorem State.hostMgmt_asks : s.hostMgmt p w =
    if !hostOpOk (s.hmRequest p w).op (s.hmRequest p w).addr (w / 65536 % 2 ^ 13) (s.hmRequest p w).args then
      (s.hmWritten p w).hostEnd p 2 0 []
    else if (s.hmWritten p w).portState p = blkOFF then (s.hmWritten p w).hostEnd p 3 0 []
    else (((s.hmWritten p w).wr (BLK_HM_CTL_GO p) 1).modPort p (fun r => { r with host := some (s.hmRequest p w) })).pumpPort p := by
  have hgo' : ¬ (s.on (BLK_HM_CTL_GO p) = true ∨ ¬ s.unitUp (blkMaster p) = true) := by simp [State.on, hgo, hup]
  have hreq : (s.hmWritten p w).hmRequest p w = s.hmRequest p w := by simp only [State.hmRequest, State.hmWritten_req]
  rw [← hreq, State.hostMgmt, if_neg hgo']
  simp only [hw, Bool.not_true]
  rfl

end

/-- A transaction that ends at once shows its result and sends nothing (Table 8-20). -/
theorem State.hostEnd_shows (s : State) (p : Nat) {result : Nat} (hresult : result < 8) :
    (s.hostEnd p result 0 []).rd (BLK_HM_STATUS_RESULT p) = result ∧ (s.hostEnd p result 0 []).rd (BLK_HM_STATUS_DONE p) = 1 ∧
    (s.hostEnd p result 0 []).rd (BLK_HM_CTL_GO p) = 0 ∧ (s.hostEnd p result 0 []).out = s.out := by
  simp [State.hostEnd_empty, State.rd_wr_ne, Nat.mod_eq_of_lt hresult]

/-! ### Error injection (R367) -/

/-- One transmitted bit of the lane is inverted, now. -/
theorem State.injectNow_inverts {s : State} {p : Nat} (hlane : s.rd (BLK_INJECT_LANE p) < 4) (hoff : s.portState p ≠ blkOFF)
    (hclock : s.portState p ≠ blkCLOCK) :
    (s.injectNow p).out = .bitError p (s.rd (BLK_INJECT_LANE p)) :: s.out ∧ ((s.injectNow p).port p).injectAt = s.elapsed := by
  rw [State.injectNow, if_pos ⟨hlane, hoff, hclock⟩]
  refine ⟨State.iff_keeps (·.out) _ _ _ rfl, (State.iff_keeps (fun t => (t.port p).injectAt) _ _ _ rfl).trans ?_⟩
  simp

/-- What a write of `BLK_INJECT` leaves in its fields. -/
def State.injectWritten (s : State) (p w : Nat) : State :=
  (((s.wr (BLK_INJECT_LANE p) w).wr (BLK_INJECT_MODE p) (w / 16)).wr (BLK_INJECT_PERIOD p) (w / 256)).iff (bitSet w 6)
    (·.wr (BLK_INJECT_MGMT_CRC p) 1)

/-- They are registers of their own. -/
theorem State.injectWritten_rd (s : State) (p w : Nat) : (s.injectWritten p w).rd (BLK_INJECT_LANE p) = w % 8 ∧
    (s.injectWritten p w).rd (BLK_INJECT_MODE p) = w / 16 % 4 ∧ (s.injectWritten p w).portState p = s.portState p ∧
    (s.injectWritten p w).out = s.out ∧ (s.injectWritten p w).elapsed = s.elapsed := by
  unfold State.injectWritten
  cases bitSet w 6 <;> simp [State.portState, State.rd_wr_ne]

/-- Modes 1 and 2 inject at the write. -/
theorem State.inject_writes {s : State} {p w : Nat} (hup : s.unitUp (blkMaster p) = true) (hmode : w / 16 % 4 = 1 ∨ w / 16 % 4 = 2) :
    s.inject p (some w) = (s.injectWritten p w).injectNow p := by
  have hmode' : ((s.injectWritten p w).rd (BLK_INJECT_MODE p) == 1 || (s.injectWritten p w).rd (BLK_INJECT_MODE p) == 2) = true := by
    rw [(s.injectWritten_rd p w).2.1]
    simpa using hmode
  rw [State.inject, hup, Bool.not_true, if_neg Bool.false_ne_true]
  change (s.injectWritten p w).iff
    ((s.injectWritten p w).rd (BLK_INJECT_MODE p) == 1 || (s.injectWritten p w).rd (BLK_INJECT_MODE p) == 2) _ = _
  rw [hmode', State.iff_true]

/-- A burst starts at once on lanes in electrical idle (R341). -/
theorem State.fastExit_bursts {s : State} {p : Nat} (hidle : (s.port p).idle = true) (hburst : (s.port p).burst = none) :
    s.fastExit p = ((s.modPort p (fun r => { r with burst := some s.elapsed, lineBusy := max r.lineBusy (s.elapsed + 200) })).emit
      (.brodysDrive p true true)).emit (.brodysBurst p) :=
  if_pos (by simp [hidle, hburst])

/-! ### The commands -/

section
variable {s : State} (hs : s.held = false) (p : Fin 16)
include hs

theorem exec_hostMgmt (w : Word) : exec (.hostMgmt p w) s = .next (s.hostMgmt p w.toNat).settle := State.finish_on _ hs

theorem exec_injectError (w : Word) : exec (.injectError p (some w)) s = .next (s.inject p (some w.toNat)).settle :=
  State.finish_on _ hs

theorem exec_injectMgmtCrc (hup : s.unitUp (blkMaster p) = true) :
    exec (.injectMgmtCrc p) s = .next (s.wr (BLK_INJECT_MGMT_CRC p) 1).settle := by
  refine (State.finish_on _ hs).trans ?_
  rw [hup, State.iff_true]

theorem exec_fastExitBurst : exec (.fastExitBurst p) s = .next (s.fastExit p).settle := State.finish_on _ hs

end

/-- Settles O27: GO by whether the request is accepted and the port in OFF, injection by its mode, and the burst. That a request of a
port in OFF ends at once is the model's (DEDUCED, log entry 58). -/
theorem hostTransactionsAndInjection : Obligations.HostTransactionsAndInjection := by
  refine ⟨fun s p w hs hup hgo hw args hargs => ⟨fun hok => ?_, fun hok hoff => ?_, fun hok hon => ?_⟩,
    fun s p w hs hup hlane hmode hoff hclock => ?_, fun s p hs => ⟨exec_injectMgmtCrc hs p, fun hidle hburst => ?_⟩⟩
  · refine ⟨_, exec_hostMgmt hs p w, ?_⟩
    subst hargs
    rw [State.hostMgmt_asks hup hgo hw, State.hmRequest, hok, Bool.not_false, if_pos rfl]
    simpa using (s.hmWritten p w.toNat).hostEnd_shows p (result := 2) (by decide)
  · refine ⟨_, exec_hostMgmt hs p w, ?_⟩
    subst hargs
    rw [State.hostMgmt_asks hup hgo hw, State.hmRequest, hok, Bool.not_true, if_neg Bool.false_ne_true,
      if_pos ((s.hmWritten_portState p _).trans hoff)]
    simpa using (s.hmWritten p w.toNat).hostEnd_shows p (result := 3) (by decide)
  · subst hargs
    rw [exec_hostMgmt hs, State.hostMgmt_asks hup hgo hw, State.hmRequest, hok, Bool.not_true, if_neg Bool.false_ne_true,
      if_neg (mt (s.hmWritten_portState p _).symm.trans hon)]
    rfl
  · obtain ⟨hlane', -, hstate, hout, helapsed⟩ := s.injectWritten_rd p w.toNat
    obtain ⟨herr, hat⟩ := State.injectNow_inverts (Nat.lt_of_le_of_lt (Nat.le_of_eq hlane') hlane)
      (mt hstate.symm.trans hoff) (mt hstate.symm.trans hclock)
    refine ⟨_, exec_injectError hs p w, ?_⟩
    rw [State.inject_writes hup hmode, State.settle_out, State.port_settle, herr, hat, hlane', hout, helapsed]
    exact ⟨rfl, rfl⟩
  · rw [exec_fastExitBurst hs, State.fastExit_bursts hidle hburst]

end Sys2Proof.Machine

/-! # Management transactions, polling and authentication of a Brodys port -/

namespace Sys2Proof.Machine

open R

/-! ### Transactions (R343, R345) -/

section
variable {s : State} {p : Nat} {tr : Trans} (htrans : (s.port p).trans = some tr) (hsent : tr.unsent = false)
include htrans hsent

/-- The response with the outstanding SEQ ends the transaction. -/
theorem State.mrsp_answers {seq : Nat} (st : Nat) {d : List Byte} (hseq : tr.seq = seq) (hlen : d.length ≤ 4608) (haddr : tr.addr < 64) :
    s.mrsp p seq st d = ((((s.modPort p (fun r => { r with trans := none })).modTile p tr.addr (fun q => { q with fails := 0 })).taskAnswer
      p tr.task st d).mgrIdle p).pumpPort p := by
  simp only [State.mrsp, htrans]
  rw [if_neg (by simp [hsent, hseq, hlen]), decide_eq_true haddr, State.iff_true]

section
variable (hdue : tr.endAt + 1000 * max 1 (s.rd (BLK_MGMT_TO_US p)) ≤ s.elapsed)
include hdue

/-- Without a response the request goes again while retries are left. -/
theorem State.mgmtTimeout_retries (hleft : tr.left ≠ 0) :
    s.mgmtTimeout p = (s.bump (BLK_MGMT_RETRY_CNT p)).resend p { tr with left := tr.left - 1 } := by
  simp only [State.mgmtTimeout, htrans]
  rw [if_neg (by simp [hsent, hdue]), if_neg hleft]

/-- With none left the transaction fails. -/
theorem State.mgmtTimeout_fails (hleft : tr.left = 0) : s.mgmtTimeout p = s.transFail p tr := by
  simp only [State.mgmtTimeout, htrans]
  rw [if_neg (by simp [hsent, hdue]), if_pos hleft]

end

end

/-! ### Polling and ATTN (R328, R349) -/

section
variable {s : State} {p : Nat} (hactive : s.portState p = blkACTIVE)
include hactive

/-- The next present tile in turn is polled. -/
theorem State.pollDue_next {n : Nat} (henum : (s.port p).enum = none)
    (hnext : (s.tilesOf p).find? (fun n => decide ((s.port p).pollNext ≤ n)) = some n) :
    s.pollDue p = ((s.modPort p (fun r => { r with pollNext := n + 1 })).addTasks p [.status n]).pumpPort p := by
  simp only [State.pollDue, hnext]
  exact if_neg (by simp [hactive, henum])

/-- ATTN is shown, and a 1 starts a full round of STATUS. -/
theorem State.attnSet_round (henum : (s.port p).enum = none) : s.attnSet p true =
    ((s.wr (BLK_STATUS_ATTN p) 1).addTasks p (((s.wr (BLK_STATUS_ATTN p) 1).tilesOf p).map .status)).pumpPort p := by
  have hactive' : (s.wr (BLK_STATUS_ATTN p) 1).portState p = blkACTIVE := by
    rw [← hactive]; simp [State.portState, State.rd_wr_ne]
  rw [State.attnSet, if_neg (by rw [hactive]; decide)]
  exact if_pos (by simp [b2n, hactive', henum])

/-- A 0 is shown only. -/
theorem State.attnSet_clear : s.attnSet p false = s.wr (BLK_STATUS_ATTN p) 0 := by
  rw [State.attnSet, if_neg (by rw [hactive]; decide)]
  rfl

end

/-! ### Authentication (R357) -/

section
variable {s : State} {p : Nat} {a : AuthSt} (hauth : (s.port p).auth = some a)
include hauth

/-- A certificate that does not verify ends the authentication with its code. -/
theorem State.authVerifyDone_refuted (hcert : a.verify = 1) (hverdict : s.certVerdict p a ≠ 2) :
    s.authVerifyDone p = (s.authEnd p (s.certVerdict p a)).pumpPort p := by
  simp only [State.authVerifyDone, hauth]
  rw [if_pos hcert, if_pos hverdict]

/-- One that verifies draws the nonce of the challenge. -/
theorem State.authVerifyDone_challenges (hcert : a.verify = 1) (hverdict : s.certVerdict p a = 2) :
    s.authVerifyDone p = (((s.freeBytes 32).2.modPort p
      (fun r => { r with auth := some { a with verify := 0, nonce := (s.freeBytes 32).1, since := s.elapsed } })).addTasks p
        [.challenge a.n]).pumpPort p := by
  simp only [State.authVerifyDone, hauth]
  rw [if_pos hcert, if_neg (not_not_intro hverdict)]

/-- The signature's verification ends it with PASS or BAD_SIG. -/
theorem State.authVerifyDone_signature (hsig : a.verify = 2) : s.authVerifyDone p = (s.authEnd p
    (if Config.mldsaVerify (slice a.cert 0x30 2592) (challengeText a.nonce (s.tileSerial p a.n)) a.sig then 2 else 6)).pumpPort p := by
  simp only [State.authVerifyDone, hauth]
  rw [if_neg (by rw [hsig]; decide), if_pos hsig]

section
variable {d : Nat} (hbusy : a.busyAt = some d) (hdue : d + 1000000 ≤ s.elapsed)
include hbusy hdue

/-- 1 ms after BUSY the signature is read again. -/
theorem State.authPoll_again (hin : s.elapsed ≤ a.since + 50000000) :
    s.authPoll p = ((s.modPort p (fun r => { r with auth := some { a with busyAt := none } })).addTasks p
      [.sig a.n (a.sig.length / 1024)]).pumpPort p := by
  simp only [State.authPoll, hauth, hbusy]
  rw [if_neg (Nat.not_lt.mpr hdue), if_neg (Nat.not_lt.mpr hin)]

/-- After 50 ms it has failed. -/
theorem State.authPoll_late (hlate : a.since + 50000000 < s.elapsed) : s.authPoll p = (s.authEnd p 6).pumpPort p := by
  simp only [State.authPoll, hauth, hbusy]
  rw [if_neg (Nat.not_lt.mpr hdue), if_pos hlate]

end

end

/-! ### The commands -/

section
variable {s : State} (hs : s.held = false) (p : Fin 16)
include hs

theorem exec_mrspReceived (seq st : Fin 256) (d : List Byte) : exec (.mrspReceived p seq st d) s = .next (s.mrsp p seq st d).settle :=
  State.finish_on _ hs

theorem exec_mgmtTimeout : exec (.mgmtTimeout p) s = .next (s.mgmtTimeout p).settle := State.finish_on _ hs

theorem exec_pollDue : exec (.pollDue p) s = .next (s.pollDue p).settle := State.finish_on _ hs

theorem exec_attnSet (v : Bool) : exec (.attnSet p v) s = .next (s.attnSet p v).settle := State.finish_on _ hs

theorem exec_authVerifyDone : exec (.authVerifyDone p) s = .next (s.authVerifyDone p).settle := State.finish_on _ hs

theorem exec_authPoll : exec (.authPoll p) s = .next (s.authPoll p).settle := State.finish_on _ hs

theorem exec_tallyWriteback : exec .tallyWriteback s = .next (s.each (List.range 16) (fun p t => t.hoursOut p)).settle :=
  State.finish_on _ hs

end

/-- Settles O26: a transaction by its response or its time, polling in turn, and an authentication by what has been verified. -/
theorem portManagement : Obligations.PortManagement := by
  refine ⟨fun s p tr hs htrans hsent => ⟨fun seq st d hseq hlen haddr => ?_, fun hdue => ⟨fun hleft => ?_, fun hleft => ?_⟩⟩,
    fun s p n hs hactive henum => ⟨fun hnext => ?_, ?_, ?_⟩,
    fun s p a hs hauth => ⟨fun hcert hverdict => ?_, fun hcert hverdict => ?_, fun hsig => ?_,
      fun d hbusy hdue => ⟨fun hin => ?_, fun hlate => ?_⟩⟩,
    fun s hs => exec_tallyWriteback hs⟩
  · rw [exec_mrspReceived hs, State.mrsp_answers htrans hsent st hseq hlen haddr]
  · rw [exec_mgmtTimeout hs, State.mgmtTimeout_retries htrans hsent hdue hleft]
  · rw [exec_mgmtTimeout hs, State.mgmtTimeout_fails htrans hsent hdue hleft]
  · rw [exec_pollDue hs, State.pollDue_next hactive henum hnext]
  · rw [exec_attnSet hs, State.attnSet_round hactive henum]
  · rw [exec_attnSet hs, State.attnSet_clear hactive]
  · rw [exec_authVerifyDone hs, State.authVerifyDone_refuted hauth hcert hverdict]
  · rw [exec_authVerifyDone hs, State.authVerifyDone_challenges hauth hcert hverdict]
  · rw [exec_authVerifyDone hs, State.authVerifyDone_signature hauth hsig]
  · rw [exec_authPoll hs, State.authPoll_again hauth hbusy hdue hin]
  · rw [exec_authPoll hs, State.authPoll_late hauth hbusy hdue hlate]

end Sys2Proof.Machine

/-! # Operations of the bobbin pool -/

namespace Sys2Proof.Machine

open R

/-! ### What asking the pool, and its reads of memory, leave alone

They write counts and status bits of memory, the host interface, the fault collector and the counters, and the pool's own round-robin
record; the pool decides by none of these. -/

/-- The field lies where accesses are accounted for: with the memory controller or the status of the host interface, or with the fault
collector or the counters. -/
def bookFld (F : Fld) : Prop :=
  0x00D00000 ≤ F.key / 32 ∧ F.key / 32 < 0x00E11000 ∨ 0x01000000 ≤ F.key / 32 ∧ F.key / 32 < 0x01200000

theorem bookFld.ne {F G : Fld} (hF : bookFld F) (hG : ¬ bookFld G) : G.key ≠ F.key := fun h => hG (by rwa [bookFld, h])

theorem memCount_book {k : Nat} (hk : k ≤ 1) : ∀ F ∈ [MEM_CE_CNT k, MEM_UE_CNT k, MEM_ODC_CNT k], bookFld F := by
  simp only [List.forall_mem_cons, List.not_mem_nil, false_imp_iff, implies_true, and_true, bookFld, Fld.key, MEM_CE_CNT, MEM_UE_CNT,
    MEM_ODC_CNT]
  omega

theorem status_book : ∀ F ∈ [CNT_STATUS_OVF, FLT_LOST, HIF_STATUS_XLAT, MEM_STATUS_CE, MEM_STATUS_UE], bookFld F := by
  unfold bookFld
  decide

theorem fltCount_book {c : Nat} (hc : c < 24) : bookFld (FLT_COUNT c) := by
  simp only [bookFld, Fld.key, FLT_COUNT]
  omega

/-- The fields that describe a pool and its free list are none of them. -/
theorem poolFld_notBook {p : Nat} (hp : p < 64) : ∀ F ∈ [POOL_CTL_LOG2 p, POOL_CTL_STATE p, POOL_BASE_LO p, POOL_BASE_HI p,
    POOL_COUNT p, POOL_META_LO p, POOL_META_HI p, POOL_FREE p], ¬ bookFld F := by
  simp only [List.forall_mem_cons, List.not_mem_nil, false_imp_iff, implies_true, and_true, bookFld, Fld.key, POOL_CTL_LOG2,
    POOL_CTL_STATE, POOL_BASE_LO, POOL_BASE_HI, POOL_COUNT, POOL_META_LO, POOL_META_HI, POOL_FREE]
  omega

theorem islState_notBook (i : Nat) : ¬ bookFld (PWR_ISL_STATE_STATE i) := by
  simp only [bookFld, Fld.key, PWR_ISL_STATE_STATE]
  omega

/-- Nor are those of a segment of the host window. -/
theorem obFld_notBook {n : Nat} (hn : n < 256) : ∀ F ∈ [HIF_OB_CTL_EN n, HIF_OB_HI_ADDR n, HIF_OB_LO_ADDR n], ¬ bookFld F := by
  simp only [List.forall_mem_cons, List.not_mem_nil, false_imp_iff, implies_true, and_true, bookFld, Fld.key, HIF_OB_CTL_EN,
    HIF_OB_HI_ADDR, HIF_OB_LO_ADDR]
  omega

theorem State.stackOf_getD_le (s : State) (a : Nat) : (s.stackOf a).getD 0 ≤ 1 := by
  unfold State.stackOf
  split
  · decide
  · split <;> decide

/-- A search depends on what it asks of the list's own elements alone. -/
theorem findSome?_congr_mem {α β : Type} {l : List α} {f g : α → Option β} (h : ∀ a ∈ l, f a = g a) : l.findSome? f = l.findSome? g := by
  induction l with
  | nil => rfl
  | cons a r ih =>
    rw [List.findSome?_cons, List.findSome?_cons, h a List.mem_cons_self, ih fun b hb => h b (List.mem_cons_of_mem a hb)]

/-- A state without what accounting touches. -/
def State.sansBook (t : State) : State :=
  { t with flds := [], cntLive := [], flt := {}, pool := { t.pool with rr := [] } }

/-- From `s` to `t` accesses have been accounted for, and no more. -/
structure Booked (s t : State) : Prop where
  rd : ∀ G, ¬ bookFld G → t.rd G = s.rd G
  rest : t.sansBook = s.sansBook

namespace Booked

theorem refl (s : State) : Booked s s := ⟨fun _ _ => rfl, rfl⟩

section
variable {s t : State} (h : Booked s t)
include h

theorem trans {u : State} (h' : Booked t u) : Booked s u := ⟨fun G hG => (h'.rd G hG).trans (h.rd G hG), h'.rest.trans h.rest⟩

theorem wr {F : Fld} (v : Nat) (hF : bookFld F) : Booked s (t.wr F v) :=
  h.trans ⟨fun G hG => State.rd_wr_ne t F G v (hF.ne hG), rfl⟩

theorem each {α : Type} (l : List α) {f : α → State → State} (hf : ∀ a u, Booked u (f a u)) : Booked s (t.each l f) :=
  h.trans ⟨fun G hG => State.each_keeps (·.rd G) l f (fun a u _ => (hf a u).rd G hG) t,
    State.each_keeps State.sansBook l f (fun a u _ => (hf a u).rest) t⟩

theorem iff (c : Bool) {f : State → State} (hf : Booked t (f t)) : Booked s (t.iff c f) := by
  cases c
  · exact h
  · exact h.trans hf

theorem raise (f : FaultReq) (hf : f.cls < 24 := by simp) : Booked s (t.raise f) := by
  unfold State.raise
  split
  · exact h.trans ⟨fun _ _ => rfl, rfl⟩
  · exact (h.wr _ (fltCount_book hf)).wr _ (status_book _ (by simp))

theorem countOwn (r : FabReq) (c : Nat) : Booked s (t.countOwn r c) :=
  h.trans ⟨fun G hG => t.countOwn_rd r c G ((status_book _ (by simp)).ne hG), by rw [State.countOwn_eq]; rfl⟩

theorem finding (m acc a i f : Nat) : Booked s (t.finding m acc a i f) := by
  have hmem := memCount_book (t.stackOf_getD_le (64 * i))
  unfold State.finding
  split
  · exact ((h.wr _ (hmem _ (by simp))).wr _ (status_book _ (by simp))).raise _
  · exact ((h.wr _ (hmem _ (by simp))).wr _ (status_book _ (by simp))).raise _
  · exact h.wr _ (hmem _ (by simp))
  · exact h

theorem respFault (m acc a c : Nat) : Booked s (t.respFault m acc a c) := by
  unfold State.respFault
  split
  · exact (h.wr _ (status_book _ (by simp))).raise _
  · split
    · exact h.raise _
    · split
      · exact h.raise _
      · split
        · exact h.raise _
        · exact h

/-- A read by the pool, whatever it finds. -/
theorem poolReadSeen (a : Nat) : Booked s (t.poolReadSeen a) := by
  unfold State.poolReadSeen
  dsimp only
  split
  · exact (h.iff _ ((refl t).each _ fun _ u => (refl u).finding ..)).countOwn ..
  · exact (h.respFault ..).countOwn ..

/-- The reads at the head of a free list. -/
theorem headSeen (p : Nat) : Booked s (t.headSeen p) := by
  unfold State.headSeen
  split
  · exact h
  · exact (h.poolReadSeen _).iff _ ((refl _).poolReadSeen _)

theorem poolAsked (r : PoolReq) : Booked s (t.poolAsked r) := h.countOwn ..

theorem poolTaken (p : Nat) (q : PoolReq) : Booked s (poolTaken t p q) :=
  (h.poolAsked q).trans ⟨fun G _ => poolServed_rd _ p q.master G, rfl⟩

theorem poolLooked (p i : Nat) (q : PoolReq) : Booked s (poolLooked t p i q) := (h.poolTaken p q).poolReadSeen _

/-! ### The pool decides the same -/

theorem part : t.part = s.part := congrArg (·.part) h.rest
theorem hbm : t.hbm = s.hbm := congrArg (·.hbm) h.rest
theorem hostMem : t.hostMem = s.hostMem := congrArg (·.hostMem) h.rest
theorem mem : t.mem = s.mem := congrArg (·.mem) h.rest
theorem pcie : t.pcie = s.pcie := congrArg (·.pcie) h.rest
theorem head : t.pool.head = s.pool.head := congrArg (·.pool.head) h.rest
theorem ledgers : t.pool.ledger = s.pool.ledger := congrArg (·.pool.ledger) h.rest
theorem parked : t.pool.parked = s.pool.parked := congrArg (·.pool.parked) h.rest

theorem poolHead (p : Nat) : t.poolHead p = s.poolHead p := by rw [State.poolHead, h.head, State.poolHead]

theorem ledgerFull (m : Nat) : t.ledgerFull m = s.ledgerFull m := by
  unfold State.ledgerFull State.ledger
  rw [h.ledgers]

theorem ledgerDel_full (m a n : Nat) : (t.ledgerDel m a).ledgerFull n = (s.ledgerDel m a).ledgerFull n := by
  unfold State.ledgerFull State.ledgerDel State.ledger
  rw [h.ledgers]

theorem stackOf (a : Nat) : t.stackOf a = s.stackOf a := by
  unfold State.stackOf State.present State.caps
  rw [h.part]

theorem isl (i : Nat) : t.isl i = s.isl i := h.rd _ (islState_notBook i)

theorem winHost {a : Nat} (ha : a < winEnd) : t.winHost a = s.winHost a := by
  have hn : (a - winBase) / 2 ^ 32 < 256 := by unfold winEnd at ha; unfold winBase; omega
  have hob := fun F hF => h.rd F (obFld_notBook hn F hF)
  simp [State.winHost, State.on, hob]

theorem pathCode (a : Nat) : t.pathCode a = s.pathCode a := by
  unfold State.pathCode
  split
  · simp only [h.stackOf, h.isl]
  · split
    · next ha => rw [h.pcie, h.winHost ha]
    · rfl

theorem findingOf (a n : Nat) : t.findingOf a n = s.findingOf a n := by
  simp only [State.findingOf, State.atomFinding, State.eccOf, h.mem]

theorem poolReadCode (a : Nat) : t.poolReadCode a = s.poolReadCode a := by
  simp only [State.poolReadCode, h.pathCode, h.findingOf]

theorem linkOf {a : Nat} (ha : a < winEnd) : t.linkOf a = s.linkOf a := by
  simp only [State.linkOf, h.hbm, h.hostMem, h.winHost ha]

section
variable {p : Nat} (hp : p < 64)
include hp

theorem poolRd (F : Fld) (hF : F ∈ [POOL_CTL_LOG2 p, POOL_CTL_STATE p, POOL_BASE_LO p, POOL_BASE_HI p, POOL_COUNT p, POOL_META_LO p,
    POOL_META_HI p, POOL_FREE p] := by simp) : t.rd F = s.rd F := h.rd F (poolFld_notBook hp F hF)

theorem free : t.rd (POOL_FREE p) = s.rd (POOL_FREE p) := h.poolRd hp _

theorem poolState : t.poolState p = s.poolState p := h.poolRd hp _

theorem bobIdx (a : Nat) : t.bobIdx p a = s.bobIdx p a := by
  have hbase : t.poolBase p = s.poolBase p := by
    rw [State.poolBase, h.poolRd hp (POOL_BASE_HI p), h.poolRd hp (POOL_BASE_LO p), State.poolBase]
  have hsize : t.poolSize p = s.poolSize p := by
    rw [State.poolSize, h.poolRd hp (POOL_CTL_LOG2 p), State.poolSize]
  have hcount : t.poolCount p = s.poolCount p := h.poolRd hp _
  unfold State.bobIdx
  rw [hbase, hsize, hcount]

theorem metaAddr (i : Nat) : t.metaAddr p i = s.metaAddr p i := by
  have hmeta : t.poolMeta p = s.poolMeta p := by
    rw [State.poolMeta, h.poolRd hp (POOL_META_HI p), h.poolRd hp (POOL_META_LO p), State.poolMeta]
  rw [State.metaAddr, hmeta, State.metaAddr]

theorem metaOf (i : Nat) : t.metaOf p i = s.metaOf p i := by
  simp only [State.metaOf, h.hbm, h.metaAddr hp]

theorem headCodes : t.headCodes p = s.headCodes p := by
  simp only [State.headCodes, State.metaCode, h.poolHead, h.bobIdx hp, h.metaAddr hp, h.poolReadCode]

theorem headOk (ha : s.poolHead p < winEnd) : t.headOk p = s.headOk p := by
  simp only [State.headOk, h.poolHead, h.bobIdx hp, h.metaOf hp, h.linkOf ha, h.free hp]

theorem linkWritten (m : Meta) (a : Nat) : t.linkWritten p m a = s.linkWritten p m a := by
  simp only [State.linkWritten, State.parkedOf, h.poolState hp, h.parked, h.ledgerDel_full]

end

theorem locate (a : Nat) : t.locate a = s.locate a := by
  unfold State.locate
  refine findSome?_congr_mem fun p hp => ?_
  rw [h.poolState (List.mem_range.mp hp), h.bobIdx (List.mem_range.mp hp)]

theorem poolOf (r : PoolReq) : t.poolOf r = s.poolOf r := by
  simp only [State.poolOf, h.locate]

end

end Booked

/-! ### Operations on a bobbin (R375, R376, R378, R382)

Each by the bobbin it names, for a metadata word that reads clean. -/

/-- The bobbin at an address, whose metadata word reads clean (R375, R402), and the state once it has been read. -/
structure BobRead (s : State) (a p i : Nat) (m : Meta) (u : State) : Prop where
  located : s.locate a = some (p, i)
  path : s.pathCode (s.metaAddr p i) = 0
  clean : s.findingOf (s.metaAddr p i) 8 = 0
  record : s.metaOf p i = m
  seen : s.poolReadSeen (s.metaAddr p i) = u

/-- The pools are numbered from 0 to 63. -/
theorem State.locate_lt {s : State} {a p i : Nat} (h : s.locate a = some (p, i)) : p < 64 := by
  obtain ⟨q, hq, hpq⟩ := List.exists_of_findSome?_eq_some h
  split at hpq
  · obtain ⟨_, -, heq⟩ := Option.map_eq_some_iff.mp hpq
    cases heq
    exact List.mem_range.mp hq
  · cases hpq

section
variable {s u : State} {r : PoolReq} {p i : Nat} {m : Meta} (hb : BobRead s r.addr p i m u)
include hb

theorem State.withBob_read (f : State → Nat → Nat → Meta → PoolRes × State) : s.withBob r f = f u p i m := by
  have hcode : s.metaCode p i = 0 := by simp [State.metaCode, State.poolReadCode, hb.path, hb.clean]
  simp only [State.withBob, hb.located]
  rw [if_pos hcode, hb.record, hb.seen]

theorem State.poolQuery_read : s.poolQuery r = (answerTo r 0 r.addr m.pack, u) := State.withBob_read hb _

/-- A RELEASE of a bobbin that is free, holds no reference, or has been granted anew since is discarded (R382). -/
theorem State.poolRelease_underflow (h : m.free = true ∨ m.ref = 0 ∨ r.genChk = true ∧ m.gen ≠ r.gen) :
    s.poolRelease r = (answerTo r 6, u.misuse (some p) r 3) := (State.withBob_read hb _).trans (if_pos h)

section
variable (hused : ¬ (m.free = true ∨ m.ref = 0 ∨ r.genChk = true ∧ m.gen ≠ r.gen)) (hmay : ¬ (m.owner ≠ 0xFF ∧ m.owner ≠ r.master))
include hused hmay

theorem State.poolShare_read (hadd : r.add ≤ 15) (hprov : m.prov = false) (hcount : m.ref + r.add ≤ 65535) :
    s.poolShare r = (answerTo r 0 r.addr (Meta.pack { m with ref := m.ref + r.add, owner := 0xFF }),
      (u.ledgerDel m.owner r.addr).setMeta p i { m with ref := m.ref + r.add, owner := 0xFF }) := by
  rw [State.poolShare, if_neg (Nat.not_lt.mpr hadd), State.withBob_read hb, if_neg hused, if_neg (by simp [hprov]), if_neg hmay,
    if_neg (Nat.not_lt.mpr hcount)]

theorem State.poolRelease_shared (hmore : 1 < m.ref) :
    s.poolRelease r = (answerTo r 0 r.addr, u.setMeta p i { m with ref := m.ref - 1 }) := by
  rw [State.poolRelease, State.withBob_read hb, if_neg hused, if_neg hmay, if_pos hmore]

/-- The last reference goes when the free list's link can be written, or need not be (R378, R402). -/
theorem State.poolRelease_last (hlast : m.ref = 1) (hlink : u.linkWritten p m r.addr = false ∨ u.pathCode r.addr = 0) :
    s.poolRelease r = (answerTo r 0 r.addr, u.freeBob p i m) := by
  have hcode : (if u.linkWritten p m r.addr then u.pathCode r.addr else 0) = 0 := by rcases hlink with h | h <;> simp [h]
  rw [State.poolRelease, State.withBob_read hb, if_neg hused, if_neg hmay, if_neg (by omega)]
  exact if_pos hcode

end

theorem State.poolSetOwner_read (htag : r.newTag ≠ 0xFF) (hmay : ¬ (m.free = true ∨ m.owner = 0xFF ∨ m.owner ≠ r.master))
    (hprov : m.prov = false) (hroom : ¬ (r.newTag ≠ m.owner ∧ u.ledgerFull r.newTag = true)) :
    s.poolSetOwner r = (answerTo r 0 r.addr (Meta.pack { m with owner := r.newTag }),
      ((u.ledgerDel m.owner r.addr).ledgerAdd r.newTag r.addr).setMeta p i { m with owner := r.newTag }) := by
  rw [State.poolSetOwner, if_neg htag, State.withBob_read hb, if_neg hmay, if_neg hroom]
  simp only [hprov, Bool.and_false, Bool.false_and, State.iff_false]

end

section
variable {s : State} {r : PoolReq} (h : s.locate r.addr = none)
include h

theorem State.poolQuery_nowhere (hop : r.op ≠ 3) : s.poolQuery r = (answerTo r 5, s) := by
  simp only [State.poolQuery, State.withBob, h, if_neg hop]

/-- A RELEASE of what is no bobbin's base is discarded (R383). -/
theorem State.poolRelease_nowhere (hop : r.op = 3) : s.poolRelease r = (answerTo r 5, s.misuse none r 4) := by
  simp only [State.poolRelease, State.withBob, h, if_pos hop]

end

/-! ### ALLOC (R375, R380, R388) -/

section
variable {s : State} {r : PoolReq}

/-- An ALLOC that a READY pool has taken up goes by FREE when the requester's ledger has room. -/
theorem Booked.poolAlloc {t : State} (h : Booked s t) (hpool : r.pool < 64) (hready : s.poolState r.pool = poolREADY)
    (hroom : s.ledgerFull r.master = false) :
    t.poolAlloc r = if s.rd (POOL_FREE r.pool) = 0 then t.allocEmpty r else t.allocHead r := by
  have hready' : t.poolState r.pool = poolREADY := (h.poolState hpool).trans hready
  rw [State.poolAlloc, if_neg (Nat.not_le.mpr hpool), if_neg (by rw [hready']; decide), if_neg (by rw [hready']; decide), h.ledgerFull,
    hroom, if_neg Bool.false_ne_true, h.free hpool]

theorem State.allocEmpty_parks (hwait : r.wait = true) (hfew : s.pool.parked.length < 256) :
    s.allocEmpty r = (answerTo r poolWaits, (s.poolEmpty r.pool).park1 r) := if_pos ⟨hwait, hfew⟩

theorem State.allocEmpty_answers (h : r.wait = false ∨ 256 ≤ s.pool.parked.length) :
    s.allocEmpty r = (answerTo r 1, (s.poolEmpty r.pool).countUnit 0x072 0x30 1) := by
  refine if_neg fun ⟨hwait, hfew⟩ => ?_
  rcases h with h | h
  · exact absurd hwait (by simp [h])
  · exact absurd hfew (Nat.not_lt.mpr h)

/-- A sound head can be reached, so that it lies in the bobbin space. -/
theorem State.headOk_lt {p : Nat} (hcodes : ∀ c ∈ s.headCodes p, c = 0) (hok : s.headOk p = true) : s.poolHead p < winEnd := by
  unfold State.headCodes at hcodes
  unfold State.headOk at hok
  split at hcodes
  · next hnone => simp [hnone] at hok
  · have hcode : s.poolReadCode (s.poolHead p) = 0 := hcodes _ (by simp)
    refine Decidable.byContradiction fun hout => ?_
    have hbeyond : s.pathCode (s.poolHead p) = 4 := by
      rw [State.pathCode, if_neg (fun h => hout (Nat.lt_trans h (by decide))), if_neg hout]
    simp [State.poolReadCode, hbeyond] at hcode

/-- ALLOC takes a sound head, also once it has been taken up. -/
theorem Booked.allocHead {t : State} (h : Booked s t) (hpool : r.pool < 64) (hcodes : ∀ c ∈ s.headCodes r.pool, c = 0)
    (hok : s.headOk r.pool = true) : t.allocHead r = (((t.headSeen r.pool).setHead r.pool (s.linkOf (s.poolHead r.pool))).setFree r.pool
      (s.rd (POOL_FREE r.pool) - 1)).grant r.pool ((s.bobIdx r.pool (s.poolHead r.pool)).getD 0) r := by
  have hseen := h.headSeen r.pool
  have hhead := State.headOk_lt hcodes hok
  have herr : ¬ (t.headCodes r.pool).any (fun c => 1 < c) = true := by
    rw [h.headCodes hpool]
    simpa using fun c hc => Nat.le_trans (Nat.le_of_eq (hcodes c hc)) (Nat.zero_le 1)
  have hwaits : ¬ (t.headCodes r.pool).contains 1 = true := by
    rw [h.headCodes hpool]
    simpa using fun hc => absurd (hcodes 1 hc) Nat.one_ne_zero
  have hsound : (t.headSeen r.pool).headOk r.pool = true := (hseen.headOk hpool hhead).trans hok
  simp only [State.allocHead]
  rw [if_neg herr, if_neg hwaits, if_pos hsound, h.poolHead, hseen.linkOf hhead, hseen.free hpool, hseen.bobIdx hpool]

end

/-! ### The commands -/

section
variable {s : State} (hs : s.held = false) (r : PoolReq) (tag : Nat)
include hs

theorem exec_alloc : exec (.alloc r tag) s = .next (s.busPool 1 r tag).settle := State.finish_on _ hs

theorem exec_share : exec (.share r tag) s = .next (s.busPool 2 r tag).settle := State.finish_on _ hs

theorem exec_release : exec (.release r tag) s = .next (s.busPool 3 r tag).settle := State.finish_on _ hs

theorem exec_setOwner : exec (.setOwner r tag) s = .next (s.busPool 4 r tag).settle := State.finish_on _ hs

theorem exec_query : exec (.query r tag) s = .next (s.busPool 5 r tag).settle := State.finish_on _ hs

theorem exec_parkTimeout (p : Fin 64) : exec (.parkTimeout p) s = .next (s.parkTimeout p).settle := State.finish_on _ hs

end

/-! ### A request on the bus that finds no other at the pool -/

section
variable {s : State} {r : PoolReq} {tag op : Nat} {c : Instr} (hc : exec c s = .next (s.busPool op r tag).settle)
  (hup : s.unitUp r.master = true) (hq : s.pool.queue = [])

include hup hq in
/-- It is taken up and served at once. -/
theorem State.busPool_alone : s.busPool op r tag =
    (poolTaken s (s.poolOf (busReq op r tag)) (busReq op r tag)).poolServe (busReq op r tag) := by
  rw [State.busPool, if_pos hup]
  exact (State.poolRequest_alone s (busReq op r tag) hq).trans (by rw [((Booked.refl s).poolAsked _).poolOf])

variable {p code addr word : Nat} {t : State} (hp : s.poolOf (busReq op r tag) = p)
include hc hup hq hp

/-- It is answered with what its operation gives. -/
theorem exec_answers (hop : (poolTaken s p (busReq op r tag)).poolOp (busReq op r tag) = (answerTo (busReq op r tag) code addr word, t))
    (hcode : code ≠ poolWaits := by decide) :
    exec c s = .next (t.poolAnswer (answerTo (busReq op r tag) code addr word)).settle := by
  rw [hc, State.busPool_alone hup hq, hp, State.poolServe, hop]
  exact congrArg (fun u : State => Host.Outcome.next u.settle) (if_neg hcode)

/-- It gets no answer yet. -/
theorem exec_waits (hop : (poolTaken s p (busReq op r tag)).poolOp (busReq op r tag) = (answerTo (busReq op r tag) poolWaits, t)) :
    exec c s = .next t.settle := by
  rw [hc, State.busPool_alone hup hq, hp, State.poolServe, hop]
  rfl

end

section
variable {s : State} {r : PoolReq} {tag op p i : Nat}

theorem State.poolOf_located (h : s.locate r.addr = some (p, i)) (hop : op ≠ 1 := by decide) : s.poolOf (busReq op r tag) = p := by
  simp only [State.poolOf, busReq, if_neg hop, h]

theorem State.poolOf_nowhere (h : s.locate r.addr = none) (hop : op ≠ 1 := by decide) : s.poolOf (busReq op r tag) = 64 := by
  simp only [State.poolOf, busReq, if_neg hop, h]

end

/-- Once the request has been taken up, the bobbin reads as before. -/
theorem BobRead.taken {s u : State} {a p i : Nat} {m : Meta} (hb : BobRead s a p i m u) (q : PoolReq) :
    BobRead (poolTaken s p q) a p i m (poolLooked s p i q) := by
  have h := (Booked.refl s).poolTaken p q
  have hp := State.locate_lt hb.located
  constructor
  · rw [h.locate, hb.located]
  · rw [h.metaAddr hp, h.pathCode, hb.path]
  · rw [h.metaAddr hp, h.findingOf, hb.clean]
  · rw [h.metaOf hp, hb.record]
  · rw [h.metaAddr hp, poolLooked]

/-- Settles O29: each operation by its own rule, in the state in which the request has been taken up, and the first parked request whose
time has come. -/
theorem poolOperationsServed : Obligations.PoolOperationsServed := by
  refine ⟨fun s r tag hs hup hq => ⟨fun hpool hready hroom => ?_, fun p i m hloc hpath hclean hmeta => ?_, fun hnowhere => ?_⟩,
    fun s p k hs hdue => ?_⟩
  · have hbook := (Booked.refl s).poolTaken r.pool (busReq 1 r tag)
    have hop := hbook.poolAlloc (r := busReq 1 r tag) hpool hready hroom
    refine ⟨fun hsome hcodes hok => ?_, fun hnone hwait hfew => ?_, fun hnone hnow => ?_⟩
    · exact exec_answers (exec_alloc hs r tag) hup hq rfl (hop.trans ((if_neg hsome).trans (hbook.allocHead hpool hcodes hok)))
    · exact exec_waits (exec_alloc hs r tag) hup hq rfl
        (hop.trans ((if_pos hnone).trans (State.allocEmpty_parks hwait (by rwa [hbook.parked]))))
    · exact exec_answers (exec_alloc hs r tag) hup hq rfl
        (hop.trans ((if_pos hnone).trans (State.allocEmpty_answers (by rwa [hbook.parked]))))
  · have hb : BobRead s r.addr p i m _ := ⟨hloc, hpath, hclean, hmeta, rfl⟩
    refine ⟨exec_answers (exec_query hs r tag) hup hq (State.poolOf_located hloc) (State.poolQuery_read (hb.taken _)),
      fun hfree href hgen howner => ?_, fun htag hfree howner hexcl hprov hroom => ?_⟩
    · have hused : ¬ (m.free = true ∨ m.ref = 0 ∨ r.genChk = true ∧ m.gen ≠ r.gen) := by
        rcases hgen with h | h <;> simp [hfree, href, h]
      have hmay : ¬ (m.owner ≠ 0xFF ∧ m.owner ≠ r.master) := fun ⟨hexcl, hother⟩ => howner.elim hexcl hother
      refine ⟨fun hadd hprov hcount => ?_, fun hmore => ?_, fun hlast hlink => ?_⟩
      · exact exec_answers (exec_share hs r tag) hup hq (State.poolOf_located hloc)
          (State.poolShare_read (hb.taken _) hused hmay hadd hprov hcount)
      · exact exec_answers (exec_release hs r tag) hup hq (State.poolOf_located hloc)
          (State.poolRelease_shared (hb.taken _) hused hmay hmore)
      · have hbook := (Booked.refl s).poolLooked p i (busReq 3 r tag)
        rw [← hbook.linkWritten (State.locate_lt hloc), ← hbook.pathCode] at hlink
        exact exec_answers (exec_release hs r tag) hup hq (State.poolOf_located hloc)
          (State.poolRelease_last (hb.taken _) hused hmay hlast hlink)
    · have hmay : ¬ (m.free = true ∨ m.owner = 0xFF ∨ m.owner ≠ r.master) :=
        fun h => h.elim (by simp [hfree]) fun h => h.elim hexcl fun hother => hother howner
      have hfits : ¬ (r.newTag ≠ m.owner ∧ (poolLooked s p i (busReq 4 r tag)).ledgerFull r.newTag = true) := by
        rw [((Booked.refl s).poolLooked ..).ledgerFull]
        rcases hroom with h | h <;> simp [h]
      exact exec_answers (exec_setOwner hs r tag) hup hq (State.poolOf_located hloc)
        (State.poolSetOwner_read (hb.taken _) htag hmay hprov hfits)
  · have hnowhere' (q : PoolReq) : (poolTaken s 64 q).locate r.addr = none := by
      rw [((Booked.refl s).poolTaken ..).locate, hnowhere]
    exact ⟨exec_answers (exec_query hs r tag) hup hq (State.poolOf_nowhere hnowhere)
        (State.poolQuery_nowhere (hnowhere' _) (show 5 ≠ 3 by decide)),
      exec_answers (exec_release hs r tag) hup hq (State.poolOf_nowhere hnowhere) (State.poolRelease_nowhere (hnowhere' _) rfl)⟩
  · rw [exec_parkTimeout hs, State.parkTimeout, hdue]

/-! ### A RELEASE that is answered UNDERFLOW (R382) -/

section
variable {s u : State} {r : PoolReq} {a p i : Nat} {m : Meta} (hb : BobRead s a p i m u) (q : PoolReq)
include hb

/-- Looking at a bobbin whose metadata word reads clean is only counted. -/
theorem BobRead.looked : poolLooked s p i q = (poolTaken s p q).countOwn (ownReq 0x30 0 (s.metaAddr p i) (.read 8)) 0 := by
  have h := (Booked.refl s).poolTaken p q
  exact State.poolReadSeen_clean _ _ (by rw [h.pathCode, hb.path]) (by rw [h.findingOf, hb.clean])

theorem BobRead.looked_rd {G : Fld} (hG : G.key ≠ CNT_STATUS_OVF.key) : (poolLooked s p i q).rd G = s.rd G := by
  rw [hb.looked, State.countOwn_rd _ _ _ G hG, poolTaken, poolServed_rd, State.poolAsked_rd _ _ G hG]

theorem BobRead.looked_eq : poolLooked s p i q =
    { poolServed s p q.master with flds := (poolLooked s p i q).flds, cntLive := (poolLooked s p i q).cntLive } := by
  refine State.eq_of_sansCnt ?_
  rw [hb.looked, State.countOwn_sans, poolTaken, State.poolAsked_eq]
  rfl

end

theorem misuseFld_ne (p : Nat) : (POOL_STATUS_MISUSE p).key ≠ (POOL_MISUSE_CNT p).key := by
  simp only [Fld.key, POOL_STATUS_MISUSE, POOL_MISUSE_CNT]
  omega

theorem misuseFld_notCond {p : Nat} (hp : p < 64) :
    ∀ G ∈ [POOL_STATUS_MISUSE p, POOL_MISUSE_CNT p], ∀ F ∈ condFlds, G.key ≠ F.key := by
  simp only [List.forall_mem_cons, List.not_mem_nil, false_imp_iff, implies_true, and_true]
  constructor <;> refine notCond _ ?_ <;> simp only [Fld.key, POOL_STATUS_MISUSE, POOL_MISUSE_CNT] <;> omega

section
variable (s : State) (p : Nat) (r : PoolReq) (cls : Nat) (h : s.flt.queue.length < 256)
include h

/-- A discard sets MISUSE and counts it, and its fault joins the collector's queue where that has room. -/
theorem State.misuse_room : s.misuse (some p) r cls = { (s.wr (POOL_STATUS_MISUSE p) 1).bump (POOL_MISUSE_CNT p) with
    flt := { s.flt with queue := s.flt.queue ++
      [{ cls := cls, level := some 1, master := r.master, access := 2, addr := r.addr, at_ := s.elapsed }] } } :=
  State.raise_room _ _ h

theorem State.misuse_rd (G : Fld) :
    (s.misuse (some p) r cls).rd G = ((s.wr (POOL_STATUS_MISUSE p) 1).bump (POOL_MISUSE_CNT p)).rd G := by
  rw [s.misuse_room p r cls h]
  rfl

theorem State.misuse_shows : (s.misuse (some p) r cls).rd (POOL_STATUS_MISUSE p) = 1 := by
  rw [s.misuse_rd p r cls h, State.bump, State.rd_wr_ne _ _ _ _ (misuseFld_ne p), State.rd_wr_same]
  rfl

theorem State.misuse_counts : (s.misuse (some p) r cls).rd (POOL_MISUSE_CNT p) = (s.rd (POOL_MISUSE_CNT p) + 1) % 2 ^ 32 := by
  rw [s.misuse_rd p r cls h, State.bump, State.rd_wr_same, State.rd_wr_ne _ _ _ _ (misuseFld_ne p).symm]
  rfl

theorem State.misuse_rd_ne {G : Fld} (hG : G.key ≠ (POOL_STATUS_MISUSE p).key) (hG' : G.key ≠ (POOL_MISUSE_CNT p).key) :
    (s.misuse (some p) r cls).rd G = s.rd G := by
  rw [s.misuse_rd p r cls h, State.bump, State.rd_wr_ne _ _ _ _ hG', State.rd_wr_ne _ _ _ _ hG]

end

/-- Settles O30: the request and its look at the metadata word are only counted, and what the discard changes is named. -/
theorem releaseUnderflowIsDiscarded : Obligations.ReleaseUnderflowIsDiscarded := by
  intro s r tag p i hs hup hq hroom hloc hpath hclean hout
  have hb : BobRead s r.addr p i _ _ := ⟨hloc, hpath, hclean, rfl, rfl⟩
  have hrun := exec_answers (exec_release hs r tag) hup hq (State.poolOf_located hloc)
    (State.poolRelease_underflow (hb.taken (busReq 3 r tag)) hout)
  have hnotCond := misuseFld_notCond (State.locate_lt hloc)
  have hcnt : (POOL_MISUSE_CNT p).key ≠ CNT_STATUS_OVF.key := by simp only [Fld.key, POOL_MISUSE_CNT, CNT_STATUS_OVF]; omega
  have hrd := fun G hG => hb.looked_rd (busReq 3 r tag) (G := G) hG
  have hlooked := hb.looked_eq (busReq 3 r tag)
  generalize poolLooked s p i (busReq 3 r tag) = u at hrun hrd hlooked
  have hroom' : u.flt.queue.length < 256 := by rw [hlooked]; exact hroom
  have hmisuse := u.misuse_room p (busReq 3 r tag) 3 hroom'
  refine ⟨_, hrun, ?_, ?_, ?_, ?_, ?_, ?_, ?_, ?_, .settle fun G hG _ => ?_, ?_, ?_⟩
  · rw [State.settle_pool, hmisuse, hlooked]; rfl
  · rw [State.settle_pool, hmisuse, hlooked]; rfl
  · rw [State.settle_pool, hmisuse, hlooked]; rfl
  · rw [State.settle_hbm, hmisuse, hlooked]; rfl
  · rw [State.settle_hostMem, hmisuse, hlooked]; rfl
  · rw [State.settle_mem, hmisuse, hlooked]; rfl
  · rw [State.rd_settle _ _ (hnotCond _ (by simp))]
    exact u.misuse_shows p _ 3 hroom'
  · rw [State.rd_settle _ _ (hnotCond _ (by simp)), ← hrd _ hcnt]
    exact u.misuse_counts p _ 3 hroom'
  · rw [← hrd G (hG _ (by simp))]
    exact u.misuse_rd_ne p _ 3 hroom' (hG _ (by simp)) (hG _ (by simp))
  · rw [State.settle_flt, hmisuse, hlooked]; rfl
  · rw [State.settle_fab, hmisuse, hlooked]; rfl

end Sys2Proof.Machine

/-! # The fields that show a condition -/

namespace Sys2Proof.Machine

open R

/-! ### Fields that are written one after another with views of the state -/

/-- Fields with distinct places, written each with its view of the state, show their views where no write of one of them changes a view. -/
theorem State.rd_each_view (l : List (Fld × (State → Nat))) (hn : (l.map (fun p => p.1.key)).Nodup)
    (hv : ∀ p ∈ l, ∀ q ∈ l, ∀ t v, p.2 (t.wr q.1 v) = p.2 t) (s : State) :
    ∀ p ∈ l, (s.each l (fun q t => t.wr q.1 (q.2 t))).rd p.1 = p.2 s % 2 ^ p.1.width := by
  induction l generalizing s with
  | nil => simp
  | cons q r ih =>
    obtain ⟨hq, hr⟩ := List.nodup_cons.mp hn
    have hviews : ∀ p ∈ r, ∀ q ∈ r, ∀ t v, p.2 (State.wr t q.1 v) = p.2 t := fun p hp q hq =>
      hv p (List.mem_cons_of_mem _ hp) q (List.mem_cons_of_mem _ hq)
    intro p hp
    rw [State.each_cons]
    obtain rfl | hpr := List.mem_cons.mp hp
    · have hdiff : ∀ x ∈ r, p.1.key ≠ x.1.key := fun x hx e => hq (List.mem_map.mpr ⟨x, hx, e.symm⟩)
      rw [State.each_keeps (·.rd p.1) r _ (fun x t hx => State.rd_wr_ne t x.1 p.1 _ (hdiff x hx)), State.rd_wr_same]
    · rw [ih hr hviews _ p hpr, hv p hp q List.mem_cons_self]

/-! ### The conditions (Tables 1-11, 7-5, 10-2 and 13-4) -/

/-- Each field that shows a condition, with what it shows of a state. -/
def condViews : List (Fld × (State → Nat)) :=
  [(PLY_CANVAS_STATUS_TIME_UNLOCKED, fun s => b2n s.timeUnlocked)] ++
    [0, 1].map (fun k => (MEM_STATUS_HOT k, fun s => b2n (s.hot k))) ++
    condClasses.map (fun c => (FLT_CLASS_CAUSE c, fun s => b2n (s.faultCause c))) ++
    (List.range 30).map (fun i => (PWR_ISL_STATE_OUTSTANDING i, fun s => min 255 (s.outstanding i)))

/-- A property of every view is one of each kind of condition. -/
theorem forall_mem_condViews {P : Fld × (State → Nat) → Prop} : (∀ p ∈ condViews, P p) ↔
    P (PLY_CANVAS_STATUS_TIME_UNLOCKED, fun s => b2n s.timeUnlocked) ∧
    (∀ k < 2, P (MEM_STATUS_HOT k, fun s => b2n (s.hot k))) ∧
    (∀ c ∈ condClasses, P (FLT_CLASS_CAUSE c, fun s => b2n (s.faultCause c))) ∧
    (∀ i < 30, P (PWR_ISL_STATE_OUTSTANDING i, fun s => min 255 (s.outstanding i))) := by
  have hk : ∀ k, k < 2 ↔ k ∈ [0, 1] := fun k => by simp; omega
  simp only [condViews, List.forall_mem_append, List.forall_mem_singleton, List.forall_mem_map, List.mem_range, hk, and_assoc]

theorem condViews_map_fst : condViews.map Prod.fst = condFlds := by
  simp only [condViews, condFlds, List.map_append, List.map_map, List.map_cons, List.map_nil, Function.comp_def]

theorem condViews_mem {p : Fld × (State → Nat)} (hp : p ∈ condViews) : p.1 ∈ condFlds :=
  condViews_map_fst ▸ List.mem_map_of_mem hp

/-- No two of the fields share a place. -/
theorem condViews_nodup : (condViews.map (fun p => p.1.key)).Nodup := by
  have h : (condFlds.map Fld.key).Nodup := by decide
  rwa [← condViews_map_fst, List.map_map] at h

theorem condShown_iff (s : State) : CondShown s ↔ ∀ p ∈ condViews, s.rd p.1 = p.2 s := by
  rw [forall_mem_condViews]
  exact ⟨fun h => ⟨h.unlocked, h.hot, h.cause, h.outstanding⟩, fun ⟨hu, hh, hc, ho⟩ => ⟨hu, hh, hc, ho⟩⟩

/-- Bringing the fields up to date writes each with its view. -/
theorem State.settle_eq_each (s : State) : s.settle = s.each condViews (fun p t => t.wr p.1 (p.2 t)) := by
  simp only [State.settle, State.showOutstanding, State.each, condViews, List.foldl_append, List.foldl_map, List.foldl_cons, List.foldl_nil]

theorem b2n_lt (b : Bool) : b2n b < 2 ^ 1 := by cases b <;> decide

/-- What a field shows fits it. -/
theorem condView_lt : ∀ p ∈ condViews, ∀ s, p.2 s < 2 ^ p.1.width :=
  forall_mem_condViews.mpr ⟨fun _ => b2n_lt _, fun _ _ _ => b2n_lt _, fun _ _ _ => b2n_lt _,
    fun _ _ _ => Nat.lt_succ_of_le (Nat.min_le_left ..)⟩

/-! ### What a condition depends on -/

section
variable {s t : State} (hrd : RegsKept [] s t)
include hrd

/-- A register outside the words that hold the fields reads the same. -/
theorem RegsKept.rd_outside (G : Fld) (h : G.key / 32 ≠ 0x00800014 ∧ G.key / 32 ≠ 0x00D00008 ∧
    (G.key / 32 < 0x01000100 ∨ 0x01000400 ≤ G.key / 32) ∧ (G.key / 32 < 0x01200100 ∨ 0x01200178 ≤ G.key / 32)) :
    t.rd G = s.rd G := hrd G (by simp) (notCond G h)

theorem RegsKept.timeUnlocked : t.timeUnlocked = s.timeUnlocked := by
  rw [State.timeUnlocked, hrd.rd_outside _ (by decide), hrd.rd_outside _ (by decide), State.timeUnlocked]

theorem RegsKept.hot {k : Nat} (hk : k < 2) : t.hot k = s.hot k := by
  have htemp : t.rd (MEM_TEMP k) = s.rd (MEM_TEMP k) := hrd.rd_outside _ (by simp only [Fld.key, MEM_TEMP]; omega)
  rw [State.hot, State.memTemp, htemp, State.hot, State.memTemp]

/-- A BROKEN pool, HOLDOVER_EXPIRED and a monitor are each seen in registers outside those words (Table 13-1). -/
theorem RegsKept.faultCause (c : Nat) : t.faultCause c = s.faultCause c := by
  have hpool : ∀ p ∈ List.range 64, t.rd (POOL_CTL_STATE p) = s.rd (POOL_CTL_STATE p) := fun p hp => by
    have hp := List.mem_range.mp hp
    exact hrd.rd_outside _ (by simp only [Fld.key, POOL_CTL_STATE]; omega)
  unfold State.faultCause
  split
  · rw [Bool.eq_iff_iff, List.any_eq_true, List.any_eq_true]
    exact exists_congr fun p => and_congr_right fun hp => by rw [hpool p hp]
  · rw [hrd.rd_outside _ (by decide)]
  · rw [hrd.rd_outside _ (by decide)]
  · rfl

end

/-- The part, the memory controller and the pool say what is outstanding (Table 1-11). -/
theorem State.outstanding_congr {s t : State} (hpart : t.part = s.part) (hmem : t.mem = s.mem) (hpool : t.pool = s.pool) (i : Nat) :
    t.outstanding i = s.outstanding i := by
  have hstack : t.stackOf = s.stackOf := by
    funext a
    unfold State.stackOf State.present State.caps
    rw [hpart]
  have hisl : inIsland t = inIsland s := by
    funext j a
    rw [inIsland, hstack, inIsland]
  simp only [State.outstanding, State.queued, hmem, hpool, hisl]

/-- No condition depends on the fields that show conditions. -/
theorem condView_congr {s t : State} (hrd : RegsKept [] s t) (hpart : t.part = s.part) (hmem : t.mem = s.mem) (hpool : t.pool = s.pool) :
    ∀ p ∈ condViews, p.2 t = p.2 s :=
  forall_mem_condViews.mpr ⟨congrArg b2n hrd.timeUnlocked, fun _ hk => congrArg b2n (hrd.hot hk),
    fun c _ => congrArg b2n (hrd.faultCause c), fun i _ => congrArg (min 255) (State.outstanding_congr hpart hmem hpool i)⟩

/-! ### Where the fields show their conditions -/

/-- Bringing the fields up to date makes each show its condition. -/
theorem State.settle_condShown (s : State) : CondShown s.settle := by
  have hwr : ∀ p ∈ condViews, ∀ q ∈ condViews, ∀ (t : State) v, p.2 (t.wr q.1 v) = p.2 t := fun p hp q hq t v =>
    condView_congr (fun G _ hG => t.rd_wr_ne q.1 G v (hG _ (condViews_mem hq))) rfl rfl rfl p hp
  refine (condShown_iff _).mpr fun p hp => ?_
  calc s.settle.rd p.1
    _ = p.2 s % 2 ^ p.1.width := by rw [State.settle_eq_each, State.rd_each_view condViews condViews_nodup hwr s p hp]
    _ = p.2 s := Nat.mod_eq_of_lt (condView_lt p hp s)
    _ = p.2 s.settle := (condView_congr (RegsKept.refl [] s).settle s.settle_part s.settle_mem s.settle_pool p hp).symm

section
variable {s : State} (h : CondShown s)
include h

/-- No condition depends on the commands that wait. -/
theorem CondShown.pending (l : List Instr) : CondShown { s with pending := l } := ⟨h.unlocked, h.hot, h.cause, h.outstanding⟩

/-- Nor on the time since reset. -/
theorem CondShown.elapsed (n : Nat) : CondShown { s with elapsed := n } := ⟨h.unlocked, h.hot, h.cause, h.outstanding⟩

/-- A command ends with the fields brought up to date, or leaves the state as it is. -/
theorem CondShown.exec {c : Instr} {t : State} (ht : exec c s = .next t) : CondShown t := by
  have hdone (u : State) (hu : u.done = .next t) : CondShown t := by
    cases hu
    exact u.settle_condShown
  have hstay (hs : (.next s : Host.Outcome State Fault Refusal) = .next t) : CondShown t := by
    cases hs
    exact h
  obtain ⟨hends, haon⟩ := exec_ends c s
  cases hc : aonCommand c
  · obtain ⟨u, hu | hu⟩ := hends hc <;> rw [hu] at ht
    · cases hs : s.held
      · rw [State.finish_on u hs] at ht
        exact hdone u ht
      · rw [State.finish_held u hs] at ht
        exact hstay ht
    · exact hstay ht
  · obtain ⟨u, hu⟩ := haon hc
    exact hdone u (hu ▸ ht)

/-- An idle nanosecond brings them up to date too, but for a device held in reset, where time alone passes. -/
theorem CondShown.tick : CondShown (tick s) := by
  unfold Machine.tick
  split
  · exact h.elapsed _
  · exact (State.settle_condShown _).elapsed _

end

/-- Settles O3: at reset no request is outstanding and every other condition is false. -/
theorem conditionFieldsShownAtReset : Obligations.ConditionFieldsShownAtReset where
  unlocked := by decide
  hot := by decide
  cause := by decide
  outstanding _ _ := rfl

/-- Settles O4, by how a step ends: the fields have just been brought up to date, or nothing a condition depends on has changed. -/
theorem conditionFieldsStayShown : Obligations.ConditionFieldsStayShown := by
  intro s t h hstep
  unfold step at hstep
  split at hstep
  · cases hstep
    exact h.tick
  · exact (h.pending _).exec hstep

end Sys2Proof.Machine

/-! # The memory controller: address mapping, requests, modes, the test engine and error injection -/

namespace Sys2Proof.Machine

open R

/-! ### Address mapping (Table 10-1, R392) -/

section
variable {g : Nat}

theorem localOffset_mod (g a : Nat) : localOffset g a % g = a % g := by
  rw [localOffset, Nat.mul_add_mod_self_right, Nat.mod_mod]

theorem localOffset_div (hg : 0 < g) (a : Nat) : localOffset g a / g = a / g / 32 := by
  rw [localOffset, Nat.mul_comm, Nat.mul_add_div hg, Nat.div_eq_of_lt (Nat.mod_lt a hg), Nat.add_zero, Nat.mul_comm 32 g,
    Nat.div_div_eq_div_mul]

/-- An address is its pseudo-channel and its place within that. -/
theorem eq_of_pchOf_localOffset (hg : 0 < g) {a b : Nat} (hpch : pchOf g a = pchOf g b) (hloc : localOffset g a = localOffset g b) :
    a = b := by
  have hhigh : a / g / 32 = b / g / 32 := by rw [← localOffset_div hg, hloc, localOffset_div hg]
  have hlow : a % g = b % g := by rw [← localOffset_mod, hloc, localOffset_mod]
  have hgrain : a / g = b / g := by unfold pchOf at hpch; omega
  rw [← Nat.div_add_mod a g, hgrain, hlow, Nat.div_add_mod]

/-- The places within a pseudo-channel fill a 32nd of the stack. -/
theorem localOffset_lt (hg : 0 < g) {n a : Nat} (ha : a < 32 * g * n) : localOffset g a < n * g := by
  rw [← Nat.div_lt_iff_lt_mul hg, localOffset_div hg, Nat.div_div_eq_div_mul, Nat.mul_comm g 32]
  exact Nat.div_lt_of_lt_mul ha

/-- A grain of whole atoms keeps an address's place within its atom. -/
theorem localOffset_mod_atom (hg : 64 ∣ g) (a : Nat) : localOffset g a % 64 = a % 64 := by
  rw [← Nat.mod_mod_of_dvd _ hg, localOffset_mod, Nat.mod_mod_of_dvd _ hg]

theorem cellOf_bank (g a : Nat) :
    (cellOf g a).bank = (cellOf g a).sid * 16 + (bitsOf (localOffset g a) 10 2).xor (bitsOf (cellOf g a).row 0 2) * 4 +
      (bitsOf (localOffset g a) 12 2).xor (bitsOf (cellOf g a).row 2 2) := rfl

theorem xor_bits_lt (x i y j : Nat) : (bitsOf x i 2).xor (bitsOf y j 2) < 4 :=
  Nat.xor_lt_two_pow (n := 2) (Nat.mod_lt _ (by decide)) (Nat.mod_lt _ (by decide))

/-- The cell of an atom says its place within its pseudo-channel: scrambling the bank with the row's low bits loses nothing. -/
theorem localOffset_eq_of_cellOf {a b : Nat} (h : cellOf g a = cellOf g b) (ha : localOffset g a % 64 = 0) (hb : localOffset g b % 64 = 0) :
    localOffset g a = localOffset g b := by
  have hsid : localOffset g a / 16384 / 24576 = localOffset g b / 16384 / 24576 := congrArg Cell.sid h
  have hrow : localOffset g a / 16384 % 24576 = localOffset g b / 16384 % 24576 := congrArg Cell.row h
  have hcol : localOffset g a / 2 ^ 6 % 2 ^ 4 = localOffset g b / 2 ^ 6 % 2 ^ 4 := congrArg Cell.col h
  have hbank := congrArg Cell.bank h
  rw [cellOf_bank, cellOf_bank, h] at hbank
  have hbounds := fun x i j => xor_bits_lt x i (cellOf g b).row j
  have hgroup : (bitsOf (localOffset g a) 10 2).xor (bitsOf (cellOf g b).row 0 2) =
      (bitsOf (localOffset g b) 10 2).xor (bitsOf (cellOf g b).row 0 2) := by
    have := hbounds (localOffset g a) 12 2
    have := hbounds (localOffset g b) 12 2
    omega
  have hwithin : (bitsOf (localOffset g a) 12 2).xor (bitsOf (cellOf g b).row 2 2) =
      (bitsOf (localOffset g b) 12 2).xor (bitsOf (cellOf g b).row 2 2) := by omega
  have h10 : localOffset g a / 2 ^ 10 % 2 ^ 2 = localOffset g b / 2 ^ 10 % 2 ^ 2 := Nat.xor_left_injective hgroup
  have h12 : localOffset g a / 2 ^ 12 % 2 ^ 2 = localOffset g b / 2 ^ 12 % 2 ^ 2 := Nat.xor_left_injective hwithin
  omega

/-- Every cell of a pseudo-channel's 1152 MiB exists. -/
theorem cellOf_exists {a : Nat} (h : localOffset g a < 0x48000000) : (cellOf g a).pch < 32 ∧ (cellOf g a).sid < 3 ∧
    (cellOf g a).bank < 48 ∧ (cellOf g a).row < 24576 ∧ (cellOf g a).col < 16 := by
  have hsid : (cellOf g a).sid < 3 := by
    change localOffset g a / 16384 / 24576 < 3
    omega
  refine ⟨Nat.mod_lt _ (by decide), hsid, ?_, Nat.mod_lt _ (by decide), Nat.mod_lt _ (by decide)⟩
  have hgroup := xor_bits_lt (localOffset g a) 10 (cellOf g a).row 0
  have hwithin := xor_bits_lt (localOffset g a) 12 (cellOf g a).row 2
  rw [cellOf_bank]
  omega

end

/-- Settles O31: the cell gives the pseudo-channel and the place within it, and these two the address. -/
theorem addressMappingIsOneToOne : Obligations.AddressMappingIsOneToOne := by
  intro k a b hk ha _ ha64 hb64
  have hg : 0 < 2 ^ (8 + k) := Nat.two_pow_pos _
  have hatoms : 64 ∣ 2 ^ (8 + k) := pow_dvd_pow 2 (show 6 ≤ 8 + k by omega)
  have hstack : 0x900000000 = 32 * 2 ^ (8 + k) * (9 * 2 ^ (19 - k)) ∧ 9 * 2 ^ (19 - k) * 2 ^ (8 + k) = 0x48000000 := by
    interval_cases k <;> decide
  refine ⟨fun h => ?_, cellOf_exists ?_⟩
  · refine eq_of_pchOf_localOffset hg (congrArg Cell.pch h) (localOffset_eq_of_cellOf h ?_ ?_)
    · rw [localOffset_mod_atom hatoms, ha64]
    · rw [localOffset_mod_atom hatoms, hb64]
  · rw [← hstack.2]
    exact localOffset_lt hg (hstack.1 ▸ ha)

/-! ### Requests enter their queues (R393, R394) -/

section
variable {α : Type} {f : α → Bool}

theorem takeFirst_eq_none {l : List α} (h : ∀ a ∈ l, f a = false) : takeFirst f l = none := by
  induction l with
  | nil => rfl
  | cons a r ih => simp [takeFirst, h a List.mem_cons_self, ih fun b hb => h b (List.mem_cons_of_mem a hb)]

/-- The first element that passes is taken out, and those before it stay. -/
theorem takeFirst_append {l r : List α} {a : α} (hl : ∀ b ∈ l, f b = false) (ha : f a = true) :
    takeFirst f (l ++ a :: r) = some (a, l ++ r) := by
  induction l with
  | nil => simp [takeFirst, ha]
  | cons b l ih => simp [takeFirst, hl b List.mem_cons_self, ih fun c hc => hl c (List.mem_cons_of_mem b hc)]

end

/-! ### Modes (R399) -/

/-- The mode writes that take effect: NORMAL in TEST with the engine idle, TEST in NORMAL, and NORMAL in STARTUP by the service
controller. -/
def State.modeValid (s : State) (svc : Bool) (m : Nat) : Prop :=
  (m = 0 ∧ s.rd MEM_MODE_MODE = 2 ∧ s.rd MEM_TEST_CTL_GO ≠ 1) ∨ (m = 2 ∧ s.rd MEM_MODE_MODE = 0) ∨
    (svc = true ∧ m = 0 ∧ s.rd MEM_MODE_MODE = 1)

section
variable {s : State} {svc : Bool} {m : Nat}

theorem State.on_iff (s : State) (F : Fld) : s.on F = true ↔ s.rd F = 1 := beq_iff_eq

theorem State.memMode_valid (h : s.modeValid svc m) : s.memMode svc m = s.wr MEM_MODE_MODE m :=
  if_pos (by rw [State.on_iff]; exact h)

theorem State.memMode_rejected (h : ¬ s.modeValid svc m) : s.memMode svc m = s.wr MEM_STATUS_MODE_REJECT 1 :=
  if_neg (by rw [State.on_iff]; exact h)

end

/-! ### The test engine (R410) -/

/-- OP and PATTERN, as a write of `MEM_TEST_CTL` stores them. -/
def State.testAsked (s : State) (op pat : Nat) : State := (s.wr MEM_TEST_CTL_OP op).wr MEM_TEST_CTL_PATTERN pat

section
variable {s : State}

theorem State.testAsked_rd {G : Fld} (op pat : Nat) (hG : G.key ≠ MEM_TEST_CTL_OP.key) (hG' : G.key ≠ MEM_TEST_CTL_PATTERN.key) :
    (s.testAsked op pat).rd G = s.rd G := by
  rw [State.testAsked, State.rd_wr_ne _ _ _ _ hG', State.rd_wr_ne _ _ _ _ hG]

/-- The range is that of the registers START and END. -/
theorem State.testAsked_rangeOk (op pat : Nat) : (s.testAsked op pat).testRangeOk = s.testRangeOk := by
  have hrange : (s.testAsked op pat).testRange = s.testRange := by
    simp (disch := decide) only [State.testRange, State.testAsked_rd]
  have hisl (i : Nat) : (s.testAsked op pat).islOn i = s.islOn i := by
    have hrd : (s.testAsked op pat).rd (PWR_ISL_STATE_STATE i) = s.rd (PWR_ISL_STATE_STATE i) :=
      State.testAsked_rd op pat (by simp only [Fld.key, PWR_ISL_STATE_STATE, MEM_TEST_CTL_OP]; omega)
        (by simp only [Fld.key, PWR_ISL_STATE_STATE, MEM_TEST_CTL_PATTERN]; omega)
    rw [State.islOn, State.isl, hrd, State.islOn, State.isl]
  simp only [State.testRangeOk, hrange, hisl]
  rfl

/-- What MEM_TEST_GO writes asks for OP and PATTERN with GO 1. -/
theorem testGo_bits (op pat : Fin 4) : bitsOf (2 ^ 31 + 16 * pat + op) 0 2 = op ∧ bitsOf (2 ^ 31 + 16 * pat + op) 4 2 = pat ∧
    bitSet (2 ^ 31 + 16 * pat + op) 31 = true := by
  revert op pat
  decide

/-- GO with the engine idle runs the operation in mode TEST over a sound range, and is rejected otherwise. -/
theorem State.testCtl_go (hidle : s.rd MEM_TEST_CTL_GO ≠ 1) (op pat : Fin 4) : s.testCtl (2 ^ 31 + 16 * pat + op) =
    if s.rd MEM_MODE_MODE = 2 ∧ s.testRangeOk = true then (((s.testAsked op pat).wr MEM_TEST_ERR_CNT 0).wr MEM_TEST_CTL_GO 1).testOp
    else (s.testAsked op pat).wr MEM_TEST_STATUS_REJECT 1 := by
  obtain ⟨hop, hpat, hgo⟩ := testGo_bits op pat
  have hrd {G : Fld} := State.testAsked_rd (s := s) (G := G) op pat
  have hoff : ¬ s.on MEM_TEST_CTL_GO = true := fun h => hidle ((s.on_iff _).mp h)
  have hoff' : ¬ (s.testAsked op pat).on MEM_TEST_CTL_GO = true := fun h => by
    rw [State.on_iff, hrd (by decide) (by decide)] at h
    exact hidle h
  unfold State.testCtl
  rw [if_neg hoff, hop, hpat, if_pos hgo, ← State.testAsked]
  refine if_congr ?_ rfl rfl
  rw [hrd (by decide) (by decide), State.testAsked_rangeOk, and_iff_left hoff']

theorem State.testDone_running (h : s.rd MEM_TEST_CTL_GO = 1) : s.testDone = (s.wr MEM_TEST_CTL_GO 0).wr MEM_TEST_STATUS_DONE 1 :=
  if_pos ((s.on_iff _).mpr h)

end

/-! ### Error injection (R411) -/

/-- MEM_INJECT_ARM writes its word with ARM 1. -/
theorem injectArm_bits (w : Nat) : bitsOf (w % 2 ^ 31 + 2 ^ 31) 0 9 = bitsOf w 0 9 ∧ bitsOf (w % 2 ^ 31 + 2 ^ 31) 16 2 = bitsOf w 16 2 ∧
    bitSet (w % 2 ^ 31 + 2 ^ 31) 31 = true := by
  simp only [bitSet, bitOf, bitsOf, beq_iff_eq]
  omega

theorem State.injectHi_arm (s : State) (w : Nat) : s.injectHi (w % 2 ^ 31 + 2 ^ 31) =
    if bitsOf w 16 2 = 1 ∨ bitsOf w 16 2 = 2 then
      ((s.wr MEM_INJECT_HI_ADDR (bitsOf w 0 9)).wr MEM_INJECT_HI_TYPE (bitsOf w 16 2)).wr MEM_INJECT_HI_ARM 1
    else (s.wr MEM_INJECT_HI_ADDR (bitsOf w 0 9)).wr MEM_INJECT_HI_TYPE (bitsOf w 16 2) := by
  obtain ⟨haddr, htype, harm⟩ := injectArm_bits w
  simp only [State.injectHi, haddr, htype, harm, true_and]

/-! ### The commands -/

section
variable {s : State} (hs : s.held = false)
include hs

theorem exec_memRequest (k : Fin 2) : exec (.memRequest k) s = .next (s.memRequest k).settle := State.finish_on _ hs

theorem exec_memModeWrite (svc : Bool) (m : Fin 4) : exec (.memModeWrite svc m) s = .next (s.memMode svc m).settle := State.finish_on _ hs

theorem exec_memTestGo (op pat : Fin 4) :
    exec (.memTestGo op pat) s = .next (s.testCtl (2 ^ 31 + 16 * pat + op)).settle := State.finish_on _ hs

theorem exec_memTestDone : exec .memTestDone s = .next s.testDone.settle := State.finish_on _ hs

theorem exec_memInjectArm (w : Word) : exec (.memInjectArm w) s = .next (s.injectHi (w.toNat % 2 ^ 31 + 2 ^ 31)).settle :=
  State.finish_on _ hs

end

/-- Settles O32: the crossing queue is searched for the first request whose input queue has room. -/
theorem memoryRequestsEnterTheirQueues : Obligations.MemoryRequestsEnterTheirQueues := by
  intro s k hs
  have hfull (q : FabReq) (hq : 16 ≤ (s.pch (s.gpch q.addr)).input.length) :
      decide ((s.pch (s.gpch q.addr)).input.length < 16) = false := decide_eq_false (Nat.not_lt.mpr hq)
  refine ⟨fun pre r rest hxq hpre hroom => ?_, fun hall => ?_⟩
  · rw [exec_memRequest hs, State.memRequest, hxq, takeFirst_append (fun q hq => hfull q (hpre q hq)) (decide_eq_true hroom)]
    rfl
  · rw [exec_memRequest hs, State.memRequest, takeFirst_eq_none fun q hq => hfull q (hall q hq)]

/-- Settles O35: each write by the rule of its register. -/
theorem memoryModesTestEngineAndInjection : Obligations.MemoryModesTestEngineAndInjection := by
  refine ⟨fun s svc m hs => ⟨fun hvalid => ?_, fun hvalid => ?_⟩,
    fun s op pat hs hidle => ⟨fun hmode hrange => ?_, fun hbad => ?_⟩, fun s hs hgo => ?_,
    fun s w hs => ⟨fun htype => ?_, fun htype => ?_⟩⟩
  · rw [exec_memModeWrite hs, State.memMode_valid hvalid]
  · rw [exec_memModeWrite hs, State.memMode_rejected hvalid]
  · rw [exec_memTestGo hs, State.testCtl_go hidle, if_pos ⟨hmode, hrange⟩, State.testAsked]
  · have hout : ¬ (s.rd MEM_MODE_MODE = 2 ∧ s.testRangeOk = true) := fun ⟨hmode, hrange⟩ =>
      hbad.elim (fun h => h hmode) (fun h => by simp [h] at hrange)
    rw [exec_memTestGo hs, State.testCtl_go hidle, if_neg hout, State.testAsked]
  · rw [exec_memTestDone hs, State.testDone_running hgo]
  · rw [exec_memInjectArm hs, State.injectHi_arm, if_pos htype]
  · rw [exec_memInjectArm hs, State.injectHi_arm, if_neg (by omega)]

end Sys2Proof.Machine

/-! # A DMA transfer and its write-back -/

namespace Sys2Proof.Machine

open R

/-! ### Posted writes and read requests on the link (R414) -/

section
variable (s : State) (a n : Nat) (l : List Byte) (ns : Bool)

@[simp] theorem State.hostWrite_hbm : (s.hostWrite a l ns).hbm = s.hbm := rfl
@[simp] theorem State.hostWrite_hostMem : (s.hostWrite a l ns).hostMem = memStore s.hostMem a l := rfl
@[simp] theorem State.hostWrite_rd (F : Fld) : (s.hostWrite a l ns).rd F = s.rd F := rfl
@[simp] theorem State.hostWrite_pwr : (s.hostWrite a l ns).pwr = s.pwr := rfl
@[simp] theorem State.hostWrite_fab : (s.hostWrite a l ns).fab = s.fab := rfl
@[simp] theorem State.hostAsk_hbm : (s.hostAsk a n ns).hbm = s.hbm := rfl
@[simp] theorem State.hostAsk_hostMem : (s.hostAsk a n ns).hostMem = s.hostMem := rfl
@[simp] theorem State.hostAsk_pwr : (s.hostAsk a n ns).pwr = s.pwr := rfl
@[simp] theorem State.hostAsk_fab : (s.hostAsk a n ns).fab = s.fab := rfl

end

/-! ### What an access to HBM is accounted for with -/

/-- The field lies in the registers of the DMA channels (Table 11-5). -/
def chanFld (G : Fld) : Prop := 0x00E00000 * 32 ≤ G.key ∧ G.key < 0x00E10000 * 32

theorem chanFld_of_mem (c : Fin 64) : ∀ F ∈ [DMA_CTL_LOG2_SIZE c, DMA_RING_LO c, DMA_RING_HI c, DMA_HEAD c,
    DMA_STATUS_STATE c, DMA_STATUS_DONE c], chanFld F := by
  simp only [List.forall_mem_cons, List.not_mem_nil, false_imp_iff, implies_true, and_true, chanFld, Fld.key, DMA_CTL_LOG2_SIZE,
    DMA_RING_LO, DMA_RING_HI, DMA_HEAD, DMA_STATUS_STATE, DMA_STATUS_DONE]
  omega

theorem chanFld.ne {F G : Fld} (hG : chanFld G) (hF : ¬ chanFld F) : G.key ≠ F.key := fun h => hF (by rwa [chanFld, ← h])

/-- The counts and status bits of the accesses lie outside the channels' registers. -/
theorem status_notChan : ∀ F ∈ [CNT_STATUS_OVF, FLT_LOST, MEM_STATUS_CE, MEM_STATUS_UE, MEM_INJECT_HI_ARM], ¬ chanFld F := by
  unfold chanFld
  decide

theorem memCount_notChan {k : Nat} (hk : k ≤ 1) : ∀ F ∈ [MEM_CE_CNT k, MEM_UE_CNT k, MEM_ODC_CNT k], ¬ chanFld F := by
  simp only [List.forall_mem_cons, List.not_mem_nil, false_imp_iff, implies_true, and_true, chanFld, Fld.key, MEM_CE_CNT, MEM_UE_CNT,
    MEM_ODC_CNT]
  omega

theorem fltCount_notChan (c : Nat) : ¬ chanFld (FLT_COUNT c) := by
  simp only [chanFld, Fld.key, FLT_COUNT]
  omega

/-- No field of a channel shows a condition. -/
theorem State.settle_chanFld (s : State) {G : Fld} (hG : chanFld G) : s.settle.rd G = s.rd G :=
  s.rd_settle' G (by unfold chanFld at hG; omega)

/-- A state without what accounting for an access to HBM touches: the counts, the faults and the check bits. -/
def State.sansAccount (t : State) : State := { t with flds := [], cntLive := [], flt := {}, mem := { t.mem with ecc := [] } }

/-- From `s` to `t` accesses to HBM have been accounted for, and no more. -/
structure Accounted (s t : State) : Prop where
  rd : ∀ G, chanFld G → t.rd G = s.rd G
  rest : t.sansAccount = s.sansAccount

namespace Accounted

theorem refl (s : State) : Accounted s s := ⟨fun _ _ => rfl, rfl⟩

section
variable {s t : State} (h : Accounted s t)
include h

theorem trans {u : State} (h' : Accounted t u) : Accounted s u := ⟨fun G hG => (h'.rd G hG).trans (h.rd G hG), h'.rest.trans h.rest⟩

theorem wr {F : Fld} (v : Nat) (hF : ¬ chanFld F) : Accounted s (t.wr F v) :=
  h.trans ⟨fun G hG => State.rd_wr_ne t F G v (hG.ne hF), rfl⟩

theorem setEcc (a v : Nat) : Accounted s (t.setEcc a v) := h.trans ⟨fun _ _ => rfl, rfl⟩

theorem each {α : Type} (l : List α) {f : α → State → State} (hf : ∀ a u, Accounted u (f a u)) : Accounted s (t.each l f) :=
  h.trans ⟨fun G hG => State.each_keeps (·.rd G) l f (fun a u _ => (hf a u).rd G hG) t,
    State.each_keeps State.sansAccount l f (fun a u _ => (hf a u).rest) t⟩

theorem raise (f : FaultReq) : Accounted s (t.raise f) := by
  unfold State.raise
  split
  · exact h.trans ⟨fun _ _ => rfl, rfl⟩
  · exact (h.wr _ (fltCount_notChan _)).wr _ (status_notChan _ (by simp))

theorem countOwn (r : FabReq) (c : Nat) : Accounted s (t.countOwn r c) :=
  h.trans ⟨fun G hG => t.countOwn_rd r c G (hG.ne (status_notChan _ (by simp))), by rw [State.countOwn_eq]; rfl⟩

theorem finding (m acc a i f : Nat) : Accounted s (t.finding m acc a i f) := by
  have hmem := memCount_notChan (t.stackOf_getD_le (64 * i))
  unfold State.finding
  split
  · exact ((h.wr _ (hmem _ (by simp))).wr _ (status_notChan _ (by simp))).raise _
  · exact ((h.wr _ (hmem _ (by simp))).wr _ (status_notChan _ (by simp))).raise _
  · exact h.wr _ (hmem _ (by simp))
  · exact h

theorem eccAfter (a n w : Nat) : Accounted s (t.eccAfter a n w) := by
  unfold State.eccAfter
  dsimp only
  split
  · split
    · exact (h.setEcc _ _).wr _ (status_notChan _ (by simp))
    · exact h.setEcc _ _
  · exact h.setEcc _ _

/-- The bytes that a write stores. -/
theorem hbm_eq (m : SMap Byte) : Accounted { s with hbm := m } { t with hbm := m } :=
  ⟨h.rd, congrArg (fun u : State => { u with hbm := m }) h.rest⟩

/-- What goes to the host. -/
theorem hostWrite (a : Nat) (l : List Byte) (ns : Bool) : Accounted (s.hostWrite a l ns) (t.hostWrite a l ns) :=
  ⟨h.rd, congrArg (·.hostWrite a l ns) h.rest⟩

theorem hbm : t.hbm = s.hbm := congrArg (·.hbm) h.rest
theorem hostMem : t.hostMem = s.hostMem := congrArg (·.hostMem) h.rest
theorem devTime : t.devTime = s.devTime := congrArg (·.devTime) h.rest
theorem fab : t.fab = s.fab := congrArg (·.fab) h.rest
theorem dma : t.dma = s.dma := congrArg (·.dma) h.rest

end

/-- A write to HBM stores its bytes, and is accounted for. -/
theorem hbmWrite (s : State) (m a : Nat) (l : List Byte) : Accounted { s with hbm := memStore s.hbm a l } (s.hbmWrite m a l).2 := by
  have hecc : Accounted s (s.each (wordsOf a l.length) (fun w t => t.eccAfter a l.length w)) :=
    (refl s).each _ fun w u => (refl u).eccAfter ..
  refine each ?_ _ fun _ u => (refl u).finding ..
  rw [hecc.hbm]
  exact hecc.hbm_eq _

/-- A read of HBM is accounted for. -/
theorem hbmRead (s : State) (m acc a n : Nat) : Accounted s (s.hbmRead m acc a n).2.2 :=
  (refl s).each _ fun _ u => (refl u).finding ..

end Accounted

/-! ### A transfer within one piece (R434, R436) -/

section
variable {s : State} {m a : Nat} (ha : a < winBase) (hu : s.unitCode a = 0)
include ha hu

/-- A unit's write to a stack that is ON, of no uncorrectable word in part: it is answered OKAY, and its bytes are stored. -/
theorem State.busWrite_stored (l : List Byte) (hp : s.partialUe a l.length = false) :
    (s.busWrite m a l).1 = 0 ∧ Accounted { s with hbm := memStore s.hbm a l } (s.busWrite m a l).2 := by
  unfold State.busWrite
  simp only [hu, if_pos ha, zero_ne_one, if_false, if_true]
  exact ⟨by simp [State.hbmWrite, hp], (Accounted.hbmWrite s m a l).countOwn _ _⟩

/-- A unit's read of a stack that is ON, of no uncorrectable word: it brings the bytes that HBM holds. -/
theorem State.busRead_brings (acc n : Nat) (hf : s.findingOf a n < 2) :
    (s.busRead m acc a n).1 = 0 ∧ (s.busRead m acc a n).2.1 = memBytes s.hbm a n ∧ Accounted s (s.busRead m acc a n).2.2 := by
  unfold State.busRead
  simp only [hu, if_pos ha, zero_ne_one, if_false, if_true]
  exact ⟨by simp [State.hbmRead, Nat.ne_of_lt hf], rfl, (Accounted.hbmRead s m acc a n).countOwn _ _⟩

end

/-- Bytes that stay within 4 KiB go in with one write. -/
theorem State.copyIn_piece {s : State} {m a : Nat} {l : List Byte} (k n : Nat) (hne : l ≠ []) (hfit : a % 4096 + l.length ≤ 4096)
    (hok : (s.busWrite m a l).1 = 0) :
    s.copyIn m (k + 2) a l n = (0, n + l.length, a + l.length, (s.busWrite m a l).2) := by
  have hlen : min l.length (4096 - a % 4096) = l.length := by omega
  simp [State.copyIn, hne, hlen, hok]

/-- Bytes that stay within 4 KiB come with one read. -/
theorem State.copyOut_piece {s : State} {m a n : Nat} (k : Nat) (hn : 0 < n) (hfit : a % 4096 + n ≤ 4096)
    (hok : (s.busRead m 0 a n).1 = 0) :
    s.copyOut m (k + 2) a n [] = (0, (s.busRead m 0 a n).2.1, a + n, (s.busRead m 0 a n).2.2) := by
  have hlen : min n (4096 - a % 4096) = n := by omega
  simp [State.copyOut, Nat.ne_of_gt hn, hlen, hok]

/-! ### Write-back (R433) -/

@[simp] theorem State.chan_modChan (s : State) (c : Nat) (f : DmaSt → DmaSt) : (s.modChan c f).chan c = f (s.chan c) :=
  smGet_smSet_same ..

/-! The write-back as two steps: the record that the host and the status registers see, and the counts. -/

/-- Bytes 24–31 and 20–23 of the descriptor, HEAD, the completion record and DONE. -/
def State.showEnded (s : State) (c : Nat) (d : Desc) (status len : Nat) : State :=
  let head := (d.index + 1) % s.ringSize c
  let s := (s.hostWrite (s.descAddr c d.index + 24) (natLe 4 (status + len * 256) ++ natLe 4 (d.tDone % 2 ^ 32))).hostWrite
    (s.descAddr c d.index + 20) (natLe 4 (withoutBit d.word 0))
  let s := (s.wr (DMA_HEAD c) head).iff d.crec (fun t => t.hostWrite (2 ^ 32 * t.rd (DMA_CREC_HI c) + t.rd (DMA_CREC_LO c))
    (natLe 4 head ++ natLe 4 (status + d.word / 65536 * 65536) ++ natLe 8 d.tDone))
  s.iff d.irq (·.wr (DMA_STATUS_DONE c) 1)

/-- The descriptors and the bytes of a channel, and the engine's event. -/
def State.countMoved (s : State) (c n : Nat) : State :=
  let moved := (s.chan c).rest + n
  let s := ((s.bump (DMA_DESC_CNT c)).bump (DMA_BYTES c) (moved / 64)).modChan c (fun r => { r with rest := moved % 64 })
  s.countUnit 0x090 (s.engineOf c) 1

section
variable (s : State) (c : Fin 64) (d : Desc) (status len n : Nat)

theorem State.countMoved_rd {G : Fld} (hG : G ∈ [DMA_HEAD c, DMA_STATUS_STATE c, DMA_STATUS_DONE c]) :
    (s.countMoved c n).rd G = s.rd G := by
  obtain ⟨hchan, hcnt, hbytes⟩ : chanFld G ∧ G.key ≠ (DMA_DESC_CNT c).key ∧ G.key ≠ (DMA_BYTES c).key := by
    simp only [List.mem_cons, List.not_mem_nil, or_false] at hG
    obtain rfl | rfl | rfl := hG <;>
      simp only [chanFld, Fld.key, DMA_HEAD, DMA_STATUS_STATE, DMA_STATUS_DONE, DMA_DESC_CNT, DMA_BYTES] <;> omega
  rw [State.countMoved, State.countUnit_rd _ _ _ _ G (hchan.ne (status_notChan _ (by simp))), State.modChan_rd, State.bump,
    State.rd_wr_ne _ _ _ _ hbytes, State.bump, State.rd_wr_ne _ _ _ _ hcnt]

@[simp] theorem State.countMoved_hbm : (s.countMoved c n).hbm = s.hbm := State.countUnit_hbm ..
@[simp] theorem State.countMoved_hostMem : (s.countMoved c n).hostMem = s.hostMem := State.countUnit_hostMem ..
@[simp] theorem State.countMoved_fab : (s.countMoved c n).fab = s.fab := State.countUnit_fab ..

theorem State.countMoved_chan : (s.countMoved c n).chan c = { s.chan c with rest := ((s.chan c).rest + n) % 64 } := by
  rw [State.chan, State.countMoved, State.countUnit_dma, ← State.chan, State.chan_modChan]
  rfl

@[simp] theorem State.showEnded_hbm : (s.showEnded c d status len).hbm = s.hbm :=
  (State.iff_keeps (·.hbm) _ _ _ rfl).trans (State.iff_keeps (·.hbm) _ _ _ rfl)
@[simp] theorem State.showEnded_fab : (s.showEnded c d status len).fab = s.fab :=
  (State.iff_keeps (·.fab) _ _ _ rfl).trans (State.iff_keeps (·.fab) _ _ _ rfl)
@[simp] theorem State.showEnded_dma : (s.showEnded c d status len).dma = s.dma :=
  (State.iff_keeps (·.dma) _ _ _ rfl).trans (State.iff_keeps (·.dma) _ _ _ rfl)
@[simp] theorem State.showEnded_chan : (s.showEnded c d status len).chan c = s.chan c := by simp only [State.chan, State.showEnded_dma]

/-- A descriptor without completion record: its bytes 24 to 31, then its bytes 20 to 23. -/
theorem State.showEnded_hostMem (hcrec : bitSet d.word 5 = false) : (s.showEnded c d status len).hostMem =
    memStore (memStore s.hostMem (s.descAddr c d.index + 24) (natLe 4 (status + len * 256) ++ natLe 4 (d.tDone % 2 ^ 32)))
      (s.descAddr c d.index + 20) (natLe 4 (withoutBit d.word 0)) := by
  unfold State.showEnded
  rw [Desc.crec, hcrec]
  exact State.iff_keeps (·.hostMem) _ _ _ rfl

theorem State.showEnded_head : (s.showEnded c d status len).rd (DMA_HEAD c) = (d.index + 1) % s.ringSize c % 65536 := by
  have hne : (DMA_HEAD c).key ≠ (DMA_STATUS_DONE c).key := by simp only [Fld.key, DMA_HEAD, DMA_STATUS_DONE]; omega
  unfold State.showEnded
  dsimp only
  rw [State.iff_keeps (·.rd (DMA_HEAD c)) _ _ _ (State.rd_wr_ne _ _ _ _ hne),
    State.iff_keeps (·.rd (DMA_HEAD c)) _ _ _ (State.hostWrite_rd ..), State.rd_wr_same]
  rfl

theorem State.showEnded_done (hirq : bitSet d.word 4 = true) : (s.showEnded c d status len).rd (DMA_STATUS_DONE c) = 1 := by
  unfold State.showEnded
  rw [Desc.irq, hirq]
  exact State.rd_wr_same ..

theorem State.showEnded_state : (s.showEnded c d status len).chanState c = s.chanState c := by
  have hdone : (DMA_STATUS_STATE c).key ≠ (DMA_STATUS_DONE c).key := by simp only [Fld.key, DMA_STATUS_STATE, DMA_STATUS_DONE]; omega
  have hhead : (DMA_STATUS_STATE c).key ≠ (DMA_HEAD c).key := by simp only [Fld.key, DMA_STATUS_STATE, DMA_HEAD]; omega
  unfold State.showEnded State.chanState
  dsimp only
  rw [State.iff_keeps (·.rd (DMA_STATUS_STATE c)) _ _ _ (State.rd_wr_ne _ _ _ _ hdone),
    State.iff_keeps (·.rd (DMA_STATUS_STATE c)) _ _ _ (State.hostWrite_rd ..), State.rd_wr_ne _ _ _ _ hhead, State.hostWrite_rd,
    State.hostWrite_rd]

theorem State.writeBack_eq :
    s.writeBack c d status len = (s.showEnded c d status len).countMoved c (if status = 1 then 0 else len) := rfl

/-- The record of the channel keeps all but the bytes that do not yet fill a unit of `DMA_BYTES`. -/
theorem State.writeBack_chan : ∃ n, (s.writeBack c d status len).chan c = { s.chan c with rest := n } :=
  ⟨_, by rw [State.writeBack_eq, State.countMoved_chan, State.showEnded_chan]⟩

theorem State.writeBack_state : (s.writeBack c d status len).chanState c = s.chanState c := by
  rw [State.writeBack_eq, State.chanState, State.countMoved_rd _ _ _ (by simp)]
  exact State.showEnded_state ..

end

/-! ### The end of the only started descriptor (R433, R440) -/

/-- The descriptor has ended OK at the time `at_`. -/
def Desc.endedOk (d : Desc) (at_ : Nat) : Desc := { d with ended := some (0, d.len), tDone := at_ }

/-- Nothing is started on channel `c`. -/
def State.noneStarted (s : State) (c : Nat) : State := s.modChan c (fun r => { r with started := [] })

/-- `t` is `u` once descriptor `d` of channel `c` has been written back OK, with its length and OWN 0, and HEAD has passed it; nothing
is left started. -/
structure WrittenBack (u t : State) (c : Nat) (d : Desc) : Prop where
  hbm : t.hbm = u.hbm
  fab : t.fab = u.fab
  hostMem : ∃ v ≤ 16, t.hostMem = memStore (memStore u.hostMem (u.descAddr c d.index + 24)
    (natLe 4 (d.len * 256) ++ natLe 4 ((u.devTime + v - 8) % 2 ^ 32))) (u.descAddr c d.index + 20) (natLe 4 (withoutBit d.word 0))
  head : t.rd (DMA_HEAD c) = (d.index + 1) % u.ringSize c % 65536
  done : bitSet d.word 4 = true → t.rd (DMA_STATUS_DONE c) = 1
  started : (t.chan c).started = []
  state : t.chanState c = u.chanState c

section
variable {u : State} {c : Fin 64} {d : Desc} (hstarted : (u.chan c).started = [d])
include hstarted

theorem State.descEnd_alone : (u.descEnd c d.index 0 d.len).chan c = { u.chan c with started := [d.endedOk u.stamp.1] } := by
  rw [State.descEnd, State.chan_modChan]
  change ({ u.chan c with started := (u.chan c).started.map fun e =>
    if e.index = d.index then { e with ended := some (0, d.len), tDone := u.stamp.1 } else e } : DmaSt) = _
  simp [hstarted, Desc.endedOk]

variable (hstop : (u.chan c).stopAt = none) (hst : u.chanState c = dmaRUNNING)
include hstop hst

/-- An ended descriptor is written back, and a channel that is not stopping stays in its state. -/
theorem State.chanSettle_alone (hended : d.ended = some (0, d.len)) : u.chanSettle c = (u.noneStarted c).writeBack c d 0 d.len := by
  have hback : u.writeBacks c 1 = (u.noneStarted c).writeBack c d 0 d.len := by
    simp only [State.writeBacks, hstarted, hended, State.noneStarted]
  obtain ⟨n, hchan⟩ := (u.noneStarted c).writeBack_chan c d 0 d.len
  rw [State.noneStarted, State.chan_modChan, ← State.noneStarted] at hchan
  have hstate : ((u.noneStarted c).writeBack c d 0 d.len).chanState c = dmaRUNNING := (State.writeBack_state ..).trans hst
  rw [State.chanSettle, hstarted, List.length_singleton, hback, hchan]
  simp [hstop, State.stopEnd, hstate, dmaRUNNING, dmaSTOPPING]

/-- The transfer of the only started descriptor ends OK, and is written back. -/
theorem WrittenBack.of_descEnd (hcrec : bitSet d.word 5 = false) : WrittenBack u ((u.descEnd c d.index 0 d.len).chanSettle c) c d := by
  have hd := State.descEnd_alone hstarted
  have heq := State.chanSettle_alone (u := u.descEnd c d.index 0 d.len) (d := d.endedOk u.stamp.1) (by rw [hd])
    (by rw [hd]; exact hstop) hst rfl
  obtain ⟨n, hchan⟩ := ((u.descEnd c d.index 0 d.len).noneStarted c).writeBack_chan c (d.endedOk u.stamp.1) 0 d.len
  rw [heq]
  constructor
  · exact (State.countMoved_hbm ..).trans (State.showEnded_hbm ..)
  · exact (State.countMoved_fab ..).trans (State.showEnded_fab ..)
  · refine ⟨Config.freeValue u.fresh % 17, by omega, (State.countMoved_hostMem ..).trans ?_⟩
    refine (State.showEnded_hostMem _ c (d.endedOk u.stamp.1) _ _ hcrec).trans ?_
    rw [Nat.zero_add]
    rfl
  · exact (State.countMoved_rd _ _ _ (by simp)).trans (State.showEnded_head ..)
  · exact fun hirq => (State.countMoved_rd _ _ _ (by simp)).trans (State.showEnded_done _ _ _ _ _ hirq)
  · exact (congrArg DmaSt.started hchan).trans (congrArg DmaSt.started (State.chan_modChan ..))
  · exact State.writeBack_state ..

end

theorem WrittenBack.settle {u t : State} {c : Fin 64} {d : Desc} (h : WrittenBack u t c d) : WrittenBack u t.settle c d := by
  have hrd {G : Fld} (hG : G ∈ _) : t.settle.rd G = t.rd G := t.settle_chanFld (chanFld_of_mem c G hG)
  exact {
    hbm := t.settle_hbm.trans h.hbm
    fab := t.settle_fab.trans h.fab
    hostMem := by rw [t.settle_hostMem]; exact h.hostMem
    head := (hrd (by simp)).trans h.head
    done := fun hirq => (hrd (by simp)).trans (h.done hirq)
    started := by rw [State.chan, t.settle_dma]; exact h.started
    state := (hrd (by simp)).trans h.state }

/-- Accounting for the transfer's access moves nothing that the write-back goes by. -/
theorem Accounted.writtenBack {s u t : State} {c : Fin 64} {d : Desc} (hu : Accounted s u) (h : WrittenBack u t c d) :
    WrittenBack s t c d := by
  have hrd {G : Fld} (hG : G ∈ _) : u.rd G = s.rd G := hu.rd G (chanFld_of_mem c G hG)
  have haddr : u.descAddr c d.index = s.descAddr c d.index := by
    rw [State.descAddr, hrd (by simp), hrd (by simp), State.descAddr]
  have hsize : u.ringSize c = s.ringSize c := by rw [State.ringSize, hrd (by simp), State.ringSize]
  exact {
    hbm := h.hbm.trans hu.hbm
    fab := h.fab.trans hu.fab
    hostMem := by rw [← haddr, ← hu.hostMem, ← hu.devTime]; exact h.hostMem
    head := by rw [← hsize]; exact h.head
    done := h.done
    started := h.started
    state := h.state.trans (hrd (by simp)) }

/-! ### DESC_COMPLETE -/

section
variable {s : State} {c : Fin 64} {d : Desc} (hstarted : (s.chan c).started = [d])
include hstarted

section
variable (hended : d.ended = none) (hmove : s.mayMove c d = true)
include hended hmove

theorem State.descComplete_h2d (hmode : s.rd (DMA_CTL_MODE c) = 0) {data : List Byte} {u : State}
    (hx : s.xferH2D c d data false = u.descEnd c d.index 0 d.len) :
    s.descComplete c d.index data false = (u.descEnd c d.index 0 d.len).chanSettle c := by
  simp [State.descComplete, hstarted, hended, hmove, hmode, hx]

theorem State.descComplete_d2h (hmode : s.rd (DMA_CTL_MODE c) = 1) {data : List Byte} {u : State}
    (hx : s.xferD2H c d false = u.descEnd c d.index 0 d.len) :
    s.descComplete c d.index data false = (u.descEnd c d.index 0 d.len).chanSettle c := by
  simp [State.descComplete, hstarted, hended, hmove, hmode, hx]

end

variable (hs : s.held = false) (hstop : (s.chan c).stopAt = none) (hst : s.chanState c = dmaRUNNING)
  (hcrec : bitSet d.word 5 = false)
include hs hstop hst hcrec

/-- A transfer that has moved its bytes, `v` with them, and been accounted for, `u`, ends the event with the write-back. -/
theorem exec_descComplete_writtenBack {idx : Fin 65536} (hidx : d.index = idx.val) {data : List Byte} {v u : State}
    (hu : Accounted v u) (hfab : v.fab = s.fab) (hdma : v.dma = s.dma) (hflds : v.flds = s.flds)
    (hrun : s.descComplete c d.index data false = (u.descEnd c d.index 0 d.len).chanSettle c) :
    ∃ t, exec (.descComplete c idx data false) s = .next t ∧ WrittenBack v t c d := by
  have hchan : u.chan c = s.chan c := by rw [State.chan, hu.dma, hdma, State.chan]
  have hstate : u.chanState c = s.chanState c :=
    (hu.rd _ (chanFld_of_mem c _ (by simp))).trans (by rw [State.rd, hflds]; rfl)
  have hback : WrittenBack v ((u.descEnd c d.index 0 d.len).chanSettle c) c d :=
    hu.writtenBack (.of_descEnd (hchan ▸ hstarted) (hchan ▸ hstop) (hstate.trans hst) hcrec)
  rw [← hrun, hidx] at hback
  exact ⟨_, State.finishOnce_on id hs (by rw [hback.fab, hfab]), hback.settle⟩

end

section
variable {s : State} {d : Desc} (hlen : 0 < d.len) (hfit : d.devAddr % 4096 + d.len ≤ 4096)
include hlen hfit

/-- The bytes of an H2D transfer that one write takes (R434). -/
theorem State.xferH2D_piece (c : Nat) {data : List Byte} (hdata : data.length = d.len)
    (hok : ((s.hostAsk d.hostAddr d.len d.ns).busWrite 0x28 d.devAddr data).1 = 0) :
    s.xferH2D c d data false = ((s.hostAsk d.hostAddr d.len d.ns).busWrite 0x28 d.devAddr data).2.descEnd c d.index 0 d.len := by
  have hne : data ≠ [] := List.ne_nil_of_length_pos (hdata ▸ hlen)
  have hcopy := State.copyIn_piece (data.length / 4096) 0 hne (hdata ▸ hfit) hok
  rw [hdata] at hcopy
  rw [State.xferH2D, List.take_of_length_le hdata.le, hdata]
  simp [hcopy]

/-- The bytes of a D2H transfer that one read brings (R436). -/
theorem State.xferD2H_piece (c : Nat) (hok : (s.busRead 0x29 0 d.devAddr d.len).1 = 0) :
    s.xferD2H c d false = ((s.busRead 0x29 0 d.devAddr d.len).2.2.hostWrite d.hostAddr (s.busRead 0x29 0 d.devAddr d.len).2.1
      d.ns).descEnd c d.index 0 d.len := by
  have hcopy := State.copyOut_piece (d.len / 4096) hlen hfit hok
  simp [State.xferD2H, hcopy]

end

/-- Settles O46: the transfer's one access to HBM, then the write-back. -/
theorem transfersMoveTheirBytes : Obligations.TransfersMoveTheirBytes := by
  intro s c d idx data hs hst hstarted hidx hended hmove hstop hcrec hlen hfit hend hcode
  have hbase : d.devAddr < winBase := by unfold hbmEnd at hend; unfold winBase; omega
  refine ⟨fun hmode hdata hpart => ?_, fun hmode hfind => ?_⟩
  · obtain ⟨hok, hu⟩ := State.busWrite_stored (s := s.hostAsk d.hostAddr d.len d.ns) (m := 0x28) hbase hcode data (hdata ▸ hpart)
    obtain ⟨t, hexec, hback⟩ := exec_descComplete_writtenBack hstarted hs hstop hst hcrec hidx hu rfl rfl rfl
      (State.descComplete_h2d hstarted hended hmove hmode (State.xferH2D_piece hlen hfit c hdata hok))
    exact ⟨t, hexec, hback.hbm, hidx ▸ hback.hostMem, hidx ▸ hback.head, hback.done, hback.started, hback.state.trans hst⟩
  · obtain ⟨hok, hbytes, hu⟩ := State.busRead_brings (m := 0x29) hbase hcode 0 d.len hfind
    obtain ⟨t, hexec, hback⟩ := exec_descComplete_writtenBack hstarted hs hstop hst hcrec hidx
      (hu.hostWrite d.hostAddr (memBytes s.hbm d.devAddr d.len) d.ns) rfl rfl rfl
      (State.descComplete_d2h hstarted hended hmove hmode (hbytes ▸ State.xferD2H_piece hlen hfit c hok))
    exact ⟨t, hexec, hback.hbm, hidx ▸ hback.hostMem, hidx ▸ hback.head, hback.done, hback.started, hback.state.trans hst⟩

end Sys2Proof.Machine

/-! # The resets of the endpoint, its link and bus mastering -/

namespace Sys2Proof.Machine

open R

/-! ### Fields of the host interface -/

/-- No field of the host interface shows a condition (Table 11-3). -/
theorem State.settle_hif (s : State) {G : Fld} (hG : G ∈ [HIF_LINK_SPEED, HIF_LINK_WIDTH, HIF_LINK_BME, HIF_LINK_D3, HIF_STATUS_LINK_CHG,
    HIF_STATUS_XLAT]) : s.settle.rd G = s.rd G := by
  have hplace : ∀ F ∈ [HIF_LINK_SPEED, HIF_LINK_WIDTH, HIF_LINK_BME, HIF_LINK_D3, HIF_STATUS_LINK_CHG, HIF_STATUS_XLAT],
      F.key / 32 = 0x00E10000 ∨ F.key / 32 = 0x00E10004 := by decide
  exact s.rd_settle' G (by have := hplace G hG; omega)

theorem State.rd_withPcie (s : State) (p : PcieSt) (F : Fld) : ({ s with pcie := p } : State).rd F = s.rd F := rfl

/-- HIF_LINK shows Bus Master Enable and the power state (R416). -/
theorem State.showLink_rd (s : State) :
    s.showLink.rd HIF_LINK_BME = b2n s.pcie.bme ∧ s.showLink.rd HIF_LINK_D3 = b2n s.pcie.d3 := by
  have hbit (b : Bool) : b2n b % 2 ^ 1 = b2n b := by cases b <;> rfl
  constructor
  · rw [State.showLink, State.rd_wr_ne _ _ _ _ (by decide), State.rd_wr_same]
    exact hbit _
  · rw [State.showLink, State.rd_wr_same]
    exact hbit _

/-! ### Resets of the endpoint (R417) -/

/-- Configuration space after a reset of the endpoint. -/
theorem State.endpointReset_pcie (s : State) (since : Option Nat) :
    { s.endpointReset.pcie with flrSince := since } = ({ flrSince := since } : PcieSt) := rfl

theorem State.endpointReset_shown (s : State) : s.endpointReset.rd HIF_LINK_BME = 0 ∧ s.endpointReset.rd HIF_LINK_D3 = 0 :=
  State.showLink_rd _

theorem State.flr_eq (s : State) :
    s.flr = { s.endpointReset with pcie := { s.endpointReset.pcie with flrSince := some s.elapsed } } := rfl

theorem State.flr_pcie (s : State) : s.flr.pcie = { flrSince := some s.elapsed } := by
  rw [State.flr_eq]
  exact s.endpointReset_pcie _

theorem State.flr_shown (s : State) : s.flr.rd HIF_LINK_BME = 0 ∧ s.flr.rd HIF_LINK_D3 = 0 := by
  rw [State.flr_eq]
  exact ⟨(State.rd_withPcie ..).trans s.endpointReset_shown.1, (State.rd_withPcie ..).trans s.endpointReset_shown.2⟩

/-! ### The link (R413) -/

theorem State.showPipe_rd (s : State) {G : Fld} (hG : G.key ≠ (WRP_CLK 28).key) : s.showPipe.rd G = s.rd G := by
  unfold State.showPipe
  split
  · rfl
  · split
    · exact State.rd_wr_ne _ _ _ _ hG
    · split
      · exact State.rd_wr_ne _ _ _ _ hG
      · exact State.rd_wr_ne _ _ _ _ hG

theorem State.showPipe_pcie (s : State) : s.showPipe.pcie = s.pcie := by
  unfold State.showPipe
  split
  · rfl
  · split
    · rfl
    · split <;> rfl

section
variable (s : State) (g n : Nat)

theorem State.pcieLink_pcie : (s.pcieLink g n).pcie = s.pcie := by
  unfold State.pcieLink
  split
  · rfl
  · exact State.showPipe_pcie _

/-- The link shows its speed and its width. -/
theorem State.pcieLink_shown (hg : g < 16) (hn : n < 32) :
    (s.pcieLink g n).rd HIF_LINK_SPEED = g ∧ (s.pcieLink g n).rd HIF_LINK_WIDTH = n := by
  unfold State.pcieLink
  split
  · assumption
  · constructor
    · rw [State.showPipe_rd _ (by decide), State.rd_wr_ne _ _ _ _ (by decide), State.rd_wr_same]
      exact Nat.mod_eq_of_lt hg
    · rw [State.showPipe_rd _ (by decide), State.rd_wr_same]
      exact Nat.mod_eq_of_lt hn

/-- A change sets LINK_CHG. -/
theorem State.pcieLink_change (h : s.rd HIF_LINK_SPEED ≠ g ∨ s.rd HIF_LINK_WIDTH ≠ n) :
    (s.pcieLink g n).rd HIF_STATUS_LINK_CHG = 1 := by
  rw [State.pcieLink, if_neg (by omega), State.showPipe_rd _ (by decide), State.rd_wr_ne _ _ _ _ (by decide),
    State.rd_wr_ne _ _ _ _ (by decide), State.rd_wr_same]
  rfl

end

/-- An assertion of PERST_N takes the link down with the reset. -/
theorem State.perst_eq (s : State) :
    s.perst = ({ s.endpointReset with pcie := { s.endpointReset.pcie with flrSince := none } } : State).pcieLink 0 0 := rfl

theorem State.perst_pcie (s : State) : s.perst.pcie = {} := by
  rw [State.perst_eq, State.pcieLink_pcie]
  exact s.endpointReset_pcie none

theorem State.perst_shown (s : State) : s.perst.rd HIF_LINK_SPEED = 0 ∧ s.perst.rd HIF_LINK_WIDTH = 0 := by
  rw [State.perst_eq]
  exact State.pcieLink_shown _ 0 0 (by decide) (by decide)

/-! ### Held messages settle (R462) -/

theorem State.dropHeld_rd (s : State) (t : Nat) {G : Fld} (h : ¬ intrFld G) : (s.dropHeld t).rd G = s.rd G := by
  simp only [intrFld, not_or, not_exists] at h
  obtain ⟨-, hpba, hheld⟩ := h
  rw [State.dropHeld, State.rd_wr_ne _ _ G _ (hheld t)]
  exact State.each_keeps (·.rd G) _ _ (fun v u _ => State.rd_wr_ne u _ G _ (hpba _)) _

theorem State.pcie_of_sansIntr {s t : State} (h : t.sansIntr = s.sansIntr) : t.pcie = s.pcie := congrArg (·.pcie) h
theorem State.dma_of_sansIntr {s t : State} (h : t.sansIntr = s.sansIntr) : t.dma = s.dma := congrArg (·.dma) h

theorem State.dropHeld_sans (s : State) (t : Nat) : (s.dropHeld t).sansIntr = s.sansIntr :=
  State.each_keeps State.sansIntr _ (fun v u => u.clrBit (MSIX_PBA (v / 32)) (v % 32)) (fun _ _ _ => rfl) _

/-- What one target's held messages keep, all of them keep. -/
theorem State.settleHeld_keeps {β : Type} (g : State → β) (s : State) (hdrop : ∀ u t, g (State.dropHeld u t) = g u)
    (heval : ∀ u t f, g (State.evalTarget u t f) = g u) : g s.settleHeld = g s := by
  refine State.each_keeps g _ _ (fun t u _ => ?_) s
  split
  · rfl
  · exact (heval _ t true).trans (hdrop u t)

theorem State.settleHeld_rd (s : State) {G : Fld} (h : ¬ intrFld G) : s.settleHeld.rd G = s.rd G :=
  s.settleHeld_keeps (·.rd G) (fun u t => u.dropHeld_rd t h) (fun u t f => u.evalTarget_rd t f G h)

theorem State.settleHeld_sans (s : State) : s.settleHeld.sansIntr = s.sansIntr :=
  s.settleHeld_keeps State.sansIntr State.dropHeld_sans State.evalTarget_sans

/-- The fields that messages change lie above the host interface's. -/
theorem intrFld.above {G : Fld} (h : intrFld G) : 0x00F00000 * 32 ≤ G.key := by
  obtain h | ⟨k, h⟩ | ⟨t, h⟩ := h <;> rw [h]
  · decide
  · simp only [Fld.key, MSIX_PBA]
    omega
  · simp only [Fld.key, INT_TGT_STATUS_MSG_HELD]
    omega

/-- The function once configuration space holds a new Bus Master Enable, power state, sizes and timeout. -/
def State.configured (s : State) (bme : Bool) (d : PcieCfg) : State :=
  { s with pcie := { s.pcie with bme := bme, d3 := d.d3, mps := d.mps, mrrs := d.mrrs, cplTimeout := d.cplTimeout } }

section
variable (s : State) (b : Bool) (d : PcieCfg)

theorem State.masterChange_eq : s.masterChange b d = (s.configured b d).showLink.settleHeld := rfl

/-- A change of mastering or of the power state is shown in HIF_LINK. -/
theorem State.masterChange_shown :
    (s.masterChange b d).rd HIF_LINK_BME = b2n b ∧ (s.masterChange b d).rd HIF_LINK_D3 = b2n d.d3 := by
  have hnot {G : Fld} (hG : G.key < 0x00F00000 * 32) : ¬ intrFld G := fun h => Nat.not_lt.mpr h.above hG
  rw [State.masterChange_eq, State.settleHeld_rd _ (hnot (by decide)), State.settleHeld_rd _ (hnot (by decide))]
  exact (s.configured b d).showLink_rd

theorem State.masterChange_sans : (s.masterChange b d).sansIntr = (s.configured b d).showLink.sansIntr := State.settleHeld_sans _

theorem State.masterChange_pcie : (s.masterChange b d).pcie = (s.configured b d).pcie := State.pcie_of_sansIntr (s.masterChange_sans b d)
theorem State.masterChange_dma : (s.masterChange b d).dma = s.dma := (State.dma_of_sansIntr (s.masterChange_sans b d) :)

end

/-! ### Commands -/

section
variable {s : State} (hs : s.held = false)
include hs

theorem exec_flr : exec .flr s = .next s.flr.settle := State.finish_on _ hs
theorem exec_perstNAssert : exec .perstNAssert s = .next s.perst.settle := State.finish_on _ hs
theorem exec_flrComplete {d : Nat} (hd : s.pcie.flrSince = some d) : exec .flrComplete s =
    .next (({ s with pcie := { s.pcie with flrSince := none } } : State).wr HIF_STATUS_FLR 1).settle :=
  (State.finish_on _ hs).trans (by rw [hd])
theorem exec_pcieLinkChange (g : Fin 6) (n : Fin 17) : exec (.pcieLinkChange g n) s = .next (s.pcieLink g n).settle :=
  State.finish_on _ hs
theorem exec_busMasterEnable (b : Bool) (d : PcieCfg) : exec (.busMasterEnable b d) s = .next (s.masterChange b d).settle :=
  State.finish_on _ hs

end

/-- Settles O13: each event of the endpoint by what it leaves in configuration space and HIF_LINK. -/
theorem endpointResetsAndLink : Obligations.EndpointResetsAndLink := by
  intro s hs
  refine ⟨?flr, ?perst, fun d hd => exec_flrComplete hs hd, fun g n hchange => ?link, fun b d => ?mastering⟩
  case flr =>
    obtain ⟨hbme, hd3⟩ := s.flr_shown
    exact ⟨_, exec_flr hs, s.flr.settle_pcie.trans s.flr_pcie, (State.settle_hif _ (by simp)).trans hbme,
      (State.settle_hif _ (by simp)).trans hd3⟩
  case perst =>
    obtain ⟨hspeed, hwidth⟩ := s.perst_shown
    exact ⟨_, exec_perstNAssert hs, s.perst.settle_pcie.trans s.perst_pcie, (State.settle_hif _ (by simp)).trans hspeed,
      (State.settle_hif _ (by simp)).trans hwidth⟩
  case link =>
    obtain ⟨hspeed, hwidth⟩ := s.pcieLink_shown g n (by omega) (by omega)
    exact ⟨_, exec_pcieLinkChange hs g n, (State.settle_hif _ (by simp)).trans (s.pcieLink_change g n hchange),
      (State.settle_hif _ (by simp)).trans hspeed, (State.settle_hif _ (by simp)).trans hwidth,
      (State.settle_pcie _).trans (s.pcieLink_pcie g n)⟩
  case mastering =>
    obtain ⟨hbme, hd3⟩ := s.masterChange_shown b d
    exact ⟨_, exec_busMasterEnable hs b d, (State.settle_pcie _).trans (s.masterChange_pcie b d),
      (State.settle_hif _ (by simp)).trans hbme, (State.settle_hif _ (by simp)).trans hd3,
      (State.settle_dma _).trans (s.masterChange_dma b d)⟩

end Sys2Proof.Machine

/-! # What units reach through the host window, and the host through its BARs -/

namespace Sys2Proof.Machine

open R

/-! ### Answering a request (R15) -/

section
variable {s : State} {r : FabReq} (hup : s.unitUp r.master = true) (hlive : r.dead = false) (hunit : r.master ≠ 0x40)
include hup

/-- A unit that is up is not fenced (R45). -/
theorem State.not_fenced_of_up : s.fenced r.master = false := by
  simp only [State.unitUp, Bool.and_eq_true, Bool.not_eq_true'] at hup
  obtain ⟨⟨hfree, -⟩, -⟩ := hup
  exact hfree

include hlive hunit

/-- The request of a unit other than host inbound gets one response. -/
theorem State.respond_fab {t : State} (hpwr : t.pwr = s.pwr) (hfab : t.fab = s.fab) (code : Nat) (data : List Byte) :
    (t.respond r code data).fab =
    { s.fab with resp := s.fab.resp ++ [{ master := r.master, tag := r.tag, code := code, data := data }] } := by
  have hfree := State.not_fenced_of_up hup
  have hcount : (t.iff (decide (2 ≤ code)) (·.countReq 0x014 r 1)).fab = s.fab :=
    (State.iff_keeps (·.fab) _ _ t (by simp)).trans hfab
  have hfence : (t.iff (decide (2 ≤ code)) (·.countReq 0x014 r 1)).fenced r.master = false := by
    rw [State.fenced, State.fence, State.iff_keeps (·.pwr) _ _ t (by simp), hpwr]
    exact hfree
  simp [State.respond, hfence, hlive, hunit, hcount]

end

/-! ### The host window (R416, R422, R423) -/

section
variable {s : State} {r : FabReq} {h : Nat} (hlo : winBase ≤ r.addr) (hhi : r.addr < winEnd)
include hlo hhi

theorem inWindow_of_bounds : inWindow r.addr = true := by simp [inWindow, hlo, hhi]

section
variable (hbme : s.pcie.bme = true) (hd3 : s.pcie.d3 = false) (hseg : s.winHost r.addr = some h)
include hbme hd3 hseg

/-- The path to an address of an enabled segment is open while the function may master the link. -/
theorem State.pathCode_window : s.pathCode r.addr = 0 := by
  simp [State.pathCode, Nat.not_lt.mpr hlo, hhi, hbme, hd3, hseg]

/-- A write goes to the segment's host address. -/
theorem State.windowAccess_write (hup : s.unitUp r.master = true) {d : List Byte} (hkind : r.kind = .write d) (data : List Byte) :
    s.windowAccess r data = (s.hostWrite h d (s.winNs r.addr)).respond r 0 [] := by
  simp [State.windowAccess, inWindow_of_bounds hlo hhi, hup, State.pathCode_window hlo hhi hbme hd3 hseg, hseg, hkind]

/-- A read asks there, and brings what the host completes with. -/
theorem State.windowAccess_read (hup : s.unitUp r.master = true) {n : Nat} (hkind : r.kind = .read n) (data : List Byte) :
    s.windowAccess r data = (s.hostAsk h n (s.winNs r.addr)).respond r 0 (data.take n) := by
  simp [State.windowAccess, inWindow_of_bounds hlo hhi, hup, State.pathCode_window hlo hhi hbme hd3 hseg, hseg, hkind]

/-- A read that fails is answered TARGET_ERROR. -/
theorem State.completionTimeout_window : s.completionTimeout r =
    ((s.hostAsk h (FabKind.len r.kind) (s.winNs r.addr)).respFault r.master r.access r.addr 5).respond r 5 [] := by
  simp [State.completionTimeout, inWindow_of_bounds hlo hhi, State.pathCode_window hlo hhi hbme hd3 hseg, hseg]

end

/-- The fault of a failed access to the window shows in XLAT. -/
theorem State.respFault_xlat (m acc : Nat) : (s.respFault m acc r.addr 5).rd HIF_STATUS_XLAT = 1 := by
  have hcount (c : Nat) : HIF_STATUS_XLAT.key ≠ (FLT_COUNT c).key := by simp only [Fld.key, HIF_STATUS_XLAT, FLT_COUNT]; omega
  rw [State.respFault, if_pos ⟨hlo, hhi, Or.inr rfl⟩, State.raise_rd _ _ _ (hcount _) (by decide), State.rd_wr_same]
  rfl

end

/-- A response changes no register field but `CNT_STATUS.OVF`. -/
theorem State.respond_rd (s : State) (r : FabReq) (code : Nat) (data : List Byte) {G : Fld} (hG : G.key ≠ CNT_STATUS_OVF.key) :
    (s.respond r code data).rd G = s.rd G := by
  have hcount : (s.iff (decide (2 ≤ code)) (·.countReq 0x014 r 1)).rd G = s.rd G :=
    State.iff_keeps (·.rd G) _ _ s (State.countReq_rd _ _ _ _ G hG)
  unfold State.respond
  dsimp only
  split
  · exact hcount
  · split
    · split <;> exact hcount
    · exact hcount

section
variable {s : State} (hs : s.held = false)
include hs

theorem exec_hostWindowAccess (r : FabReq) (data : List Byte) :
    exec (.hostWindowAccess r data) s = .next (s.windowAccess r data).settle := State.finish_on _ hs
theorem exec_completionTimeout (r : FabReq) : exec (.completionTimeout r) s = .next (s.completionTimeout r).settle :=
  State.finish_on _ hs

end

/-- Settles O12: the access carried out or failed, and its one response. -/
theorem hostWindowTranslated : Obligations.HostWindowTranslated := by
  intro s r h data hs hlo hhi hup hunit hlive hbme hd3 hseg
  refine ⟨fun d hkind => ?write, fun n hkind => ?read, ?timeout⟩
  case write =>
    have hfab := State.respond_fab hup hlive hunit (s.hostWrite_pwr h d (s.winNs r.addr)) (s.hostWrite_fab ..) 0 []
    refine ⟨_, exec_hostWindowAccess hs r data, ?_⟩
    rw [State.windowAccess_write hlo hhi hbme hd3 hseg hup hkind, State.settle_hostMem, State.settle_hbm, State.settle_fab,
      State.respond_hostMem, State.respond_hbm, State.hostWrite_hostMem, State.hostWrite_hbm]
    exact ⟨memBytes_memStore .., fun b hb => memStore_other _ _ _ _ hb, rfl, hfab⟩
  case read =>
    have hfab := State.respond_fab hup hlive hunit (s.hostAsk_pwr h n (s.winNs r.addr)) (s.hostAsk_fab ..) 0 (data.take n)
    refine ⟨_, exec_hostWindowAccess hs r data, ?_⟩
    rw [State.windowAccess_read hlo hhi hbme hd3 hseg hup hkind, State.settle_hostMem, State.settle_hbm, State.settle_fab,
      State.respond_hostMem, State.respond_hbm, State.hostAsk_hostMem, State.hostAsk_hbm]
    exact ⟨rfl, rfl, hfab⟩
  case timeout =>
    have hfab := State.respond_fab (t := (s.hostAsk h (FabKind.len r.kind) (s.winNs r.addr)).respFault r.master r.access r.addr 5)
      hup hlive hunit (by simp) (by simp) 5 []
    refine ⟨_, exec_completionTimeout hs r, ?_⟩
    rw [State.completionTimeout_window hlo hhi hbme hd3 hseg, State.settle_hif _ (by simp), State.respond_rd _ _ _ _ (by decide),
      State.respFault_xlat hlo hhi]
    exact ⟨rfl, by simp, by simp, (State.settle_fab _).trans hfab⟩

/-! ### BAR0 (R17, R418) -/

/-- A BAR0 read of a word whose unit answers. -/
theorem State.barRead_answered {s : State} {off : Nat} (hopen : s.barOpen off = true) (hok : (s.readAs mHOST off).1 = 0) :
    s.barRead off = s.readAs mHOST off := by
  simp [State.barRead, hopen, hok]

theorem State.barWrite_answered {s : State} {off w : Nat} (hopen : s.barOpen off = true) (hok : (s.writeAs mHOST off w).1 = 0) :
    s.barWrite off w = s.writeAs mHOST off w := by
  simp [State.barWrite, hopen, hok]

section
variable {s : State} (n be : Nat)

/-- A write whose byte enables leave a byte out is discarded. -/
theorem State.barAccess_partial (d : Nat × Nat) (hbe : be % 16 ≠ 15) :
    s.barAccess n false (some d) be = s.wr HIF_STATUS_BAD_ACCESS 1 := by
  simp [State.barAccess, hbe]

section
variable (hwait : s.pcie.waiting = []) (hpost : s.hostWrites = false)
include hwait hpost

/-- An access that finds none waiting, and no BAR2 write unanswered, is performed at once. -/
theorem State.barPump_now (b : BarWait) (hdue : b.due = s.elapsed) :
    ({ s with pcie := { s.pcie with waiting := s.pcie.waiting ++ [b] } } : State).barPump (s.pcie.waiting.length + 1) =
      s.barRun b.off b.data b.got b.left := by
  have hnone : ({ s with pcie := { s.pcie with waiting := [] } } : State) = s := by rw [← hwait]
  have hfree : ∀ p, State.hostWrites { s with pcie := p } = false := fun _ => hpost
  simp [hwait, State.barPump, hdue, hfree, hnone]

theorem State.barAccess_read (hopen : s.barOpen (4 * n) = true) (hok : (s.readAs mHOST (4 * n)).1 = 0) :
    s.barAccess n false none be =
      (s.readAs mHOST (4 * n)).2.2.emit (.hostRead (natLe 4 (s.readAs mHOST (4 * n)).2.1) true) := by
  have hnow := State.barPump_now hwait hpost { due := s.elapsed, off := 4 * n, left := 1 } rfl
  simp [State.barAccess, hnow, State.barRun, State.barRead_answered hopen hok, hok]

theorem State.barAccess_write (w x : Nat) (hbe : be % 16 = 15) (hopen : s.barOpen (4 * n) = true)
    (hok : (s.writeAs mHOST (4 * n) w).1 = 0) : s.barAccess n false (some (w, x)) be = (s.writeAs mHOST (4 * n) w).2 := by
  have hnow := State.barPump_now hwait hpost { due := s.elapsed, off := 4 * n, left := 1, data := some [w] } rfl
  simp [State.barAccess, hbe, hnow, State.barRun, State.barWrite_answered hopen hok, hok]

end
end

/-! ### BAR2 and its apertures (R419) -/

/-- A request to a stack that is ON joins the crossing queue of its half. -/
theorem State.fabRequest_queued {s : State} {r : FabReq} {k : Nat} (ha : r.addr < winBase) (hk : s.stackOf r.addr = some k)
    (hon : s.isl (28 + k) = islON) : s.fabRequest r = (s.fabAccept r).setXq k (s.xq k ++ [{ r with dead := false }]) := by
  have hpath : s.pathCode r.addr = 0 := by simp [State.pathCode, ha, hk, hon]
  simp [State.fabRequest, ha, hpath, hk]

@[simp] theorem State.fabAccept_hbm (s : State) (r : FabReq) : (s.fabAccept r).hbm = s.hbm := by
  rw [State.eq_of_sansCnt (s.fabAccept_sans r)]

@[simp] theorem State.xq_setXq (s : State) (k : Nat) (l : List FabReq) : (s.setXq k l).xq k = l := smGet_smSet_same ..

@[simp] theorem State.xq_settle (s : State) (k : Nat) : s.settle.xq k = s.xq k := by rw [State.xq, State.settle_mem, State.xq]

/-- After READY the aperture's segment stands above the low 32 bits. -/
theorem State.apAddr_ready {s : State} (hready : s.rd SEC_BOOT_STATUS_READY = 1) (x : Nat) :
    s.apAddr x = some (2 ^ 32 * s.rd (HIF_AP_SEG (x / 2 ^ 32)) + x % 2 ^ 32) :=
  if_pos ((s.on_iff _).mpr hready)

/-- The request that a write of the host through BAR2 becomes. -/
def hostStore (a tag : Nat) (data : List Byte) : FabReq := { master := 0x40, addr := a, tag := tag, kind := .write data, access := 1 }

theorem State.bar2_write {s : State} (hready : s.rd SEC_BOOT_STATUS_READY = 1) (x tag : Nat) (data : List Byte) :
    s.bar2 x (.write data) tag = s.fabRequest (hostStore (2 ^ 32 * s.rd (HIF_AP_SEG (x / 2 ^ 32)) + x % 2 ^ 32) tag data) := by
  rw [State.bar2, State.apAddr_ready hready]
  rfl

section
variable {s : State} (hs : s.held = false)
include hs

theorem exec_bar0Read (n : Fin 16777216) (be : Fin 256) :
    exec (.bar0Access n false none be) s = .next (s.barAccess n false none be).settle := State.finish_on _ hs
theorem exec_bar0Write (n : Fin 16777216) (w x : Word) (be : Fin 256) :
    exec (.bar0Access n false (some (w, x)) be) s = .next (s.barAccess n false (some (w.toNat, x.toNat)) be).settle :=
  State.finish_on _ hs
theorem exec_bar2Write (x : BitVec 36) (data : List Byte) (tag : Nat) :
    exec (.bar2Access x (some data) 0 tag) s = .next (s.bar2 x.toNat (.write data) tag).settle := State.finish_on _ hs
theorem exec_hifApWrite (i : Fin 16) (w : Word) : exec (.hifApWrite i w) s = .next (s.apWrite i w.toNat).settle :=
  State.finish_on _ hs

end

/-- Settles O11: each access by the one place that it reaches. -/
theorem barAccessesReachTheirTargets : Obligations.BarAccessesReachTheirTargets := by
  refine ⟨fun s n be hs hwait hpost => ⟨fun hopen hok => ?read, fun w x hopen hbe hok => ?write, fun w x hbe => ?discarded⟩,
    fun s x data tag a k hs hready haddr ha hk hon => ?bar2, fun s i w hs => ⟨fun hseg => ?set, fun hseg => ?rejected⟩⟩
  case read => rw [exec_bar0Read hs, State.barAccess_read _ _ hwait hpost hopen hok]
  case write => rw [exec_bar0Write hs, State.barAccess_write _ _ hwait hpost _ _ hbe hopen hok]
  case discarded => rw [exec_bar0Write hs, State.barAccess_partial _ _ _ hbe]
  case bar2 =>
    refine ⟨_, exec_bar2Write hs x data tag, ?_⟩
    rw [State.bar2_write hready, ← haddr, State.fabRequest_queued (r := hostStore a tag data) ha hk hon, State.settle_hbm,
      State.setXq_hbm, State.fabAccept_hbm, State.xq_settle, State.xq_setXq]
    exact ⟨rfl, rfl⟩
  case set => rw [exec_hifApWrite hs, State.apWrite, if_neg (by omega)]
  case rejected => rw [exec_hifApWrite hs, State.apWrite, if_pos hseg]

end Sys2Proof.Machine

/-! # How a step goes, and what a device held in reset does -/

namespace Sys2Proof.Machine

/-! ### One step -/

theorem step_cons {s : State} {c : Instr} {rest : List Instr} (h : s.pending = c :: rest) :
    step s = exec c { s with pending := rest } := by
  unfold step
  rw [h]

theorem step_idle {s : State} (h : s.pending = []) : step s = .next (tick s) := by
  unfold step
  rw [h]

theorem tick_elapsed (s : State) : (tick s).elapsed = s.elapsed + 1 := rfl

/-- An idle nanosecond queues no command, whether the domains run or are held in reset. -/
theorem tick_pending (s : State) : (tick s).pending = s.pending := by
  have hrun : s.timeTick.countTick.settle.pending = s.pending := by
    rw [State.settle_pending, State.countTick_pending]
    rfl
  unfold tick
  dsimp only
  split
  · rfl
  · exact hrun

/-- Settles O1: a step by what stands at the front of the queue. -/
theorem stepRunsFrontCommand : Obligations.StepRunsFrontCommand :=
  ⟨fun _ _ _ h => step_cons h, fun s h => ⟨tick s, step_idle h, tick_elapsed s, (tick_pending s).trans h⟩⟩

/-! ### Held in reset -/

/-- Settles O6, by how a command outside the always-on domain ends: a device held in reset drops its effect, and an event that has not
come about leaves the state as it is anyway. -/
theorem resetHoldsEverythingButAlwaysOn : Obligations.ResetHoldsEverythingButAlwaysOn := by
  intro c s hheld haon
  obtain ⟨t, hfinish | hstay⟩ := (exec_ends c s).1 haon
  · exact hfinish.trans (State.finish_held t hheld)
  · exact hstay

end Sys2Proof.Machine

/-! # Software interrupts, timers, claims and routing -/

namespace Sys2Proof.Machine

open R

/-! ### Software interrupts (R448) -/

/-- INT_SGI to a target that its writer may name. -/
theorem State.sgi_named (s : State) {host : Bool} {t k : Nat} (h : t ≤ 15 ∨ t = 16 ∧ host = false) :
    s.sgi host t k = (s.wr (INT_SRC_PENDING (8 * t + k)) 1).arbitrate := by
  refine if_neg ?_
  rintro (ht | ⟨hhost, rfl⟩)
  · omega
  · simp_all

/-- INT_SGI to TS by the host, or to no target. -/
theorem State.sgi_rejected (s : State) {host : Bool} {t k : Nat} (h : 17 ≤ t ∨ t = 16 ∧ host = true) :
    s.sgi host t k = s.wr INT_STATUS_TGT_REJECT 1 :=
  if_pos (h.imp id fun ⟨ht, hhost⟩ => ⟨hhost, ht⟩)

/-- Settles O36: by whether the writer may name the target. -/
theorem softwareInterrupts : Obligations.SoftwareInterrupts := by
  intro s host t k hs
  have hexec : exec (.intSgi host t k) s = .next (s.sgi host t k).settle := State.finish_on _ hs
  refine ⟨fun hnamed => ⟨State.rd_wr_same .., ?_⟩, fun hrejected => ⟨_, hexec, ?_⟩⟩
  · rw [hexec, s.sgi_named hnamed]
  · rw [s.sgi_rejected hrejected]
    exact ⟨(State.rd_settle' _ _ (by decide)).trans (State.rd_wr_same ..),
      ((RegsKept.refl _ s).wr _ _ (List.mem_singleton_self _)).settle, State.settle_intr _, State.settle_out _⟩

/-! ### Timers (R449) -/

section
variable (s : State) (t : Nat)

/-- The state with a new set of armed timers. -/
def State.withArmed (m : SMap Bool) : State := { s with intr := { s.intr with timerArmed := m } }

/-- The timer of `t` armed with a new high word of its compare value. -/
def State.timerSet (hi : Nat) : State :=
  (s.wr (INT_TGT_TIMER_HI t) hi).withArmed (smSet false s.intr.timerArmed t true)

theorem State.timerArm_eq (hi : Nat) : s.timerArm t hi = (s.timerSet t hi).timerFire t := rfl

/-- The compare value is the high word just written over the low word that stands. -/
theorem State.timerSet_at {hi : Nat} (hhi : hi < 2 ^ 32) :
    (s.timerSet t hi).timerAt t = 2 ^ 32 * hi + s.rd (INT_TGT_TIMER_LO t) := by
  have hlo : (INT_TGT_TIMER_LO t).key ≠ (INT_TGT_TIMER_HI t).key := by
    simp only [Fld.key, INT_TGT_TIMER_LO, INT_TGT_TIMER_HI]
    omega
  change 2 ^ 32 * (s.wr (INT_TGT_TIMER_HI t) hi).rd (INT_TGT_TIMER_HI t) + (s.wr (INT_TGT_TIMER_HI t) hi).rd (INT_TGT_TIMER_LO t) = _
  rw [State.rd_wr_same, State.rd_wr_ne _ _ _ _ hlo]
  exact congrArg (2 ^ 32 * · + _) (Nat.mod_eq_of_lt hhi)

/-- An armed timer whose compare value device time has reached fires and is disarmed. -/
theorem State.timerFire_due (harmed : smGet false s.intr.timerArmed t = true) (hdue : s.timerAt t ≤ s.devTime) :
    s.timerFire t =
      ((s.withArmed (smSet false s.intr.timerArmed t false)).wr (INT_SRC_PENDING (8 * t + 6)) 1).arbitrate :=
  if_pos ⟨harmed, hdue⟩

/-- Any other timer does nothing. -/
theorem State.timerFire_idle (h : smGet false s.intr.timerArmed t = false ∨ s.devTime < s.timerAt t) : s.timerFire t = s := by
  refine if_neg ?_
  rintro ⟨harmed, hdue⟩
  obtain h | h := h
  · exact Bool.false_ne_true (h.symm.trans harmed)
  · omega

end

/-- Settles O37: arming is setting the timer and letting it fire when it is due. -/
theorem timersFireOnce : Obligations.TimersFireOnce := by
  intro s t hs
  have harm (hi : Word) : exec (.timerArm t hi) s = .next ((s.timerSet t hi.toNat).timerFire t).settle := State.finish_on _ hs
  have hfire : exec (.timerFire t) s = .next (s.timerFire t).settle := State.finish_on _ hs
  have harmed (hi : Nat) : smGet false (s.timerSet t hi).intr.timerArmed t = true :=
    smGet_smSet_same false _ t true
  refine ⟨fun hi hahead => ?_, fun hi hpast => ⟨smSet false (smSet false s.intr.timerArmed t true) t false, ?_, ?_, ?_⟩,
    fun hon hdue => ?_, fun hoff => ?_⟩
  · rw [harm, State.timerFire_idle _ _ (.inr (by rw [State.timerSet_at _ _ hi.isLt]; exact hahead))]
    rfl
  · exact smGet_smSet_same ..
  · intro u hu
    rw [smGet_smSet_ne _ _ _ hu, smGet_smSet_ne _ _ _ hu]
  · rw [harm, State.timerFire_due _ _ (harmed _) (by rw [State.timerSet_at _ _ hi.isLt]; exact hpast)]
    rfl
  · rw [hfire, s.timerFire_due t hon hdue]
    rfl
  · rw [hfire, s.timerFire_idle t hoff]

/-! ### Claims and ends of interrupt (R454, R455) -/

/-- A source that may be a target's candidate: pending, enabled, not ACTIVE and delivered to the target. -/
def State.eligible (s : State) (t n : Nat) : Prop :=
  s.srcTarget n = t ∧ s.srcPending n ∧ s.on (INT_SRC_EN n) ∧ ¬ s.on (INT_SRC_ACTIVE n)

/-- A candidate is an existing source that may be one. -/
theorem State.candidate_eligible {s : State} {t p n : Nat} (h : s.candidate t = some (p, n)) : n < 320 ∧ s.eligible t n := by
  revert p n
  unfold State.candidate
  refine List.foldlRecOn (motive := fun best => ∀ {p n}, best = some (p, n) → n < 320 ∧ s.eligible t n) _ _ (by simp) ?_
  intro best ih m hm p n h
  dsimp only at h
  split at h
  next hm' =>
    have hnew : m < 320 ∧ s.eligible t m := ⟨List.mem_range.mp hm, hm'⟩
    split at h
    · cases h
      exact hnew
    · split at h <;> cases h
      · exact hnew
      · exact ih rfl
  next => exact ih h

/-- A signalled target has a candidate that outranks its running priority. -/
theorem State.signal_some {s : State} {t p n : Nat} (h : s.signal t = some (p, n)) : s.candidate t = some (p, n) ∧ p < s.runPri t := by
  unfold State.signal at h
  split at h
  · split at h
    · split at h
      · cases h
        exact ⟨by assumption, by assumption⟩
      · cases h
    · cases h
  · cases h

/-- A claim's word holds the number below bit 16 and the priority above. -/
theorem claimWord {n : Nat} (hn : n < 320) (p : Nat) : (65536 * p + n) % 1024 = n ∧ (65536 * p + n) / 65536 = p := by omega

/-- A claimed source is ACTIVE, and a latched one no longer pending. -/
def State.claimed (s : State) (n : Nat) : State :=
  let a := s.wr (INT_SRC_ACTIVE n) 1
  a.iff (a.on (INT_SRC_LATCHED n)) (·.wr (INT_SRC_PENDING n) 0)

theorem State.claim_signalled {s : State} {t p n : Nat} (h : s.signal t = some (p, n)) :
    s.claim t = (65536 * p + n, ((s.claimed n).setStack t ((p, n) :: (s.claimed n).intStack t)).arbitrate) := by
  unfold State.claim
  rw [h]
  rfl

theorem State.claim_quiet {s : State} {t : Nat} (h : s.signal t = none) : s.claim t = (0x3FF, s) := by
  unfold State.claim
  rw [h]

section
variable (s : State) (t : Nat)

/-- An end of interrupt of no source is ignored. -/
theorem State.eoi_none : s.eoi t 0x3FF = s := rfl

/-- An end of interrupt of the source on top pops it. -/
theorem State.eoi_top {n p : Nat} {rest : List (Nat × Nat)} (hn : n ≠ 0x3FF) (h : s.intStack t = (p, n) :: rest) : s.eoi t n =
    ((s.setStack t rest).wr (INT_SRC_ACTIVE n) 0).each (List.range 17) (fun u v => v.evalTarget u (u == t)) := by
  rw [State.eoi, if_neg hn, h]
  exact if_pos rfl

/-- An end of interrupt of another source sets BAD_EOI. -/
theorem State.eoi_other {n : Nat} (hn : n ≠ 0x3FF) (h : ∀ p rest, s.intStack t ≠ (p, n) :: rest) :
    s.eoi t n = s.wr (INT_TGT_STATUS_BAD_EOI t) 1 := by
  rw [State.eoi, if_neg hn]
  split
  next => rfl
  next p m rest hstack =>
    refine if_neg fun hm => ?_
    subst hm
    exact h p rest hstack

end

/-- Settles O38: a claim by whether the target is signalled, an end of interrupt by what stands on top of its stack. -/
theorem claimsAndEndsOfInterrupt : Obligations.ClaimsAndEndsOfInterrupt := by
  intro s t hs
  have hclaim : exec (.intClaim t) s = .next (s.claimRead t).2.settle := State.finish_on _ hs
  have heoi (n : Fin 1024) : exec (.intEoi t n) s = .next (s.eoi t n).settle := State.finish_on _ hs
  refine ⟨fun p n hsig => ?_, fun hquiet => ?_, heoi 0x3FF, fun n p rest hn htop => ?_, fun n hn hother => ?_⟩
  · obtain ⟨hcand, hpri⟩ := State.signal_some hsig
    obtain ⟨hn, -, hpending, -, hactive⟩ := State.candidate_eligible hcand
    obtain ⟨hsource, hpriority⟩ := claimWord hn p
    refine ⟨hn, hpending, fun h => hactive (beq_iff_eq.mpr h), hpri, ?_⟩
    rw [hclaim, State.claimRead, State.claim_signalled hsig]
    dsimp only
    rw [hsource, hpriority]
    rfl
  · rw [hclaim, State.claimRead, State.claim_quiet hquiet]
    simp only [Nat.reduceMod, Nat.reduceDiv]
  · rw [heoi, s.eoi_top t hn htop]
  · rw [heoi, s.eoi_other t hn hother]

/-! ### Levels, routing and parking (R446, R452, R457 to R460) -/

/-- INT_SRC of a shared source with its PRIORITY, EN and TARGET stored, no longer redirected. -/
def State.routed (s : State) (n w : Nat) : State :=
  (((s.wr (INT_SRC_PRIORITY n) (bitsOf w 8 4)).wr (INT_SRC_EN n) (bitOf w 0)).wr (INT_SRC_TARGET n) (bitsOf w 16 5)).wr (INT_SRC_REDIR n) 0

/-- None of what a write of INT_SRC stores is a REDIRECTED flag. -/
theorem State.routed_redirected (s : State) (n w u : Nat) :
    (s.routed n w).rd (INT_TGT_STATUS_REDIRECTED u) = s.rd (INT_TGT_STATUS_REDIRECTED u) := by
  have hkeys : ∀ F ∈ [INT_SRC_PRIORITY n, INT_SRC_EN n, INT_SRC_TARGET n, INT_SRC_REDIR n], (INT_TGT_STATUS_REDIRECTED u).key ≠ F.key := by
    simp only [List.forall_mem_cons, List.not_mem_nil, false_imp_iff, implies_true, and_true, Fld.key, INT_SRC_PRIORITY, INT_SRC_EN,
      INT_SRC_TARGET, INT_SRC_REDIR, INT_TGT_STATUS_REDIRECTED]
    omega
  rw [State.routed, State.rd_wr_ne _ _ _ _ (hkeys _ (by simp)), State.rd_wr_ne _ _ _ _ (hkeys _ (by simp)),
    State.rd_wr_ne _ _ _ _ (hkeys _ (by simp)), State.rd_wr_ne _ _ _ _ (hkeys _ (by simp))]

section
variable (s : State) (n w : Nat)

/-- A write of INT_SRC of a shared source before warp lock, which no reweave holds, to a host target that is not redirected. -/
theorem State.srcWrite_routed (host : Bool) (hshared : 136 ≤ n) (htgt : bitsOf w 16 5 < 16)
    (hcur : s.rd (INT_SRC_TARGET n) < 16)
    (hlock : s.rd WRP_STATUS_LOCKED ≠ 1) (hhold : n ∉ s.wrp.hold.sources) (hredir : s.rd (INT_TGT_STATUS_REDIRECTED (bitsOf w 16 5)) = 0) :
    s.srcWrite host n w = (s.routed n w).arbitrate := by
  have hoff : (s.routed n w).on (INT_TGT_STATUS_REDIRECTED (bitsOf w 16 5)) = false := by
    rw [State.on, s.routed_redirected, hredir]
    rfl
  have hunlocked : s.on WRP_STATUS_LOCKED = false := beq_false_of_ne hlock
  have hfree : s.wrp.hold.sources.contains n = false := by simpa using hhold
  rw [State.srcWrite]
  dsimp only
  rw [if_neg (by simp; omega), if_neg (by omega), hunlocked, Bool.not_false, State.iff_true, State.wr_wrp, hfree, Bool.and_false, Bool.not_false,
    State.iff_true, if_neg (by omega), if_pos (by simpa using hshared)]
  exact congrArg State.arbitrate (if_neg (by rw [← State.routed, hoff]; exact Bool.false_ne_true))

/-- Host inbound reaches no source of TS, and routes no shared source to TS or to no target. -/
theorem State.srcWrite_rejected (hshared : 136 ≤ n) (h : s.rd (INT_SRC_TARGET n) = 16 ∨ 16 ≤ bitsOf w 16 5) :
    s.srcWrite true n w = s.wr INT_STATUS_TGT_REJECT 1 := by
  rw [State.srcWrite]
  dsimp only
  by_cases hts : s.rd (INT_SRC_TARGET n) = 16 ∨ bitsOf w 16 5 = 16
  · exact if_pos ⟨rfl, hts.imp id fun h => ⟨by simpa using hshared, h⟩⟩
  · rw [if_neg (by simp; omega)]
    exact if_pos ⟨rfl, by simpa using hshared, by omega⟩

end

section
variable (s : State) (t : Nat)

theorem State.park_host (ht : t < 16) (h : s.rd (INT_TGT_CTL_PARKED t) ≠ 1) : s.park t =
    ({ s with intr := { s.intr with parkedAt := smSet 0 s.intr.parkedAt t s.devTime } } : State).wr (INT_TGT_CTL_PARKED t) 1 :=
  if_pos ⟨ht, by simp [State.on, h]⟩

/-- TS cannot be parked, and a parked target is parked already. -/
theorem State.park_none (h : t = 16 ∨ s.rd (INT_TGT_CTL_PARKED t) = 1) : s.park t = s :=
  if_neg fun ⟨ht, hoff⟩ => h.elim (by omega) fun hon => hoff (beq_iff_eq.mpr hon)

/-- A target that is not parked, its park time over and its redirect ended. -/
def State.unparked : State := (s.wr (INT_TGT_CTL_PARKED t) 0).wr (INT_TGT_STATUS_REDIRECTED t) 0

theorem State.unpark_parked (h : s.rd (INT_TGT_CTL_PARKED t) = 1) : s.unpark t =
    ((s.unparked t).each ((s.unparked t).sharedOf t) (fun n v => v.wr (INT_SRC_REDIR n) 0)).each (List.range 17)
      (fun i v => v.evalTarget i (i == t)) :=
  if_pos (beq_iff_eq.mpr h)

end

/-- Settles O39: each event by its operation, whose cases are said above. -/
theorem sourcesAreRoutedAndParked : Obligations.SourcesAreRoutedAndParked := by
  refine ⟨fun s n hs => State.finish_on _ hs, fun s n w hs hshared => ?write, fun s t hs => ?park, fun s t hs => ?redirect⟩
  case write =>
    have hexec (host : Bool) : exec (.intSrcWrite host n w) s = .next (s.srcWrite host n w.toNat).settle := State.finish_on _ hs
    refine ⟨fun htgt hcur hlock hhold hredir host => ?_, fun hreject => ?_⟩
    · rw [hexec, s.srcWrite_routed n _ host hshared htgt hcur hlock hhold (hredir _ htgt)]
      rfl
    · rw [hexec, s.srcWrite_rejected n _ hshared hreject]
  case park =>
    have hpark : exec (.targetPark t) s = .next (s.park t).settle := State.finish_on _ hs
    have hunpark : exec (.targetUnpark t) s = .next (s.unpark t).settle := State.finish_on _ hs
    refine ⟨fun ht hoff => ?_, fun hnone => ?_, fun hon => ?_⟩
    · rw [hpark, s.park_host t ht hoff]
    · rw [hpark, s.park_none t hnone]
    · rw [hunpark, s.unpark_parked t hon]
      rfl
  case redirect =>
    have hexec : exec (.parkRedirect t) s = .next (s.parkRedirect t).settle := State.finish_on _ hs
    refine ⟨fun hdue => ?_, fun hnot => ?_⟩
    · rw [hexec, State.parkRedirect, if_pos hdue]
      rfl
    · rw [hexec, State.parkRedirect, if_neg (by simp [hnot])]

end Sys2Proof.Machine

/-! # Clearing and reading the performance counters -/

namespace Sys2Proof.Machine

open R

section
variable (s : State) (i : Nat)

/-- The words of a counter and those of the next share no place. -/
theorem cntVal_keys : (CNT_VAL_LO i).key ≠ (CNT_VAL_HI i).key ∧
    ∀ F ∈ [CNT_VAL_LO i, CNT_VAL_HI i], ∀ G ∈ [CNT_VAL_LO (i + 1), CNT_VAL_HI (i + 1)], F.key ≠ G.key := by
  simp only [List.forall_mem_cons, List.not_mem_nil, false_imp_iff, implies_true, and_true, Fld.key, CNT_VAL_LO, CNT_VAL_HI]
  omega

/-- A latched counter shows its count. -/
theorem State.latchCnt_shown : (s.latchCnt i).rd (CNT_VAL_LO i) = s.cnt i % 2 ^ 32 ∧
    (s.latchCnt i).rd (CNT_VAL_HI i) = s.cnt i / 2 ^ 32 % 2 ^ 16 := by
  refine ⟨?_, State.rd_wr_same ..⟩
  rw [State.latchCnt, State.rd_wr_ne _ _ _ _ (cntVal_keys i).1, State.rd_wr_same]
  exact Nat.mod_mod _ _

theorem State.latchCnt_rd {G : Fld} (h : ∀ F ∈ [CNT_VAL_LO i, CNT_VAL_HI i], G.key ≠ F.key) : (s.latchCnt i).rd G = s.rd G := by
  rw [State.latchCnt, State.rd_wr_ne _ _ _ _ (h _ (by simp)), State.rd_wr_ne _ _ _ _ (h _ (by simp))]

theorem State.latchCnt_kept : RegsKept [CNT_VAL_LO i, CNT_VAL_HI i] s (s.latchCnt i) :=
  ((RegsKept.refl _ s).wr _ _ (by simp)).wr _ _ (by simp)

/-- The high half of a chained pair keeps what the read of the low half latched. -/
theorem State.counterRead_high (h : i % 2 = 1) (hchain : s.rd (CNT_CTL_CHAIN i) = 1) : s.counterRead i = s :=
  if_pos ⟨h, beq_iff_eq.mpr hchain⟩

/-- Any other counter is latched, and with it the counter that is chained to it. -/
theorem State.counterRead_latches (h : i % 2 = 0 ∨ s.rd (CNT_CTL_CHAIN i) ≠ 1) : s.counterRead i =
    (s.latchCnt i).iff (i % 2 == 0 && s.on (CNT_CTL_CHAIN (i + 1))) (·.latchCnt (i + 1)) :=
  if_neg fun ⟨hodd, hchain⟩ => h.elim (by omega) fun hoff => hoff (beq_iff_eq.mp hchain)

end

/-- No word of a counter holds a field that shows a condition. -/
theorem State.settle_cntVal (s : State) {i : Nat} (hi : i ≤ 32) {G : Fld} (hG : G ∈ [CNT_VAL_LO i, CNT_VAL_HI i]) :
    s.settle.rd G = s.rd G := by
  have hplace : ∀ F ∈ [CNT_VAL_LO i, CNT_VAL_HI i], 0x01100000 ≤ F.key / 32 ∧ F.key / 32 < 0x01200000 := by
    simp only [List.forall_mem_cons, List.not_mem_nil, false_imp_iff, implies_true, and_true, Fld.key, CNT_VAL_LO, CNT_VAL_HI]
    omega
  exact s.rd_settle' G (by have := hplace G hG; omega)

theorem State.counterClear_kept (s : State) : RegsKept [] s s.counterClear := (RegsKept.refl [] s).of_flds rfl

/-- A counter latched together with the next one, where that is chained to it. -/
def State.latchWith (s : State) (i : Nat) (both : Bool) : State := (s.latchCnt i).iff both (·.latchCnt (i + 1))

section
variable (s : State) (i : Nat) (both : Bool)

theorem State.latchWith_cntLive : (s.latchWith i both).cntLive = s.cntLive := State.iff_keeps (·.cntLive) both _ _ rfl

/-- The counter shows its count, whether the next is latched with it or not. -/
theorem State.latchWith_shown : (s.latchWith i both).rd (CNT_VAL_LO i) = s.cnt i % 2 ^ 32 ∧
    (s.latchWith i both).rd (CNT_VAL_HI i) = s.cnt i / 2 ^ 32 % 2 ^ 16 := by
  have hkeep {G : Fld} (hG : G ∈ [CNT_VAL_LO i, CNT_VAL_HI i]) : (s.latchWith i both).rd G = (s.latchCnt i).rd G :=
    State.iff_keeps (·.rd G) both _ _ ((s.latchCnt i).latchCnt_rd (i + 1) ((cntVal_keys i).2 G hG))
  rw [hkeep (by simp), hkeep (by simp)]
  exact s.latchCnt_shown i

/-- The next counter, latched with it, shows its own. -/
theorem State.latchWith_next : (s.latchWith i true).rd (CNT_VAL_LO (i + 1)) = s.cnt (i + 1) % 2 ^ 32 ∧
    (s.latchWith i true).rd (CNT_VAL_HI (i + 1)) = s.cnt (i + 1) / 2 ^ 32 % 2 ^ 16 :=
  (s.latchCnt i).latchCnt_shown (i + 1)

theorem State.latchWith_kept :
    RegsKept [CNT_VAL_LO i, CNT_VAL_HI i, CNT_VAL_LO (i + 1), CNT_VAL_HI (i + 1)] s (s.latchWith i both) := by
  have hfirst := (s.latchCnt_kept i).mono (m := [CNT_VAL_LO i, CNT_VAL_HI i, CNT_VAL_LO (i + 1), CNT_VAL_HI (i + 1)]) (by simp)
  cases both
  · exact hfirst
  · exact (hfirst.wr _ _ (by simp)).wr _ _ (by simp)

end

/-- Settles O43: clearing empties the counts, and a read latches the counter with the one chained to it. -/
theorem countersClearedAndRead : Obligations.CountersClearedAndRead := by
  refine ⟨fun s hs => ⟨_, State.finish_on s.counterClear hs, fun i => ?_, s.counterClear_kept.settle, State.settle_hbm _⟩, fun s i hs => ?_⟩
  · rw [State.cnt, State.settle_cntLive]
    rfl
  have hexec : exec (.counterRead i) s = .next (s.counterRead i).settle := State.finish_on _ hs
  refine ⟨fun hodd hchain => by rw [hexec, s.counterRead_high i hodd hchain], fun h => ⟨_, hexec, ?_⟩⟩
  have hi : i.val + 1 ≤ 32 := i.isLt
  rw [s.counterRead_latches i h, ← State.latchWith, State.settle_cntVal _ (i := i) (by omega) (by simp),
    State.settle_cntVal _ (i := i) (by omega) (by simp),
    State.settle_cntVal _ hi (by simp), State.settle_cntVal _ hi (by simp)]
  obtain ⟨hlo, hhi⟩ := s.latchWith_shown i _
  refine ⟨(State.settle_cntLive _).trans (s.latchWith_cntLive i _), hlo, hhi, fun heven hchain => ?_, (s.latchWith_kept i _).settle⟩
  have hboth : (i.val % 2 == 0 && s.on (CNT_CTL_CHAIN (i + 1))) = true := by simp [State.on, heven, hchain]
  rw [hboth]
  exact s.latchWith_next i

end Sys2Proof.Machine

/-! # The autonomous program -/

namespace Sys2Proof.Machine

open R

/-! ### Going on (R502) -/

theorem State.autoNext_more (s : State) (h : 16 * (s.wrp.autoAt + 1) + 16 ≤ (s.sect secAUTONOMOUS).length) :
    s.autoNext = { s with wrp := { s.wrp with autoAt := s.wrp.autoAt + 1, autoSince := s.elapsed } } := if_pos h

theorem State.autoNext_last (s : State) (h : (s.sect secAUTONOMOUS).length < 16 * (s.wrp.autoAt + 1) + 16) :
    s.autoNext = (s.wr WRP_STATUS_AUTO_RUN 0).wr WRP_STATUS_AUTO_DONE 1 := if_neg (Nat.not_le.mpr h)

/-- An access that is answered OKAY lets the entry go on. -/
theorem State.autoCode_okay (s : State) (e : AutoEntry) (acc : Nat) (f : State → State) : s.autoCode e acc 0 f = f s := rfl

/-! ### The entries (R501) -/

section
variable {s : State} {e : AutoEntry} (he : s.autoEntry = some e)
include he

theorem State.autoWrite_okay (hop : e.op = 1) (hcode : (s.writeAs mSVC e.off e.value).1 = 0) :
    s.autoWrite = (s.writeAs mSVC e.off e.value).2.autoNext := by
  unfold State.autoWrite
  rw [he]
  dsimp only
  rw [if_pos hop, hcode, State.autoCode_okay]

theorem State.autoWait_met (hop : e.op = 2) (hcode : (s.readAs mSVC e.off).1 = 0) (hword : (s.readAs mSVC e.off).2.1 &&& e.mask = e.value) :
    s.autoWait = (s.readAs mSVC e.off).2.2.autoNext := by
  have hmet : ((s.readAs mSVC e.off).2.1.land e.mask == e.value) = true := beq_iff_eq.mpr hword
  unfold State.autoWait
  rw [he]
  dsimp only
  rw [if_pos hop, hcode, State.autoCode_okay, hmet, State.iff_true]

theorem State.autoTimeout_due (hop : e.op = 2) (hdue : s.wrp.autoSince + 1000000 * e.timeout ≤ s.elapsed) : s.autoTimeout = s.autoFail := by
  unfold State.autoTimeout
  rw [he]
  dsimp only
  rw [hop, decide_eq_true hdue]
  rfl

theorem State.autoDelay_due (hop : e.op = 3) (hdue : s.wrp.autoSince + e.value * 1000 ≤ s.elapsed) : s.autoDelay = s.autoNext := by
  unfold State.autoDelay
  rw [he]
  dsimp only
  rw [hop, decide_eq_true hdue]
  rfl

end

/-- Settles O10: each command by its entry, and a delay that has passed by whether another entry follows. -/
theorem autonomousProgramRuns : Obligations.AutonomousProgramRuns := by
  intro s e hs he
  have hdelay : exec .autoDelay s = .next s.autoDelay.settle := State.finish_on _ hs
  refine ⟨fun hop hcode => ?_, fun hop hcode hword => ?_, fun hop hdue => ?_, fun hop hdue hmore => ?_, fun hop hdue hlast => ?_⟩
  · exact (State.finish_on _ hs).trans (by rw [State.autoWrite_okay he hop hcode])
  · exact (State.finish_on _ hs).trans (by rw [State.autoWait_met he hop hcode hword])
  · exact (State.finish_on _ hs).trans (by rw [State.autoTimeout_due he hop hdue, State.autoFail])
  · rw [hdelay, State.autoDelay_due he hop hdue, s.autoNext_more hmore]
  · rw [hdelay, State.autoDelay_due he hop hdue, s.autoNext_last hlast]

end Sys2Proof.Machine

/-! # A reset of every domain but the always-on one -/

namespace Sys2Proof.Machine

open R

/-! ### What such a reset keeps (R510, R552, R554) -/

/-- Every domain but CK_AON at its reset state, before the registers show what is kept. -/
def State.domainsReset (s : State) : State :=
  { State.reset with
    part := s.part, hostMem := s.hostMem, mram := s.mram, flash := s.flash, elapsed := s.elapsed, fresh := s.fresh, out := s.out
    pending := s.pending, aon := { s.aon with avs := none, i2cAsked := false, startPeak := none }, sec := s.sec.kept
    flt := { State.reset.flt with seq := logNewest s.mram } }

section
variable {β : Type} {g : State → β} (hwr : ∀ (t : State) F v, g (t.wr F v) = g t)
include hwr

/-- Showing the versions of the microcode writes registers. -/
theorem State.showUcode_keeps (s : State) (l : List UcodePatch) (v : Nat) : g (s.showUcode l v) = g s := by
  unfold State.showUcode
  dsimp only
  rw [State.each_keeps g _ _ fun r t _ => ?_]
  · refine State.each_keeps g _ _ (fun y t _ => ?_) s
    rw [State.each_keeps g _ _ fun i u _ => hwr u _ _, hwr]
  · have hver : g (t.iff (r.kind != 0) (·.wr (UCS_VER_PATCH r.type) v)) = g t := State.iff_keeps g _ _ t (hwr t _ _)
    rw [apply_ite g, State.each_keeps g _ _ fun i u _ => by rw [apply_ite g, hwr, ite_self], ite_self]
    exact hver

/-- So does showing what is kept. -/
theorem State.showKept_keeps (s : State) : g s.showKept = g s := by
  unfold State.showKept
  dsimp only
  rw [State.showUcode_keeps hwr, hwr, State.each_keeps g _ _ fun i t _ => hwr t _ _, State.each_keeps g _ _ fun i t _ => hwr t _ _,
    hwr, hwr, State.each_keeps g _ _ fun i t _ => hwr t _ _, hwr, hwr, hwr, hwr]

/-- Beside the registers and FAULT_N, the reset leaves the domains at their reset state. -/
theorem State.domainReset_keeps (hemit : ∀ (t : State) o, g (t.emit o) = g t) (s : State) : g s.domainReset = g s.domainsReset := by
  unfold State.domainReset
  dsimp only
  rw [State.showKept_keeps hwr]
  exact State.iff_keeps g _ _ s.domainsReset (hemit _ _)

end

section
variable (s : State)

theorem State.domainReset_hbm : s.domainReset.hbm = [] := State.domainReset_keeps (g := (·.hbm)) (fun _ _ _ => rfl) (fun _ _ => rfl) s
theorem State.domainReset_devTime : s.domainReset.devTime = 0 := State.domainReset_keeps (g := (·.devTime)) (fun _ _ _ => rfl) (fun _ _ => rfl) s
theorem State.domainReset_mram : s.domainReset.mram = s.mram := State.domainReset_keeps (g := (·.mram)) (fun _ _ _ => rfl) (fun _ _ => rfl) s
theorem State.domainReset_flash : s.domainReset.flash = s.flash := State.domainReset_keeps (g := (·.flash)) (fun _ _ _ => rfl) (fun _ _ => rfl) s
theorem State.domainReset_sec : s.domainReset.sec = s.sec.kept := State.domainReset_keeps (g := (·.sec)) (fun _ _ _ => rfl) (fun _ _ => rfl) s
theorem State.domainReset_aon : s.domainReset.aon = { s.aon with avs := none, i2cAsked := false, startPeak := none } :=
  State.domainReset_keeps (g := (·.aon)) (fun _ _ _ => rfl) (fun _ _ => rfl) s

/-- What of the stores and the counts outlasts a reset, whatever becomes of the always-on record: HBM holds nothing and device time
starts at 0 (DEDUCED, log entry 40), MRAM, flash and the count of starts stand. -/
structure ResetFrom (s t : State) : Prop where
  hbm : t.hbm = []
  devTime : t.devTime = 0
  mram : t.mram = s.mram
  flash : t.flash = s.flash
  sec : t.sec = s.sec.kept

theorem State.domainReset_resetFrom : ResetFrom s s.domainReset :=
  ⟨s.domainReset_hbm, s.domainReset_devTime, s.domainReset_mram, s.domainReset_flash, s.domainReset_sec⟩

end

namespace ResetFrom
variable {s t : State} (h : ResetFrom s t)
include h

theorem modAon (f : AonSt → AonSt) : ResetFrom s (t.modAon f) := ⟨h.hbm, h.devTime, h.mram, h.flash, h.sec⟩

theorem emit (o : Output) : ResetFrom s (t.emit o) := ⟨h.hbm, h.devTime, h.mram, h.flash, h.sec⟩

theorem iff_emit (c : Bool) (o : Output) : ResetFrom s (t.iff c (·.emit o)) := by
  cases c
  · exact h
  · exact h.emit o

theorem settle : ResetFrom s t.settle :=
  ⟨(State.settle_hbm t).trans h.hbm, (State.settle_devTime t).trans h.devTime, (State.settle_mram t).trans h.mram,
    (State.settle_flash t).trans h.flash, (State.settle_sec t).trans h.sec⟩

theorem startCnt : t.sec.startCnt = s.sec.startCnt := by
  rw [h.sec]
  rfl

theorem starting : t.sec.starting = false := by
  rw [h.sec]
  rfl

end ResetFrom

end Sys2Proof.Machine

/-! # Events of the always-on domain -/

namespace Sys2Proof.Machine

open R

/-! ### Power-on, brown-out and over-temperature (R550, R552, R554) -/

/-- The always-on record once VDD_AON has come into range at `now`. -/
def AonSt.poweredOn (a : AonSt) (now : Nat) : AonSt :=
  { a with vdd := true, epoch := (a.epoch + 1) % 2 ^ 16, since := now, resetLow := true, peak := none, i2cOff := 0 }

section
variable (s : State)

theorem State.aonPowerOn_up (h : s.aon.vdd = true) : s.aonPowerOn = s := if_pos h

/-- VDD_AON comes into range. -/
theorem State.aonPowerOn_rises (h : s.aon.vdd = false) :
    s.aonPowerOn = (s.modAon (·.poweredOn s.elapsed)).emit (.pin "SPI_RESET_N" false) := if_neg (by simp [h])

theorem State.aonBrownout_resetFrom : ResetFrom s s.aonBrownout := (s.domainReset_resetFrom.modAon _).iff_emit ..

theorem State.aonBrownout_aon : s.aonBrownout.aon.vdd = false ∧ s.aonBrownout.aon.thermtrip = false := by
  have haon : s.aonBrownout.aon = { s.domainReset.aon with vdd := false, thermtrip := false } := State.iff_keeps (·.aon) _ _ _ rfl
  rw [haon]
  exact ⟨rfl, rfl⟩

/-- The device once the die has exceeded 125 °C. -/
def State.tripped (x : Int) : State :=
  (s.domainReset.modAon (fun a => { a with thermtrip := true, tj := x, peak := some (max (a.peak.getD x) x) })).iff (!s.aon.thermtrip)
    (·.emit (.pin "THERMTRIP_N" false))

theorem State.thermTrip_hot {x : Int} (hx : 125 < x) (hvdd : s.aon.vdd = true) : s.thermTrip x = s.tripped x := if_pos ⟨hx, hvdd⟩

theorem State.thermTrip_none {x : Int} (h : x ≤ 125 ∨ s.aon.vdd = false) : s.thermTrip x = s := by
  refine if_neg fun ⟨hx, hvdd⟩ => ?_
  obtain h | h := h
  · omega
  · exact Bool.false_ne_true (h.symm.trans hvdd)

theorem State.tripped_resetFrom (x : Int) : ResetFrom s (s.tripped x) := (s.domainReset_resetFrom.modAon _).iff_emit ..

theorem State.tripped_aon (x : Int) : (s.tripped x).aon.thermtrip = true ∧ (s.tripped x).aon.tj = x := by
  have haon : (s.tripped x).aon = { s.domainReset.aon with thermtrip := true, tj := x, peak := some (max (s.domainReset.aon.peak.getD x) x) } :=
    State.iff_keeps (·.aon) _ _ _ rfl
  rw [haon]
  exact ⟨rfl, rfl⟩

end

/-- The domains are held in reset by the always-on record alone. -/
theorem State.held_congr {s t : State} (h : t.aon = s.aon) : t.held = s.held := by
  rw [State.held, h, State.held]

theorem State.settle_held (s : State) : s.settle.held = s.held := State.held_congr s.settle_aon

theorem State.held_of_thermtrip {s : State} (h : s.aon.thermtrip = true) : s.held = true := by
  simp [State.held, h]

/-! ### Temperatures (R553) -/

/-- The always-on record after a sample of the die temperature. -/
def AonSt.sampled (x : AonSt) (m : Int) : AonSt := { x with tj := m, peak := some (max (x.peak.getD m) m) }

/-- The highest sample since the start. -/
def State.startMax (s : State) (m : Int) : Int := max (s.aon.startPeak.getD m) m

section
variable (s : State) (a : Int) (r : List Int)

theorem State.tempSample_held (h : s.held = true) : s.tempSample (a :: r) = s.modAon (·.sampled (r.foldl max a)) := if_pos h

/-- Out of reset the registers show the sample and its peak. -/
theorem State.tempSample_on (h : s.held = false) : s.tempSample (a :: r) =
    (((s.modAon (·.sampled (r.foldl max a))).modAon (fun x => { x with startPeak := some (s.startMax (r.foldl max a)) })).wr GLB_TEMP_TJ
      (ofSign 8 (r.foldl max a))).wr GLB_TEMP_PEAK (ofSign 8 (s.startMax (r.foldl max a))) :=
  if_neg (ne_true_of_eq_false h)

theorem State.tempSample_aon : (s.tempSample (a :: r)).aon = { s.aon with
    tj := r.foldl max a, peak := some (max (s.aon.peak.getD (r.foldl max a)) (r.foldl max a))
    startPeak := bif s.held then s.aon.startPeak else some (s.startMax (r.foldl max a)) } := by
  cases h : s.held
  · rw [s.tempSample_on a r h]
    rfl
  · rw [s.tempSample_held a r h]
    rfl

theorem State.tempSample_kept {l : List Fld} (htj : GLB_TEMP_TJ ∈ l) (hpeak : GLB_TEMP_PEAK ∈ l) : RegsKept l s (s.tempSample (a :: r)) := by
  have haon (f : AonSt → AonSt) {t : State} (ht : RegsKept l s t) : RegsKept l s (t.modAon f) := ht.of_flds rfl
  cases h : s.held
  · rw [s.tempSample_on a r h]
    exact ((haon _ (haon _ (RegsKept.refl l s))).wr _ _ htj).wr _ _ hpeak
  · rw [s.tempSample_held a r h]
    exact haon _ (RegsKept.refl l s)

theorem State.tempSample_shown (h : s.held = false) : (s.tempSample (a :: r)).rd GLB_TEMP_TJ = ofSign 8 (r.foldl max a) % 256 ∧
    (s.tempSample (a :: r)).rd GLB_TEMP_PEAK = ofSign 8 (s.startMax (r.foldl max a)) % 256 := by
  rw [s.tempSample_on a r h]
  refine ⟨?_, State.rd_wr_same ..⟩
  rw [State.rd_wr_ne _ _ _ _ (by decide)]
  exact State.rd_wr_same ..

end

section
variable (s : State) (k : Nat) (x : Int)

theorem State.stackTemp_aon : (s.stackTemp k x).aon = s.aon := State.iff_keeps (·.aon) _ _ s rfl

theorem State.stackTemp_rd {G : Fld} (h : G.key ≠ (MEM_TEMP k).key) : (s.stackTemp k x).rd G = s.rd G :=
  State.iff_keeps (·.rd G) _ _ s (State.rd_wr_ne s _ _ _ h)

/-- A stack that is ON reports its temperature. -/
theorem State.stackTemp_on (h : s.held = false) (hon : s.islOn (28 + k) = true) : (s.stackTemp k x).rd (MEM_TEMP k) = ofSign 8 x % 256 := by
  rw [State.stackTemp, h, hon]
  exact State.rd_wr_same ..

theorem State.stackTemp_kept {l : List Fld} {u : State} (hk : MEM_TEMP k ∈ l) (h : RegsKept l u s) : RegsKept l u (s.stackTemp k x) := by
  unfold State.stackTemp
  cases !s.held && s.islOn (28 + k)
  · exact h
  · exact h.wr _ _ hk

end

/-- The state once the die's readings `l` and those of the two stacks have been taken. -/
def State.tempsTaken (s : State) (l : List Int) (x0 x1 : Int) : State := ((s.tempSample l).stackTemp 0 x0).stackTemp 1 x1

section
variable (s : State) (a : Int) (r : List Int) (x0 x1 : Int)

theorem State.tempsTaken_aon : (s.tempsTaken (a :: r) x0 x1).aon = (s.tempSample (a :: r)).aon := by
  rw [State.tempsTaken, State.stackTemp_aon, State.stackTemp_aon]

theorem State.tempsTaken_kept : RegsKept [GLB_TEMP_TJ, GLB_TEMP_PEAK, MEM_TEMP 0, MEM_TEMP 1] s (s.tempsTaken (a :: r) x0 x1) :=
  State.stackTemp_kept _ _ _ (by simp) (State.stackTemp_kept _ _ _ (by simp) (s.tempSample_kept a r (by simp) (by simp)))

/-- The stacks' readings leave every field but their own as the die's have left it. -/
theorem State.tempsTaken_rd {G : Fld} (h0 : G.key ≠ (MEM_TEMP 0).key) (h1 : G.key ≠ (MEM_TEMP 1).key) :
    (s.tempsTaken (a :: r) x0 x1).rd G = (s.tempSample (a :: r)).rd G := by
  rw [State.tempsTaken, State.stackTemp_rd _ _ _ h1, State.stackTemp_rd _ _ _ h0]

/-- A sample of the die temperature switches no island. -/
theorem State.tempSample_islOn {i : Nat} (hi : i = 28 ∨ i = 29) : (s.tempSample (a :: r)).islOn i = s.islOn i := by
  have hplace : ∀ F ∈ [GLB_TEMP_TJ, GLB_TEMP_PEAK], (PWR_ISL_STATE_STATE i).key ≠ F.key := by
    obtain rfl | rfl := hi <;> decide
  have hcond : ∀ F ∈ condFlds, (PWR_ISL_STATE_STATE i).key ≠ F.key := by
    obtain rfl | rfl := hi <;> decide
  rw [State.islOn, State.isl, s.tempSample_kept a r (l := [GLB_TEMP_TJ, GLB_TEMP_PEAK]) (by simp) (by simp) _ hplace hcond, State.islOn, State.isl]

theorem State.tempSample_heldSame : (s.tempSample (a :: r)).held = s.held := by
  rw [State.held, s.tempSample_aon a r, State.held]

/-- Out of reset each stack that is ON shows its reading. -/
theorem State.tempsTaken_stacks (h : s.held = false) :
    (s.islOn 28 = true → (s.tempsTaken (a :: r) x0 x1).rd (MEM_TEMP 0) = ofSign 8 x0 % 256) ∧
    (s.islOn 29 = true → (s.tempsTaken (a :: r) x0 x1).rd (MEM_TEMP 1) = ofSign 8 x1 % 256) := by
  have hheld : (s.tempSample (a :: r)).held = false := (s.tempSample_heldSame a r).trans h
  refine ⟨fun hon => ?_, fun hon => ?_⟩
  · rw [State.tempsTaken, State.stackTemp_rd _ _ _ (by decide)]
    exact State.stackTemp_on _ 0 x0 hheld ((s.tempSample_islOn a r (.inl rfl)).trans hon)
  · have hisl : ((s.tempSample (a :: r)).stackTemp 0 x0).islOn 29 = (s.tempSample (a :: r)).islOn 29 := by
      rw [State.islOn, State.isl, State.stackTemp_rd _ _ _ (by decide), State.islOn, State.isl]
    exact State.stackTemp_on _ 1 x1 ((State.held_congr (State.stackTemp_aon ..)).trans hheld)
      (hisl.trans ((s.tempSample_islOn a r (.inr rfl)).trans hon))

end

/-! ### Monitors (R553) -/

section
variable (s : State) (m v : Nat)

theorem State.monitorTrip_beyond (hm : s.monitored m = true) (hv : s.beyond m v = true) (hclear : bitSet (s.rd GLB_ENV) m = false) :
    s.monitorTrip m v = (s.setBit GLB_ENV m).takeFault { cls := 22, addr := m } false := if_pos (by rw [hm, hv, hclear]; rfl)

theorem State.monitorTrip_none (h : s.monitored m = false ∨ s.beyond m v = false ∨ bitSet (s.rd GLB_ENV) m = true) : s.monitorTrip m v = s :=
  if_neg (by obtain h | h | h := h <;> simp [h])

theorem State.monitorReturn_inside (hm : s.monitored m = true) (hv : s.inside m v = true) : s.monitorReturn m v = s.clrBit GLB_ENV m :=
  if_pos (by rw [hm, hv]; rfl)

theorem State.monitorReturn_none (h : s.monitored m = false ∨ s.inside m v = false) : s.monitorReturn m v = s :=
  if_neg (by obtain h | h := h <;> simp [h])

end

/-! ### Voltage steps (R549) -/

section
variable (s : State) (meas : Nat)

/-- A voltage step has ended and the core voltage is measured. -/
def State.avsMeasured : State := (s.modAon (fun a => { a with avs := none })).wr GLB_VCORE_MEAS_MV meas

/-- The next step goes out on AVSBus. -/
def State.avsIssued (v : Nat) : State :=
  (((s.avsMeasured meas).modAon (fun a => { a with avs := some v })).wr GLB_VCORE_SET_MV v).emit (.serial "AVSBUS" [0, v])

theorem State.avsDone_idle (next : Option Nat) (h : s.aon.avs = none) : s.avsDone meas next = s := by
  unfold State.avsDone
  rw [h]

theorem State.avsDone_last (h : s.aon.avs.isSome = true) : s.avsDone meas none = s.avsMeasured meas := by
  obtain ⟨w, hw⟩ := Option.isSome_iff_exists.mp h
  unfold State.avsDone
  rw [hw]
  rfl

/-- A step of at most 10 mV follows. -/
theorem State.avsDone_next {v : Nat} (h : s.aon.avs.isSome = true) (hup : v ≤ s.rd GLB_VCORE_SET_MV + 10)
    (hdown : s.rd GLB_VCORE_SET_MV ≤ v + 10) :
    s.avsDone meas (some v) = s.avsIssued meas v := by
  obtain ⟨w, hw⟩ := Option.isSome_iff_exists.mp h
  have hset : (s.avsMeasured meas).rd GLB_VCORE_SET_MV = s.rd GLB_VCORE_SET_MV := State.rd_wr_ne _ _ _ _ (by decide)
  unfold State.avsDone
  rw [hw]
  exact if_pos ⟨hset ▸ hup, hset ▸ hdown⟩

theorem State.avsMeasured_kept {l : List Fld} (h : GLB_VCORE_MEAS_MV ∈ l) : RegsKept l s (s.avsMeasured meas) :=
  RegsKept.wr _ _ h ((RegsKept.refl l s).of_flds rfl)

theorem State.avsMeasured_shown {meas : Nat} (h : meas < 4096) : (s.avsMeasured meas).rd GLB_VCORE_MEAS_MV = meas :=
  (State.rd_wr_same ..).trans (Nat.mod_eq_of_lt h)

theorem State.avsIssued_kept (v : Nat) : RegsKept [GLB_VCORE_MEAS_MV, GLB_VCORE_SET_MV] s (s.avsIssued meas v) :=
  ((((s.avsMeasured_kept meas (by simp)).of_flds rfl).wr GLB_VCORE_SET_MV v (by simp)).of_flds rfl)

theorem State.avsIssued_shown {meas v : Nat} (hmeas : meas < 4096) (hv : v < 4096) :
    (s.avsIssued meas v).rd GLB_VCORE_MEAS_MV = meas ∧ (s.avsIssued meas v).rd GLB_VCORE_SET_MV = v := by
  rw [State.avsIssued, State.emit_rd, State.emit_rd, State.rd_wr_ne _ _ GLB_VCORE_MEAS_MV _ (by decide)]
  exact ⟨s.avsMeasured_shown hmeas, (State.rd_wr_same ..).trans (Nat.mod_eq_of_lt hv)⟩

end

/-! ### The I2C target (R561) -/

section
variable (s : State) (v : Nat)

/-- The offset of the next read stands behind the byte written, where VDD_AON is in range. -/
def State.i2cWritten : State := if s.aon.vdd then s.modAon (fun a => { a with i2cOff := 0x11 }) else s

/-- Neither the fields nor what a SHUTDOWN asks of the always-on record depend on that offset. -/
theorem State.i2cWritten_asks : s.i2cWritten.rd SEC_BOOT_STATUS_PHASE = s.rd SEC_BOOT_STATUS_PHASE ∧ s.i2cWritten.held = s.held ∧
    s.i2cWritten.aon.i2cAsked = s.aon.i2cAsked := by
  unfold State.i2cWritten
  split <;> exact ⟨rfl, rfl, rfl⟩

theorem State.i2cShutdown_ignored (h : v ≠ 0xA5 ∨ s.held = true ∨ s.rd SEC_BOOT_STATUS_PHASE ≠ phREADY ∨ s.aon.i2cAsked = true) :
    s.i2cShutdown v = s.i2cWritten := by
  obtain ⟨hphase, hheld, hasked⟩ := s.i2cWritten_asks
  refine if_neg ?_
  rintro ⟨hv, hready, hoff, hnot⟩
  rw [← State.i2cWritten] at hready hoff hnot
  rw [hphase] at hready
  rw [hheld] at hoff
  rw [hasked] at hnot
  obtain h | h | h | h := h <;> contradiction

/-- The message that a SHUTDOWN over I2C queues. -/
def i2cMail : Mail := { box := 16, words := [mbSHUTDOWN] }

/-- A SHUTDOWN at the front of the queue is left to be executed. -/
theorem State.mailSettle_shutdown (h : s.sec.mail = [i2cMail]) (hhalt : s.sec.halting = false) : s.mailSettle = s := by
  have hquick : s.quickAnswer i2cMail = none := by
    rw [State.quickAnswer, if_neg (by decide), if_neg (by simp [hhalt])]
  have hfix (l : List Nat) : s.each l (fun _ t =>
      match t.sec.mail with
      | [] => t
      | m :: _ => match t.quickAnswer m with | some c => (t.takeMail m).reply m c 0 | none => t) = s := by
    induction l with
    | nil => rfl
    | cons n r ih =>
      rw [State.each_cons, h]
      dsimp only
      rw [hquick]
      exact ih
  exact hfix _

/-- A SHUTDOWN is queued. -/
def State.i2cQueued : State :=
  { s.modAon (fun a => { a with i2cAsked := true, i2cOff := 0x11 }) with sec := { s.sec with mail := [i2cMail] } }

theorem State.i2cShutdown_queued (hheld : s.held = false) (hphase : s.rd SEC_BOOT_STATUS_PHASE = phREADY) (hasked : s.aon.i2cAsked = false)
    (hmail : s.sec.mail = []) (hhalt : s.sec.halting = false) : s.i2cShutdown 0xA5 = s.i2cQueued := by
  have hvdd : s.aon.vdd = true := by
    simp only [State.held, Bool.or_eq_false_iff, Bool.not_eq_false'] at hheld
    exact hheld.2
  have hwritten : s.i2cWritten = s.modAon (fun a => { a with i2cOff := 0x11 }) := if_pos hvdd
  obtain ⟨hphase', hheld', hasked'⟩ := s.i2cWritten_asks
  have hqueued : s.i2cShutdown 0xA5 = State.mailSettle { s.i2cWritten.modAon (fun a => { a with i2cAsked := true }) with
      sec := { s.i2cWritten.sec with mail := s.i2cWritten.sec.mail ++ [i2cMail] } } :=
    if_pos ⟨rfl, hphase'.trans hphase, ne_true_of_eq_false (hheld'.trans hheld), ne_true_of_eq_false (hasked'.trans hasked)⟩
  have hstate : ({ s.i2cWritten.modAon (fun a => { a with i2cAsked := true }) with
      sec := { s.i2cWritten.sec with mail := s.i2cWritten.sec.mail ++ [i2cMail] } } : State) = s.i2cQueued := by
    rw [hwritten]
    simp only [State.i2cQueued, State.modAon, hmail, List.nil_append]
  rw [hqueued, hstate]
  exact State.mailSettle_shutdown _ rfl hhalt

end

/-! ### The boundary scan (R562) -/

/-- The identification code holds the silicon step, the part, the manufacturer and a 1. -/
theorem State.idcode_parts (s : State) : s.idcode / 2 ^ 28 = Config.siliconStep % 16 ∧
    s.idcode / 2 ^ 12 % 2 ^ 16 = (if s.part = .ix9640 then 0x9640 else 0x9620) ∧ s.idcode % 2 ^ 12 = 0x4B3 * 2 + 1 := by
  cases h : s.part <;> simp only [State.idcode, h, reduceCtorEq, if_true, if_false] <;> omega

/-- Settles O60: each event by what it leaves, as said above. That HBM is empty and device time 0 after a brown-out or a trip, and the
numbers of the JTAG instructions, are the model's choice (DEDUCED, log entries 40 and 29). -/
theorem alwaysOnEvents : Obligations.AlwaysOnEvents := by
  intro s
  refine ⟨fun hdown => ?poweron, fun hup => ?powered, ?brownout, fun a r h0 h1 => ?temps, fun m v hs => ?monitors, fun x => ?trip,
    fun meas v hs havs => ?avs, fun meas v hs havs => ?avsIdle, fun hs hphase hasked hmail hhalt => ?i2c, fun v hv => ?i2cIgnored,
    fun bits => rfl, rfl, s.idcode_parts.1, s.idcode_parts.2.1, s.idcode_parts.2.2, fun pins cells => ⟨rfl, rfl⟩, rfl, rfl⟩
  case poweron =>
    refine ⟨_, (show exec .aonPowerOn s = .next s.aonPowerOn.settle from rfl), ?_⟩
    rw [s.aonPowerOn_rises hdown]
    exact ⟨State.settle_out _, RegsKept.settle ((RegsKept.refl [] s).of_flds rfl), State.settle_aon _⟩
  case powered => exact congrArg (fun t : State => Host.Outcome.next t.settle) (s.aonPowerOn_up hup)
  case brownout =>
    have hreset := s.aonBrownout_resetFrom.settle
    obtain ⟨hvdd, htrip⟩ := s.aonBrownout_aon
    exact ⟨_, rfl, (congrArg AonSt.vdd (State.settle_aon _)).trans hvdd, (congrArg AonSt.thermtrip (State.settle_aon _)).trans htrip,
      hreset.hbm, hreset.devTime, hreset.mram, hreset.flash, hreset.startCnt⟩
  case temps =>
    refine ⟨(s.tempsTaken (a.toInt :: r.map BitVec.toInt) h0.toInt h1.toInt).settle, rfl, ?_,
      RegsKept.settle (s.tempsTaken_kept _ _ _ _), fun hs => ?_⟩
    · rw [State.settle_aon, State.tempsTaken_aon, State.tempSample_aon]
      rfl
    · obtain ⟨htj, hpeak⟩ := s.tempSample_shown a.toInt (r.map BitVec.toInt) hs
      obtain ⟨hstack0, hstack1⟩ := s.tempsTaken_stacks a.toInt (r.map BitVec.toInt) h0.toInt h1.toInt hs
      rw [State.rd_settle' _ GLB_TEMP_TJ (by decide), State.rd_settle' _ GLB_TEMP_PEAK (by decide), State.rd_settle' _ (MEM_TEMP 0) (by decide),
        State.rd_settle' _ (MEM_TEMP 1) (by decide), s.tempsTaken_rd _ _ _ _ (by decide) (by decide), s.tempsTaken_rd _ _ _ _ (by decide) (by decide)]
      exact ⟨htj, hpeak, hstack0, hstack1⟩
  case monitors =>
    have htrip : exec (.monitorTrip m v) s = .next (s.monitorTrip m v).settle := State.finish_on _ hs
    have hreturn : exec (.monitorReturn m v) s = .next (s.monitorReturn m v).settle := State.finish_on _ hs
    refine ⟨fun hm hv hclear => ?_, fun h => ?_, fun hm hv => ?_, fun h => ?_⟩
    · rw [htrip, s.monitorTrip_beyond m v hm hv hclear]
    · rw [htrip, s.monitorTrip_none m v h]
    · rw [hreturn, s.monitorReturn_inside m v hm hv]
    · rw [hreturn, s.monitorReturn_none m v h]
  case trip =>
    have hexec : exec (.thermtrip x) s = .next (s.thermTrip x.toInt).settle := rfl
    refine ⟨fun hhot hvdd => ⟨_, hexec, ?_⟩, fun h => by rw [hexec, s.thermTrip_none h]⟩
    rw [s.thermTrip_hot hhot hvdd]
    have hreset := (s.tripped_resetFrom x.toInt).settle
    obtain ⟨htrip, htj⟩ := s.tripped_aon x.toInt
    rw [State.settle_held, State.settle_aon]
    exact ⟨State.held_of_thermtrip htrip, htrip, htj, hreset.hbm, hreset.mram, hreset.flash, hreset.startCnt⟩
  case avs =>
    refine ⟨⟨_, (State.finish_on _ hs).trans (by rw [Option.map_none, s.avsDone_last meas havs]), ?_⟩, fun hup hdown =>
      ⟨_, (State.finish_on _ hs).trans (by rw [Option.map_some, s.avsDone_next meas havs hup hdown]), ?_⟩⟩
    · exact ⟨(State.rd_settle' _ _ (by decide)).trans (s.avsMeasured_shown meas.isLt), State.settle_aon _,
        (s.avsMeasured_kept meas (by simp)).settle, State.settle_out _⟩
    · obtain ⟨hmeas, hset⟩ := s.avsIssued_shown meas.isLt v.isLt
      exact ⟨(State.rd_settle' _ _ (by decide)).trans hmeas, (State.rd_settle' _ _ (by decide)).trans hset, State.settle_aon _,
        (s.avsIssued_kept meas v).settle, State.settle_out _⟩
  case avsIdle => exact (State.finish_on _ hs).trans (by rw [s.avsDone_idle meas _ havs])
  case i2c =>
    refine ⟨s.i2cQueued.settle, ?_, State.settle_aon _, RegsKept.settle ((RegsKept.refl [] s).of_flds rfl),
      congrArg SecSt.mail (State.settle_sec _)⟩
    exact congrArg (fun t : State => Host.Outcome.next t.settle) (s.i2cShutdown_queued hs hphase hasked hmail hhalt)
  case i2cIgnored =>
    have hv' : v.toNat ≠ 0xA5 ∨ s.held = true ∨ s.rd SEC_BOOT_STATUS_PHASE ≠ phREADY ∨ s.aon.i2cAsked = true :=
      hv.imp_left fun hne h => hne (BitVec.eq_of_toNat_eq h)
    exact congrArg (fun t : State => Host.Outcome.next t.settle) (s.i2cShutdown_ignored v.toNat hv')

end Sys2Proof.Machine

/-! # What bringing the islands up leaves of the time of a start -/

namespace Sys2Proof.Machine

open R

/-- The instants that the measured time of a start depends on: the time since reset, and when the start began (R514). -/
def State.startClock (s : State) : Nat × Nat := (s.elapsed, s.sec.t0)

theorem State.startClock_eq {s t : State} (helapsed : t.elapsed = s.elapsed) (hsec : t.sec = s.sec) : t.startClock = s.startClock := by
  rw [State.startClock, helapsed, hsec, State.startClock]

/-! ### Counting, faults and memory -/

section
variable (s : State)

theorem State.wr_startClock (F : Fld) (v : Nat) : (s.wr F v).startClock = s.startClock := rfl

theorem State.bump_startClock (F : Fld) (k : Nat) : (s.bump F k).startClock = s.startClock := rfl

theorem State.countUnit_startClock (ev m n : Nat) : (s.countUnit ev m n).startClock = s.startClock :=
  State.startClock_eq (State.countUnit_elapsed ..) (State.countUnit_sec ..)

theorem State.countOwn_startClock (r : FabReq) (c : Nat) : (s.countOwn r c).startClock = s.startClock := by
  rw [State.countOwn_eq]
  rfl

theorem State.raise_startClock (f : FaultReq) : (s.raise f).startClock = s.startClock :=
  State.startClock_eq (State.raise_elapsed ..) (State.raise_sec ..)

theorem State.arbitrate_startClock : s.arbitrate.startClock = s.startClock :=
  State.startClock_eq (State.arbitrate_elapsed _) (State.arbitrate_sec _)

theorem State.respFault_startClock (m acc a c : Nat) : (s.respFault m acc a c).startClock = s.startClock :=
  State.startClock_eq (State.respFault_elapsed ..) (State.respFault_sec ..)

theorem State.finding_startClock (m acc a i f : Nat) : (s.finding m acc a i f).startClock = s.startClock := by
  unfold State.finding
  split
  · exact State.raise_startClock ..
  · exact State.raise_startClock ..
  · rfl
  · rfl

theorem State.findings_startClock (m acc a n f : Nat) : (s.findings m acc a n f).startClock = s.startClock :=
  State.each_keeps State.startClock _ _ (fun _ t _ => t.finding_startClock ..) s

theorem State.eccAfter_startClock (a n w : Nat) : (s.eccAfter a n w).startClock = s.startClock := by
  unfold State.eccAfter
  dsimp only
  split
  · split <;> rfl
  · rfl

theorem State.hbmWrite_startClock (m a : Nat) (l : List Byte) : (s.hbmWrite m a l).2.startClock = s.startClock := by
  unfold State.hbmWrite
  dsimp only
  rw [State.each_keeps State.startClock _ _ (fun i t _ => t.finding_startClock ..)]
  exact State.each_keeps State.startClock _ _ (fun w t _ => t.eccAfter_startClock ..) s

theorem State.store_startClock (m a : Nat) (l : List Byte) : (s.store m a l).startClock = s.startClock := by
  unfold State.store State.busWrite
  dsimp only
  rw [State.countOwn_startClock]
  split
  · rfl
  · split
    · split
      · exact s.hbmWrite_startClock m a l
      · rfl
    · exact s.respFault_startClock ..

theorem State.busRead_startClock (m acc a n : Nat) : (s.busRead m acc a n).2.2.startClock = s.startClock := by
  unfold State.busRead
  dsimp only
  rw [State.countOwn_startClock]
  split
  · rfl
  · split
    · split
      · exact s.findings_startClock ..
      · rfl
    · exact s.respFault_startClock ..

/-! ### The bobbin pool -/

theorem State.setMeta_startClock (p i : Nat) (m : Meta) : (s.setMeta p i m).startClock = s.startClock := s.store_startClock ..

theorem State.poolReadSeen_startClock (a : Nat) : (s.poolReadSeen a).startClock = s.startClock := by
  unfold State.poolReadSeen
  dsimp only
  rw [State.countOwn_startClock]
  split
  · exact State.iff_keeps State.startClock _ _ s (s.findings_startClock ..)
  · exact s.respFault_startClock ..

theorem State.headSeen_startClock (p : Nat) : (s.headSeen p).startClock = s.startClock := by
  unfold State.headSeen
  split
  · rfl
  · rw [State.iff_keeps State.startClock _ _ _ (State.poolReadSeen_startClock ..), State.poolReadSeen_startClock]

theorem State.setFree_startClock (p v : Nat) : (s.setFree p v).startClock = s.startClock := by
  unfold State.setFree
  dsimp only
  rw [State.iff_keeps State.startClock _ _ _ rfl, State.iff_keeps State.startClock _ _ _ rfl, State.wr_startClock]

theorem State.poolAnswer_startClock (r : PoolRes) : (s.poolAnswer r).startClock = s.startClock := by
  unfold State.poolAnswer
  split
  case h_3 =>
    dsimp only
    rw [State.iff_keeps State.startClock _ _ _ rfl, State.iff_keeps State.startClock _ _ _ rfl]
    rfl
  all_goals rfl

theorem State.answerParked_startClock (p c : Nat) : (s.answerParked p c).startClock = s.startClock :=
  (State.wr_startClock ..).trans (State.each_keeps State.startClock _ _ (fun _ t _ => t.poolAnswer_startClock _) _)

theorem State.poolBreak_startClock (p a : Nat) : (s.poolBreak p a).startClock = s.startClock := by
  unfold State.poolBreak
  dsimp only
  split
  · rfl
  · rw [State.raise_startClock, State.answerParked_startClock, State.wr_startClock, State.bump_startClock, State.wr_startClock,
      State.wr_startClock]

theorem State.ledgerAdd_startClock (m a : Nat) : (s.ledgerAdd m a).startClock = s.startClock := by
  unfold State.ledgerAdd
  split <;> rfl

theorem State.grant_startClock (p i : Nat) (r : PoolReq) : (s.grant p i r).2.startClock = s.startClock := by
  unfold State.grant
  dsimp only
  rw [State.iff_keeps State.startClock _ _ _ (by rw [State.countUnit_startClock, State.bump_startClock]), State.countUnit_startClock,
    State.bump_startClock, State.ledgerAdd_startClock, State.setMeta_startClock]

theorem State.poolEmpty_startClock (p : Nat) : (s.poolEmpty p).startClock = s.startClock := by
  rw [State.poolEmpty, State.bump_startClock, State.wr_startClock]

theorem State.park1_startClock (r : PoolReq) : (s.park1 r).startClock = s.startClock := by
  unfold State.park1
  dsimp only
  rw [State.showParked, State.wr_startClock]
  rfl

theorem State.allocEmpty_startClock (r : PoolReq) : (s.allocEmpty r).2.startClock = s.startClock := by
  unfold State.allocEmpty
  split
  · rw [State.park1_startClock, State.poolEmpty_startClock]
  · rw [State.countUnit_startClock, State.poolEmpty_startClock]

theorem State.allocHead_startClock (r : PoolReq) : (s.allocHead r).2.startClock = s.startClock := by
  unfold State.allocHead
  dsimp only
  split
  · rw [State.poolBreak_startClock, State.headSeen_startClock]
  · split
    · exact s.headSeen_startClock _
    · split
      · rw [State.grant_startClock, State.setFree_startClock]
        exact s.headSeen_startClock _
      · rw [State.countUnit_startClock, State.poolEmpty_startClock, State.poolBreak_startClock, State.headSeen_startClock]

theorem State.poolAlloc_startClock (r : PoolReq) : (s.poolAlloc r).2.startClock = s.startClock := by
  unfold State.poolAlloc
  split
  · rfl
  · split
    · rfl
    · split
      · rw [State.countUnit_startClock, State.poolEmpty_startClock]
      · split
        · rfl
        · split
          · exact s.allocEmpty_startClock r
          · exact s.allocHead_startClock r

theorem State.misuse_startClock (p : Option Nat) (r : PoolReq) (c : Nat) : (s.misuse p r c).startClock = s.startClock := by
  unfold State.misuse
  rw [State.raise_startClock]
  cases p <;> rfl

theorem State.offer_startClock (l : List Parked) (p i : Nat) : (s.offer p i l).2.startClock = s.startClock := by
  induction l generalizing s with
  | nil => rfl
  | cons k rest ih =>
    unfold State.offer
    dsimp only
    split
    · rw [ih, State.poolAnswer_startClock]
      rfl
    · rw [State.poolAnswer_startClock, State.grant_startClock]
      rfl

theorem State.freeBob_startClock (p i : Nat) (m : Meta) : (s.freeBob p i m).startClock = s.startClock := by
  have hprov : ((s.iff m.prov (fun t => t.wr (POOL_PROV p) (t.rd (POOL_PROV p) - 1))).ledgerDel m.owner (s.bobAddr p i)).startClock =
      s.startClock := State.iff_keeps State.startClock _ _ s rfl
  unfold State.freeBob
  dsimp only
  split
  · rw [State.setMeta_startClock, hprov]
  · split
    · rw [State.showParked, State.wr_startClock, State.offer_startClock, State.setMeta_startClock, hprov]
    · rw [State.setFree_startClock]
      refine (State.setMeta_startClock ..).trans ((State.store_startClock ..).trans ?_)
      rw [State.showParked, State.wr_startClock, State.offer_startClock, State.setMeta_startClock, hprov]

/-- An operation on a bobbin keeps the instants when its effect on the bobbin does. -/
theorem State.withBob_startClock (r : PoolReq) (f : State → Nat → Nat → Meta → PoolRes × State)
    (hf : ∀ t p i m, (f t p i m).2.startClock = t.startClock) : (s.withBob r f).2.startClock = s.startClock := by
  unfold State.withBob
  split
  · split
    · exact s.misuse_startClock ..
    · rfl
  · dsimp only
    split
    · rw [hf, State.poolReadSeen_startClock]
    · split
      · exact s.poolReadSeen_startClock _
      · rw [State.poolBreak_startClock, State.poolReadSeen_startClock]

theorem State.poolShare_startClock (r : PoolReq) : (s.poolShare r).2.startClock = s.startClock := by
  unfold State.poolShare
  split
  · rfl
  · refine s.withBob_startClock r _ fun t p i m => ?_
    split
    · rfl
    · split
      · rfl
      · split
        · exact t.misuse_startClock ..
        · split
          · rfl
          · exact State.setMeta_startClock ..

theorem State.poolRelease_startClock (r : PoolReq) : (s.poolRelease r).2.startClock = s.startClock := by
  refine s.withBob_startClock r _ fun t p i m => ?_
  split
  · exact t.misuse_startClock ..
  · split
    · exact t.misuse_startClock ..
    · split
      · exact t.setMeta_startClock ..
      · dsimp only
        generalize (if t.linkWritten p m r.addr then t.pathCode r.addr else 0) = c
        split
        · exact t.freeBob_startClock ..
        · split
          · rfl
          · rw [State.poolBreak_startClock, State.respFault_startClock]

theorem State.poolSetOwner_startClock (r : PoolReq) : (s.poolSetOwner r).2.startClock = s.startClock := by
  unfold State.poolSetOwner
  split
  · rfl
  · refine s.withBob_startClock r _ fun t p i m => ?_
    split
    · rfl
    · split
      · rfl
      · dsimp only
        rw [State.setMeta_startClock, State.iff_keeps State.startClock _ _ _ rfl, State.ledgerAdd_startClock]
        rfl

theorem State.poolOp_startClock (r : PoolReq) : (s.poolOp r).2.startClock = s.startClock := by
  unfold State.poolOp
  split
  · exact s.poolAlloc_startClock r
  · exact s.poolShare_startClock r
  · exact s.poolRelease_startClock r
  · exact s.poolSetOwner_startClock r
  · exact s.withBob_startClock r _ fun _ _ _ _ => rfl
  · rfl

theorem State.poolServe_startClock (r : PoolReq) : (s.poolServe r).startClock = s.startClock := by
  unfold State.poolServe
  dsimp only
  split
  · exact s.poolOp_startClock r
  · rw [State.poolAnswer_startClock, State.poolOp_startClock]

theorem State.poolTurns_startClock (p : Nat) (r : PoolReq) (n : Nat) : (s.poolTurns p r n).startClock = s.startClock := by
  have hturn (t : State) : (t.poolTurn p).startClock = t.startClock := by
    unfold State.poolTurn
    split
    · rfl
    · exact State.poolServe_startClock ..
  induction n generalizing s with
  | zero => rfl
  | succ n ih =>
    unfold State.poolTurns
    split
    · rw [ih, hturn]
    · rfl

theorem State.poolRequest_startClock (r : PoolReq) : (s.poolRequest r).startClock = s.startClock :=
  (State.poolTurns_startClock ..).trans (s.countOwn_startClock ..)

/-! ### Encode spindles -/

theorem State.showSpe_startClock (k : Nat) : (s.showSpe k).startClock = s.startClock := by
  unfold State.showSpe
  dsimp only
  split <;> rfl

theorem State.modSpe_startClock (k : Nat) (f : Spe → Spe) : (s.modSpe k f).startClock = s.startClock := State.showSpe_startClock ..

theorem State.withCard_startClock (c : CardSt) : ({ s with card := c } : State).startClock = s.startClock := rfl

theorem State.cardEnd_startClock (m : Nat) (j : CardJob) : (s.cardEnd m j).startClock = s.startClock := by
  unfold State.cardEnd
  dsimp only
  rw [State.bump_startClock, State.wr_startClock, State.showCard, State.wr_startClock, State.withCard_startClock, State.store_startClock]

theorem State.cardBegin_startClock (m : Nat) (j : CardJob) : (s.cardBegin m j).startClock = s.startClock := by
  have hplane (t : State) (a : Nat) : (t.cardPlane m a).2.2.startClock = t.startClock := t.busRead_startClock ..
  have hsrc (c : Prop) [Decidable c] (t : State) (a : Nat) :
      (if c then ((false, {}, t) : Bool × Plane × State) else t.cardPlane m a).2.2.startClock = t.startClock := by
    split
    · rfl
    · exact hplane t a
  have href (c : Prop) [Decidable c] (t : State) (a : Nat) :
      (if c then t.cardPlane m a else ((false, {}, t) : Bool × Plane × State)).2.2.startClock = t.startClock := by
    split
    · exact hplane t a
    · rfl
  have hmod (t : State) (num : Nat) (f : CardJob → CardJob) : (t.modCard num f).startClock = t.startClock := rfl
  unfold State.cardBegin
  simp only [apply_ite State.startClock, State.cardEnd_startClock, hmod, href, hsrc, State.busRead_startClock, ite_self]

theorem State.cardReady_startClock (m n : Nat) : (s.cardReady m n).startClock = s.startClock := by
  induction n generalizing s with
  | zero => rfl
  | succ n ih =>
    unfold State.cardReady
    split
    · rfl
    · split
      · rfl
      · rw [ih, State.cardBegin_startClock]

theorem State.cardTake_startClock (k : Nat) : (s.cardTake k).startClock = s.startClock := by
  unfold State.cardTake
  dsimp only
  split
  · split
    · exact s.cardReady_startClock ..
    · exact (State.modSpe_startClock ..).trans (s.cardReady_startClock ..)
  · rfl

theorem State.encAsk_startClock (k pool : Nat) (w : AllocFor) : (s.encAsk k pool w).startClock = s.startClock := by
  unfold State.encAsk
  split
  · rfl
  · exact s.poolRequest_startClock _

theorem State.encBegin_startClock (k e : Nat) (x : Src) (d : Nat) : (s.encBegin k e x d).startClock = s.startClock := by
  unfold State.encBegin
  dsimp only
  rw [apply_ite State.startClock, State.encAsk_startClock, State.encAsk_startClock, ite_self, State.modSpe_startClock]
  rfl

theorem State.encDispatch_startClock : s.encDispatch.startClock = s.startClock := by
  refine State.each_keeps State.startClock _ _ (fun k t _ => ?_) s
  unfold State.serveSpe
  split
  · split
    · exact t.encBegin_startClock ..
    · exact t.cardTake_startClock k
  · rfl

/-! ### Islands -/

theorem State.portUpNow_startClock (p : Nat) : (s.portUpNow p).startClock = s.startClock := by
  unfold State.portUpNow
  split <;> rfl

theorem State.loadStore_startClock (q : Nat) : (s.loadStore q).startClock = s.startClock := rfl

theorem State.modSpd_startClock (k : Nat) (f : Spd → Spd) : (s.modSpd k f).startClock = s.startClock :=
  State.startClock_eq (State.modSpd_elapsed ..) (State.modSpd_sec ..)

theorem State.showSpd_startClock (k : Nat) : (s.showSpd k).startClock = s.startClock :=
  State.startClock_eq (State.showSpd_elapsed ..) (State.showSpd_sec ..)

theorem State.dispatch_startClock : s.dispatch.startClock = s.startClock :=
  State.startClock_eq (State.dispatch_elapsed _) (State.dispatch_sec _)

theorem State.resumeUnits_startClock (i : Nat) : (s.resumeUnits i).startClock = s.startClock := by
  unfold State.resumeUnits
  dsimp only
  rw [State.encDispatch_startClock, State.dispatch_startClock]
  split
  · rw [State.showSpd_startClock, State.iff_keeps State.startClock _ _ s (State.modSpd_startClock ..)]
  split
  · exact State.iff_keeps State.startClock _ _ s (State.modSpe_startClock ..)
  split
  · exact State.each_keeps State.startClock _ _ (fun j t _ => t.portUpNow_startClock _) s
  · rfl

theorem State.syncSources_startClock (i : Nat) : (s.syncSources i).startClock = s.startClock := by
  rw [State.syncSources, State.arbitrate_startClock]
  exact State.each_keeps State.startClock _ (fun n t => t.levelIn n) (fun _ _ _ => rfl) s

theorem State.setPch_startClock (p : Nat) (c : PchSt) : (s.setPch p c).startClock = s.startClock := rfl

theorem State.islandUp_startClock (i : Nat) : (s.islandUp i).startClock = s.startClock := by
  have hstate : (((s.wr (PWR_ISL_STATE_STATE i) islON).showOutstanding i).iff (decide (i < 20)) (·.loadStore i)).startClock = s.startClock :=
    State.iff_keeps State.startClock _ _ _ rfl
  unfold State.islandUp
  dsimp only
  rw [State.syncSources_startClock, State.resumeUnits_startClock]
  split
  · rw [State.wr_startClock, State.each_keeps State.startClock _ _ (fun j t _ => t.setPch_startClock ..), hstate]
  · exact hstate

theorem State.bringUp_startClock : s.bringUp.startClock = s.startClock := by
  refine State.each_keeps State.startClock _ _ (fun i t _ => ?_) s
  split
  · exact t.islandUp_startClock i
  · rfl

end

end Sys2Proof.Machine

/-! # Starts, failed starts, recovery images and reweaves -/

namespace Sys2Proof.Machine

open R

/-! ### Reweaves (R506, R507) -/

section
variable (s : State)

/-- The image that a reweave reads as master 0x38: the code of the read, the bytes, and the state after it. -/
def State.reweaveRead : Nat × List Byte × State :=
  ((s.wr WRP_STATUS_BUSY 1).wr WRP_CTL_GO 1).readLong 0x38 0 (2 ^ 32 * s.rd WRP_SRC_HI + s.rd WRP_SRC_LO) (s.rd WRP_LEN)

/-- What checking what has been read says: WHY and the section, or 0. -/
def reweaveVerdict (x : Nat × List Byte × State) : Nat × Nat := if x.1 ≠ 0 then (1, 0) else x.2.2.warpWhy x.2.2.sec.keys x.2.1 false

theorem State.reweaveGo_busy (h : s.rd WRP_STATUS_BUSY = 1) : s.reweaveGo = s := if_pos (beq_iff_eq.mpr h)

/-- A reweave reads its image and goes by the verdict. -/
theorem State.reweaveGo_checks (h : s.rd WRP_STATUS_BUSY ≠ 1) : s.reweaveGo =
    if (reweaveVerdict s.reweaveRead).1 ≠ 0 then
      s.reweaveRead.2.2.reweaveFail (2 ^ 32 * s.rd WRP_SRC_HI + s.rd WRP_SRC_LO) (reweaveVerdict s.reweaveRead).1 (reweaveVerdict s.reweaveRead).2
    else s.reweaveRead.2.2.reweaveBegin ((warpSections s.reweaveRead.2.1).getD []) := by
  have hlen : ((s.wr WRP_STATUS_BUSY 1).wr WRP_CTL_GO 1).rd WRP_LEN = s.rd WRP_LEN := by
    rw [State.rd_wr_ne _ _ _ _ (by decide), State.rd_wr_ne _ _ _ _ (by decide)]
  have hoff : s.on WRP_STATUS_BUSY = false := beq_false_of_ne h
  rw [State.reweaveGo, hoff, if_neg Bool.false_ne_true]
  dsimp only
  rw [hlen, ← State.reweaveRead]
  rfl

/-- A reweave that fails is no longer BUSY and says why; the loader and the requests that wait are left alone. -/
theorem State.reweaveFail_shown (a why sect : Nat) : let t := s.reweaveFail a why sect
    t.rd WRP_STATUS_BUSY = 0 ∧ t.rd WRP_CTL_GO = 0 ∧ t.rd WRP_STATUS_FAIL = 1 ∧ t.rd WRP_STATUS_WHY = why % 16 ∧ t.wrp = s.wrp ∧
      t.fab.retry = s.fab.retry := by
  have hraise : ∀ G ∈ [WRP_STATUS_BUSY, WRP_CTL_GO, WRP_STATUS_FAIL, WRP_STATUS_WHY], G.key ≠ (FLT_COUNT 20).key ∧ G.key ≠ FLT_LOST.key := by
    decide
  have hrd {G : Fld} (hG : G ∈ [WRP_STATUS_BUSY, WRP_CTL_GO, WRP_STATUS_FAIL, WRP_STATUS_WHY]) (hsect : G.key ≠ WRP_FAIL_SECTION.key) :
      (s.reweaveFail a why sect).rd G = ((((s.wr WRP_STATUS_BUSY 0).wr WRP_CTL_GO 0).wr WRP_STATUS_FAIL 1).wr WRP_STATUS_WHY why).rd G := by
    rw [State.reweaveFail, State.raise_rd _ { cls := 20, master := 0x38, addr := a } G (hraise G hG).1 (hraise G hG).2,
      State.rd_wr_ne _ _ G _ hsect]
  dsimp only
  rw [hrd (by simp) (by decide), hrd (by simp) (by decide), hrd (by simp) (by decide), hrd (by simp) (by decide)]
  refine ⟨?_, ?_, ?_, State.rd_wr_same _ WRP_STATUS_WHY why, ?_, ?_⟩
  · rw [State.rd_wr_ne _ _ _ _ (by decide), State.rd_wr_ne _ _ _ _ (by decide), State.rd_wr_ne _ _ _ _ (by decide), State.rd_wr_same]
    rfl
  · rw [State.rd_wr_ne _ _ _ _ (by decide), State.rd_wr_ne _ _ _ _ (by decide), State.rd_wr_same]
    rfl
  · rw [State.rd_wr_ne _ _ _ _ (by decide), State.rd_wr_same]
    rfl
  · exact State.raise_wrp ..
  · exact congrArg FabSt.retry (State.raise_fab ..)

/-- A reweave is over: what REWEAVE_LOAD shows. -/
def State.reweaveShown : State := (((s.wr WRP_STATUS_BUSY 0).wr WRP_CTL_GO 0).wr WRP_STATUS_DONE 1).wr WRP_STATUS_WHY 0

/-- With every fence at its end the load ends by showing so, by counting the reweave and by evaluating the interrupts. -/
theorem State.reweaveLoad_ends {r : Reweave} (h : s.wrp.reweave = some r) (hall : r.units.all s.fenceDone = true) :
    ∃ u : State, s.reweaveLoad = (u.reweaveShown.bump WRP_REWEAVE_CNT).arbitrate := by
  unfold State.reweaveLoad
  rw [h]
  dsimp only
  rw [if_pos hall]
  exact ⟨_, rfl⟩

theorem State.reweaveLoad_waits {r : Reweave} (h : s.wrp.reweave = some r) (hall : r.units.all s.fenceDone = false) : s.reweaveLoad = s := by
  unfold State.reweaveLoad
  rw [h]
  exact if_neg (ne_true_of_eq_false hall)

/-- What it shows stays: neither the count nor the arbitration of interrupts touches it. -/
theorem State.reweaveShown_rd : let t := (s.reweaveShown.bump WRP_REWEAVE_CNT).arbitrate
    t.rd WRP_STATUS_BUSY = 0 ∧ t.rd WRP_CTL_GO = 0 ∧ t.rd WRP_STATUS_DONE = 1 ∧ t.rd WRP_STATUS_WHY = 0 := by
  have hrd {G : Fld} (hlow : G.key < 0x00F00000 * 32) (hcnt : G.key ≠ WRP_REWEAVE_CNT.key) :
      (s.reweaveShown.bump WRP_REWEAVE_CNT).arbitrate.rd G = s.reweaveShown.rd G := by
    rw [State.arbitrate_rd _ G fun h => Nat.not_lt.mpr h.above hlow, State.bump, State.rd_wr_ne _ _ G _ hcnt]
  dsimp only
  rw [hrd (by decide) (by decide), hrd (by decide) (by decide), hrd (by decide) (by decide), hrd (by decide) (by decide), State.reweaveShown]
  refine ⟨?_, ?_, ?_, State.rd_wr_same ..⟩
  · rw [State.rd_wr_ne _ _ _ _ (by decide), State.rd_wr_ne _ _ _ _ (by decide), State.rd_wr_ne _ _ _ _ (by decide), State.rd_wr_same]
    rfl
  · rw [State.rd_wr_ne _ _ _ _ (by decide), State.rd_wr_ne _ _ _ _ (by decide), State.rd_wr_same]
    rfl
  · rw [State.rd_wr_ne _ _ _ _ (by decide), State.rd_wr_same]
    rfl

/-! ### RESET_N (R556) -/

theorem State.resetAssert_short {ns : Nat} (h : ns < 500) : s.resetAssert ns = s := if_pos (.inl h)

theorem State.resetAssert_long {ns : Nat} (hvdd : s.aon.vdd = true) (h : 1000 ≤ ns) : s.resetAssert ns = s.resetActs := by
  rw [State.resetAssert, if_neg (by simp [hvdd]; omega), if_pos h]

theorem State.resetActs_resetFrom : ResetFrom s s.resetActs := by
  unfold State.resetActs
  exact ((s.domainReset_resetFrom.modAon _).emit _).iff_emit _ _

/-- `RESET_N` low on the always-on record, and whether THERMTRIP is left. -/
def AonSt.resetTo (a : AonSt) (cool : Bool) : AonSt := { a with resetLow := true, thermtrip := a.thermtrip && !cool }

/-- RESET_N is low, and THERMTRIP is left when the die is below 110 °C. -/
theorem State.resetActs_aon : s.resetActs.aon = s.domainReset.aon.resetTo (s.aon.thermtrip && decide (s.aon.tj < 110)) := by
  have hlow (u : State) (cool : Bool) : (((u.modAon (·.resetTo cool)).emit (.pin "SPI_RESET_N" false)).iff cool
      (·.emit (.pin "THERMTRIP_N" true))).aon = u.aon.resetTo cool := State.iff_keeps (·.aon) _ _ _ rfl
  exact hlow s.domainReset _

theorem State.resetActs_thermtrip (h : s.aon.thermtrip = true) : s.resetActs.aon.thermtrip = decide (110 ≤ s.aon.tj) := by
  have hcool : decide (110 ≤ s.aon.tj) = !decide (s.aon.tj < 110) := by simp only [← decide_not, Int.not_lt]
  rw [s.resetActs_aon, AonSt.resetTo, State.domainReset_aon, hcool, h]
  rfl

theorem State.resetActs_held : s.resetActs.held = true := by
  rw [State.held, s.resetActs_aon]
  rfl

/-! ### Beginning a start (R510, R514, R520, R526) -/

theorem State.bootVset_sec (avs : Bool) : (s.bootVset avs).sec = s.sec := by
  unfold State.bootVset
  split <;> rfl

/-- Of the security block the reads of the flash leave all but the mode of the controller. -/
theorem State.flashStart_sec (b : BootOp) (l : List (Nat × Nat)) : ∃ f, (s.flashStart b l).sec = { s.sec with spi := f } :=
  ⟨_, State.each_keeps (·.sec) l _ (by intros; rfl) _⟩

/-- The start that is counted and finds the domains reset (R510, R544). -/
def State.counted : State := ({ s with sec := { s.sec with startCnt := s.sec.startCnt + 1 } } : State).domainReset

theorem State.counted_sec : s.counted.sec = { s.sec.kept with startCnt := s.sec.startCnt + 1 } := State.domainReset_sec _

theorem State.nextStart_recovery {c : StartCmd} (b : BootOp) (hbm : Bool) (h : c = .recovery ∨ s.sec.coldFails = 3) :
    s.nextStart c b hbm = s.recoveryBoot b hbm := if_pos h

theorem State.nextStart_ordinary {c : StartCmd} (b : BootOp) (hbm : Bool) (hc : c ≠ .recovery) (hcold : s.sec.coldFails ≠ 3) :
    s.nextStart c b hbm = s.beginStart s.flash false (c == .cold) b := if_neg (not_or.mpr ⟨hc, hcold⟩)

/-- A recovery boot whose HBM0 does not train (R526). -/
theorem State.recoveryBoot_stuck (b : BootOp) : let t := s.recoveryBoot b false
    t.rd SEC_BOOT_STATUS_PHASE = phRECOVERY ∧ t.rd SEC_BOOT_STATUS_KIND = kdRECOVERY ∧ t.rd MEM_MODE_MODE = 3 ∧ t.rd SEC_REC_STATUS = 5 ∧
      t.sec.startCnt = s.sec.startCnt + 1 := by
  have heq : s.recoveryBoot b false = (((((s.counted.bootVset b.avs).flashStart b []).wr SEC_BOOT_STATUS_PHASE phRECOVERY).wr
      SEC_BOOT_STATUS_KIND kdRECOVERY).wr MEM_MODE_MODE 3).wr SEC_REC_STATUS 5 := rfl
  obtain ⟨f, hsec⟩ := (s.counted.bootVset b.avs).flashStart_sec b []
  dsimp only
  rw [heq]
  refine ⟨?_, ?_, ?_, State.rd_wr_same .., ?_⟩
  · rw [State.rd_wr_ne _ _ _ _ (by decide), State.rd_wr_ne _ _ _ _ (by decide), State.rd_wr_ne _ _ _ _ (by decide), State.rd_wr_same]
    rfl
  · rw [State.rd_wr_ne _ _ _ _ (by decide), State.rd_wr_ne _ _ _ _ (by decide), State.rd_wr_same]
    rfl
  · rw [State.rd_wr_ne _ _ _ _ (by decide), State.rd_wr_same]
    rfl
  · rw [State.wr_sec, State.wr_sec, State.wr_sec, State.wr_sec, hsec, State.bootVset_sec, State.counted_sec]

/-- A counted start is under way since `now`. -/
def State.opened (now : Nat) (fromImage cold : Bool) : State :=
  { s with sec := { s.sec with starting := true, cold := cold, fromImage := fromImage, t0 := now } }

/-- The state in which a start verifies what it has read (R514). -/
def State.startRead (m : SMap Byte) (fromImage cold : Bool) (b : BootOp) : State :=
  (((s.counted.opened s.elapsed fromImage cold).bootVset b.avs).flashStart b
    (if fromImage then [] else (s.counted.opened s.elapsed fromImage cold).bootReads m)).iff fromImage (·.wr SEC_REC_STATUS 6)

theorem State.startRead_sec (m : SMap Byte) (fromImage cold : Bool) (b : BootOp) :
    (s.startRead m fromImage cold b).sec.starting = true ∧ (s.startRead m fromImage cold b).sec.startCnt = s.sec.startCnt + 1 := by
  have hopened : (s.counted.opened s.elapsed fromImage cold).sec.startCnt = s.sec.startCnt + 1 := congrArg SecSt.startCnt s.counted_sec
  obtain ⟨f, hsec⟩ := ((s.counted.opened s.elapsed fromImage cold).bootVset b.avs).flashStart_sec b
    (if fromImage then [] else (s.counted.opened s.elapsed fromImage cold).bootReads m)
  rw [State.startRead, State.iff_keeps (·.sec) fromImage _ _ (by rfl), hsec, State.bootVset_sec]
  exact ⟨rfl, hopened⟩

/-- The reason of a failure has come up in a phase. -/
def State.aboutToFail (r ph : Nat) : State := ({ s with sec := { s.sec with failing := some r } } : State).wr SEC_BOOT_STATUS_PHASE ph

/-- A start goes by what verifying what it has read says. -/
def State.loaded (m : SMap Byte) : Except (Nat × Nat) Loaded → State
  | .ok l => s.applyLoaded l
  | .error e => (s.iff (e.1 == 4) (·.wr WRP_STATUS_WHY (s.startWhy m))).aboutToFail e.1 e.2

/-- A start that finds no valid directory is about to fail with reason 1 (R528). -/
theorem State.beginStart_noDirectory {m : SMap Byte} (hm : dirOf m = none) (fromImage cold : Bool) (b : BootOp) :
    s.beginStart m fromImage cold b = (s.startRead m fromImage cold b).aboutToFail 1 phROM := by
  have hverify : (s.startRead m fromImage cold b).verifyBoot m = .error (1, phROM) := by
    unfold State.verifyBoot
    rw [hm]
  have hload : s.beginStart m fromImage cold b = (s.startRead m fromImage cold b).loaded m ((s.startRead m fromImage cold b).verifyBoot m) := rfl
  rw [hload, hverify]
  rfl

/-! ### Start events (R510, R556) -/

section
variable (b : BootOp) (hbm : Bool) (hvdd : s.aon.vdd = true)
include hvdd

theorem State.startEvent_rises (htrip : s.aon.thermtrip = false) (hlow : s.aon.resetLow = true) : s.startEvent b hbm =
    (({ s with aon := { s.aon with resetLow := false } } : State).emit (.pin "SPI_RESET_N" true)).nextStart .auto b hbm := by
  rw [State.startEvent, if_neg (not_not_intro hvdd), if_pos hlow]
  exact if_neg (ne_true_of_eq_false htrip)

theorem State.startEvent_due {c : StartCmd} (htrip : s.aon.thermtrip = false) (hlow : s.aon.resetLow = false) (hdue : s.sec.due = some c)
    (hstuck : s.recStuck = false) : s.startEvent b hbm = s.nextStart c b hbm := by
  rw [State.startEvent, if_neg (not_not_intro hvdd), if_neg (ne_true_of_eq_false hlow), if_neg (ne_true_of_eq_false htrip), hdue]
  dsimp only
  rw [hstuck, Bool.not_false, State.iff_true]

theorem State.startEvent_none (htrip : s.aon.thermtrip = false) (hlow : s.aon.resetLow = false) (hdue : s.sec.due = none) :
    s.startEvent b hbm = s := by
  rw [State.startEvent, if_neg (not_not_intro hvdd), if_neg (ne_true_of_eq_false hlow), if_neg (ne_true_of_eq_false htrip), hdue]

end

/-- A restart that is set begins its start once its time has come, and not before (R521). -/
theorem State.restartTimer_eq {a : Nat} (b : BootOp) (hbm : Bool) (hat : s.sec.restartAt = some a) (hfail : s.sec.failing = none)
    (hstuck : s.recStuck = false) :
    s.restartTimer b hbm = if a ≤ s.elapsed then s.nextStart (s.sec.due.getD .auto) b hbm else s := by
  rw [State.restartTimer, hat]
  simp only [hfail, hstuck, and_true]

/-! ### READY (R516, R520) -/

/-- A start whose islands are up is READY since its beginning; `t0` and the time are those before the islands came up. -/
theorem State.startReady_brings {quick : Bool} (hstart : s.sec.starting = true) (hfail : s.sec.failing = none)
    (hphase : s.rd SEC_BOOT_STATUS_PHASE = phBRINGUP) :
    let u := if s.rd SEC_BOOT_STATUS_KIND = kdWARM ∧ quick = false then s.fallBack else s
    let v := u.bringUp.countReady.wr MEM_MODE_MODE 0
    s.startReady quick = (((v.wr SEC_READY_MS (min 65535 ((v.elapsed - v.sec.t0) / 1000000))).wr
      SEC_BOOT_STATUS_PHASE phREADY).wr SEC_BOOT_STATUS_READY 1).enablePorts.autoBegin := by
  have hquick : s.iff (s.rd SEC_BOOT_STATUS_KIND == kdWARM && !quick) (·.fallBack) =
      if s.rd SEC_BOOT_STATUS_KIND = kdWARM ∧ quick = false then s.fallBack else s := by
    rw [State.iff]
    simp only [Bool.and_eq_true, beq_iff_eq, Bool.not_eq_true']
  have hclock (u : State) : (u.bringUp.countReady.wr MEM_MODE_MODE 0).elapsed = u.elapsed ∧
      (u.bringUp.countReady.wr MEM_MODE_MODE 0).sec.t0 = u.sec.t0 := Prod.mk.inj u.bringUp_startClock
  intro u v
  rw [State.startReady, if_pos ⟨hstart, hfail, hphase⟩, (hclock u).1, (hclock u).2]
  dsimp only
  rw [hquick]

theorem State.startReady_none {quick : Bool} (hstart : s.sec.starting = false) : s.startReady quick = s := by
  rw [State.startReady, hstart]
  exact if_neg fun h => Bool.false_ne_true h.1

/-! ### Failed starts (R520, R521) -/

/-- A failed start counts as warm or as cold, and the next is due 100 ms later, or at once in a recovery boot. -/
theorem State.startFailed_counts (r : Nat) : let t := s.startFailed r
    t.sec.starting = false ∧ t.sec.lastFail = r ∧
      (s.failsWarm = true → t.sec.coldFails = s.sec.coldFails ∧
        t.sec.warmFails = (if s.rd SEC_BOOT_STATUS_KIND = kdFALLBACK then s.sec.warmFails else min 3 (s.sec.warmFails + 1))) ∧
      (s.failsWarm = false → t.sec.warmFails = s.sec.warmFails ∧ t.sec.coldFails = min 3 (s.sec.coldFails + 1)) ∧
      (s.sec.fromImage = false → t.sec.coldFails ≠ 3 → r ≠ 7 → t.sec.restartAt = some (s.elapsed + 100000000)) ∧
      (s.sec.fromImage = true ∨ t.sec.coldFails = 3 → t.sec.restartAt = some s.elapsed) := by
  have hcold : (s.startFailed r).sec.coldFails = if s.failsWarm then s.sec.coldFails else min 3 (s.sec.coldFails + 1) := rfl
  have hwarm : (s.startFailed r).sec.warmFails = if s.failsWarm ∧ ¬ s.rd SEC_BOOT_STATUS_KIND = kdFALLBACK then min 3 (s.sec.warmFails + 1)
      else s.sec.warmFails := rfl
  have hat : (s.startFailed r).sec.restartAt = if s.sec.fromImage || (s.startFailed r).sec.coldFails == 3 then some s.elapsed
      else if r = 7 then s.sec.restartAt else some (s.elapsed + 100000000) := rfl
  refine ⟨rfl, rfl, fun h => ⟨?_, ?_⟩, fun h => ⟨?_, ?_⟩, fun himage hne hr => ?_, fun h => ?_⟩
  · rw [hcold, h, if_pos rfl]
  · rw [hwarm, h]
    by_cases hagain : s.rd SEC_BOOT_STATUS_KIND = kdFALLBACK <;> simp [hagain]
  · rw [hwarm, h, if_neg fun h => Bool.false_ne_true h.1]
  · rw [hcold, h, if_neg Bool.false_ne_true]
  · rw [hat, himage, beq_false_of_ne hne, Bool.or_false, if_neg Bool.false_ne_true, if_neg hr]
  · rw [hat, if_pos (by simpa using h)]

theorem State.startFail_due {r : Nat} (hstart : s.sec.starting = true) (hfail : s.sec.failing = some r) : s.startFail r = s.startFailed r :=
  if_pos ⟨hstart, hfail⟩

theorem State.startFail_none {r : Nat} (hstart : s.sec.starting = false) : s.startFail r = s := by
  rw [State.startFail, if_neg fun h => ne_true_of_eq_false hstart h.1, if_neg fun h => ne_true_of_eq_false hstart h.1]

/-! ### Recovery images (R526, R527) -/

/-- `SEC_REC_CTL` has been written with a mode. -/
def State.recAsked (mode : Nat) : State := s.wr SEC_REC_CTL_MODE mode

section
variable (flashOk : Bool) (b : BootOp)

theorem State.recProgram_idle (h : (s.recAsked 1).recWaits = false) : s.recProgram flashOk b = s.recAsked 1 := by
  rw [State.recProgram]
  dsimp only
  rw [← State.recAsked, h]
  rfl

theorem State.recRun_idle (h : (s.recAsked 0).recWaits = false) : s.recRun b = s.recAsked 0 := by
  rw [State.recRun, ← State.recAsked, h]
  rfl

/-- An image that does not verify is said to be BAD_IMAGE, and no more. -/
theorem State.recProgram_bad (h : (s.recAsked 1).recWaits = true)
    (hbad : (s.recAsked 1).recoveryOk (s.recAsked 1).hbm ((s.recAsked 1).rd SEC_REC_LEN) = false) :
    s.recProgram flashOk b = (s.recAsked 1).wr SEC_REC_STATUS 3 := by
  rw [State.recProgram]
  dsimp only
  rw [← State.recAsked, h, hbad]
  rfl

theorem State.recRun_bad (h : (s.recAsked 0).recWaits = true)
    (hbad : (s.recAsked 0).recoveryOk (s.recAsked 0).hbm ((s.recAsked 0).rd SEC_REC_LEN) = false) :
    s.recRun b = (s.recAsked 0).wr SEC_REC_STATUS 3 := by
  rw [State.recRun, ← State.recAsked, h, hbad]
  rfl

/-- An image that verifies is run from HBM. -/
theorem State.recRun_good (h : (s.recAsked 0).recWaits = true)
    (hok : (s.recAsked 0).recoveryOk (s.recAsked 0).hbm ((s.recAsked 0).rd SEC_REC_LEN) = true) :
    s.recRun b = (s.recAsked 0).beginStart s.hbm true true b := by
  rw [State.recRun, ← State.recAsked, h, hok]
  rfl

/-- The flash holds the first `n` bytes of what PROGRAM writes. -/
def State.spoiled (n : Nat) : State := { s.free.2 with flash := storeFirst s.flash n (flashWrites s.hbm) }

section
variable (h : (s.recAsked 1).recWaits = true) (hok : (s.recAsked 1).recoveryOk (s.recAsked 1).hbm ((s.recAsked 1).rd SEC_REC_LEN) = true)
include h hok

theorem State.recProgram_spoils : ∃ n ≤ writesLen (flashWrites s.hbm), s.recProgram false b = ((s.recAsked 1).spoiled n).wr SEC_REC_STATUS 4 := by
  refine ⟨(s.recAsked 1).free.1 % (writesLen (flashWrites s.hbm) + 1), Nat.le_of_lt_succ (Nat.mod_lt _ (Nat.succ_pos _)), ?_⟩
  rw [State.recProgram]
  dsimp only
  rw [← State.recAsked, h, hok]
  rfl

theorem State.recProgram_starts : ∃ t : State, s.recProgram true b = t.wr SEC_REC_STATUS 6 := by
  rw [State.recProgram]
  dsimp only
  rw [← State.recAsked, h, hok]
  exact ⟨_, rfl⟩

end

end

end

/-- Settles O58: each event by what it leaves. That a reweave whose transfer meets RETRY has not come about, that a RUN start which fails
goes back to recovery, and that HBM is empty and device time 0 after a reset, are the model's choice (DEDUCED, log entries 11, 27 and 40). -/
theorem startsAndReweaves : Obligations.StartsAndReweaves := by
  intro s
  refine ⟨fun hs hbusy => ?reweave, fun hs hbusy => ?busy, fun r hs hr hall => ?load, fun r hs hr hall => ?loadWaits,
    fun ns hvdd hns => ?reset, fun ns hns => ?resetShort, fun b hbm hvdd htrip => ⟨fun hlow => ?rises, fun c hlow hdue hstuck => ?due,
      fun hlow hdue => ?noStart⟩, fun quick hs hstart hfail hphase => ?ready, fun quick hs hstart => ?readyNone,
    fun r hs hstart hfail => ?fails, fun r hs hstart => ?failsNone, fun a b hbm hs hat hfail hstuck => ?timer,
    fun hs => State.finish_on s.svcWdog hs, fun flashOk b hs => ?program, fun b hs => ?run, fun hs => ?count⟩
  case reweave =>
    refine ⟨fun hw => EndsOnce.of_finishOnce hs ?_, fun hw => ⟨_, EndsOnce.of_finishOnce hs ?_,
      s.reweaveRead.2.2.reweaveFail_shown (2 ^ 32 * s.rd WRP_SRC_HI + s.rd WRP_SRC_LO) (reweaveVerdict s.reweaveRead).1
        (reweaveVerdict s.reweaveRead).2⟩⟩
    · exact congrArg (s.finishOnce · id) ((s.reweaveGo_checks hbusy).trans (if_neg (not_not_intro hw)))
    · exact congrArg (s.finishOnce · id) ((s.reweaveGo_checks hbusy).trans (if_pos hw))
  case busy =>
    have hexec : exec .reweaveGo s = s.finishOnce s.reweaveGo id := rfl
    rw [hexec, s.reweaveGo_busy hbusy]
    exact State.finishOnce_on id hs (Nat.le_refl _)
  case load =>
    obtain ⟨u, hu⟩ := s.reweaveLoad_ends hr hall
    obtain ⟨hbusy, hgo, hdone, hwhy⟩ := u.reweaveShown_rd
    refine ⟨_, (State.finish_on _ hs).trans (by rw [hu]), ?_⟩
    rw [State.rd_settle' _ WRP_STATUS_BUSY (by decide), State.rd_settle' _ WRP_CTL_GO (by decide), State.rd_settle' _ WRP_STATUS_DONE (by decide),
      State.rd_settle' _ WRP_STATUS_WHY (by decide)]
    exact ⟨hbusy, hgo, hdone, hwhy⟩
  case loadWaits => exact (State.finish_on _ hs).trans (by rw [s.reweaveLoad_waits hr hall])
  case reset =>
    have hreset := s.resetActs_resetFrom.settle
    refine ⟨s.resetActs.settle, congrArg (fun t : State => Host.Outcome.next t.settle) (s.resetAssert_long hvdd hns), ?_⟩
    rw [State.settle_held, State.settle_aon]
    exact ⟨s.resetActs_held, congrArg AonSt.resetLow s.resetActs_aon, hreset.hbm, hreset.devTime, hreset.mram, hreset.flash, hreset.startCnt,
      hreset.starting, s.resetActs_thermtrip⟩
  case resetShort => exact congrArg (fun t : State => Host.Outcome.next t.settle) (s.resetAssert_short hns)
  case rises => exact congrArg (fun t : State => Host.Outcome.next t.settle) (s.startEvent_rises b hbm hvdd htrip hlow)
  case due =>
    have hexec (x : Bool) : exec (.startEvent b x) s = .next (s.nextStart c b x).settle :=
      congrArg (fun t : State => Host.Outcome.next t.settle) (s.startEvent_due b x hvdd htrip hlow hdue hstuck)
    refine ⟨hexec hbm, fun hrec => ⟨_, (hexec false).trans (by rw [s.nextStart_recovery b false hrec]), ?_⟩,
      fun hc hcold hdir => ⟨_, (hexec hbm).trans (by rw [s.nextStart_ordinary b hbm hc hcold, s.beginStart_noDirectory hdir]), ?_⟩⟩
    · rw [State.rd_settle' _ SEC_BOOT_STATUS_PHASE (by decide), State.rd_settle' _ SEC_BOOT_STATUS_KIND (by decide),
        State.rd_settle' _ MEM_MODE_MODE (by decide), State.rd_settle' _ SEC_REC_STATUS (by decide), State.settle_sec]
      exact s.recoveryBoot_stuck b
    · rw [State.rd_settle' _ SEC_BOOT_STATUS_PHASE (by decide), State.settle_sec]
      obtain ⟨hstarting, hcount⟩ := s.startRead_sec s.flash false (c == .cold) b
      exact ⟨State.rd_wr_same _ SEC_BOOT_STATUS_PHASE phROM, hstarting, rfl, hcount⟩
  case noStart => exact congrArg (fun t : State => Host.Outcome.next t.settle) (s.startEvent_none b hbm hvdd htrip hlow hdue)
  case ready => exact (State.finish_on _ hs).trans (by rw [s.startReady_brings hstart hfail hphase])
  case readyNone => exact (State.finish_on _ hs).trans (by rw [s.startReady_none hstart])
  case fails =>
    refine ⟨_, (State.finish_on _ hs).trans (by rw [s.startFail_due hstart hfail]), ?_⟩
    obtain ⟨hstarting, hlast, hcounts⟩ := s.startFailed_counts r
    rw [State.settle_sec, State.rd_settle' _ SEC_BOOT_STATUS_LAST_FAIL (by decide)]
    refine ⟨hstarting, hlast, ?_, hcounts⟩
    exact (State.rd_wr_same _ SEC_BOOT_STATUS_LAST_FAIL r).trans (Nat.mod_eq_of_lt (Nat.lt_trans r.isLt (by decide)))
  case failsNone => exact (State.finish_on _ hs).trans (by rw [s.startFail_none hstart])
  case timer =>
    have hexec : exec (.restartTimer b hbm) s = .next (s.restartTimer b hbm).settle := State.finish_on _ hs
    rw [hexec, s.restartTimer_eq b hbm hat hfail hstuck]
    exact ⟨fun hdue => by rw [if_pos hdue], fun hearly => by rw [if_neg (Nat.not_le.mpr hearly)]⟩
  case program =>
    have hexec : exec (.recProgram flashOk b) s = .next (s.recProgram flashOk b).settle := State.finish_on _ hs
    refine ⟨fun hwait hbad => ⟨_, hexec, ?_⟩, fun hwait hok => ⟨_, hexec, ?_⟩,
      fun hidle => hexec.trans (by rw [s.recProgram_idle flashOk b hidle]; rfl)⟩
    · rw [s.recProgram_bad flashOk b hwait hbad, State.rd_settle' _ SEC_REC_STATUS (by decide), State.settle_flash, State.settle_sec]
      exact ⟨State.rd_wr_same _ SEC_REC_STATUS 3, rfl, rfl⟩
    · rw [State.rd_settle' _ SEC_REC_STATUS (by decide), State.settle_flash]
      cases flashOk with
      | true =>
        obtain ⟨t, ht⟩ := s.recProgram_starts b hwait hok
        rw [ht]
        exact ⟨State.rd_wr_same _ SEC_REC_STATUS 6, fun h => absurd h (by decide)⟩
      | false =>
        obtain ⟨n, hn, ht⟩ := s.recProgram_spoils b hwait hok
        rw [ht]
        exact ⟨State.rd_wr_same _ SEC_REC_STATUS 4, fun _ => ⟨n, hn, rfl⟩⟩
  case run =>
    have hexec : exec (.recRun b) s = .next (s.recRun b).settle := State.finish_on _ hs
    refine ⟨fun hwait hbad => ⟨_, hexec, ?_⟩, fun hwait hok => hexec.trans (by rw [s.recRun_good b hwait hok]; rfl),
      fun hidle => hexec.trans (by rw [s.recRun_idle b hidle]; rfl)⟩
    rw [s.recRun_bad b hwait hbad, State.rd_settle' _ SEC_REC_STATUS (by decide), State.settle_flash, State.settle_sec]
    exact ⟨State.rd_wr_same _ SEC_REC_STATUS 3, rfl, rfl⟩
  case count =>
    refine ⟨s.startCntRead.settle, State.finish_on _ hs, ?_, ((RegsKept.refl _ s).wr SEC_START_CNT_HI _ (by simp)).settle, State.settle_sec _⟩
    exact (State.rd_settle' _ SEC_START_CNT_HI (by decide)).trans (State.rd_wr_same s SEC_START_CNT_HI _)

end Sys2Proof.Machine

/-! # The state after reset, and every step goes on -/

namespace Sys2Proof.Machine

open R

/-- At reset the store of register fields is empty, so every field reads its reset value. -/
theorem reset_rd (F : Fld) : State.reset.rd F = F.reset := rfl

/-- Settles O2: the register store and every record are empty. Which reset value a field has that the spec gives none is log entry 20,
and that the records beside the registers start empty is log entry 41. -/
theorem resetState : Obligations.ResetState :=
  ⟨reset_rd, fun _ _ => reset_rd _, fun _ _ => rfl, rfl, rfl, fun _ => rfl, fun _ => rfl, rfl, rfl, rfl⟩

/-- However a command ends, it answers a next state. -/
theorem State.finish_next (s t : State) : ∃ u, s.finish t = .next u := by
  cases hs : s.held
  · exact ⟨_, State.finish_on t hs⟩
  · exact ⟨s, State.finish_held t hs⟩

/-- Every command of the table answers a next state. -/
theorem exec_next (c : Instr) (s : State) : ∃ t, exec c s = .next t := by
  cases haon : aonCommand c
  case false =>
    obtain ⟨u, hu | hu⟩ := (exec_ends c s).1 haon
    · exact hu ▸ s.finish_next u
    · exact ⟨s, hu⟩
  case true =>
    obtain ⟨u, hu⟩ := (exec_ends c s).2 haon
    exact ⟨u.settle, hu⟩

/-- Settles O5: an idle step is a nanosecond that passes, and any other step runs a command. -/
theorem everyStepGoesOn : Obligations.EveryStepGoesOn := by
  intro s
  cases hp : s.pending with
  | nil => exact ⟨tick s, step_idle hp⟩
  | cons c rest =>
    obtain ⟨t, ht⟩ := exec_next c { s with pending := rest }
    exact ⟨t, (step_cons hp).trans ht⟩

end Sys2Proof.Machine

/-! # Power requests -/

namespace Sys2Proof.Machine

open R

/-! ### What a request asks for (R29, R31) -/

/-- The fields of the power controller's own registers lie below those of the islands. -/
def pwrCtlFld (F : Fld) : Prop := F.off < 0x01200100 ∧ F.lo < 32

/-- A write of such a field leaves the fields of the islands alone. -/
theorem State.wr_isl (s : State) {F : Fld} (v i : Nat) (hF : pwrCtlFld F) : (s.wr F v).isl i = s.isl i :=
  State.rd_wr_ne s F _ v (by unfold pwrCtlFld at hF; simp only [Fld.key, PWR_ISL_STATE_STATE]; omega)

theorem State.wr_switchable (s : State) {F : Fld} (v i : Nat) (hF : pwrCtlFld F) :
    (s.wr F v).rd (PWR_ISL_STATE_SWITCHABLE i) = s.rd (PWR_ISL_STATE_SWITCHABLE i) :=
  State.rd_wr_ne s F _ v (by unfold pwrCtlFld at hF; simp only [Fld.key, PWR_ISL_STATE_SWITCHABLE]; omega)

/-- Whether a move may be asked for is asked of the part, the islands and the reweave alone. -/
theorem State.wr_reqOk (s : State) {F : Fld} (v i target : Nat) (hF : pwrCtlFld F) : (s.wr F v).reqOk i target = s.reqOk i target := by
  simp only [State.reqOk, State.on, State.wr_isl s v i hF, State.wr_switchable s v i hF, State.wr_wrp]
  rfl

theorem pwrCtl_place : ∀ F ∈ [PWR_CTL_GO, PWR_CTL_FORCE, PWR_CTL_TARGET, PWR_CTL_ISLAND, PWR_STATUS_LAST_ISLAND, PWR_STATUS_BUSY,
    PWR_UNIT_RST_MASTER], pwrCtlFld F := by unfold pwrCtlFld; decide

theorem pwrCtl_above : ∀ F ∈ [PWR_CTL_GO, PWR_STATUS_BUSY], 0x01200000 ≤ F.off ∧ pwrCtlFld F := by unfold pwrCtlFld; decide

section
variable (s : State) (i target : Nat) (force : Bool)

theorem pwrAsked_isl (j : Nat) : (pwrAsked s i target force).isl j = s.isl j := by
  simp only [pwrAsked, State.wr_isl _ _ j (pwrCtl_place _ _), List.mem_cons, true_or, or_true]

theorem pwrAsked_reqOk : (pwrAsked s i target force).reqOk i target = s.reqOk i target := by
  simp only [pwrAsked, State.wr_reqOk _ _ i target (pwrCtl_place _ _), List.mem_cons, true_or, or_true]

/-- While GO reads 1 a request is ignored. -/
theorem State.pwrRequest_go (h : s.rd PWR_CTL_GO = 1) : s.pwrRequest i target force = s := if_pos ((s.on_iff _).mpr h)

/-- The state in which an accepted request takes its first step. -/
def State.pwrAccepted (s : State) (i target : Nat) (force : Bool) : State :=
  ((pwrAsked s i target force).wr PWR_CTL_GO 1).wr PWR_STATUS_BUSY 1

section
variable {s i target force}
variable (hgo : s.rd PWR_CTL_GO ≠ 1)
include hgo

/-- What a request does while GO reads 0, read off the state before it. -/
theorem State.pwrRequest_asked : s.pwrRequest i target force =
    if !s.reqOk i target then (pwrAsked s i target force).wr PWR_STATUS_REJECTED 1
    else if s.isl i = target then (pwrAsked s i target force).wr PWR_STATUS_DONE 1
    else (s.pwrAccepted i target force).reqStart { island := i, target := target } := by
  rw [State.pwrRequest, if_neg (fun hon => hgo ((s.on_iff _).mp hon)), ← pwrAsked_reqOk s i target force,
    ← pwrAsked_isl s i target force i]
  rfl

theorem State.pwrRequest_rejected (hok : s.reqOk i target = false) :
    s.pwrRequest i target force = (pwrAsked s i target force).wr PWR_STATUS_REJECTED 1 := by
  rw [State.pwrRequest_asked hgo, hok]
  rfl

/-- An island that is in the state asked for. -/
theorem State.pwrRequest_there (hok : s.reqOk i target = true) (hisl : s.isl i = target) :
    s.pwrRequest i target force = (pwrAsked s i target force).wr PWR_STATUS_DONE 1 := by
  rw [State.pwrRequest_asked hgo, hok, if_neg (by simp), if_pos hisl]

theorem State.pwrRequest_accepted (hok : s.reqOk i target = true) (hisl : s.isl i ≠ target) :
    s.pwrRequest i target force = (s.pwrAccepted i target force).reqStart { island := i, target := target } := by
  rw [State.pwrRequest_asked hgo, hok, if_neg (by simp), if_neg hisl]

end

/-! ### The first step of an accepted request (R28, R33, R37) -/

theorem State.pwrAccepted_isl (j : Nat) : (s.pwrAccepted i target force).isl j = s.isl j := by
  rw [State.pwrAccepted, State.wr_isl _ _ _ (pwrCtl_place _ (by simp)), State.wr_isl _ _ _ (pwrCtl_place _ (by simp)), pwrAsked_isl]

/-- No fence in the island, and the request is not to power it up. -/
theorem State.reqStart_down {u : State} {r : PwrReq} (hfence : (islandMasters r.island).any u.fenced = false) (htarget : r.target ≠ islON) :
    u.reqStart r = if u.isl r.island = islON then u.enterDrain r else u.enterDown r.island r.target PWR_STATUS_DONE := by
  rw [State.reqStart, if_neg (ne_true_of_eq_false hfence), if_neg htarget]

theorem State.reqStart_up {u : State} {r : PwrReq} (hfence : (islandMasters r.island).any u.fenced = false) (htarget : r.target = islON) :
    u.reqStart r = { u with pwr := { u.pwr with req := some { r with rising := true, held := false, since := u.elapsed } } } := by
  rw [State.reqStart, if_neg (ne_true_of_eq_false hfence), if_pos htarget]

section
variable {s i target force}
variable (hgo : s.rd PWR_CTL_GO ≠ 1) (hok : s.reqOk i target = true) (hfence : (islandMasters i).any s.fenced = false)
include hgo hok hfence

/-- From ON the island drains. -/
theorem State.pwrRequest_drains (htarget : target ≠ islON) (hisl : s.isl i = islON) :
    s.pwrRequest i target force = (s.pwrAccepted i target force).enterDrain { island := i, target := target } := by
  rw [State.pwrRequest_accepted hgo hok (fun h => htarget (h.symm.trans hisl)), State.reqStart_down hfence htarget, State.pwrAccepted_isl,
    if_pos hisl]

/-- From another state it enters the one asked for at once. -/
theorem State.pwrRequest_enters (htarget : target ≠ islON) (hisl : s.isl i ≠ islON) (hother : s.isl i ≠ target) :
    s.pwrRequest i target force = (s.pwrAccepted i target force).enterDown i target PWR_STATUS_DONE := by
  rw [State.pwrRequest_accepted hgo hok hother, State.reqStart_down hfence htarget, State.pwrAccepted_isl, if_neg hisl]

/-- Asked to be ON it powers up. -/
theorem State.pwrRequest_rises (htarget : target = islON) (hisl : s.isl i ≠ islON) : s.pwrRequest i target force =
    { s.pwrAccepted i target force with
      pwr := { s.pwr with req := some { island := i, target := target, rising := true, since := s.elapsed } } } := by
  rw [State.pwrRequest_accepted hgo hok (htarget ▸ hisl), State.reqStart_up hfence htarget]
  rfl

end
end

/-! ### How a request in progress ends (R28, R36, R38, R39) -/

section
variable {s : State} {r : PwrReq} (hreq : s.pwr.req = some r)
include hreq

theorem State.islandOnComplete_rising (hr : r.rising = true) :
    s.islandOnComplete = (s.reqEnd PWR_STATUS_DONE).islandUp r.island := by
  simp only [State.islandOnComplete, hreq, hr, if_true]

theorem State.drainComplete_done (hd : r.draining = true) (hout : s.outstanding r.island = 0) (hidle : s.unitsIdle r.island = true) :
    s.drainComplete = s.enterDown r.island r.target PWR_STATUS_DONE := by
  simp [State.drainComplete, hreq, hd, hout, hidle]

section
variable (hd : r.draining = true) (hlimit : r.since + 40 * s.rd PWR_DRAIN_LIMIT_LIMIT ≤ s.elapsed) (hout : s.outstanding r.island ≠ 0)
include hd hlimit hout

/-- At the limit with something outstanding, FORCE tells whether the request is abandoned or the island cut. -/
theorem State.drainLimit_reached : s.drainLimit =
    if s.on PWR_CTL_FORCE then ((s.raise (drainFault r.island)).forcedCut r.island).enterDown r.island islOFF PWR_STATUS_FORCED
    else ((s.raise (drainFault r.island)).reqEnd PWR_STATUS_ABANDONED).islandUp r.island := by
  have hlate : ¬ s.elapsed < r.since + 40 * s.rd PWR_DRAIN_LIMIT_LIMIT := Nat.not_lt.mpr hlimit
  simp [State.drainLimit, hreq, hd, hlate, hout]

end
end

/-! ### The commands -/

section
variable {s : State} (hs : s.held = false)
include hs

theorem exec_pwrReqOn (i : Fin 32) (f : Bool) : exec (.pwrReqOn i f) s = .next (s.pwrRequest i islON f).settle := State.finish_on _ hs
theorem exec_pwrReqRetention (i : Fin 32) (f : Bool) :
    exec (.pwrReqRetention i f) s = .next (s.pwrRequest i islRETENTION f).settle := State.finish_on _ hs
theorem exec_pwrReqOff (i : Fin 32) (f : Bool) : exec (.pwrReqOff i f) s = .next (s.pwrRequest i islOFF f).settle := State.finish_on _ hs
theorem exec_islandOnComplete : exec .islandOnComplete s = .next s.islandOnComplete.settle := State.finish_on _ hs
theorem exec_drainComplete : exec .drainComplete s = .next s.drainComplete.settle := State.finish_on _ hs
theorem exec_drainLimitExpiry : exec .drainLimitExpiry s = .next s.drainLimit.settle := State.finish_on _ hs

end

/-- While GO reads 1 a write of `PWR_CTL` by a register access changes nothing. -/
theorem State.writeAgainst_pwrCtl_go {s : State} (h : s.rd PWR_CTL_GO = 1) (m w hw : Nat) :
    s.writeAgainst m 0x01200000 w hw = s := by
  have hreg : ∀ v, s.writeReg m 0x01200000 v = s := fun v => if_pos ((s.on_iff _).mpr h)
  have hword : ∀ v, (s.writeWord m 0x01200000 v).2 = s := by
    intro v
    unfold State.writeWord
    dsimp only
    split
    · rfl
    · exact hreg _
  rw [State.writeAgainst, hword]
  rfl

/-- Settles O14: GO is asked before anything else of a request, and of a write of the word. -/
theorem powerControlIgnoredWhileGo : Obligations.PowerControlIgnoredWhileGo := by
  intro s hs hgo
  refine ⟨fun i f => ⟨?_, ?_, ?_⟩, fun svc d => ?_⟩
  · rw [exec_pwrReqOn hs, State.pwrRequest_go _ _ _ _ hgo]
  · rw [exec_pwrReqRetention hs, State.pwrRequest_go _ _ _ _ hgo]
  · rw [exec_pwrReqOff hs, State.pwrRequest_go _ _ _ _ hgo]
  · rw [exec_registerWrite _ _ _ _ hs]
    exact congrArg (fun t : State => Host.Outcome.next t.settle) (State.writeAgainst_pwrCtl_go hgo _ _ _)

/-- The three power requests and the states that they ask for. -/
theorem exec_pwrReq {s : State} {i : Fin 32} {f : Bool} {c : Instr} {tgt : Nat} (hs : s.held = false)
    (h : c = .pwrReqOn i f ∧ tgt = islON ∨ c = .pwrReqRetention i f ∧ tgt = islRETENTION ∨ c = .pwrReqOff i f ∧ tgt = islOFF) :
    tgt ≠ 1 ∧ exec c s = .next (s.pwrRequest i tgt f).settle := by
  obtain ⟨rfl, rfl⟩ | ⟨rfl, rfl⟩ | ⟨rfl, rfl⟩ := h
  · exact ⟨by decide, exec_pwrReqOn hs i f⟩
  · exact ⟨by decide, exec_pwrReqRetention hs i f⟩
  · exact ⟨by decide, exec_pwrReqOff hs i f⟩

theorem State.reqOk_false {s : State} {i tgt : Nat}
    (h : 30 ≤ i ∨ s.present i = false ∨ s.rd (PWR_ISL_STATE_SWITCHABLE i) ≠ 1 ∨ (tgt = islRETENTION ∧ s.isl i = islOFF)) :
    s.reqOk i tgt = false := by
  unfold State.reqOk State.on
  obtain h | h | h | ⟨h, h'⟩ := h
  · simp [Nat.not_lt.mpr h]
  · simp [h]
  · simp [h]
  · simp [h, h']

/-- An island that is in the state asked for is not asked from OFF into RETENTION. -/
theorem State.reqOk_there {s : State} {i tgt : Nat} (htgt : tgt ≠ 1) (hi : i < 30) (hp : s.present i = true)
    (hsw : s.rd (PWR_ISL_STATE_SWITCHABLE i) = 1) (hhold : s.wrp.hold.active = false) (hisl : s.isl i = tgt) : s.reqOk i tgt = true := by
  have hret : ¬ (tgt = islRETENTION ∧ tgt = islOFF) := by rintro ⟨rfl, h⟩; exact absurd h (by decide)
  simp only [State.reqOk, State.on, hi, hp, hsw, hhold, hisl, htgt, ← not_and_or, hret, Bool.and_eq_true, Bool.not_eq_true', bne_iff_ne,
    decide_true, Bool.and_eq_false_iff, beq_eq_false_iff_ne, ne_eq, not_false_eq_true, beq_self_eq_true, and_self]

/-- Settles O15: each request by whether it is allowed and where the island is. That a rejected request sets LAST_ISLAND is the model's
choice (DEDUCED, log entry 49). -/
theorem powerRequestRejectedOrDoneAtOnce : Obligations.PowerRequestRejectedOrDoneAtOnce := by
  intro s i f hs hgo c tgt hc
  obtain ⟨htgt, hexec⟩ := exec_pwrReq hs hc
  refine ⟨fun hno => ?_, fun hi hp hsw hhold hisl => ?_⟩
  · rw [hexec, State.pwrRequest_rejected hgo (State.reqOk_false hno)]
  · rw [hexec, State.pwrRequest_there hgo (State.reqOk_there htgt hi hp hsw hhold hisl) hisl]

/-- Settles O16: a request by its first step, and each end of one by its condition. -/
theorem powerRequestsMoveTheIsland : Obligations.PowerRequestsMoveTheIsland := by
  refine ⟨fun s i f hs hgo hfence => ⟨fun hok hisl => ?on, fun hok hisl => ?retention, fun hok hisl => ?off, fun hok hisl => ?offAtOnce⟩,
    fun s r hs hreq => ⟨fun hr => ?up, fun hd hout hidle => ?drained, fun hd hlimit hout => ⟨fun hforce => ?abandoned, fun hforce => ?cut⟩⟩⟩
  case on =>
    rw [exec_pwrReqOn hs, State.pwrRequest_rises hgo hok hfence rfl hisl]
    rfl
  case retention =>
    rw [exec_pwrReqRetention hs, State.pwrRequest_drains hgo hok hfence (by decide) hisl]
    rfl
  case off =>
    rw [exec_pwrReqOff hs, State.pwrRequest_drains hgo hok hfence (by decide) hisl]
    rfl
  case offAtOnce =>
    rw [exec_pwrReqOff hs, State.pwrRequest_enters hgo hok hfence (by decide) (by rw [hisl]; decide) (by rw [hisl]; decide)]
    rfl
  case up => rw [exec_islandOnComplete hs, State.islandOnComplete_rising hreq hr]
  case drained => rw [exec_drainComplete hs, State.drainComplete_done hreq hd hout hidle]
  case abandoned =>
    rw [exec_drainLimitExpiry hs, State.drainLimit_reached hreq hd hlimit hout, if_neg (fun h => hforce ((s.on_iff _).mp h))]
  case cut => rw [exec_drainLimitExpiry hs, State.drainLimit_reached hreq hd hlimit hout, if_pos ((s.on_iff _).mpr hforce)]

/-! ### An HBM island asked to go down (R33, R34) -/

/-- Showing the homes writes UNHOMED of contexts alone. -/
theorem State.showHomes_keeps {β : Type} (g : State → β) (s : State) (h : ∀ n v t, n < 128 → g (State.wr t (STC_STATUS_UNHOMED n) v) = g t) :
    g s.showHomes = g s :=
  State.each_keeps g _ _ (fun n t hn => h n _ t (List.mem_range.mp (List.mem_of_mem_filter hn))) s

/-- What DRAINING of an HBM island shows at once: its state, no training, no temperature, and what is outstanding. -/
def State.stackDrains (s : State) (i : Nat) : State :=
  (((s.wr (PWR_ISL_STATE_STATE i) islDRAINING).wr (MEM_STATUS_TRAINED (i - 28)) 0).wr (MEM_TEMP (i - 28)) 0).showOutstanding i

section
variable {r : PwrReq} (hlo : 28 ≤ r.island) (hhi : r.island < 30)
include hlo hhi

/-- An HBM island has no masters and no ports to send away. -/
theorem State.enterDrain_stack (s : State) : s.enterDrain r =
    (({ s with pwr := { s.pwr with req := some { r with draining := true, held := false, since := s.elapsed } } } : State).stackDrains
      r.island).showHomes := by
  have hmasters : islandMasters r.island = [] := by
    rw [islandMasters, if_neg (by omega), if_neg (by omega), if_neg (by omega)]
  have hstack : (decide (28 ≤ r.island) && decide (r.island < 30)) = true := by simp [hlo, hhi]
  rw [State.enterDrain]
  dsimp only
  rw [hmasters, State.each_nil, State.stackDown, hstack, State.iff_true, if_neg (by omega)]
  rfl

/-- It changes register fields and the request in progress alone. -/
theorem State.enterDrain_stack_keeps {β : Type} (g : State → β) (s : State) (hwr : ∀ F v t, g (State.wr t F v) = g t)
    (hpwr : ∀ p, g { s with pwr := p } = g s) : g (s.enterDrain r) = g s := by
  rw [State.enterDrain_stack hlo hhi, State.showHomes_keeps g _ (fun _ _ _ _ => hwr _ _ _)]
  exact (hwr _ _ _).trans ((hwr _ _ _).trans ((hwr _ _ _).trans ((hwr _ _ _).trans (hpwr _))))

/-- Of the power controller's own fields it changes none. -/
theorem State.enterDrain_stack_rd (s : State) {G : Fld} (hG : 0x01200000 ≤ G.off ∧ pwrCtlFld G) : (s.enterDrain r).rd G = s.rd G := by
  unfold pwrCtlFld at hG
  rw [State.enterDrain_stack hlo hhi, State.showHomes_keeps (·.rd G) _ (fun n v t hn => State.rd_wr_ne t _ G v (by
    simp only [Fld.key, STC_STATUS_UNHOMED]; omega))]
  unfold State.stackDrains State.showOutstanding
  rw [State.rd_wr_ne _ _ G _ (by simp only [Fld.key, PWR_ISL_STATE_OUTSTANDING]; omega),
    State.rd_wr_ne _ _ G _ (by simp only [Fld.key, MEM_TEMP]; omega),
    State.rd_wr_ne _ _ G _ (by simp only [Fld.key, MEM_STATUS_TRAINED]; omega),
    State.rd_wr_ne _ _ G _ (by simp only [Fld.key, PWR_ISL_STATE_STATE]; omega)]
  rfl

theorem State.enterDrain_stack_req (s : State) :
    (s.enterDrain r).pwr.req = some { r with draining := true, held := false, since := s.elapsed } := by
  rw [State.enterDrain_stack hlo hhi, State.showHomes_keeps (·.pwr.req) _ (fun _ _ _ _ => rfl)]
  rfl

theorem State.enterDrain_stack_isl (s : State) : (s.enterDrain r).isl r.island = islDRAINING := by
  rw [State.enterDrain_stack hlo hhi, State.showHomes_keeps (·.isl r.island) _ (fun n v t hn => State.rd_wr_ne t _ _ v (by
    simp only [Fld.key, STC_STATUS_UNHOMED, PWR_ISL_STATE_STATE]; omega))]
  unfold State.stackDrains State.showOutstanding State.isl
  rw [State.rd_wr_ne _ _ _ _ (by simp only [Fld.key, PWR_ISL_STATE_OUTSTANDING, PWR_ISL_STATE_STATE]; omega),
    State.rd_wr_ne _ _ _ _ (by simp only [Fld.key, MEM_TEMP, PWR_ISL_STATE_STATE]; omega),
    State.rd_wr_ne _ _ _ _ (by simp only [Fld.key, MEM_STATUS_TRAINED, PWR_ISL_STATE_STATE]; omega), State.rd_wr_same]
  rfl

end

/-- An island's STATE shows no condition: it is bit 0 of its word, where no condition field lies. -/
theorem islState_notCond (i : Nat) : ∀ F ∈ condFlds, (PWR_ISL_STATE_STATE i).key ≠ F.key := by
  have hbit : ∀ F ∈ condFlds, F.key % 32 ≠ 0 := by decide
  intro F hF e
  exact hbit F hF (e ▸ Nat.mul_add_mod' _ 32 0)

/-- Which stack holds an address is asked of the part alone. -/
theorem State.stackOf_of_part {s t : State} (h : t.part = s.part) (a : Nat) : t.stackOf a = s.stackOf a := by
  have hcaps : t.caps = s.caps := by rw [State.caps, State.caps, h]
  unfold State.stackOf State.present
  rw [hcaps]

/-- The path to a stack that drains answers RETRY (R33). -/
theorem State.pathCode_draining {s : State} {a k : Nat} (ha : a < winBase) (hk : s.stackOf a = some k) (hisl : s.isl (28 + k) = islDRAINING) :
    s.pathCode a = 1 := by
  have hon : islDRAINING ≠ islON := by decide
  simp [State.pathCode, ha, hk, hisl, hon]

/-- Settles O17: the island enters DRAINING with the request in progress, and the path asks the island alone. -/
theorem drainOfAMemoryIsland : Obligations.DrainOfAMemoryIsland := by
  intro s i f c tgt a hs hgo hlo hhi hc hok hisl
  have htgt : tgt ≠ islON := by obtain ⟨-, rfl⟩ | ⟨-, rfl⟩ := hc <;> decide
  have hfence : (islandMasters i).any s.fenced = false := by
    rw [islandMasters, if_neg (by omega), if_neg (by omega), if_neg (by omega)]; rfl
  have hexec := (exec_pwrReq hs (.inr hc)).2
  rw [State.pwrRequest_drains hgo hok hfence htgt hisl] at hexec
  refine ⟨_, hexec, ?isl, ?go, ?busy, ?req, ?mem, ?hbm, fun ha hk => ?path⟩
  case isl => exact (State.rd_settle _ _ (islState_notCond _)).trans (State.enterDrain_stack_isl hlo hhi _)
  case go =>
    rw [State.rd_settle' _ _ (by decide), State.enterDrain_stack_rd hlo hhi _ (pwrCtl_above _ (by simp)), State.pwrAccepted,
      State.rd_wr_ne _ _ _ _ (by decide), State.rd_wr_same]
    rfl
  case busy =>
    rw [State.rd_settle' _ _ (by decide), State.enterDrain_stack_rd hlo hhi _ (pwrCtl_above _ (by simp)), State.pwrAccepted,
      State.rd_wr_same]
    rfl
  case req =>
    rw [State.settle_pwr, State.enterDrain_stack_req hlo hhi]
    rfl
  case mem => exact (State.settle_mem _).trans (State.enterDrain_stack_keeps hlo hhi (·.mem) _ (fun _ _ _ => rfl) (fun _ => rfl))
  case hbm => exact (State.settle_hbm _).trans (State.enterDrain_stack_keeps hlo hhi (·.hbm) _ (fun _ _ _ => rfl) (fun _ => rfl))
  case path =>
    refine State.pathCode_draining ha ((State.stackOf_of_part ?_ a).trans hk) ?_
    · exact (State.settle_part _).trans (State.enterDrain_stack_keeps hlo hhi (·.part) _ (fun _ _ _ => rfl) (fun _ => rfl))
    · rw [Nat.add_sub_cancel' hlo]
      exact (State.rd_settle _ _ (islState_notCond _)).trans (State.enterDrain_stack_isl hlo hhi _)

end Sys2Proof.Machine

/-! # Unit resets and fences -/

namespace Sys2Proof.Machine

open R

/-! ### A unit reset begins (R43, R44) -/

/-- Whether a unit's island is ON is asked of the islands' fields and the part. -/
theorem State.wr_masterOn (s : State) {F : Fld} (v m : Nat) (hF : pwrCtlFld F) : (s.wr F v).masterOn m = s.masterOn m := by
  unfold State.masterOn State.islOn
  simp only [State.wr_isl s v _ hF]
  rfl

/-- What a write of `PWR_UNIT_RST` with GO does while GO reads 0, read off the state before it. -/
theorem State.unitReset_asked {s : State} {m : Nat} (hgo : s.rd PWR_UNIT_RST_GO ≠ 1) : s.unitReset m =
    if resettable m && s.masterOn m && !s.pwrBusy m && !s.fenced m then
      ((s.wr PWR_UNIT_RST_MASTER m).wr PWR_UNIT_RST_GO 1).startFence m .unitReset
    else (s.wr PWR_UNIT_RST_MASTER m).wr PWR_STATUS_REJECTED 1 := by
  rw [State.unitReset, if_neg (fun hon => hgo ((s.on_iff _).mp hon)), ← State.wr_masterOn s m m (pwrCtl_place PWR_UNIT_RST_MASTER (by simp))]
  rfl

/-- A held fence begins once the island is ON without a power request and no other fence of the unit runs. -/
theorem State.fenceHeldStart_begins {s : State} {m : Nat} (hheld : m ∈ s.pwr.held) (hon : s.masterOn m = true)
    (hbusy : s.pwrBusy m = false) (hfence : s.fenced m = false) : s.fenceHeldStart m = s.startFence m .fault := by
  simp [State.fenceHeldStart, hheld, hon, hbusy, hfence]

/-! ### The steps of a fence (Table 1-14) -/

section
variable {s : State} {m : Nat} {f : Fence} (hf : s.fence m = some f)
include hf

theorem State.fenceReplies_none_owed (hphase : f.phase = .waitReplies) (hnone : ∀ r ∈ s.queued, r.master ≠ m) :
    s.fenceReplies m = s.fenceToReset m f := by
  have hq : s.queued.any (fun r => r.master == m) = false := by simpa using hnone
  simp [State.fenceReplies, hf, hphase, hq]

theorem State.fenceTimeout_late (hphase : f.phase = .waitReplies) (hlate : f.since + s.fabNs 65536 ≤ s.elapsed) :
    s.fenceTimeout m = s.fenceToReset m f := by
  simp only [State.fenceTimeout, hf, hphase, hlate, and_self, if_true]

/-- The unit after its reset: cleared, its bobbins swept, its stores rewritten. -/
def State.unitCleared (s : State) (m : Nat) : State := ((s.fenceClear m).ownerSweep m).rewriteStores m

theorem State.fenceResetEnd_held (hphase : f.phase = .inReset) (hlong : f.since + cdiv 64000000 (s.unitKhz m) ≤ s.elapsed) :
    s.fenceResetEnd m = if f.cause = .reweave then
      { s.unitCleared m with pwr := { (s.unitCleared m).pwr with fences := smSet none (s.unitCleared m).pwr.fences m (some { f with phase := .waitLoad }) } }
    else (s.unitCleared m).fenceLift m := by
  simp only [State.fenceResetEnd, hf, hphase, hlong, and_self, if_true]
  rfl

end

section
variable {s : State} (hs : s.held = false) (m : Fin 256)
include hs

theorem exec_unitReset : exec (.unitReset m) s = .next (s.unitReset m).settle := State.finish_on _ hs
theorem exec_fenceHeldStart : exec (.fenceHeldStart m) s = .next (s.fenceHeldStart m).settle := State.finish_on _ hs
theorem exec_fenceRepliesDone : exec (.fenceRepliesDone m) s = .next (s.fenceReplies m).settle := State.finish_on _ hs
theorem exec_fenceWaitTimeout : exec (.fenceWaitTimeout m) s = .next (s.fenceTimeout m).settle := State.finish_on _ hs
theorem exec_fenceResetEnd : exec (.fenceResetEnd m) s = .next (s.fenceResetEnd m).settle := State.finish_on _ hs

end

/-- Settles O18: each step of a fence by the condition that brings it about. -/
theorem unitResetAndFenceSteps : Obligations.UnitResetAndFenceSteps := by
  intro s m hs
  refine ⟨fun hgo => ⟨fun hmay => ?begins, fun hmay => ?rejected⟩, fun hheld hon hbusy hfence => ?held,
    fun f hf hphase => ⟨fun hnone => ?replies, fun hlate => ?timeout⟩,
    fun f hf hphase hlong => ⟨fun hcause => ?lifts, fun hcause => ?waits⟩⟩
  case begins => rw [exec_unitReset hs, State.unitReset_asked hgo, if_pos hmay]
  case rejected => rw [exec_unitReset hs, State.unitReset_asked hgo, if_neg (ne_true_of_eq_false hmay)]
  case held => rw [exec_fenceHeldStart hs, State.fenceHeldStart_begins hheld hon hbusy hfence]
  case replies =>
    rw [exec_fenceRepliesDone hs, State.fenceReplies_none_owed hf hphase hnone]
    rfl
  case timeout =>
    rw [exec_fenceWaitTimeout hs, State.fenceTimeout_late hf hphase hlate]
    rfl
  case lifts =>
    rw [exec_fenceResetEnd hs, State.fenceResetEnd_held hf hphase hlong, if_neg hcause]
    rfl
  case waits =>
    rw [exec_fenceResetEnd hs, State.fenceResetEnd_held hf hphase hlong, if_pos hcause]
    rfl

end Sys2Proof.Machine

/-! # Requests on the fabric -/

namespace Sys2Proof.Machine

open R

/-! ### A request to HBM (R15, R33, R42) -/

/-- Accepting a request counts it alone. -/
theorem State.fabAccept_eq (s : State) (r : FabReq) :
    s.fabAccept r = { s with flds := (s.fabAccept r).flds, cntLive := (s.fabAccept r).cntLive } := State.eq_of_sansCnt (s.fabAccept_sans r)

section
variable {s : State} {r : FabReq} {k : Nat} (ha : r.addr < winBase) (hk : s.stackOf r.addr = some k)
include ha hk

/-- A request to a stack that drains is sent back. -/
theorem State.fabRequest_draining (hisl : s.isl (28 + k) = islDRAINING) : s.fabRequest r = s.fabRetry r := by
  simp only [State.fabRequest, if_pos ha, State.pathCode_draining ha hk hisl]

/-- A request to a stack that is down ends with ISLAND_OFF. -/
theorem State.fabRequest_down (hon : s.isl (28 + k) ≠ islON) (hdrain : s.isl (28 + k) ≠ islDRAINING) : s.fabRequest r = s.fabError r 6 := by
  have hpath : s.pathCode r.addr = 6 := by simp [State.pathCode, ha, hk, hon, hdrain]
  simp only [State.fabRequest, if_pos ha, hpath]

end

/-- ISLAND_OFF for HBM raises the fault of its class at the requester's side. -/
theorem State.respFault_islandOff (s : State) {m acc a : Nat} (ha : a < winBase) (hroom : s.flt.queue.length < 256) :
    s.respFault m acc a 6 =
      { s with flt := { s.flt with queue := s.flt.queue ++ [{ cls := 1, master := m, access := acc, addr := a, at_ := s.elapsed }] } } := by
  rw [State.respFault, if_neg (by omega), if_neg (by decide), if_pos rfl, State.raise_room s _ hroom]

/-- A unit that is up receives the response to a live request. -/
theorem State.respond_error_eq {s : State} {r : FabReq} {c : Nat} (hc : 2 ≤ c) (hfence : s.fenced r.master = false) (hdead : r.dead = false)
    (hhost : r.master ≠ 0x40) (data : List Byte) : s.respond r c data =
      { s.countReq 0x014 r 1 with fab := { s.fab with resp := s.fab.resp ++ [{ master := r.master, tag := r.tag, code := c, data := data }] } } := by
  have hfence' : (s.countReq 0x014 r 1).fenced r.master = false := by
    rw [State.fenced, State.fence, State.countReq_pwr]; exact hfence
  have hfab : (s.countReq 0x014 r 1).fab = s.fab := State.countReq_fab ..
  simp only [State.respond, hc, decide_true, State.iff_true, hfence', hdead, Bool.or_self, Bool.false_eq_true, if_false, if_neg hhost, hfab]

/-- A unit that is up is not fenced. -/
theorem State.unitUp_fenced {s : State} {m : Nat} (h : s.unitUp m = true) : s.fenced m = false := by
  simp only [State.unitUp, Bool.and_eq_true, Bool.not_eq_true'] at h
  exact h.1.1

/-- What a request from a unit that is up leaves when it ends with ISLAND_OFF: its fault and its response. -/
theorem State.fabError_islandOff {s : State} {r : FabReq} (ha : r.addr < winBase) (hroom : s.flt.queue.length < 256)
    (hup : s.unitUp r.master = true) (hdead : r.dead = false) (hhost : r.master ≠ 0x40) :
    let t := s.fabError r 6
    t.mem = s.mem ∧ t.hbm = s.hbm ∧
      t.fab = { s.fab with resp := s.fab.resp ++ [{ master := r.master, tag := r.tag, code := 6, data := [] }] } ∧
      t.flt.queue = s.flt.queue ++ [{ cls := 1, master := r.master, access := r.access, addr := r.addr, at_ := s.elapsed }] := by
  have hfence : (s.respFault r.master r.access r.addr 6).fenced r.master = false := by
    rw [State.respFault_islandOff s ha hroom]
    exact State.unitUp_fenced hup
  dsimp only
  rw [State.fabError, State.respond_error_eq (by decide) hfence hdead hhost, State.countReq_eq, State.respFault_islandOff s ha hroom]
  exact ⟨rfl, rfl, rfl, rfl⟩

theorem exec_fabricRequest {s : State} {r : FabReq} (hs : s.held = false) (hup : s.unitUp r.master = true) :
    exec (.fabricRequest r) s = .next (s.fabRequest { r with dead := false }).settle := by
  refine (State.finish_on _ hs).trans ?_
  rw [hup, State.iff_true]

/-- Settles O8: where the request goes is asked of the island that its address lies in. -/
theorem fabricRequestAnsweredByIslandState : Obligations.FabricRequestAnsweredByIslandState := by
  intro s r k hs hup ha hk
  have hexec := exec_fabricRequest hs hup
  refine ⟨fun hon => ⟨_, hexec, ?_⟩, fun hdrain => ⟨_, hexec, ?_⟩, fun hon hdrain hhost hroom => ⟨_, hexec, ?_⟩⟩
  · rw [State.fabRequest_queued (r := { r with dead := false }) ha hk hon, State.xq_settle, State.xq_setXq, State.settle_hbm,
      State.settle_fab, State.settle_flt, State.fabAccept_eq]
    exact ⟨rfl, rfl, rfl, rfl⟩
  · rw [State.fabRequest_draining (r := { r with dead := false }) ha hk hdrain, State.fabRetry, State.settle_mem, State.settle_hbm,
      State.settle_fab, State.settle_flt, State.countReq_mem, State.countReq_hbm, State.countReq_fab, State.countReq_flt]
    exact ⟨rfl, rfl, rfl, rfl⟩
  · rw [State.fabRequest_down (r := { r with dead := false }) ha hk hon hdrain, State.settle_mem, State.settle_hbm, State.settle_fab,
      State.settle_flt]
    exact State.fabError_islandOff (r := { r with dead := false }) ha hroom hup rfl hhost

end Sys2Proof.Machine

/-! # What the bobbin pool leaves alone -/

namespace Sys2Proof.Machine

open R

/-- A state without what the bobbin pool and the memories that it accesses touch. -/
def State.sansPool (t : State) : State :=
  { t with flds := [], hbm := [], hostMem := [], out := [], fab := {}, mem := {}, pool := {}, flt := {}, cntLive := [] }

section
variable (s : State)

/-! ### Counting, faults and memory -/

@[simp] theorem State.sansPool_wr (F : Fld) (v : Nat) : (s.wr F v).sansPool = s.sansPool := rfl

@[simp] theorem State.sansPool_bump (F : Fld) (k : Nat) : (s.bump F k).sansPool = s.sansPool := rfl

@[simp] theorem State.sansPool_countUnit (ev m n : Nat) : (s.countUnit ev m n).sansPool = s.sansPool := by
  rw [State.countUnit_eq]
  simp only [State.sansPool]

@[simp] theorem State.sansPool_countOwn (r : FabReq) (c : Nat) : (s.countOwn r c).sansPool = s.sansPool := by
  rw [State.countOwn_eq]
  rfl

@[simp] theorem State.sansPool_raise (f : FaultReq) : (s.raise f).sansPool = s.sansPool := by
  rw [State.eq_of_sansFlt (s.raise_sans f)]
  rfl

@[simp] theorem State.sansPool_respFault (m acc a c : Nat) : (s.respFault m acc a c).sansPool = s.sansPool := by
  rw [State.eq_of_sansFlt (s.respFault_sans m acc a c)]
  rfl

@[simp] theorem State.sansPool_again (q : Retried) : (s.again q).sansPool = s.sansPool := rfl

@[simp] theorem State.sansPool_poolRetry (r : PoolReq) : (s.poolRetry r).sansPool = s.sansPool := rfl

/-- A change under a condition that keeps the rest keeps it whether or not it is made. -/
theorem State.sansPool_iff (c : Bool) {f : State → State} (h : ∀ t, (f t).sansPool = t.sansPool) : (s.iff c f).sansPool = s.sansPool :=
  State.iff_keeps State.sansPool c f s (h s)

theorem State.sansPool_each {α : Type} (l : List α) {f : α → State → State} (h : ∀ a t, (f a t).sansPool = t.sansPool) :
    (s.each l f).sansPool = s.sansPool :=
  State.each_keeps State.sansPool l f (fun a t _ => h a t) s

@[simp] theorem State.sansPool_finding (m acc a i f : Nat) : (s.finding m acc a i f).sansPool = s.sansPool := by
  unfold State.finding
  split <;> simp

@[simp] theorem State.sansPool_findings (m acc a n f : Nat) : (s.findings m acc a n f).sansPool = s.sansPool :=
  s.sansPool_each _ fun _ _ => State.sansPool_finding ..

theorem State.sansPool_eccAfter (a n w : Nat) : (s.eccAfter a n w).sansPool = s.sansPool := by
  unfold State.eccAfter
  dsimp only
  split
  · split <;> rfl
  · rfl

theorem State.sansPool_hbmWrite (m a : Nat) (l : List Byte) : (s.hbmWrite m a l).2.sansPool = s.sansPool :=
  (State.sansPool_each _ _ fun _ _ => State.sansPool_finding ..).trans (s.sansPool_each _ fun _ t => t.sansPool_eccAfter ..)

@[simp] theorem State.sansPool_busWrite (m a : Nat) (l : List Byte) : (s.busWrite m a l).2.sansPool = s.sansPool := by
  unfold State.busWrite
  dsimp only
  rw [State.sansPool_countOwn]
  split
  · rfl
  · split
    · split
      · exact s.sansPool_hbmWrite m a l
      · rfl
    · exact s.sansPool_respFault ..

@[simp] theorem State.sansPool_store (m a : Nat) (l : List Byte) : (s.store m a l).sansPool = s.sansPool := s.sansPool_busWrite m a l

@[simp] theorem State.sansPool_setMeta (p i : Nat) (m : Meta) : (s.setMeta p i m).sansPool = s.sansPool := s.sansPool_store ..

@[simp] theorem State.sansPool_poolReadSeen (a : Nat) : (s.poolReadSeen a).sansPool = s.sansPool := by
  unfold State.poolReadSeen
  dsimp only
  rw [State.sansPool_countOwn]
  split
  · exact s.sansPool_iff _ fun t => t.sansPool_findings ..
  · exact s.sansPool_respFault ..

/-! ### The pool's own records -/

@[simp] theorem State.sansPool_setHead (p a : Nat) : (s.setHead p a).sansPool = s.sansPool := rfl

@[simp] theorem State.sansPool_ledgerDel (m a : Nat) : (s.ledgerDel m a).sansPool = s.sansPool := rfl

@[simp] theorem State.sansPool_withPool (p : PoolSt) : ({ s with pool := p } : State).sansPool = s.sansPool := rfl

@[simp] theorem State.sansPool_showParked (p : Nat) : (s.showParked p).sansPool = s.sansPool := rfl

@[simp] theorem State.sansPool_poolEmpty (p : Nat) : (s.poolEmpty p).sansPool = s.sansPool := rfl

@[simp] theorem State.sansPool_park1 (r : PoolReq) : (s.park1 r).sansPool = s.sansPool := rfl

@[simp] theorem State.sansPool_ledgerAdd (m a : Nat) : (s.ledgerAdd m a).sansPool = s.sansPool := by
  unfold State.ledgerAdd
  split <;> rfl

@[simp] theorem State.sansPool_setFree (p v : Nat) : (s.setFree p v).sansPool = s.sansPool := by
  unfold State.setFree
  dsimp only
  rw [State.iff_keeps State.sansPool _ _ _ rfl, State.iff_keeps State.sansPool _ _ _ rfl, State.sansPool_wr]

@[simp] theorem State.sansPool_poolAnswer (r : PoolRes) : (s.poolAnswer r).sansPool = s.sansPool := by
  unfold State.poolAnswer
  split
  case h_3 =>
    dsimp only
    rw [State.iff_keeps State.sansPool _ _ _ rfl, State.iff_keeps State.sansPool _ _ _ rfl, State.sansPool_wr, State.sansPool_wr]
  all_goals rfl

@[simp] theorem State.sansPool_poolBreak (p a : Nat) : (s.poolBreak p a).sansPool = s.sansPool := by
  unfold State.poolBreak
  split
  · rfl
  · rw [State.sansPool_raise]
    exact State.sansPool_each _ _ fun _ t => t.sansPool_poolAnswer _

@[simp] theorem State.sansPool_misuse (p : Option Nat) (r : PoolReq) (c : Nat) : (s.misuse p r c).sansPool = s.sansPool := by
  unfold State.misuse
  cases p <;> simp

@[simp] theorem State.sansPool_headSeen (p : Nat) : (s.headSeen p).sansPool = s.sansPool := by
  unfold State.headSeen
  split
  · rfl
  · rw [State.sansPool_iff _ _ fun t => t.sansPool_poolReadSeen _, State.sansPool_poolReadSeen]

/-! ### The five operations -/

@[simp] theorem State.sansPool_grant (p i : Nat) (r : PoolReq) : (s.grant p i r).2.sansPool = s.sansPool := by
  unfold State.grant
  dsimp only
  rw [State.sansPool_iff _ _ fun t => by simp]
  simp

theorem State.sansPool_poolAlloc (r : PoolReq) : (s.poolAlloc r).2.sansPool = s.sansPool := by
  have hempty : (s.allocEmpty r).2.sansPool = s.sansPool := by
    unfold State.allocEmpty
    split <;> simp
  have hhead : (s.allocHead r).2.sansPool = s.sansPool := by
    unfold State.allocHead
    dsimp only
    split
    · simp
    · split
      · simp
      · split <;> simp
  unfold State.poolAlloc
  split
  · rfl
  · split
    · rfl
    · split
      · simp
      · split
        · rfl
        · split
          · exact hempty
          · exact hhead

theorem State.sansPool_offer (l : List Parked) (p i : Nat) : (s.offer p i l).2.sansPool = s.sansPool := by
  induction l generalizing s with
  | nil => rfl
  | cons k rest ih =>
    unfold State.offer
    dsimp only
    split <;> simp [ih]

@[simp] theorem State.sansPool_freeBob (p i : Nat) (m : Meta) : (s.freeBob p i m).sansPool = s.sansPool := by
  have hprov : ∀ a, ((s.iff m.prov (fun t => t.wr (POOL_PROV p) (t.rd (POOL_PROV p) - 1))).ledgerDel m.owner a).sansPool = s.sansPool :=
    fun _ => s.sansPool_iff _ fun _ => rfl
  unfold State.freeBob
  dsimp only
  split
  · simp [hprov]
  · split <;> simp [hprov, State.sansPool_offer]

/-- An operation that names a bobbin keeps the rest when its effect on the bobbin does. -/
theorem State.sansPool_withBob (r : PoolReq) {f : State → Nat → Nat → Meta → PoolRes × State}
    (hf : ∀ t p i m, (f t p i m).2.sansPool = t.sansPool) : (s.withBob r f).2.sansPool = s.sansPool := by
  unfold State.withBob
  split
  · split <;> simp
  · dsimp only
    split
    · rw [hf, State.sansPool_poolReadSeen]
    · split <;> simp

theorem State.sansPool_poolShare (r : PoolReq) : (s.poolShare r).2.sansPool = s.sansPool := by
  unfold State.poolShare
  split
  · rfl
  · refine s.sansPool_withBob r fun t p i m => ?_
    split
    · rfl
    · split
      · rfl
      · split
        · simp
        · split <;> simp

theorem State.sansPool_poolRelease (r : PoolReq) : (s.poolRelease r).2.sansPool = s.sansPool := by
  refine s.sansPool_withBob r fun t p i m => ?_
  split
  · simp
  · split
    · simp
    · split
      · simp
      · dsimp only
        generalize (if t.linkWritten p m r.addr then t.pathCode r.addr else 0) = c
        split
        · simp
        · split <;> simp

theorem State.sansPool_poolSetOwner (r : PoolReq) : (s.poolSetOwner r).2.sansPool = s.sansPool := by
  unfold State.poolSetOwner
  split
  · rfl
  · refine s.sansPool_withBob r fun t p i m => ?_
    split
    · rfl
    · split
      · rfl
      · dsimp only
        rw [State.sansPool_setMeta, State.iff_keeps State.sansPool _ _ _ rfl, State.sansPool_ledgerAdd, State.sansPool_ledgerDel]

/-- An operation of the pool leaves every other record of the device alone. -/
theorem State.sansPool_poolServe (r : PoolReq) : (s.poolServe r).sansPool = s.sansPool := by
  have hop : (s.poolOp r).2.sansPool = s.sansPool := by
    unfold State.poolOp
    split
    · exact s.sansPool_poolAlloc r
    · exact s.sansPool_poolShare r
    · exact s.sansPool_poolRelease r
    · exact s.sansPool_poolSetOwner r
    · exact s.sansPool_withBob r fun _ _ _ _ => rfl
    · rfl
  unfold State.poolServe
  dsimp only
  split
  · exact hop
  · rw [State.sansPool_poolAnswer, hop]

end

/-- What no operation of the pool touches can be read off the state before: here, the PCIe function. -/
theorem State.pcie_of_sansPool {s t : State} (h : t.sansPool = s.sansPool) : t.pcie = s.pcie :=
  show t.sansPool.pcie = s.sansPool.pcie from congrArg State.pcie h

end Sys2Proof.Machine

/-! # Requests that are issued again -/

namespace Sys2Proof.Machine

open R

section
variable {s : State} {q : Retried} {d : Nat} (hretry : s.fab.retry = [(d, q)])
include hretry

/-- While the one waiting request is not due it waits on, and no access of the host waits either. -/
theorem State.retryDue_early (hwait : s.pcie.waiting = []) (hd : s.elapsed < d) : s.retryDue = s := by
  have hfab : ({ s with fab := { s.fab with retry := [(d, q)] } } : State) = s := by rw [← hretry]
  simp [State.retryDue, hretry, Nat.not_le.mpr hd, hfab, hwait, State.barPump]

/-- The state once the one waiting request has left the list. -/
def State.retryTaken (s : State) : State := { s with fab := { s.fab with retry := [] } }

/-- Once it is due it is issued again. -/
theorem State.retryDue_due (hd : d ≤ s.elapsed) (hwait : (s.retryTaken.reissue q).pcie.waiting = []) :
    s.retryDue = s.retryTaken.reissue q := by
  unfold State.retryTaken at hwait ⊢
  simp [State.retryDue, hretry, hd, hwait, State.barPump]

end

section
variable (s : State)

/-- A unit that may not issue a request waits again. -/
theorem State.reissue_down {q : Retried} (hup : s.unitUp q.master = false) (hpool : q.pooled = false) : s.reissue q = s.again q := by
  simp [State.reissue, hup, hpool]

theorem State.reissue_fabric {r : FabReq} (hup : s.unitUp r.master = true) : s.reissue (.fabric r) = s.fabRequest r := by
  simp [State.reissue, Retried.master, hup]

/-- What the pool has taken up it performs, whatever the state of the unit that asked (DEDUCED, log entry 11). -/
theorem State.reissue_pool (r : PoolReq) : s.reissue (.pool r) = s.poolServe r := by
  simp [State.reissue, Retried.pooled]

theorem State.reissue_store {m a : Nat} {l : List Byte} (hup : s.unitUp m = true) : s.reissue (.store m a l) = (s.busWrite m a l).2 := by
  simp [State.reissue, Retried.master, hup]

end

theorem exec_retry {s : State} (hs : s.held = false) : exec .retry s = .next (s.retryDue.dispatch.encDispatch).settle := State.finish_on _ hs

/-- Settles O9: the one waiting request is issued again when it is due, and what that does is read off its kind. That an operation
which the bobbin pool has taken up is performed past a fence is the model's choice (DEDUCED, log entry 11). -/
theorem retryIssuesTheRequestAgain : Obligations.RetryIssuesTheRequestAgain := by
  intro s q d hs hretry hwait
  refine ⟨fun hd => ?early, fun hd => ⟨s.retryDue, exec_retry hs, fun hup hpool => ?down, fun r k hq hup ha hk hon => ?fabric,
    fun r hq => ?pool, fun m a l hq hup => ?store⟩⟩
  case early => rw [exec_retry hs, State.retryDue_early hretry hwait hd]
  case down =>
    have hagain := State.reissue_down s.retryTaken hup hpool
    rw [State.retryDue_due hretry hd (hagain ▸ hwait), hagain]
    rfl
  case fabric =>
    subst hq
    have hqueued := (State.reissue_fabric s.retryTaken hup).trans (State.fabRequest_queued ha hk hon)
    rw [State.fabAccept_eq] at hqueued
    rw [State.retryDue_due hretry hd (hqueued ▸ hwait), hqueued, State.xq_setXq]
    exact ⟨rfl, rfl, rfl⟩
  case pool =>
    subst hq
    have hserve := State.reissue_pool s.retryTaken r
    rw [State.retryDue_due hretry hd (by rw [hserve, State.pcie_of_sansPool (State.sansPool_poolServe ..)]; exact hwait), hserve]
    rfl
  case store =>
    subst hq
    have hstore := State.reissue_store s.retryTaken (a := a) (l := l) hup
    rw [State.retryDue_due hretry hd (by rw [hstore, State.pcie_of_sansPool (State.sansPool_busWrite ..)]; exact hwait), hstore]
    rfl

end Sys2Proof.Machine

/-! # A job on its spindle: headers, bobbins, parsing and readiness -/

namespace Sys2Proof.Machine

open R

/-! ### How the events of a job end -/

section
variable {s : State} (hs : s.held = false)
include hs

/-- An event that both schedulers follow, by the state that it leads to: it comes about once its transfers are answered (R16; that it
leaves the state as it was until then is the model's choice, DEDUCED, log entry 11). -/
theorem endsOnce_dispatched {c : Instr} {t u : State} (hexec : exec c s = s.finishOnce t (fun v => v.dispatch.encDispatch)) (ht : t = u) :
    EndsOnce c s u (fun v => v.dispatch.encDispatch) :=
  EndsOnce.of_finishOnce hs (ht ▸ hexec)

theorem endsOnce_jobStart {k : Fin 16} {f : PicFacts} {t : State} (ht : s.jobStart k f = t) :
    EndsOnce (.jobStart k f) s t (fun v => v.dispatch.encDispatch) := endsOnce_dispatched hs rfl ht

theorem endsOnce_dataArrived {k : Fin 16} {t : State} (ht : s.dataArrived k = t) :
    EndsOnce (.dataArrived k) s t (fun v => v.dispatch.encDispatch) := endsOnce_dispatched hs rfl ht

theorem endsOnce_dataTimeout {k : Fin 16} {f : PicFacts} {t : State} (ht : s.dataTimeout k f = t) :
    EndsOnce (.dataTimeout k f) s t (fun v => v.dispatch.encDispatch) := endsOnce_dispatched hs rfl ht

end

/-- An event whose effect queues no request again comes about at once. -/
theorem EndsOnce.comes {c : Instr} {s t : State} {after : State → State} (h : EndsOnce c s t after) (hfab : t.fab = s.fab) :
    exec c s = .next (after t).settle :=
  h.1 (by rw [hfab])

@[simp] theorem State.modJob_fab (s : State) (k : Nat) (f : RunJob → RunJob) : (s.modJob k f).fab = s.fab := State.modSpd_fab ..

/-! ### Headers, and waiting for host-fed data (R154, R168, R211) -/

section
variable {s : State} {k : Nat} {j : RunJob} {f : PicFacts} (hrun : s.running k = some j)
include hrun

section
variable (hphase : j.phase = .dispatched)
include hphase

/-- The job with the facts that its headers state. -/
def State.headersFound (s : State) (k : Nat) (f : PicFacts) : State := s.modJob k (fun r => { r with facts := f, waitSince := s.elapsed })

/-- The headers are there. -/
theorem State.jobStart_reads (hhas : j.job.chain.has f.headEnd = true) : s.jobStart k f = (s.headersFound k f).jobParse k := by
  simp only [State.jobStart, hrun, hphase, hhas, if_true]
  rfl

/-- They are still being copied. -/
theorem State.jobStart_waits (hhas : j.job.chain.has f.headEnd = false) : s.jobStart k f =
    (s.headersFound k f).modJob k (fun r => { r with phase := .waitData, need := f.headEnd, back := .dispatched }) := by
  simp only [State.jobStart, hrun, hphase, hhas, if_true, Bool.false_eq_true, if_false]
  rfl

end

section
variable (hphase : j.phase = .waitData)
include hphase

theorem State.dataArrived_goesOn (hhas : j.job.chain.has j.need = true) : s.dataArrived k = s.goOn k j := by
  simp only [State.dataArrived, hrun, hphase, hhas, and_self, if_true]

/-- The job with what has arrived when its wait is over: LOSS_AU is recorded. -/
def State.dataCut (s : State) (k : Nat) (j : RunJob) (f : PicFacts) : State :=
  s.modJob k (fun r => { r with causes := r.causes ++ [1], cutOff := true
                                hdr := { r.hdr with covered := ((s.ctx j.job.ctx).parse (s.ctxStd j.job.ctx) f).covered }
                                facts := if j.back = .dispatched then f else r.facts })

theorem State.dataTimeout_late (hlate : (s.spd k).set.dataTo * 1000 < s.waitedNs j) : s.dataTimeout k f = (s.dataCut k j f).goOn k j := by
  simp only [State.dataTimeout, hrun, hphase, hlate, and_self, if_true]
  rfl

end

theorem State.dataTimeout_early (hearly : s.waitedNs j ≤ (s.spd k).set.dataTo * 1000) : s.dataTimeout k f = s := by
  simp only [State.dataTimeout, hrun, Nat.not_lt.mpr hearly, and_false, if_false]

end

/-! ### What the headers lead to (R160, R168, R206, R208) -/

section
variable {s : State} {k : Nat} {j : RunJob} (hcur : (s.spd k).cur = some j)

/-- What the parameter sets in force make of the headers of a job. -/
def State.parsed (s : State) (j : RunJob) : ParseSt := (s.ctx j.job.ctx).parse (s.ctxStd j.job.ctx) j.facts

/-- The state once the headers of the current job have been checked. -/
def State.headersChecked (s : State) (k : Nat) (j : RunJob) : State :=
  (s.modJob k (fun r => { r with causes := j.causes ++ (s.parsed j).causes, hdr := s.parsed j, phase := .parse })).seqCheck k j.job.ctx j.facts

include hcur

theorem State.jobParse_rejected {c : Nat} (hc : ((s.headersChecked k j).ctx j.job.ctx).rejecting = some c) :
    s.jobParse k = (s.headersChecked k j).endJob k outREJECTED c := by
  simp only [State.jobParse, hcur]
  unfold State.headersChecked State.parsed at *
  rw [hc]

section
variable (hnone : ((s.headersChecked k j).ctx j.job.ctx).rejecting = none)
include hnone

/-- A sequence that is not rejected: whether there is a picture to decode, and then whether its headers parse. -/
theorem State.jobParse_accepted : s.jobParse k =
    if j.facts.hasPicture = false ∨ (s.ctx j.job.ctx).skips (s.ctxStd j.job.ctx) j.facts = true then s.headersChecked k j
    else if (s.parsed j).parses = true then (s.headersChecked k j).beginPicture k { j with causes := j.causes ++ (s.parsed j).causes }
    else ((s.headersChecked k j).modJob k (fun r => { r with causes :=
        if (j.causes ++ (s.parsed j).causes).isEmpty then [j.job.chain.gapCause] else j.causes ++ (s.parsed j).causes })).endJob k outDROPPED
      (lowest (if (j.causes ++ (s.parsed j).causes).isEmpty then [j.job.chain.gapCause] else j.causes ++ (s.parsed j).causes)) := by
  simp only [State.jobParse, hcur]
  unfold State.headersChecked State.parsed at *
  rw [hnone]
  simp only [Bool.not_eq_true]

theorem State.jobParse_noPicture (h : j.facts.hasPicture = false ∨ (s.ctx j.job.ctx).skips (s.ctxStd j.job.ctx) j.facts = true) :
    s.jobParse k = s.headersChecked k j := by rw [State.jobParse_accepted hcur hnone, if_pos h]

variable (hpic : j.facts.hasPicture = true) (hskip : (s.ctx j.job.ctx).skips (s.ctxStd j.job.ctx) j.facts = false)
include hpic hskip

theorem State.jobParse_begins (hp : (s.parsed j).parses = true) :
    s.jobParse k = (s.headersChecked k j).beginPicture k { j with causes := j.causes ++ (s.parsed j).causes } := by
  rw [State.jobParse_accepted hcur hnone, if_neg (by simp [hpic, hskip]), if_pos hp]

theorem State.jobParse_drops (hp : (s.parsed j).parses = false) {l : List Nat}
    (hl : l = if (j.causes ++ (s.parsed j).causes).isEmpty then [j.job.chain.gapCause] else j.causes ++ (s.parsed j).causes) :
    s.jobParse k = ((s.headersChecked k j).modJob k (fun r => { r with causes := l })).endJob k outDROPPED (lowest l) := by
  rw [State.jobParse_accepted hcur hnone, if_neg (by simp [hpic, hskip]), if_neg (by simp [hp]), hl]

end

end

theorem State.goOn_dispatched {s : State} {k : Nat} {j : RunJob} (h : j.back = .dispatched) :
    s.goOn k j = (s.modJob k (fun r => { r with waited := s.waitedNs j })).jobParse k := if_pos h

theorem State.goOn_back {s : State} {k : Nat} {j : RunJob} (h : j.back ≠ .dispatched) :
    s.goOn k j = (s.modJob k (fun r => { r with waited := s.waitedNs j })).modJob k (fun r => { r with phase := j.back }) := if_neg h

/-! ### The obligation -/

/-- Settles O50: each event ends through the equation of its case, once its transfers are answered (log entry 11, DEDUCED); that a DROPPED
entry carries the lowest cause, or the cause of the gap, is the model's choice (log entry 39, DEDUCED). -/
theorem jobsReadTheirHeaders : Obligations.JobsReadTheirHeaders := by
  refine ⟨fun s k f j hs hrun hphase => ⟨?_, fun hhas => ?_⟩, fun s k j hs hrun hphase => ⟨fun hhas hfab => ?_, ?_, fun f hearly => ?_⟩,
    fun s k j => ⟨State.goOn_dispatched, State.goOn_back⟩, ?_⟩
  case refine_1 =>
    rintro hhas t rfl
    exact endsOnce_jobStart hs (State.jobStart_reads hrun hphase hhas)
  case refine_2 => exact (endsOnce_jobStart hs (State.jobStart_waits hrun hphase hhas)).comes (by simp [State.headersFound])
  case refine_3 => exact (endsOnce_dataArrived hs (State.dataArrived_goesOn hrun hphase hhas)).1 hfab
  case refine_4 =>
    rintro f u hlate rfl hfab
    exact (endsOnce_dataTimeout hs (State.dataTimeout_late hrun hphase hlate)).1 hfab
  case refine_5 => exact (endsOnce_dataTimeout hs (State.dataTimeout_early hrun hearly)).comes rfl
  case refine_6 =>
    rintro s u k n j p hcur rfl rfl rfl
    refine ⟨fun c hc => State.jobParse_rejected hcur hc, State.jobParse_noPicture hcur, fun hnone hpic hskip => ⟨fun hp => ?_, fun hp l hl => ?_⟩⟩
    · exact State.jobParse_begins hcur hnone hpic hskip hp
    · exact State.jobParse_drops hcur hnone hpic hskip hp hl

end Sys2Proof.Machine

/-! # Picture bobbins, output grains and holds -/

namespace Sys2Proof.Machine

open R

section
variable {s : State} (hs : s.held = false)
include hs

theorem endsOnce_picAllocDone {k : Fin 16} {ws : List PicWrite} {t : State} (ht : s.picAllocDone k ws = t) :
    EndsOnce (.picAllocDone k ws) s t (fun v => v.dispatch.encDispatch) := endsOnce_dispatched hs rfl ht

theorem exec_picAllocTimeout {k : Fin 16} : exec (.picAllocTimeout k) s = .next (((s.picAllocTimeout k).dispatch).encDispatch).settle :=
  State.finish_on _ hs

theorem endsOnce_grainAllocDone {k : Fin 16} {ws : List PicWrite} {t : State} (ht : s.grainDone k ws = t) :
    EndsOnce (.grainAllocDone k ws) s t (fun v => v.encDispatch) := EndsOnce.of_finishOnce hs (by rw [← ht]; rfl)

theorem exec_picHold {n : Fin 128} {w : Word} : exec (.picHold n w) s = .next (s.picHold n w.toNat).settle := State.finish_on _ hs

end

/-! ### The answers to the allocations of a spindle (R168, R174, R200) -/

section
variable {s t : State} {k : Nat} {j : RunJob} {r : PoolRes} (hrun : s.running k = some j) (hphase : j.phase = .waitBobbin)
  (hans : s.takeAnswer (.spdPic k) = (some r, t))
include hrun hphase hans

theorem State.picAllocDone_granted (hr : r.code = 0) (ws : List PicWrite) {i : RunJob}
    (hi : i = { j with phase := .recon, pic := some (r.addr, r.word / 2 ^ 32), bobSize := t.poolSize (t.rd (STC_POOLS_PIC j.job.ctx)) }) :
    s.picAllocDone k ws = ((t.modJob k (fun _ => i)).reconWrites k i ws).2 := by
  simp only [State.picAllocDone, hrun, hphase, hans, hr, hi, if_true]

theorem State.picAllocTimeout_refused (hr : r.code ≠ 0) : s.picAllocTimeout k = t.endJob k outDROPPED 0x0D := by
  simp only [State.picAllocTimeout, hrun, hphase, hans, hr, if_true, if_false]

end

theorem State.grainDone_publishes {s t : State} {k n : Nat} {r : PoolRes} {o : OutReq} {os : List OutReq} {p : Pic} (ws : List PicWrite)
    (hgrain : (s.spd k).grain = some n) (hans : s.takeAnswer (.spdGrain k) = (some r, t)) {u : State}
    (hu : u = t.modSpd k (fun x => { x with grain := none })) (houts : (u.ctx n).outs = o :: os) (hpic : u.picOf n o.dec = some p) :
    s.grainDone k ws =
      ((if r.code = 0 then u.publishGrain n o p r.addr (r.word / 2 ^ 32) ws else u.publish n o p true).pumpAll n).pumpSpd k := by
  subst hu
  simp only [State.grainDone, hgrain, hans, houts, hpic]

/-! ### Holds (R176) -/

section
variable (s : State) (n q : Nat)

/-- The state in which a hold is evaluated: DONE reads 0. -/
def State.holdAsked : State := s.wr (STC_PIC_HOLD_RES_DONE n) 0

/-- The list of the context does not lie where DONE does. -/
theorem State.rd_holdAsked {F : Fld} {i a : Nat} (hF : F.off = 0x00200000 + 0x1000 * n + a + 0x20 * i) (ha : 0x10C < a) :
    (s.holdAsked n).rd F = s.rd F :=
  State.rd_wr_ne _ _ _ _ fun h => by
    have hkey : F.off * 32 + F.lo = (0x00200000 + 0x1000 * n + 0x10C) * 32 + 0 := h
    omega

/-- The reference that the hold asks for. -/
def State.holdRef : Option Bool × State :=
  (s.holdAsked n).askRef mCTX (2 ^ 32 * s.rd (STC_ENT_ADDR_HI n (q % 64)) + s.rd (STC_ENT_ADDR_LO n (q % 64))) (s.rd (STC_ENT_GEN n (q % 64)))

/-- How the answer to a hold is shown; one that has not come is awaited. -/
def State.holdShown (h : Option Bool × State) : State :=
  match h.1 with
  | none => (s.holdAsked n).again (.hold n q)
  | some got => (h.2.wr (STC_PIC_HOLD_RES_HELD n) (b2n got)).wr (STC_PIC_HOLD_RES_DONE n) 1

/-- The list is read as it was when the hold was written. -/
theorem State.picHold_eq : s.picHold n q = s.holdShown n q
    (if s.rd (STC_ENT_OUT_SEQ n (q % 64)) = q ∧ s.rd (STC_ENT_PIC n (q % 64)) = 1 then s.holdRef n q else (some false, s.holdAsked n)) := by
  have hseq := s.rd_holdAsked n (F := STC_ENT_OUT_SEQ n (q % 64)) (i := q % 64) (a := 0x200) rfl (by decide)
  have hpic := s.rd_holdAsked n (F := STC_ENT_PIC n (q % 64)) (i := q % 64) (a := 0x204) rfl (by decide)
  have hhi := s.rd_holdAsked n (F := STC_ENT_ADDR_HI n (q % 64)) (i := q % 64) (a := 0x210) rfl (by decide)
  have hlo := s.rd_holdAsked n (F := STC_ENT_ADDR_LO n (q % 64)) (i := q % 64) (a := 0x20C) rfl (by decide)
  have hgen := s.rd_holdAsked n (F := STC_ENT_GEN n (q % 64)) (i := q % 64) (a := 0x214) rfl (by decide)
  have hcond : ((s.holdAsked n).rd (STC_ENT_OUT_SEQ n (q % 64)) == q && (s.holdAsked n).on (STC_ENT_PIC n (q % 64))) = true ↔
      s.rd (STC_ENT_OUT_SEQ n (q % 64)) = q ∧ s.rd (STC_ENT_PIC n (q % 64)) = 1 := by
    rw [Bool.and_eq_true, beq_iff_eq, State.on_iff, hseq, hpic]
  unfold State.picHold
  change s.holdShown n q (if ((s.holdAsked n).rd (STC_ENT_OUT_SEQ n (q % 64)) == q && (s.holdAsked n).on (STC_ENT_PIC n (q % 64))) = true then
    (s.holdAsked n).askRef mCTX (2 ^ 32 * (s.holdAsked n).rd (STC_ENT_ADDR_HI n (q % 64)) + (s.holdAsked n).rd (STC_ENT_ADDR_LO n (q % 64)))
      ((s.holdAsked n).rd (STC_ENT_GEN n (q % 64))) else (some false, s.holdAsked n)) = _
  simp only [hcond, hhi, hlo, hgen, State.holdRef]

end

/-! ### The obligation -/

/-- Settles O51: each event ends through the equation of its case; an event whose transfer meets RETRY leaves the state as it was, and the
hold joins the list that is asked again (log entry 11, DEDUCED). -/
theorem picturesGetTheirBobbins : Obligations.PicturesGetTheirBobbins := by
  refine ⟨fun s t k j r hs hrun hphase hans => ⟨?_, fun hr => ?_⟩, ?_, fun s n w hs => ⟨fun hno => ?_, fun hseq hpic => ?_⟩⟩
  case refine_1 =>
    rintro hr ws i hi u rfl
    exact endsOnce_picAllocDone hs (State.picAllocDone_granted hrun hphase hans hr ws hi)
  case refine_2 => rw [exec_picAllocTimeout hs, State.picAllocTimeout_refused hrun hphase hans hr]
  case refine_3 =>
    rintro s t k n r o os p ws hs hgrain hans u hu houts hpic v rfl
    exact endsOnce_grainAllocDone hs (State.grainDone_publishes ws hgrain hans hu houts hpic)
  case refine_4 =>
    rw [exec_picHold hs, State.picHold_eq, if_neg (by rwa [not_and_or])]
    rfl
  case refine_5 =>
    rw [exec_picHold hs, State.picHold_eq, if_pos ⟨hseq, hpic⟩]
    refine ⟨fun b hb => ?_, fun hb => ?_⟩
    · simp only [State.holdShown, State.holdRef, State.holdAsked, hb]
    · simp only [State.holdShown, State.holdRef, State.holdAsked, hb]

end Sys2Proof.Machine

/-! # The end of parsing, the cycle budget, the ready picture and yield points -/

namespace Sys2Proof.Machine

open R

section
variable {s : State} (hs : s.held = false)
include hs

theorem endsOnce_parseEnd {k : Fin 16} {p : ParseFacts} {t : State} (ht : s.parseEnd k p = t) :
    EndsOnce (.parseEnd k p) s t (fun v => v.dispatch.encDispatch) := endsOnce_dispatched hs rfl ht

theorem endsOnce_pictureReady {k : Fin 16} {rf : ReconFacts} {t : State} (ht : s.pictureReady k rf = t) :
    EndsOnce (.pictureReady k rf) s t (fun v => v.dispatch.encDispatch) := endsOnce_dispatched hs rfl ht

theorem exec_budgetExhausted {k : Fin 16} {c b r : Nat} {us : List (Nat × Nat)} :
    exec (.budgetExhausted k c b us r) s = .next (s.budgetOut k c b us r).settle := State.finish_on _ hs

theorem exec_yieldDec {y : YieldOp} (hdec : y.m.val < 16) :
    exec (.yieldPointReached y) s = .next (((s.yieldDec y.m y).dispatch).encDispatch).settle :=
  (State.finish_on _ hs).trans (by rw [if_pos hdec])

theorem exec_yieldEnc {y : YieldOp} (henc : 16 ≤ y.m.val) :
    exec (.yieldPointReached y) s = .next ((s.yieldEnc (y.m - 16)).encDispatch).settle :=
  (State.finish_on _ hs).trans (by rw [if_neg (Nat.not_lt.mpr henc)])

end

/-! ### The end of parsing and the cycle budget (R89, R130, R192, R193) -/

section
variable {s : State} {k : Nat} {j : RunJob} (hrun : s.running k = some j)
include hrun

section
variable (hphase : j.phase = .recon)
include hphase

theorem State.parseEnd_recon {p : ParseFacts} (hparsed : j.parsed = false) (hend : (j.job.chain.complete || j.cutOff) = true)
    {o : List Nat × State} (ho : o = s.chainReads k p (s.poolSize (s.rd (STC_POOLS_AU j.job.ctx))) j.job.chain.bytes 0 j.job.chain.bobs) :
    s.parseEnd k p = ((o.2.releaseChain k j.job.chain).modJob k (fun r => withParse r p o.1)).aheadBegin k j.job.ctx := by
  simp only [State.parseEnd, hrun, hphase, hparsed, ho, ← Bool.or_eq_true, hend]
  rfl

end

theorem State.parseEnd_early {p : ParseFacts} (hend : (j.job.chain.complete || j.cutOff) = false) : s.parseEnd k p = s := by
  simp [State.parseEnd, hrun, ← Bool.or_eq_true, hend]

section
variable {c b r : Nat} {us : List (Nat × Nat)} (hlead : (s.spd k).gangLead = 0)
include hlead

theorem State.budgetOut_within (hc : c ≤ allowance (s.spd k).set j.facts.chroma b us) : s.budgetOut k c b us r = s := by
  simp only [State.budgetOut, hlead, if_true, hrun, Nat.not_lt.mpr hc, and_false, if_false]

/-- The part of a spindle that leads is the part 0 of its job. -/
theorem State.budgetOut_over (hphase : j.phase = .recon) (hcut : j.cut.contains 0 = false)
    (hc : allowance (s.spd k).set j.facts.chroma b us < c) {d : Bool} {l : List Nat}
    (hd : d = (j.parsed || !j.ganged || j.serial || decide (1 ≤ j.cut.length)))
    (hl : l = j.conc ++ (j.lastUnits 0 r).filter (fun u => !j.conc.contains u)) :
    s.budgetOut k c b us r = (if d = true ∧ j.parsed = false then s.releaseChain k j.job.chain else s).modJob k (fun x => { x with
      parsed := d, budget := true, cut := 0 :: j.cut, causes := x.causes ++ [0x0B], conc := l, damaged := l.length }) := by
  have hlen : decide (2 ≤ (0 :: j.cut).length) = decide (1 ≤ j.cut.length) := by simp
  simp only [State.budgetOut, hlead, if_true, hrun, hphase, Nat.sub_self, hcut, hc, hlen, Bool.false_eq_true, not_false_eq_true, true_or,
    and_self, ← hd, ← hl, Bool.not_eq_true]

end

/-! ### The ready picture (R96, R97, R168) -/

theorem State.pictureReady_done {w : State} {i : RunJob} {pic : Nat × Nat} {rf : ReconFacts} (hpic : j.pic = some pic) (hphase : j.phase = .recon)
    (hparsed : j.parsed = true) (hcancel : (s.spd k).cancel = false) (hw : s.reconWrites k j rf.writes = (true, w))
    (hi : (w.spd k).cur = some i) (hmem : rf.memError = false) (hpath : w.pathCode pic.1 ≤ 1) (hcauses : i.causes = []) :
    s.pictureReady k rf = (((((((w.step8 k rf.cycles j pic []).pumpAll j.job.ctx).settlePics j.job.ctx).vacate k).modCtx j.job.ctx
      (fun c => { c with busyOn := 0 })).aheadEnd k false).drainEnd j.job.ctx) := by
  have hgood : (rf.memError || decide (1 < w.pathCode pic.1)) = false := by
    rw [hmem, Bool.false_or, decide_eq_false (Nat.not_lt.mpr hpath)]
  simp only [State.pictureReady, hrun, hpic, hphase, hparsed, hcancel, hw, hi, hgood, Option.getD_some, hcauses, Bool.false_eq_true,
    not_false_eq_true, and_self, if_true, if_false, List.append_nil, List.any_nil]

end

/-! ### Yield points of a decode spindle (R58, R85, R93) -/

section
variable {s : State} {y : YieldOp} {k : Nat} {j : RunJob} (hwork : s.working k = some j)
include hwork

theorem State.yieldDec_parked (hphase : j.phase = .waitBobbin) (hwait : s.drainsJob k j = false ∨ s.picParked k = true) : s.yieldDec k y = s := by
  simp only [State.yieldDec, hwork]
  exact if_pos ⟨hphase, by rcases hwait with h | h <;> simp [h]⟩

section
variable (hphase : j.phase ≠ .waitBobbin)
include hphase

theorem State.yieldDec_cancelled (hc : (s.spd k).cancel = true) : s.yieldDec k y = s.endJob k outABORTED 0x15 := by
  simp only [State.yieldDec, hwork, hphase, false_and, if_false, hc, if_true]

variable (hc : (s.spd k).cancel = false)
include hc

theorem State.yieldDec_drains (hd : s.drainsJob k j = true) : s.yieldDec k y = s.modSpd k (fun r => { r with held := true }) := by
  simp only [State.yieldDec, hwork, hphase, false_and, if_false, hc, hd, if_true, Bool.false_eq_true]

variable (hd : s.drainsJob k j = false)
include hd

theorem State.yieldDec_preempted (hp : (s.spd k).preempt = true) (hroom : (s.spd k).suspended.length < 8) : s.yieldDec k y = s.suspend k j := by
  simp only [State.yieldDec, hwork, hphase, false_and, if_false, hc, hd, hp, hroom, and_self, if_true, Bool.false_eq_true]

theorem State.yieldDec_passes (hp : (s.spd k).preempt = false) : s.yieldDec k y = s.passYield k y := by
  simp only [State.yieldDec, hwork, hphase, false_and, if_false, hc, hd, hp, Bool.false_eq_true]

end

/-- A job whose island does not drain runs. -/
theorem State.running_of_working (hd : s.drainsJob k j = false) : s.running k = some j := by simp [State.running, hwork, hd]

/-- The host-fed data beyond the yield point are still being copied (R154). -/
theorem State.passYield_waits (hd : s.drainsJob k j = false) (hlead : (s.spd k).gangLead = 0) (hgang : j.ganged = false)
    (hphase : j.phase = .parse ∨ j.phase = .recon) (hparsed : j.parsed = false) (hcut : j.cutOff = false) (hhas : j.job.chain.has y.need = false) :
    s.passYield k y = s.modJob k (fun r => { r with phase := .waitData, need := y.need, back := j.phase, waitSince := s.elapsed }) := by
  simp only [State.passYield, hlead, if_true, State.running_of_working hwork hd, hgang, hphase, hparsed, hcut, hhas, Bool.false_eq_true, false_and,
    if_false, not_false_eq_true, and_self]

end

/-! ### Yield points of an encode spindle (R35, R58) -/

section
variable {s : State} {k : Nat}

theorem State.yieldEnc_drains (hf : s.fenced (16 + k) = false) (hisl : s.isl (16 + k) = islDRAINING)
    (hstop : ((s.spe k).cur.map (·.stop)).getD false = false) (hwork : ((s.spe k).cur.isSome || (s.spe k).stripe.isSome) = true) :
    s.yieldEnc k = s.modSpe k (fun r => { r with held := true }) := by
  simp [State.yieldEnc, hf, hisl, hstop, hwork]

theorem State.yieldEnc_stopped {j : EncJob} (hf : s.fenced (16 + k) = false) (hcur : (s.spe k).cur = some j) (hstop : j.stop = true) :
    s.yieldEnc k = s.encStopped k j := by
  simp [State.yieldEnc, hf, hcur, hstop]

end

/-! ### The obligation -/

/-- Settles O52: the end of parsing, the budget, the ready picture and the yield points, each through the equation of its case. That an
event leaves the state as it was while a transfer meets RETRY, which yield points WAIT_BOBBIN has, and the order of the tests at one are
the model's choices (DEDUCED, log entries 11, 38 and 69). -/
theorem parsingYieldingAndReadiness : Obligations.ParsingYieldingAndReadiness := by
  refine ⟨fun s k j p hs hrun hparsed hphase => ⟨?_, fun hend => ?_⟩,
    fun s k j c b r us hs hlead hrun hphase hcut => ⟨fun hc d l hd hl => ?_, fun hc => ?_⟩, ?_,
    fun s y j hs hdec hwork => ⟨fun hphase hwait => ?_, fun hphase => ⟨fun hc => ?_, fun hc hd => ?_, fun hc hd hp hroom => ?_, ?_⟩⟩,
    fun s y hs henc hf => ?_⟩
  case refine_1 =>
    rintro hend o t ho rfl
    exact endsOnce_parseEnd hs (State.parseEnd_recon hrun hphase hparsed hend ho)
  case refine_2 => exact (endsOnce_parseEnd hs (State.parseEnd_early hrun hend)).comes rfl
  case refine_3 => rw [exec_budgetExhausted hs, State.budgetOut_over hrun hlead hphase hcut hc hd hl]
  case refine_4 => rw [exec_budgetExhausted hs, State.budgetOut_within hrun hlead hc]
  case refine_5 =>
    rintro s w k j i pic rf hs hrun hpic hphase hparsed hcancel hw hi hmem hpath hcauses t ht
    exact endsOnce_pictureReady hs ((State.pictureReady_done hrun hpic hphase hparsed hcancel hw hi hmem hpath hcauses).trans ht.symm)
  case refine_6 => rw [exec_yieldDec hs hdec, State.yieldDec_parked hwork hphase hwait]
  case refine_7 => rw [exec_yieldDec hs hdec, State.yieldDec_cancelled hwork hphase hc]
  case refine_8 => rw [exec_yieldDec hs hdec, State.yieldDec_drains hwork hphase hc hd]
  case refine_9 => rw [exec_yieldDec hs hdec, State.yieldDec_preempted hwork hphase hc hd hp hroom]
  case refine_10 =>
    intro hc hd hp hlead hgang hph hparsed hcut hhas
    rw [exec_yieldDec hs hdec, State.yieldDec_passes hwork hphase hc hd hp, State.passYield_waits hwork hd hlead hgang hph hparsed hcut hhas]
  case refine_11 =>
    have hm : 16 + (y.m.val - 16) = y.m.val := by omega
    rw [← hm] at hf
    refine ⟨fun hisl hstop hsome => ?_, fun j hcur hstop => ?_⟩
    · rw [← hm] at hisl
      rw [exec_yieldEnc hs henc, State.yieldEnc_drains hf hisl hstop hsome]
    · rw [exec_yieldEnc hs henc, State.yieldEnc_stopped hf hcur hstop]

end Sys2Proof.Machine

/-! # Encode spindles: bobbins, coded pictures, carding -/

namespace Sys2Proof.Machine

open R

section
variable {s : State} (hs : s.held = false) {k : Fin 4}
include hs

theorem endsOnce_encAllocDone {t : State} (ht : s.encGrant k = t) : EndsOnce (.encAllocDone k) s t := EndsOnce.of_finishOnce hs (by rw [← ht]; rfl)

theorem endsOnce_encPicDone {c : CodedFacts} {t : State} (ht : s.encCoded k c = t) : EndsOnce (.encPicDone k c) s t :=
  EndsOnce.of_finishOnce hs (by rw [← ht]; rfl)

theorem endsOnce_cardStripeDone {t : State} (ht : (if s.fenced (0x10 + k.val) ∨ (s.spe k).held then s else s.stripeDone k) = t) :
    EndsOnce (.cardStripeDone k) s t := EndsOnce.of_finishOnce hs (by rw [← ht]; rfl)

theorem exec_encAllocTimeout : exec (.encAllocTimeout k) s = .next (s.encTimeout k).encDispatch.settle := State.finish_on _ hs

theorem exec_cardSubmit (hi : Word) :
    exec (.cardSubmit hi) s = .next (s.cardSubmit (s.wrp.hold.classes.contains 3) hi.toNat).encDispatch.settle := State.finish_on _ hs

end

/-! ### The record of an encode spindle -/

section
variable (s : State) (k : Nat)

@[simp] theorem State.showSpe_spe : (s.showSpe k).spe = s.spe := by
  unfold State.showSpe
  dsimp only
  split <;> rfl

@[simp] theorem State.modSpe_spe_same (f : Spe → Spe) : (s.modSpe k f).spe k = f (s.spe k) := by
  rw [State.modSpe, State.showSpe_spe]
  exact smGet_smSet_same ..

end

/-! ### The answers to the allocations of a picture (R247, R258, R261) -/

section
variable {s t : State} {k : Nat} {j : EncJob} {r : PoolRes}

theorem State.encGrant_stays (h : (s.spe k).held = true ∨ s.unitUp (0x10 + k) = false) : s.encGrant k = s := by
  have hstop : ((s.spe k).held : Prop) ∨ ¬ s.unitUp (0x10 + k) := by simpa using h
  unfold State.encGrant
  split
  · rfl
  · exact if_pos hstop

section
variable (hcur : (s.spe k).cur = some j)
include hcur

section
variable (hheld : (s.spe k).held = false) (hup : s.unitUp (0x10 + k) = true) (hr : r.code = 0)
include hheld hup hr

/-- The bobbin for the reconstruction. -/
def State.encReconGiven (t : State) (k : Nat) (r : PoolRes) : State :=
  t.modSpe k (fun p => { p with cur := p.cur.map (fun x => { x with recon := some (r.addr, r.word / 2 ^ 32), phase := .waitOut }) })

/-- Another output bobbin. -/
def State.encOutGiven (t : State) (k : Nat) (r : PoolRes) : State :=
  t.modSpe k (fun p => { p with cur := p.cur.map (fun x => { x with outs := x.outs ++ [(r.addr, r.word / 2 ^ 32)] }) })

theorem State.encGrant_recon (hphase : j.phase = .waitRecon) (hans : s.takeAnswer (.encRecon k) = (some r, t)) :
    s.encGrant k = (t.encReconGiven k r).encAsk k ((t.encReconGiven k r).rd (ENC_POOLS_OUT j.session)) (.encOut k) := by
  simp only [State.encGrant, hcur, hheld, hup, hphase, hans, hr, Bool.false_eq_true, not_true, or_self, if_true, if_false]
  rfl

theorem State.encGrant_out (hphase : j.phase = .waitOut) (hans : s.takeAnswer (.encOut k) = (some r, t)) :
    s.encGrant k = (t.encOutGiven k r).encProceed k := by
  simp only [State.encGrant, hcur, hheld, hup, hphase, hans, hr, Bool.false_eq_true, not_true, or_self, if_true, if_false]
  rfl

end

theorem State.encTimeout_recon (hphase : j.phase = .waitRecon) (hfail : s.pool.done.any (fun r => r.forWhom == .encRecon k && r.code != 0) = true) :
    s.encTimeout k = (s.encLost k j).encDrainEnd j.session := by
  simp only [State.encTimeout, hcur, hphase, hfail, and_self, true_or, if_true]

section
variable (hphase : j.phase = .waitOut)
include hphase

theorem State.encTimeout_out (hfail : s.pool.done.any (fun r => r.forWhom == .encOut k && r.code != 0) = true) :
    s.encTimeout k = (s.encLost k j).encDrainEnd j.session := by
  simp only [State.encTimeout, hcur, hphase, hfail, and_self, or_true, if_true]

theorem State.encTimeout_waits (hfail : s.pool.done.any (fun r => r.forWhom == .encOut k && r.code != 0) = false) : s.encTimeout k = s := by
  simp [State.encTimeout, hcur, hphase, hfail]

end

end

section
variable (hcur : (s.spe k).cur = none)
include hcur

theorem State.encGrant_idle : s.encGrant k = s := by simp only [State.encGrant, hcur]

theorem State.encTimeout_idle : s.encTimeout k = s := by simp only [State.encTimeout, hcur]

theorem State.encCoded_idle (c : CodedFacts) : s.encCoded k c = s := by simp only [State.encCoded, hcur]

end

end

/-! ### Coded pictures (R58, R258, R259) -/

section
variable {s : State} {k : Nat} {j : EncJob}

section
variable (hcur : (s.spe k).cur = some j) {c : CodedFacts} (hfacts : j.facts = some c)
include hcur hfacts

/-- The output bobbins that the coded bytes of a picture need. -/
def State.outsNeeded (s : State) (j : EncJob) (c : CodedFacts) : Nat :=
  max 1 (cdiv (s.codedData (s.rateControl j c) c).1.length (s.outSize j.session - 64))

theorem State.encProceed_finishes (hfits : s.outsNeeded j c ≤ j.outs.length) : s.encProceed k = s.encFinish k j c := by
  simp only [State.encProceed, hcur, hfacts]
  exact if_pos hfits

/-- The picture waits for another output bobbin. -/
def State.encWaitsOut (s : State) (k : Nat) : State := s.modSpe k (fun p => { p with cur := p.cur.map (fun x => { x with phase := .waitOut }) })

theorem State.encProceed_asks (hlacks : j.outs.length < s.outsNeeded j c) :
    s.encProceed k = (s.encWaitsOut k).encAsk k ((s.encWaitsOut k).rd (ENC_POOLS_OUT j.session)) (.encOut k) := by
  simp only [State.encProceed, hcur, hfacts]
  exact if_neg (Nat.not_le.mpr hlacks)

end

section
variable (hcur : (s.spe k).cur = some j) (c : CodedFacts)
include hcur

/-- What coding brought, recorded with the picture. -/
def State.encFactsIn (s : State) (k : Nat) (c : CodedFacts) : State := s.modSpe k (fun p => { p with cur := p.cur.map (fun x => { x with facts := some c }) })

theorem State.encFactsIn_cur : ((s.encFactsIn k c).spe k).cur = some { j with facts := some c } := by
  rw [State.encFactsIn, State.modSpe_spe_same, hcur]
  rfl

theorem State.encCoded_proceeds (hstop : j.stop = false) (hphase : j.phase = .coding) (hheld : (s.spe k).held = false)
    (hfence : s.fenced (0x10 + k) = false) : s.encCoded k c = (s.encFactsIn k c).encProceed k := by
  simp only [State.encCoded, hcur, hstop, hphase, hheld, hfence, Bool.false_eq_true, false_and, if_false, not_false_eq_true, and_self, if_true]
  rfl

theorem State.encCoded_stopped (hstop : j.stop = true) (hfence : s.fenced (0x10 + k) = false) : s.encCoded k c = s.encStopped k j := by
  simp only [State.encCoded, hcur, hstop, hfence, Bool.false_eq_true, not_false_eq_true, and_self, if_true]

end

theorem State.encCoded_stays (c : CodedFacts)
    (h : s.fenced (0x10 + k) = true ∨ (s.spe k).held = true ∧ (∀ j, (s.spe k).cur = some j → j.stop = false)) : s.encCoded k c = s := by
  cases hcur : (s.spe k).cur with
  | none => exact State.encCoded_idle hcur c
  | some j =>
    rcases h with hf | ⟨hheld, hno⟩
    · simp [State.encCoded, hcur, hf]
    · simp [State.encCoded, hcur, hheld, hno j hcur]

end

/-! ### Carding (R263, R272) -/

section
variable {s : State} {hi : Nat}

theorem State.cardSubmit_queues (hroom : s.card.jobs.length < 16) {j : CardJob}
    (hj : j = { num := s.card.num, addr := 2 ^ 32 * (hi % 512) + s.rd SPE_CARD_SUBMIT_LO }) :
    s.cardSubmit false hi = ({ s with card := { jobs := s.card.jobs ++ [j], num := s.card.num + 1 } } : State).showCard :=
  hj ▸ if_neg (by simpa using hroom)

theorem State.cardSubmit_lost {h : Bool} (hfull : 16 ≤ s.card.jobs.length ∨ h = true) : s.cardSubmit h hi = s.wr SPE_CARD_STATUS_SUBMIT_LOST 1 :=
  if_pos hfull

theorem State.stripeDone_runs {k : Nat} {g : Stripe} {j : CardJob} (hstripe : (s.spe k).stripe = some g)
    (hjob : s.card.jobs.find? (fun x => x.num == g.job) = some j) :
    let o := s.cardStripe (0x10 + k) (cardDesc j.desc) g.idx
    let n := if (cardDesc j.desc).type = 0 then 0 else min (cardDesc j.desc).units ((g.idx + 1) * 4096) - g.idx * 4096
    s.stripeDone k = (((o.2.2.modSpe k (fun x => { x with stripe := none })).bump (SPE_STRIPES k)).countUnit 0x052 (0x10 + k) n).stripeEnd
      (0x10 + k) g.job (if o.1 then 2 else 0) o.2.1 := by
  simp only [State.stripeDone, hstripe, hjob]

end

/-! ### The obligation -/

/-- Settles O57: each event by the equation of its case. That ENC_ALLOC_DONE, ENC_PIC_DONE and CARD_STRIPE_DONE leave the state as it was
while a transfer meets RETRY is the model's choice (log entry 11, DEDUCED). -/
theorem picturesAreCodedAndCarded : Obligations.PicturesAreCodedAndCarded := by
  intro s k hs
  refine ⟨fun j r t hcur hheld hup hphase hans hr => ?_, fun j r t hcur hheld hup hphase hans hr => ?_, fun h => ?_, fun hcur => ⟨?_, ?_, fun c => ?_⟩,
    fun j hcur hphase => ⟨fun hfail => ?_, fun hfail => ?_⟩, fun j hcur hphase hfail => ?_,
    fun j c hcur hstop hphase hheld hfence => ⟨fun hfits => ?_, fun hlacks => ?_⟩, fun j c hcur hstop hfence => ?_, fun c h => ?_,
    fun hi hroom hhold => ?_, fun hi hfull => ?_, fun g j hfence hheld hstripe hjob => ?_, fun h => ?_⟩
  case refine_1 => exact endsOnce_encAllocDone hs (State.encGrant_recon hcur hheld hup hr hphase hans)
  case refine_2 => exact endsOnce_encAllocDone hs (State.encGrant_out hcur hheld hup hr hphase hans)
  case refine_3 => exact (endsOnce_encAllocDone hs (State.encGrant_stays h)).comes rfl
  case refine_4 => exact (endsOnce_encAllocDone hs (State.encGrant_idle hcur)).comes rfl
  case refine_5 => rw [exec_encAllocTimeout hs, State.encTimeout_idle hcur]
  case refine_6 => exact (endsOnce_encPicDone hs (State.encCoded_idle hcur c)).comes rfl
  case refine_7 => rw [exec_encAllocTimeout hs, State.encTimeout_out hcur hphase hfail]
  case refine_8 => rw [exec_encAllocTimeout hs, State.encTimeout_waits hcur hphase hfail]
  case refine_9 => rw [exec_encAllocTimeout hs, State.encTimeout_recon hcur hphase hfail]
  case refine_10 =>
    exact endsOnce_encPicDone hs ((State.encCoded_proceeds hcur c hstop hphase hheld hfence).trans
      (State.encProceed_finishes (State.encFactsIn_cur hcur c) rfl hfits))
  case refine_11 =>
    exact endsOnce_encPicDone hs ((State.encCoded_proceeds hcur c hstop hphase hheld hfence).trans
      (State.encProceed_asks (j := { j with facts := some c }) (State.encFactsIn_cur hcur c) rfl hlacks))
  case refine_12 => exact endsOnce_encPicDone hs (State.encCoded_stopped hcur c hstop hfence)
  case refine_13 => exact (endsOnce_encPicDone hs (State.encCoded_stays c h)).comes rfl
  case refine_14 => rw [exec_cardSubmit hs, hhold, State.cardSubmit_queues hroom rfl]
  case refine_15 => rw [exec_cardSubmit hs, State.cardSubmit_lost hfull]
  case refine_16 =>
    exact endsOnce_cardStripeDone hs ((if_neg (by simp [hfence, hheld])).trans (State.stripeDone_runs hstripe hjob))
  case refine_17 => exact (endsOnce_cardStripeDone hs (if_pos h)).comes rfl

end Sys2Proof.Machine

/-! # Mailbox messages and their answers -/

namespace Sys2Proof.Machine

open R

/-! ### The fields of a mailbox (R535) -/

/-- The mailboxes lie above every register that shows a condition. -/
theorem State.settle_mailbox (s : State) {G : Fld} (h : 0x01301000 ≤ G.key / 32) : s.settle.rd G = s.rd G := s.rd_settle' G (by omega)

section
variable (t i : Nat)

theorem mbFree_mailbox : 0x01301000 ≤ (SEC_MB_CTL_FREE t).key / 32 := by simp only [Fld.key, SEC_MB_CTL_FREE]; omega
theorem mbInValid_mailbox : 0x01301000 ≤ (SEC_MB_CTL_IN_VALID t).key / 32 := by simp only [Fld.key, SEC_MB_CTL_IN_VALID]; omega
theorem mbLost_mailbox : 0x01301000 ≤ (SEC_MB_CTL_LOST t).key / 32 := by simp only [Fld.key, SEC_MB_CTL_LOST]; omega
theorem mbIn_mailbox : 0x01301000 ≤ (SEC_MB_IN t i).key / 32 := by simp only [Fld.key, SEC_MB_IN]; omega

variable {i}

theorem mbOut_ne_free (hi : i < 16) : (SEC_MB_OUT t i).key ≠ (SEC_MB_CTL_FREE t).key := by simp only [Fld.key, SEC_MB_OUT, SEC_MB_CTL_FREE]; omega
theorem mbOut_ne_out {j : Nat} (hij : i ≠ j) : (SEC_MB_OUT t i).key ≠ (SEC_MB_OUT t j).key := by simp only [Fld.key, SEC_MB_OUT]; omega
theorem mbIn_ne_in {j : Nat} (hij : i ≠ j) : (SEC_MB_IN t i).key ≠ (SEC_MB_IN t j).key := by simp only [Fld.key, SEC_MB_IN]; omega
theorem mbIn_ne_inValid : (SEC_MB_IN t i).key ≠ (SEC_MB_CTL_IN_VALID t).key := by
  simp only [Fld.key, SEC_MB_IN, SEC_MB_CTL_IN_VALID]; omega
theorem mbFree_ne_in (hi : i < 16) : (SEC_MB_CTL_FREE t).key ≠ (SEC_MB_IN t i).key := by simp only [Fld.key, SEC_MB_IN, SEC_MB_CTL_FREE]; omega
theorem mbFree_ne_inValid : (SEC_MB_CTL_FREE t).key ≠ (SEC_MB_CTL_IN_VALID t).key := by simp only [Fld.key, SEC_MB_CTL_IN_VALID, SEC_MB_CTL_FREE]; omega
theorem mbInValid_ne_free : (SEC_MB_CTL_IN_VALID t).key ≠ (SEC_MB_CTL_FREE t).key := (mbFree_ne_inValid t).symm
theorem mbInValid_ne_out : (SEC_MB_CTL_IN_VALID t).key ≠ (SEC_MB_OUT t i).key := by
  simp only [Fld.key, SEC_MB_OUT, SEC_MB_CTL_IN_VALID]; omega

end

/-! ### Replies -/

section
variable (s : State) (t : Nat) (l : List Nat)

@[simp] theorem State.placeReply_sec : (s.placeReply t l).sec = s.sec :=
  State.each_keeps (·.sec) (List.range 16) (fun i u => u.wr (SEC_MB_IN t i) ((l[i]?).getD 0)) (fun _ _ _ => rfl) s

/-- A reply is shown. -/
@[simp] theorem State.placeReply_inValid : (s.placeReply t l).rd (SEC_MB_CTL_IN_VALID t) = 1 := State.rd_wr_same ..

/-- Its first word. -/
@[simp] theorem State.placeReply_in_zero : (s.placeReply t l).rd (SEC_MB_IN t 0) = (l[0]?).getD 0 % 2 ^ 32 := by
  rw [State.placeReply, State.rd_wr_ne _ _ _ _ (mbIn_ne_inValid t), List.range_succ_eq_map, State.each_cons,
    State.each_keeps (·.rd (SEC_MB_IN t 0))]
  · exact State.rd_wr_same ..
  · intro i u hi
    obtain ⟨j, -, rfl⟩ := List.mem_map.mp hi
    exact State.rd_wr_ne _ _ _ _ (mbIn_ne_in t (Nat.succ_ne_zero j).symm)

/-- Whether its mailbox is FREE does not change. -/
@[simp] theorem State.placeReply_free : (s.placeReply t l).rd (SEC_MB_CTL_FREE t) = s.rd (SEC_MB_CTL_FREE t) := by
  rw [State.placeReply, State.rd_wr_ne _ _ _ _ (mbFree_ne_inValid t), State.each_keeps (·.rd (SEC_MB_CTL_FREE t))]
  exact fun i u hi => State.rd_wr_ne _ _ _ _ (mbFree_ne_in t (List.mem_range.mp hi))

variable {s}

/-- A reply to a mailbox whose IN is empty is placed there. -/
theorem State.reply_places {m : Mail} (hbox : m.box < 16) (hin : s.rd (SEC_MB_CTL_IN_VALID m.box) ≠ 1) (status result : Nat) :
    s.reply m status result = s.placeReply m.box [m.word 0 % 65536 + 65536 * status, result] := by
  rw [State.reply, if_neg (Nat.not_le.mpr hbox), if_neg (by rwa [State.on_iff])]

end

section
variable {s : State} {m : Mail}

theorem State.takeMail_mailbox (hbox : m.box < 16) :
    s.takeMail m = ({ s with sec := { s.sec with mail := s.sec.mail.drop 1 } } : State).wr (SEC_MB_CTL_FREE m.box) 1 := by
  rw [State.takeMail, decide_eq_true hbox, State.iff_true]

/-! ### Which messages are answered without being executed (Tables 15-4 and 15-11) -/

theorem State.quickAnswer_none (hlo : 1 ≤ m.cmd) (hhi : m.cmd ≤ 8) (hhalt : s.sec.halting = false) : s.quickAnswer m = none := by
  rw [State.quickAnswer, if_neg (by omega), if_neg (by simp [hhalt])]

theorem State.quickAnswer_badCmd (h : m.cmd = 0 ∨ 8 < m.cmd) : s.quickAnswer m = some stBADCMD := if_pos h

end

/-- The message in front is answered when it is not executed. -/
def State.mailStep (t : State) : State :=
  match t.sec.mail with
  | [] => t
  | m :: _ => match t.quickAnswer m with | some c => (t.takeMail m).reply m c 0 | none => t

section
variable {s : State}

theorem State.mailStep_nil (h : s.sec.mail = []) : s.mailStep = s := by simp only [State.mailStep, h]

section
variable {m : Mail} {l : List Mail} (hmail : s.sec.mail = m :: l)
include hmail

theorem State.mailStep_waits (hq : s.quickAnswer m = none) : s.mailStep = s := by simp only [State.mailStep, hmail, hq]

theorem State.mailStep_answers {c : Nat} (hq : s.quickAnswer m = some c) : s.mailStep = (s.takeMail m).reply m c 0 := by
  simp only [State.mailStep, hmail, hq]

end

theorem State.mailSettle_eq : s.mailSettle = s.each (List.range 17) (fun _ t => t.mailStep) := rfl

/-- Nothing in front is answered. -/
theorem State.mailSettle_fixed (h : s.mailStep = s) : s.mailSettle = s := State.each_fixed _ _ _ fun _ _ => h

/-- One message in front is answered, and no other. -/
theorem State.mailSettle_once (h : s.mailStep.mailStep = s.mailStep) : s.mailSettle = s.mailStep := by
  rw [State.mailSettle_eq, List.range_succ_eq_map, State.each_cons]
  exact State.each_fixed _ _ _ fun _ _ => h

end

/-! ### Sending a message -/

section
variable (s : State) (t w : Nat)

/-- OUT word 0 is written and the mailbox is not FREE. -/
def State.mailPut : State := (s.wr (SEC_MB_OUT t 0) w).wr (SEC_MB_CTL_FREE t) 0

/-- The message that OUT then holds. -/
def State.mailSent : Mail := { box := t, words := (List.range 16).map (fun i => (s.mailPut t w).rd (SEC_MB_OUT t i)) }

/-- The message stands in the queue by itself. -/
def State.mailAlone : State := { s.mailPut t w with sec := { s.sec with mail := [s.mailSent t w] } }

theorem State.mailSent_word {i : Nat} (hi : i < 16) : (s.mailSent t w).word i = (s.mailPut t w).rd (SEC_MB_OUT t i) := by
  simp [Mail.word, State.mailSent, hi]

theorem State.mailSent_word_zero : (s.mailSent t w).word 0 = w % 2 ^ 32 := by
  rw [State.mailSent_word _ _ _ (by decide), State.mailPut, State.rd_wr_ne _ _ _ _ (mbOut_ne_free t (by decide)), State.rd_wr_same]
  rfl

theorem State.mailSent_word_succ {i : Nat} (hi : i < 15) : (s.mailSent t w).word (i + 1) = s.rd (SEC_MB_OUT t (i + 1)) := by
  rw [State.mailSent_word _ _ _ (by omega), State.mailPut, State.rd_wr_ne _ _ _ _ (mbOut_ne_free t (by omega)),
    State.rd_wr_ne _ _ _ _ (mbOut_ne_out t (Nat.succ_ne_zero i))]

theorem State.mailSent_cmd : (s.mailSent t w).cmd = w % 256 := by
  rw [Mail.cmd, State.mailSent_word_zero]
  omega

theorem State.mailPut_inValid : (s.mailPut t w).rd (SEC_MB_CTL_IN_VALID t) = s.rd (SEC_MB_CTL_IN_VALID t) := by
  rw [State.mailPut, State.rd_wr_ne _ _ _ _ (mbInValid_ne_free t), State.rd_wr_ne _ _ _ _ (mbInValid_ne_out t)]

theorem State.mailAlone_free : (s.mailAlone t w).rd (SEC_MB_CTL_FREE t) = 0 :=
  ((s.wr (SEC_MB_OUT t 0) w).rd_wr_same (SEC_MB_CTL_FREE t) 0 :)

/-- The state once the message has been answered at once with BAD_CMD. -/
def State.mailRefused : State :=
  (((s.mailAlone t w).takeMail (s.mailSent t w)).placeReply t [(s.mailSent t w).word 0 % 65536 + 65536 * stBADCMD, 0])

theorem State.mailAlone_taken (ht : t < 16) : (s.mailAlone t w).takeMail (s.mailSent t w) =
    ({ s.mailAlone t w with sec := { s.sec with mail := [] } } : State).wr (SEC_MB_CTL_FREE t) 1 :=
  State.takeMail_mailbox ht

variable {s t w}

theorem State.mailSend_lost (hfree : s.rd (SEC_MB_CTL_FREE t) ≠ 1) : s.mailSend t w = s.wr (SEC_MB_CTL_LOST t) 1 :=
  if_neg (by rwa [State.on_iff])

section
variable (hfree : s.rd (SEC_MB_CTL_FREE t) = 1) (hmail : s.sec.mail = [])
include hfree hmail

theorem State.mailSend_alone : s.mailSend t w = (s.mailAlone t w).mailSettle := by
  rw [State.mailSend, if_pos (by rwa [State.on_iff])]
  change State.mailSettle { s.mailPut t w with sec := { s.sec with mail := s.sec.mail ++ [s.mailSent t w] } } = _
  rw [hmail]
  rfl

/-- A command waits to be executed. -/
theorem State.mailSend_waits (hlo : 1 ≤ w % 256) (hhi : w % 256 ≤ 8) (hhalt : s.sec.halting = false) : s.mailSend t w = s.mailAlone t w := by
  rw [State.mailSend_alone hfree hmail]
  refine State.mailSettle_fixed (State.mailStep_waits rfl (State.quickAnswer_none ?_ ?_ hhalt))
  · rwa [State.mailSent_cmd]
  · rwa [State.mailSent_cmd]

/-- An unknown command is answered. -/
theorem State.mailSend_refused (ht : t < 16) (hin : s.rd (SEC_MB_CTL_IN_VALID t) ≠ 1) (hbad : w % 256 = 0 ∨ 8 < w % 256) :
    s.mailSend t w = s.mailRefused t w := by
  have hnot : ((s.mailAlone t w).takeMail (s.mailSent t w)).rd (SEC_MB_CTL_IN_VALID t) ≠ 1 := by
    rw [State.mailAlone_taken s t w ht, State.rd_wr_ne _ _ _ _ (mbInValid_ne_free t)]
    exact (s.mailPut_inValid t w).trans_ne hin
  have hstep : (s.mailAlone t w).mailStep = s.mailRefused t w :=
    (State.mailStep_answers rfl (State.quickAnswer_badCmd (by rwa [State.mailSent_cmd]))).trans (State.reply_places (m := s.mailSent t w) ht hnot stBADCMD 0)
  have hempty : (s.mailRefused t w).sec.mail = [] := by
    rw [State.mailRefused, State.placeReply_sec, State.mailAlone_taken s t w ht]
    rfl
  rw [State.mailSend_alone hfree hmail, State.mailSettle_once (by rw [hstep, State.mailStep_nil hempty]), hstep]

end

/-! ### Releasing a reply -/

section
variable (hvalid : s.rd (SEC_MB_CTL_IN_VALID t) = 1)
include hvalid

theorem State.mailRelease_last (hnone : smGet [] s.sec.replies t = []) : s.mailRelease t = s.wr (SEC_MB_CTL_IN_VALID t) 0 := by
  have hnone' : smGet [] (s.wr (SEC_MB_CTL_IN_VALID t) 0).sec.replies t = [] := hnone
  simp only [State.mailRelease, (s.on_iff _).mpr hvalid, if_true, hnone']

theorem State.mailRelease_next {l : List Nat} {r : List (List Nat)} (hwait : smGet [] s.sec.replies t = l :: r) : s.mailRelease t =
    ({ s.wr (SEC_MB_CTL_IN_VALID t) 0 with sec := { s.sec with replies := smSet [] s.sec.replies t r } } : State).placeReply t l := by
  have hwait' : smGet [] (s.wr (SEC_MB_CTL_IN_VALID t) 0).sec.replies t = l :: r := hwait
  simp only [State.mailRelease, (s.on_iff _).mpr hvalid, if_true, hwait']
  rfl

end

end

section
variable {s : State} (hs : s.held = false) (t : Fin 16)
include hs

theorem exec_mailboxSend (w : Word) : exec (.mailboxSend t w) s = .next (s.mailSend t w.toNat).settle := State.finish_on _ hs

theorem exec_mailboxRelease : exec (.mailboxRelease t) s = .next (s.mailRelease t).settle := State.finish_on _ hs

theorem mailboxSend_lost (w : Word) (hfree : s.rd (SEC_MB_CTL_FREE t) ≠ 1) : ∃ u, exec (.mailboxSend t w) s = .next u ∧
    u.rd (SEC_MB_CTL_LOST t) = 1 ∧ RegsKept [SEC_MB_CTL_LOST t] s u ∧ u.sec = s.sec := by
  have hrun := exec_mailboxSend hs t w
  rw [State.mailSend_lost hfree] at hrun
  refine ⟨_, hrun, ?_, .settle (.wr _ _ (by simp) (.refl _ s)), State.settle_sec _⟩
  rw [State.settle_mailbox _ (mbLost_mailbox t), State.rd_wr_same]
  rfl

section
variable (w : Word) (hfree : s.rd (SEC_MB_CTL_FREE t) = 1) (hmail : s.sec.mail = [])
include hfree hmail

theorem mailboxSend_waits (hlo : 1 ≤ w.toNat % 256) (hhi : w.toNat % 256 ≤ 8) (hhalt : s.sec.halting = false) :
    ∃ u m, exec (.mailboxSend t w) s = .next u ∧ u.sec.mail = [m] ∧ m.box = t ∧ m.cmd = w.toNat % 256 ∧
      (∀ i : Fin 15, m.word (i + 1) = s.rd (SEC_MB_OUT t (i + 1))) ∧ u.rd (SEC_MB_CTL_FREE t) = 0 := by
  have hrun := exec_mailboxSend hs t w
  rw [State.mailSend_waits hfree hmail hlo hhi hhalt] at hrun
  refine ⟨_, s.mailSent t w.toNat, hrun, by rw [State.settle_sec]; rfl, rfl, s.mailSent_cmd t _, fun i => s.mailSent_word_succ t _ i.isLt, ?_⟩
  rw [State.settle_mailbox _ (mbFree_mailbox t), State.mailAlone_free]

theorem mailboxSend_refused (hbad : w.toNat % 256 = 0 ∨ 8 < w.toNat % 256) (hin : s.rd (SEC_MB_CTL_IN_VALID t) ≠ 1) :
    ∃ u, exec (.mailboxSend t w) s = .next u ∧ u.sec.mail = [] ∧ u.rd (SEC_MB_CTL_FREE t) = 1 ∧ u.rd (SEC_MB_CTL_IN_VALID t) = 1 ∧
      u.rd (SEC_MB_IN t 0) = w.toNat % 65536 + 65536 * stBADCMD := by
  have hrun := exec_mailboxSend hs t w
  rw [State.mailSend_refused hfree hmail t.isLt hin hbad] at hrun
  refine ⟨_, hrun, ?_, ?_, ?_, ?_⟩
  · rw [State.settle_sec, State.mailRefused, State.placeReply_sec, State.mailAlone_taken _ _ _ t.isLt]
    rfl
  · rw [State.settle_mailbox _ (mbFree_mailbox t), State.mailRefused, State.placeReply_free, State.mailAlone_taken _ _ _ t.isLt, State.rd_wr_same]
    rfl
  · rw [State.settle_mailbox _ (mbInValid_mailbox t), State.mailRefused, State.placeReply_inValid]
  · rw [State.settle_mailbox _ (mbIn_mailbox t 0), State.mailRefused, State.placeReply_in_zero, State.mailSent_word_zero]
    simp only [List.getElem?_cons_zero, Option.getD_some, stBADCMD]
    omega

end

section
variable (hvalid : s.rd (SEC_MB_CTL_IN_VALID t) = 1)
include hvalid

theorem mailboxRelease_last (hnone : smGet [] s.sec.replies t = []) : ∃ u, exec (.mailboxRelease t) s = .next u ∧
    u.rd (SEC_MB_CTL_IN_VALID t) = 0 ∧ RegsKept [SEC_MB_CTL_IN_VALID t] s u ∧ u.sec = s.sec := by
  have hrun := exec_mailboxRelease hs t
  rw [State.mailRelease_last hvalid hnone] at hrun
  refine ⟨_, hrun, ?_, .settle (.wr _ _ (by simp) (.refl _ s)), State.settle_sec _⟩
  rw [State.settle_mailbox _ (mbInValid_mailbox t)]
  exact State.rd_wr_same ..

theorem mailboxRelease_next {l : List Nat} {r : List (List Nat)} (hwait : smGet [] s.sec.replies t = l :: r) :
    ∃ u, exec (.mailboxRelease t) s = .next u ∧ u.rd (SEC_MB_CTL_IN_VALID t) = 1 ∧ u.rd (SEC_MB_IN t 0) = (l[0]?).getD 0 % 2 ^ 32 ∧
      smGet [] u.sec.replies t = r := by
  have hrun := exec_mailboxRelease hs t
  rw [State.mailRelease_next hvalid hwait] at hrun
  refine ⟨_, hrun, ?_, ?_, ?_⟩
  · rw [State.settle_mailbox _ (mbInValid_mailbox t), State.placeReply_inValid]
  · rw [State.settle_mailbox _ (mbIn_mailbox t 0), State.placeReply_in_zero]
  · rw [State.settle_sec, State.placeReply_sec]
    exact smGet_smSet_same ..

end

end

end Sys2Proof.Machine

/-! # Mailbox commands that are executed -/

namespace Sys2Proof.Machine

open R

/-! ### The oldest message is executed -/

section
variable {s : State} {cmd : Nat} {f : Mail → State → Nat × Nat × State}

theorem State.mailRun_none (hmail : s.sec.mail = []) : s.mailRun cmd f = s := by simp only [State.mailRun, hmail]

/-- A message with the command is answered with what its execution gives. -/
theorem State.mailRun_answers {m : Mail} {l : List Mail} (hmail : s.sec.mail = m :: l) (hcmd : m.cmd = cmd) {a b : Nat} {v : State}
    (hf : f m (s.takeMail m) = (a, b, v)) : s.mailRun cmd f = (v.reply m a b).mailSettle := by
  simp only [State.mailRun, hmail, hcmd, if_true, hf]

end

/-! ### What each command gives (Table 15-11) -/

section
variable (m : Mail) (u : State)

theorem State.shutdownCmd_busy (h : u.rd WRP_STATUS_AUTO_RUN = 1 ∨ u.rd WRP_STATUS_BUSY = 1) : u.shutdownCmd m = (stBUSY, 0, u) :=
  if_pos (by simpa [State.on_iff] using h)

theorem State.shutdownCmd_runs (hauto : u.rd WRP_STATUS_AUTO_RUN ≠ 1) (hbusy : u.rd WRP_STATUS_BUSY ≠ 1) :
    u.shutdownCmd m = (stOK, u.shutdownNow.1, u.shutdownNow.2) :=
  if_neg (by simp [State.on_iff, hauto, hbusy])

/-- A start that follows a shutdown first performs it, unless one has been accepted already. -/
theorem State.restartCmd_auto (h : m.word 1 = 0) :
    u.restartCmd m = (stOK, 0, (if u.sec.halting = true then u else u.shutdownNow.2).startDue .auto) := by simp only [State.restartCmd, h]

theorem State.restartCmd_cold (h : m.word 1 = 1) :
    u.restartCmd m = (stOK, 0, ({ u with sec := { u.sec with warm := none } } : State).startDue .cold) := by simp only [State.restartCmd, h]

theorem State.restartCmd_recovery (h : m.word 1 = 2) : u.restartCmd m = (stOK, 0, u.startDue .recovery) := by simp only [State.restartCmd, h]

theorem State.restartCmd_badArg (h : 2 < m.word 1) : u.restartCmd m = (stBADARG, 0, u) := by
  unfold State.restartCmd
  split
  case h_1 h0 => omega
  case h_2 h1 => omega
  case h_3 h2 => omega
  case h_4 => rfl

/-- The counters that ADVANCE selects. -/
def advanceSel (m : Mail) : List Nat := (List.range 8).filter (fun j => bitSet (m.word 1) j)

/-- A selected value lies below its counter. -/
def State.advanceLow (u : State) (m : Mail) : Bool :=
  (advanceSel m).any (fun j => decide (4 ≤ j) && decide (u.advanceTo m j < smGet 0 u.sec.mctr j))

theorem State.advanceCmd_denied (h : u.advanceLow m = true) : u.advanceCmd m = (stDENIED, 0, u) := if_pos h

theorem State.advanceCmd_raises (h : u.advanceLow m = false) : u.advanceCmd m =
    (stOK, 0, u.each (advanceSel m) (fun j t => t.setMctr j (max (smGet 0 t.sec.mctr j) (t.advanceTo m j)))) :=
  if_neg (ne_true_of_eq_false h)

theorem State.ownerProgramCmd_badArg (h : 4 ≤ m.word 1) : u.ownerProgramCmd m = (stBADARG, 0, u) := if_pos h

section
variable (hslot : m.word 1 < 4)
include hslot

theorem State.ownerProgramCmd_denied (hused : u.rd SEC_OWNER_PROGRAMMED / 2 ^ m.word 1 % 2 = 1) : u.ownerProgramCmd m = (stDENIED, 0, u) :=
  (if_neg (Nat.not_le.mpr hslot)).trans (if_pos hused)

section
variable (hfree : u.rd SEC_OWNER_PROGRAMMED / 2 ^ m.word 1 % 2 = 0)
include hfree

theorem State.ownerProgramCmd_failed (herr : (u.readLong 0x38 0 m.addr 64).1 ≠ 0) :
    u.ownerProgramCmd m = (stFAILED, 0, (u.readLong 0x38 0 m.addr 64).2.2) :=
  (if_neg (Nat.not_le.mpr hslot)).trans ((if_neg (by omega)).trans (if_pos herr))

/-- The slot's fuses with the hash that was read. -/
def State.ownerFused (v : State) (n : Nat) (h : List Byte) : State :=
  ({ v with sec := { v.sec with owner := smSet none v.sec.owner n (some h) } } : State).setBit SEC_OWNER_PROGRAMMED n

theorem State.ownerProgramCmd_fuses (hread : (u.readLong 0x38 0 m.addr 64).1 = 0) :
    u.ownerProgramCmd m = (stOK, 0, (u.readLong 0x38 0 m.addr 64).2.2.ownerFused (m.word 1) (u.readLong 0x38 0 m.addr 64).2.1) :=
  (if_neg (Nat.not_le.mpr hslot)).trans ((if_neg (by omega)).trans (if_neg (not_not.mpr hread)))

end

theorem State.ownerRevokeCmd_revokes (hcheck : m.word 2 = (m.word 1).xor 0xA5) : u.ownerRevokeCmd m =
    (stOK, 0, ({ u with sec := { u.sec with revoked := withBit u.sec.revoked (m.word 1) } } : State).setBit SEC_OWNER_REVOKED (m.word 1)) :=
  if_neg (by simp [hcheck, hslot])

end

theorem State.ownerRevokeCmd_badArg (h : 4 ≤ m.word 1 ∨ m.word 2 ≠ (m.word 1).xor 0xA5) : u.ownerRevokeCmd m = (stBADARG, 0, u) := if_pos h

end

/-! ### Each command on a device that is out of reset -/

section
variable {s : State} (hs : s.held = false)
include hs

theorem exec_restart (hidle : s.rd WRP_STATUS_BUSY ≠ 1) : exec .restart s = .next (s.mailRun mbRESTART State.restartCmd).settle := by
  have hon : s.on WRP_STATUS_BUSY = false := by simpa [State.on] using hidle
  exact (State.finish_on _ hs).trans (by rw [hon, Bool.not_false, State.iff_true])

section
variable {m : Mail} {l : List Mail} (hmail : s.sec.mail = m :: l) {a b : Nat} {v : State}
include hmail

theorem exec_shutdown (hcmd : m.cmd = mbSHUTDOWN) (hx : (s.takeMail m).shutdownCmd m = (a, b, v)) :
    exec .shutdown s = .next (v.reply m a b).mailSettle.settle :=
  (State.finish_on _ hs).trans (by rw [State.mailRun_answers hmail hcmd hx])

theorem exec_restart_answers (hidle : s.rd WRP_STATUS_BUSY ≠ 1) (hcmd : m.cmd = mbRESTART) (hx : (s.takeMail m).restartCmd m = (a, b, v)) :
    exec .restart s = .next (v.reply m a b).mailSettle.settle := by
  rw [exec_restart hs hidle, State.mailRun_answers hmail hcmd hx]

theorem exec_advance (hcmd : m.cmd = mbADVANCE) (hx : (s.takeMail m).advanceCmd m = (a, b, v)) :
    exec .advance s = .next (v.reply m a b).mailSettle.settle :=
  (State.finish_on _ hs).trans (by rw [State.mailRun_answers hmail hcmd hx])

theorem exec_ownerRevoke (hcmd : m.cmd = mbOWNERREVOKE) (hx : (s.takeMail m).ownerRevokeCmd m = (a, b, v)) :
    exec .ownerRevoke s = .next (v.reply m a b).mailSettle.settle :=
  (State.finish_on _ hs).trans (by rw [State.mailRun_answers hmail hcmd hx])

theorem exec_tallyFlush (hcmd : m.cmd = mbTALLYFLUSH) :
    exec .tallyFlush s = .next ((s.takeMail m).tallyFlush.reply m stOK 0).mailSettle.settle :=
  (State.finish_on _ hs).trans (by rw [State.mailRun_answers hmail hcmd rfl])

theorem endsOnce_attest (hcmd : m.cmd = mbATTEST) (hx : (s.takeMail m).attestCmd m = (a, b, v)) :
    EndsOnce .attest s (v.reply m a b).mailSettle id :=
  EndsOnce.of_finishOnce hs (by rw [← State.mailRun_answers hmail hcmd hx]; rfl)

theorem endsOnce_devcert (hcmd : m.cmd = mbDEVCERT) (hx : (s.takeMail m).devcertCmd m = (a, b, v)) :
    EndsOnce .devcert s (v.reply m a b).mailSettle id :=
  EndsOnce.of_finishOnce hs (by rw [← State.mailRun_answers hmail hcmd hx]; rfl)

theorem endsOnce_ownerProgram (hcmd : m.cmd = mbOWNERPROGRAM) (hx : (s.takeMail m).ownerProgramCmd m = (a, b, v)) :
    EndsOnce .ownerProgram s (v.reply m a b).mailSettle id :=
  EndsOnce.of_finishOnce hs (by rw [← State.mailRun_answers hmail hcmd hx]; rfl)

end

/-- With no message in front nothing happens. -/
theorem exec_mailCommand_none (hmail : s.sec.mail = []) {c : Instr}
    (hc : c ∈ [Instr.shutdown, .restart, .attest, .devcert, .advance, .ownerProgram, .ownerRevoke, .tallyFlush]) : exec c s = .next s.settle := by
  have hfinish (cmd : Nat) (f : Mail → State → Nat × Nat × State) : s.finish (s.mailRun cmd f) = .next s.settle := by
    rw [State.mailRun_none hmail, State.finish_on _ hs]
  have honce (cmd : Nat) (f : Mail → State → Nat × Nat × State) : s.finishOnce (s.mailRun cmd f) id = .next s.settle := by
    rw [State.mailRun_none hmail, State.finishOnce_on _ hs le_rfl, id]
  simp only [List.mem_cons, List.not_mem_nil, or_false] at hc
  obtain rfl | rfl | rfl | rfl | rfl | rfl | rfl | rfl := hc
  · exact hfinish _ _
  · have hstay := State.iff_keeps id (!s.on WRP_STATUS_BUSY) (·.mailRun mbRESTART State.restartCmd) s (State.mailRun_none hmail)
    exact (State.finish_on _ hs).trans (congrArg (fun u => Host.Outcome.next (State.settle u)) hstay)
  · exact honce _ _
  · exact honce _ _
  · exact hfinish _ _
  · exact honce _ _
  · exact hfinish _ _
  · exact hfinish _ _

end

/-! ### Answering queues no transfer -/

section
variable (s : State) (m : Mail)

@[simp] theorem State.takeMail_fab : (s.takeMail m).fab = s.fab := State.iff_keeps (·.fab) _ _ _ rfl

@[simp] theorem State.takeMail_devTime : (s.takeMail m).devTime = s.devTime := State.iff_keeps (·.devTime) _ _ _ rfl

@[simp] theorem State.placeReply_fab (t : Nat) (l : List Nat) : (s.placeReply t l).fab = s.fab :=
  State.each_keeps (·.fab) (List.range 16) (fun i u => u.wr (SEC_MB_IN t i) ((l[i]?).getD 0)) (fun _ _ _ => rfl) s

@[simp] theorem State.reply_fab (status result : Nat) : (s.reply m status result).fab = s.fab := by
  unfold State.reply
  dsimp only
  split
  · rfl
  · split
    · rfl
    · exact State.placeReply_fab ..

@[simp] theorem State.mailStep_fab : s.mailStep.fab = s.fab := by
  unfold State.mailStep
  split
  · rfl
  · split
    · rw [State.reply_fab, State.takeMail_fab]
    · rfl

@[simp] theorem State.mailSettle_fab : s.mailSettle.fab = s.fab :=
  State.each_keeps (·.fab) (List.range 17) (fun _ t => t.mailStep) (fun _ t _ => t.mailStep_fab) s

/-- The time of the report lies within 8 ns of device time (R24). -/
theorem State.stamp_near : ∃ d ≤ 16, s.stamp.1 = s.devTime + d - 8 :=
  ⟨Config.freeValue s.fresh % 17, Nat.lt_succ_iff.mp (Nat.mod_lt _ (by decide)), rfl⟩

/-- What ATTEST gives, with the time that the report shows. -/
theorem State.attestCmd_near : ∃ d ≤ 16,
    s.attestCmd m = let x := s.stamp.2.writeLong m.addr (s.report ((List.range 8).flatMap (fun j => natLe 4 (m.word (j + 1)))) (s.devTime + d - 8))
      (if x.1 = 0 then stOK else stFAILED, 0, x.2) := by
  obtain ⟨d, hd, hstamp⟩ := s.stamp_near
  exact ⟨d, hd, by rw [← hstamp]; rfl⟩

end

/-! ### The obligation -/

section
variable {s : State} (hs : s.held = false) {m : Mail} {l : List Mail} (hmail : s.sec.mail = m :: l)
include hs hmail

/-- OWNER_PROGRAM that reads nothing is answered at once. -/
theorem exec_ownerProgram_refused (hcmd : m.cmd = mbOWNERPROGRAM) {c : Nat}
    (hx : (s.takeMail m).ownerProgramCmd m = (c, 0, s.takeMail m)) :
    exec .ownerProgram s = .next ((s.takeMail m).reply m c 0).mailSettle.settle :=
  (endsOnce_ownerProgram hs hmail hcmd hx).comes (by simp)

theorem attest_answers (hcmd : m.cmd = mbATTEST) : ∃ d ≤ 16,
    let x := (s.takeMail m).stamp.2.writeLong m.addr
      ((s.takeMail m).report ((List.range 8).flatMap (fun j => natLe 4 (m.word (j + 1)))) (s.devTime + d - 8))
    EndsOnce .attest s ((x.2.reply m (if x.1 = 0 then stOK else stFAILED) 0).mailSettle) id := by
  obtain ⟨d, hd, hx⟩ := (s.takeMail m).attestCmd_near m
  rw [State.takeMail_devTime] at hx
  exact ⟨d, hd, endsOnce_attest hs hmail hcmd hx⟩

end

/-- Settles O59: sending and releasing by the fields of the mailbox, each command by what its execution gives. That an event leaves the state
as it was while a transfer meets RETRY, and that RESTART records the start which START_EVENT performs, without a new shutdown once one has
been accepted, are the model's choices (DEDUCED, log entries 11 and 28). -/
theorem mailboxCommandsAreAnswered : Obligations.MailboxCommandsAreAnswered := by
  intro s hs
  refine ⟨mailboxSend_lost hs, fun t w hfree hmail => ⟨mailboxSend_waits hs t w hfree hmail, mailboxSend_refused hs t w hfree hmail⟩,
    fun t hvalid => ⟨mailboxRelease_last hs t hvalid, fun l r => mailboxRelease_next hs t hvalid⟩, fun m l hmail => ?_,
    fun hmail c => exec_mailCommand_none hs hmail⟩
  refine ⟨fun hcmd => ⟨fun h => ?_, fun hauto hbusy => ?_⟩, fun hcmd hidle => ⟨fun h => ?_, fun h => ?_, fun h => ?_, fun h => ?_⟩,
    attest_answers hs hmail, fun hcmd => ?_, fun hcmd => ⟨fun hlow => ?_, fun hlow => ?_⟩,
    fun hcmd => ⟨fun hslot => ?_, fun hslot hused => ?_, fun hslot hfree herr => ?_, fun hslot hfree hread => ?_⟩,
    fun hcmd => ⟨fun h => ?_, fun hslot hcheck => ?_⟩, exec_tallyFlush hs hmail⟩
  case refine_1 => exact exec_shutdown hs hmail hcmd (State.shutdownCmd_busy m _ h)
  case refine_2 => exact exec_shutdown hs hmail hcmd (State.shutdownCmd_runs m _ hauto hbusy)
  case refine_3 => exact exec_restart_answers hs hmail hidle hcmd (State.restartCmd_auto m _ h)
  case refine_4 => exact exec_restart_answers hs hmail hidle hcmd (State.restartCmd_cold m _ h)
  case refine_5 => exact exec_restart_answers hs hmail hidle hcmd (State.restartCmd_recovery m _ h)
  case refine_6 => exact exec_restart_answers hs hmail hidle hcmd (State.restartCmd_badArg m _ h)
  case refine_7 => exact endsOnce_devcert hs hmail hcmd rfl
  case refine_8 => exact exec_advance hs hmail hcmd (State.advanceCmd_denied m _ hlow)
  case refine_9 => exact exec_advance hs hmail hcmd (State.advanceCmd_raises m _ hlow)
  case refine_10 => exact exec_ownerProgram_refused hs hmail hcmd (State.ownerProgramCmd_badArg m _ hslot)
  case refine_11 => exact exec_ownerProgram_refused hs hmail hcmd (State.ownerProgramCmd_denied m _ hslot hused)
  case refine_12 => exact endsOnce_ownerProgram hs hmail hcmd (State.ownerProgramCmd_failed m _ hslot hfree herr)
  case refine_13 => exact endsOnce_ownerProgram hs hmail hcmd (State.ownerProgramCmd_fuses m _ hslot hfree hread)
  case refine_14 => exact exec_ownerRevoke hs hmail hcmd (State.ownerRevokeCmd_badArg m _ h)
  case refine_15 => exact exec_ownerRevoke hs hmail hcmd (State.ownerRevokeCmd_revokes m _ hslot hcheck)

end Sys2Proof.Machine
